-- ==== Sys2Proof/Word.lean ====
section
/-! DEFINITION. Word.lean: the byte and the plainest arithmetic the rest of the model uses. -/

namespace Sys2Proof

/-- A byte of a host structure, of a packet or of on-package memory. -/
abbrev Byte := BitVec 8

/-- `a + b`, held at the largest value of `w` bits ("saturating"). -/
def satAdd (w a b : Nat) : Nat := min (a + b) (2 ^ w - 1)

/-- `a + b`, wrapping in `w` bits. -/
def wrapAdd (w a b : Nat) : Nat := (a + b) % 2 ^ w

/-- `a - b`, wrapping in `w` bits. -/
def wrapSub (w a b : Nat) : Nat := (a % 2 ^ w + 2 ^ w - b % 2 ^ w) % 2 ^ w

/-- Bit `i` of `v`. -/
def bitOf (v i : Nat) : Bool := v.testBit i

/-- The bits `[lo + w - 1 : lo]` of `v`. -/
def bitsOf (v lo w : Nat) : Nat := v / 2 ^ lo % 2 ^ w

/-- `v` with bit `i` set. -/
def setBit (v i : Nat) : Nat := v ||| 2 ^ i

/-- `v` with bit `i` clear. -/
def clearBit (v i : Nat) : Nat := if v.testBit i then v - 2 ^ i else v

/-- `1` for `true`, `0` for `false`. -/
def b2n (b : Bool) : Nat := if b then 1 else 0

/-- The value of `w` bits read as two's complement. -/
def toSigned (w v : Nat) : Int :=
  if v % 2 ^ w < 2 ^ (w - 1) then (v % 2 ^ w : Nat) else ((v % 2 ^ w : Nat) : Int) - 2 ^ w

/-- The two's-complement bits of an integer in `w` bits. -/
def ofSigned (w : Nat) (v : Int) : Nat := (v % (2 ^ w : Nat)).toNat

/-- A zero that "acts as" another value (many RW fields say "0 acts as 1"). -/
def orWhenZero (v d : Nat) : Nat := if v = 0 then d else v

/-- `n` rounded up to a multiple of `m`, counted in `m`s. -/
def ceilDiv (n m : Nat) : Nat := (n + m - 1) / m

/-- The number of set bits among the lowest `n`. -/
def popCount (v : Nat) : Nat → Nat
  | 0 => 0
  | n + 1 => popCount v n + b2n (v.testBit n)

/-- The bytes of `v`, `n` of them, least significant first (R6: host structures are little-endian). -/
def leBytes : Nat → Nat → List Byte
  | 0, _ => []
  | n + 1, v => BitVec.ofNat 8 v :: leBytes n (v / 256)

/-- The number whose little-endian bytes these are. -/
def leNat : List Byte → Nat
  | [] => 0
  | b :: r => b.toNat + 256 * leNat r

end Sys2Proof
end

