-- ==== Sys2Proof/Syntax.lean ====
section
/-! DEFINITION. Syntax.lean: the packets, descriptors and requests that commands carry, and the commands themselves, one
constructor for each row of spec/opcode_table.json. -/

namespace Sys2Proof

/-! ## Packets (11 R355 to R360, 07 R230 to R235, 09 R321, 11 R378) -/

/-- A milestone of a source route (R356). -/
structure Milestone where
  port : Nat
  vc : Nat
  cls : Nat
deriving DecidableEq, Repr

/-- The route header of a packet (R355); `ms` are the milestones in order. -/
structure Route where
  rver : Nat := 1
  hopPtr : Nat := 0
  hops : Nat := 0
  nofault : Bool := false
  trail : Bool := false
  rsvZero : Bool := true
  cong : Nat := 0
  cand : Nat := 0
  bgen : Nat := 0
  srcDid : Nat := 0
  dstDid : Nat := 0
  ms : List Milestone := []
deriving DecidableEq, Repr

/-- The 80-byte header of a REQUEST or RESPONSE (R232). -/
structure DataHdr where
  ver : Nat := 1
  /-- `true` for a RESPONSE -/
  resp : Bool := false
  tc : Nat := 0
  noun : Nat := 0
  verb : Nat := 0
  retx : Bool := false
  last : Bool := false
  ordered : Bool := false
  signal : Bool := false
  cont : Bool := false
  lqp : Bool := false
  srcEpa : Nat := 0
  dstEpa : Nat := 0
  tref : Nat := 0
  keyEpoch : Nat := 0
  payloadLen : Nat := 0
  seq : Nat := 0
  base : Nat := 0
  srcEpoch : Nat := 0
  segIndex : Nat := 0
  msgLen : Nat := 0
  key : Nat := 0
  opTag : Nat := 0
  remote : Nat := 0
  aux : Nat := 0
  dstLqp : Nat := 0
  time : Nat := 0
  pktCtr : Nat := 0
  rsvZero : Bool := true
deriving DecidableEq, Repr

/-- The 72-byte header of an acknowledgement (R233). -/
structure AckHdr where
  ver : Nat := 1
  tc : Nat := 0
  hasStatus : Bool := false
  dup : Bool := false
  status : Nat := 0
  srcEpa : Nat := 0
  dstEpa : Nat := 0
  tref : Nat := 0
  keyEpoch : Nat := 0
  detail : Nat := 0
  cum : Nat := 0
  statusSeq : Nat := 0
  echoEpoch : Nat := 0
  bitmap : Nat := 0
  echoCong : Nat := 0
  echoMarked : Nat := 0
  tsEcho : Nat := 0
  time : Nat := 0
  pktCtr : Nat := 0
  rsvZero : Bool := true
  /-- the compatibility queue pair whose packets it acknowledges, 0 for a pathway (R238) -/
  lqp : Nat := 0
deriving DecidableEq, Repr

/-- The 64-byte header of a notice (R234). -/
structure NoticeHdr where
  ver : Nat := 1
  tc : Nat := 0
  ntype : Nat := 0
  srcEpa : Nat := 0
  dstEpa : Nat := 0
  tref : Nat := 0
  keyEpoch : Nat := 0
  reason : Nat := 0
  refSeq : Nat := 0
  opTag : Nat := 0
  echoEpoch : Nat := 0
  offset : Nat := 0
  tsEcho : Nat := 0
  time : Nat := 0
  pktCtr : Nat := 0
  rsvZero : Bool := true
  lqp : Nat := 0
deriving DecidableEq, Repr

/-- The 32-byte header of a PATH_FAULT (R378). -/
structure FaultHdr where
  ver : Nat := 1
  reason : Nat := 0
  dHops : Nat := 0
  hop : Nat := 0
  dCand : Nat := 0
  dBgen : Nat := 0
  reporter : Nat := 0
  deadPort : Nat := 0
  dDstDid : Nat := 0
  dVc : Nat := 0
  /-- are its reserved fields zero? -/
  rsvZero : Bool := true
  heldUs : Nat := 0
  time : Nat := 0
deriving DecidableEq, Repr


/-- The 56-byte header of a convoy packet (R321). -/
structure ConvoyHdr where
  ver : Nat := 1
  ckind : Nat := 0
  alt : Bool := false
  missed : Bool := false
  slot : Nat := 0
  round : Nat := 0
  wbase : Nat := 0
  operation : Nat := 0
  dtype : Nat := 0
  operator : Nat := 0
  mode : Nat := 0
  hasAcc : Bool := false
  tref : Nat := 0
  keyEpoch : Nat := 0
  payloadLen : Nat := 0
  inLen : Nat := 0
  index : Nat := 0
  srcDid : Nat := 0
  count : Nat := 0
  missingDid : Nat := 0
  missingPort : Nat := 0
  missingValid : Bool := false
  detail : Nat := 0
  time : Nat := 0
  pktCtr : Nat := 0
  rsvZero : Bool := true
deriving DecidableEq, Repr

/-- What follows the route header (R231). -/
inductive Body where
  | data (h : DataHdr) (payload : List Byte)
  | ack (h : AckHdr)
  | notice (h : NoticeHdr)
  | convoy (h : ConvoyHdr) (payload : List Byte)
  | pathFault (h : FaultHdr)
  | other (ptype : Nat)
deriving DecidableEq, Repr

/-- A packet: route header, transport part and the 16-byte tag (R230). -/
structure Pkt where
  route : Route
  body : Body
  tag : Nat
deriving DecidableEq, Repr

/-! ## Work (05 R128, R142) -/

/-- A 64-byte admin command (05, *Admin command*). -/
structure AdminCmd where
  opcode : Nat
  userCtx : Nat := 0
  p0 : Nat := 0
  p1 : Nat := 0
  p2 : Nat := 0
  p3 : Nat := 0
  p4 : Nat := 0
  p5 : Nat := 0
  rsvZero : Bool := true
deriving DecidableEq, Repr

/-- A descriptor (R142), or a posted receive of a receive-posting queue (R252), as its bytes spell it. -/
structure Descr where
  verb : Nat := 0
  noun : Nat := 0
  tc : Nat := 0
  long : Bool := false
  adverbs : Nat := 0
  postIdx : Nat := 0
  trigCtr : Nat := 0
  userCtx : Nat := 0
  targetEpa : Nat := 0
  key : Nat := 0
  remote : Nat := 0
  localAddr : Nat := 0
  length : Nat := 0
  trigThreshold : Nat := 0
  operand0 : Nat := 0
  operand1 : Nat := 0
  inline : List Byte := []
  rsvZero : Bool := true
deriving DecidableEq, Repr

/-! ## Requests to the management core (18 R545 to R558) -/

/-- The path a management request came by (R545, R546): a function's DOE mailbox, I3C or in-band, the last two with the
requester authenticated by the enrolled fabric-manager key or not. -/
inductive ReqPath where
  | doe (fn : Nat)
  | i3c (session fmKey : Bool)
  | inband (fmKey : Bool)
deriving DecidableEq, Repr

/-- A read of host memory ends with data, or fails on the host bus (R72). -/
inductive BusResult where
  | ok (bytes : List Byte)
  | failed
deriving DecidableEq, Repr

/-- A configuration access of a host: a double word of its function's configuration space (R63). -/
inductive CfgOp where
  | read (off : Nat)
  | write (off value : Nat)
deriving DecidableEq, Repr

/-- Errors of the link of a host port that no packet carries (R77). -/
inductive LinkError where
  /-- correctable -/
  | receiver
  | badDllp
  | replayRollover
  | replayTimeout
  /-- uncorrectable -/
  | dlProtocol
  | flowControl
  | overflow
  | misroutedIde
  | pcrc
deriving DecidableEq, Repr

/-- How the host answers a read request, or a piece of it (R72): data, an Unsupported Request or Completer Abort, or poisoned
data. -/
inductive CplStatus where
  | ok
  /-- Unsupported Request -/
  | error
  /-- Completer Abort -/
  | abort
  | poisoned
  /-- a malformed packet (R93 index 6) -/
  | malformed
  /-- a packet that fails its IDE check or PCRC, or is misrouted (R93 index 7) -/
  | ideCheck
  /-- a packet that the link has sent again (R93 index 11) -/
  | badTlp
  /-- no completion: an error of the link of a port (R77) -/
  | link (fn : Nat) (e : LinkError)
deriving DecidableEq, Repr

/-- A DOE data object (R85), beyond the management and recovery requests, which have rows of their own. -/
inductive DoeObject where
  | discovery
  | spdm
  | secured
  | ideKeys (stream : Nat) (keySet : Nat)
  | mailbox (mver opcode tag len : Nat)
  | recovery (opcode tag : Nat)
  | unknown (vendor type : Nat)
deriving DecidableEq, Repr

/-- What reading a word of on-package memory meets (R510). -/
inductive EccResult where
  | clean
  | corrected
  | uncorrectable
deriving DecidableEq, Repr

/-- Who reaches on-package memory (01, *Memory plan regions*; R52, R511): a block, with its unit, pipe or function where it has several. -/
inductive MemUser where
  | mgt | pmu | rtb | pwy | atm
  | mtc (unit : Nat)
  | rxe (pipe : Nat)
  | col (unit : Nat)
  | hif (fn : Nat)
deriving DecidableEq, Repr

/-- A link control block (13 R439; 19 R578 for `TIME_INFO`). -/
inductive Ctl where
  | none
  | init (fec : Nat) (seen : Bool) (width port did tTx resid : Nat)
  | credit (a b : Nat) (adv : Bool) (hdrA dataA hdrB dataB : Nat)
  | audit (pool at_ freeHdr freeData retHdr retData : Nat)
  | vcbOnOff (xoff : Bool) (gap : Nat)
  | time (num echo : Nat) (echoValid : Bool) (resid tTx : Nat)
  | timeInfo (prio did steps state : Nat) (ppsRef : Bool) (seq estErr : Nat)
  | drain
deriving DecidableEq, Repr

/-- A run of bytes of the item stream (13 R423): the four bytes of an item header; `n` bytes of a packet from byte `off` of it on;
zeros. -/
inductive Piece where
  | item (header : List Byte)
  | part (p : Pkt) (off n : Nat)
  | zeros (n : Nat)
deriving DecidableEq, Repr

/-- A flit (13 R422): the fields of its header, the reserved bits of bytes 1, 2, 4 and 6, its control blocks of 16 bytes, its data area
and its `CRC`; `NCTL` is the number of control blocks. -/
structure Flit where
  fver : Nat := 1
  seqd : Bool := false
  ackValid : Bool := false
  nak : Bool := false
  poison : Bool := false
  rsv : Nat × Nat × Nat × Nat := (0, 0, 0, 0)
  seq : Nat := 0
  ackSeq : Nat := 0
  first : Nat := 0x1FF
  ctl : List (List Byte) := []
  data : List Piece := []
  crc : Nat := 0
deriving DecidableEq, Repr

/-- A flit as it reaches its receiver: symbol errors of its codeword on each lane of the port's set (13 R427), the flit, and which of the
port's `INIT`s the peer answers with the one that the flit carries, counted back from the latest sent (R442). -/
structure Arrival where
  errs : List Nat := []
  flit : Flit := {}
  answers : Nat := 0
deriving DecidableEq, Repr


/-! ## The commands -/

/-- The request sizes of a function's Device Control (R62): the maximum payload and the maximum read request, in bytes. -/
structure ReqSizes where
  mps : Nat
  mrrs : Nat
  deriving DecidableEq, Repr

/-- One host write to a direct-post slot (R64, R135): the byte offset inside the 256-byte slot and the bytes written. -/
structure DirectWrite where
  off : Nat
  bytes : List Byte
  deriving DecidableEq, Repr

/-- The commands of the block, one for each row of spec/opcode_table.json: those with operands first, each group in the
table's order. A master is one of the identities of R52, a
function one of 0 to 3, a page one of the 1,024 pages of BAR0, a port slot one of 0 to 127; a pathway is named by its
local endpoint, remote endpoint and traffic class (R199) and, for a compatibility queue pair, its number plus one. -/
inductive Instr where
  /-- REG_WRITE (R53). A write to a BAR0 register that has no row of its own is accepted or refused by master and access code and then takes effect. -/
  | regWrite (master off size value : Nat)
  /-- BLK_RST (R38). A write of 1 to BLK_CTL.RST starts reset B of a disabled or fenced block that supports it, or is refused. -/
  | blkRst (master page : Nat)
  /-- BLOCK_RESET_COMPLETE (R574). Reset B ends: fields cleared by B return to reset, caches and in-flight state are discarded, and RESET_BUSY clears. -/
  | blockResetComplete (page : Nat)
  /-- BLK_FENCE_WRITE (R40). A write to BLK_CTL.FENCE fences the block, or lifts the fence unless a set ERR_STAT bit with a block-fencing reaction holds it. -/
  | blkFenceWrite (master page : Nat) (fence : Bool)
  /-- SHADOW_CMT (R47). A write of CMT starts a commit that checks and applies every shadow copy of the page together, or defers it while BUSY. -/
  | shadowCmt (master page : Nat)
  /-- SHADOW_COMMIT_DONE (R48). A commit ends accepted or refused, setting REFUSED and REFUSE_CODE and incrementing COUNT. -/
  | shadowCommitDone (page : Nat)
  /-- SHADOW_DISCARD (R49). A write of DISCARD reloads every shadow copy from the value in effect, or is deferred while BUSY. -/
  | shadowDiscard (master page : Nat)
  /-- ERR_FIRST_REARM (R46). A write of 1 to ERR_FIRST_INFO.VALID clears VALID and MORE and re-arms the capture. -/
  | errFirstRearm (master page : Nat)
  /-- ERR_STAT_CLEAR (R519). A write of 1 to ERR_STAT bits clears events and refuses to clear conditions whose cause persists. -/
  | errStatClear (master page mask : Nat)
  /-- ERR_WINDOW_EXPIRE (R498). An open counting window reaches its length and closes with its count reset. -/
  | errWindowExpire (page unit : Nat)
  /-- FM_ROLE_RELEASE (R57). A write of DEV_FM_CTL.RELEASE by the holder ends the fabric-manager role and increments GEN. -/
  | fmRoleRelease (master : Nat)
  /-- HIF_LINK_UP (R87). The data link of a host port comes up and a POWERING slot becomes ATTACHED. -/
  | hifLinkUp (fn rate width : Nat) (flit : Bool)
  /-- HIF_LINK_DOWN (R88). The data link of a host port goes down, moving the slot and starting reset H of the function. -/
  | hifLinkDown (fn : Nat)
  /-- PRESENCE_COUNTED (R86). A change of HPn_PRSNT_N to present is counted after the debounce time and the slot moves under the slot transitions. -/
  | presenceCounted (fn : Nat)
  /-- ABSENCE_COUNTED (R86). A change to absent is counted after 100 µs and the slot detaches or empties. -/
  | absenceCounted (fn : Nat)
  /-- ATTN_BUTTON (R87). A filtered attention-button press starts or cancels an orderly removal. -/
  | attnButton (fn : Nat)
  /-- POWER_FAULT (R87). HPn_PWR_FLT_N goes low while powered, detaching the function and leading to FAULT. -/
  | powerFault (fn : Nat)
  /-- POWER_FAULT_CLEARED (R87). HPn_PWR_FLT_N stays high for the debounce time with presence counted, moving FAULT to PRESENT_OFF. -/
  | powerFaultCleared (fn : Nat)
  /-- POWER_ON (R87). A write of HIF_SLOT_CTL.POWER_ON powers a sled in PRESENT_OFF. -/
  | powerOn (master fn : Nat)
  /-- REMOVE_REQ (R87). A write of HIF_SLOT_CTL.REMOVE_REQ starts an orderly removal from ATTACHED. -/
  | removeReq (master fn : Nat)
  /-- FORCE_OFF (R87). A write of HIF_SLOT_CTL.FORCE_OFF detaches a QUIESCING function without waiting. -/
  | forceOff (master fn : Nat)
  /-- CANCEL (R87). A write of HIF_SLOT_CTL.CANCEL returns a QUIESCING slot to ATTACHED. -/
  | cancel (master fn : Nat)
  /-- QUIESCED (R91). A write of HIF_FN_CTL.QUIESCED moves a QUIESCING slot to DETACHING and starts reset H. -/
  | quiesced (master fn : Nat)
  /-- QUIESCE_TIMEOUT (R87). The quiesce timeout elapses in QUIESCING and the slot detaches. -/
  | quiesceTimeout (fn : Nat)
  /-- PERST_ASSERT (R89). HPn_PERST_N low holds the port in fundamental reset and triggers reset H of the function. -/
  | perstAssert (fn : Nat) (low : Bool)
  /-- FLR (R89). A Function Level Reset performs reset H of the function without changing slot state. -/
  | flr (fn : Nat)
  /-- RESET_H_COMPLETE (R89). Reset H of a function completes, its objects ended, and the endpoint hold starts. -/
  | resetHComplete (fn : Nat)
  /-- ENDPOINT_HOLD_END (R90). The endpoint hold of a function expires and EP_HOLD clears. -/
  | endpointHoldEnd (fn : Nat)
  /-- FN_DSTATE_CHANGE (R79). A function moves between D0 and D3hot, holding or releasing its host traffic. -/
  | fnDstateChange (fn : Nat) (d3 : Bool)
  /-- BME_CHANGE (R79). Bus Master Enable of a function changes, holding or releasing its host-bus traffic. -/
  | bmeChange (fn : Nat) (on : Bool) (sizes : ReqSizes) (cfg : List CfgOp)
  /-- IDE_REQUIRE (R84). A write of HIF_IDE_CTL.REQUIRE requires a Secure IDE stream and halts the function while it is not Secure. -/
  | ideRequire (master fn : Nat)
  /-- MSIX_UNMASK (R75). A masked vector with a pending bit is unmasked and its message is sent once. -/
  | msixUnmask (fn vector addr data : Nat) (enable fmask mask : Bool)
  /-- BAR4_ACCESS (R66). A BAR4 access maps into the commons window or completes refused with HIF error index 8. -/
  | bar4Access (fn off size : Nat) (write : Bool) (value : Nat)
  /-- BAR2_RESERVED_ACCESS (R65). An access to reserved BAR2 space reads 0 or is discarded and records HIF error index 9. -/
  | bar2ReservedAccess (fn off : Nat) (write : Bool)
  /-- HOST_READ_COMPLETION (R70). Read completions arrive from the host and are reassembled before use. -/
  | hostReadCompletion (id off : Nat) (status : CplStatus) (bytes : List Byte)
  /-- HOST_COMPLETION_TIMEOUT (R71). A device read gets no completion within the completion timeout and fails as the host-bus failures table gives. -/
  | hostCompletionTimeout (id : Nat)
  /-- DOE_REQUEST (R85). A DOE data object is received and served by the management core, or refused with the DOE Error bit. -/
  | doeRequest (fn len : Nat) (obj : DoeObject)
  /-- WALK_STEP (R100). A page-table entry read completes and the walk descends, maps the page or faults. -/
  | walkStep (walk : Nat)
  /-- XLT_RESUME (R115). XLT_FN_RESUME with Resume returns a suspended queue to the scheduler from its saved progress. -/
  | xltResume (master fn wq : Nat)
  /-- XLT_ABORT (R115). XLT_FN_RESUME with Abort completes the faulting operation and continues or errors the queue. -/
  | xltAbort (master fn wq : Nat)
  /-- ARBITRATE (R396). A common arbiter chooses a holder at a break point or when free with a request waiting. -/
  | arbitrate (page inst : Nat) (requests : Nat)
  /-- ARB_WATCHDOG (R399). The watchdog count reaches its limit, the holder's unit is discarded, the holder fenced and error 31 recorded. -/
  | arbWatchdog (page inst : Nat)
  /-- ARB_FENCED_CLEAR (R400). A write of 1 to an ARB_FENCED bit lifts a requester's arbiter fence. -/
  | arbFencedClear (master page mask : Nat)
  /-- ADMIN_DOORBELL (R127). A write of CMD_AQ_TAIL posts admin commands, which are fetched and executed one at a time. -/
  | adminDoorbell (master fn tail : Nat)
  /-- ACQ_ENABLE (R128). Setting CMD_ACQ_CTL.EN lets a waiting admin command complete and further commands begin. -/
  | acqEnable (master fn : Nat)
  /-- CREATE_WQ (R129). Admin command 0x01 creates a work queue in ACTIVE. -/
  | createWq (fn : Nat) (c : AdminCmd)
  /-- DESTROY_WQ (R160). Admin command 0x02 starts draining a work queue before freeing its number. -/
  | destroyWq (fn : Nat) (c : AdminCmd)
  /-- RESET_WQ (R160). Admin command 0x03 drains a work queue and returns it to ACTIVE with indices 0. -/
  | resetWq (fn : Nat) (c : AdminCmd)
  /-- WQ_DRAIN_COMPLETE (R160). A drain finishes its last record and the admin completion is written. -/
  | wqDrainComplete (fn wq : Nat)
  /-- WQ_INVAL (R138). Admin command 0x04 stops admission, drops cached copies and returns the consumer index, holding or resuming. -/
  | wqInval (fn : Nat) (c : AdminCmd)
  /-- CREATE_CQ (R129). Admin command 0x05 creates a completion queue. -/
  | createCq (fn : Nat) (c : AdminCmd)
  /-- DESTROY_CQ (R129). Admin command 0x06 destroys an unbound completion queue. -/
  | destroyCq (fn : Nat) (c : AdminCmd)
  /-- MODIFY_CQ (R129). Admin command 0x07 changes a completion queue's interrupt moderation. -/
  | modifyCq (fn : Nat) (c : AdminCmd)
  /-- CREATE_EQ (R155). Admin command 0x08 creates an event queue, possibly the asynchronous EQ. -/
  | createEq (fn : Nat) (c : AdminCmd)
  /-- DESTROY_EQ (R155). Admin command 0x09 destroys an unreferenced event queue and moves the asynchronous EQ. -/
  | destroyEq (fn : Nat) (c : AdminCmd)
  /-- CREATE_AS (R94). Admin command 0x0A creates an address space with its root table. -/
  | createAs (fn : Nat) (c : AdminCmd)
  /-- DESTROY_AS (R109). Admin command 0x0B destroys an unbound address space and invalidates its entries. -/
  | destroyAs (fn : Nat) (c : AdminCmd)
  /-- CREATE_REGION (R164). Admin command 0x0C checks parameters and creates a region, returning its key. -/
  | createRegion (fn : Nat) (c : AdminCmd)
  /-- DESTROY_REGION (R130). Admin command 0x0D destroys a region once its placing writes are issued. -/
  | destroyRegion (fn : Nat) (c : AdminCmd)
  /-- XLT_INVAL (R107). Admin command 0x0E invalidates translations of a function, address space or range. -/
  | xltInval (fn : Nat) (c : AdminCmd)
  /-- XLT_INVAL_COMPLETE (R108). Every covered access completes and the invalidation's completion record is written. -/
  | xltInvalComplete (fn : Nat)
  /-- CREATE_LIST (R247). Admin command 0x0F creates a match list in READY. -/
  | createList (fn : Nat) (c : AdminCmd)
  /-- DESTROY_LIST (R249). Admin command 0x10 discards a list's unexpected state and sends cancel pulls. -/
  | destroyList (fn : Nat) (c : AdminCmd)
  /-- JOIN_TENANCY (R479). Admin command 0x11 checks a signed join ticket and makes the function a member. -/
  | joinTenancy (fn : Nat) (c : AdminCmd)
  /-- LEAVE_TENANCY (R480). Admin command 0x12 clears the function's membership and abandons its locks under that tenancy. -/
  | leaveTenancy (fn : Nat) (c : AdminCmd)
  /-- CREATE_LQP (R236). Admin command 0x13 creates a compatibility queue pair bound to two work queues. -/
  | createLqp (fn : Nat) (c : AdminCmd)
  /-- DESTROY_LQP (R241). Admin command 0x14 errors the LQP, waits for its packets to settle and unbinds its queues. -/
  | destroyLqp (fn : Nat) (c : AdminCmd)
  /-- QUERY (R129). Admin command 0x15 returns the state of a queue or address space. -/
  | query (fn : Nat) (c : AdminCmd)
  /-- WQ_DB (R134). A write of WQ_DB moves the producer index or is discarded as DOORBELL_RANGE. -/
  | wqDb (fn wq value : Nat)
  /-- WQ_DIRECT (R135). A completed direct post acts as a doorbell and may supply the descriptor without a ring fetch. -/
  | wqDirect (fn wq : Nat) (w : DirectWrite)
  /-- CQ_DB (R149). A write of CQ_DB frees consumed entries and may arm the interrupt. -/
  | cqDb (fn cq consumer : Nat) (arm : Bool)
  /-- EQ_DB (R150). A write of EQ_DB frees consumed entries and may arm the interrupt. -/
  | eqDb (fn eq consumer : Nat) (arm : Bool)
  /-- DESC_FETCH_COMPLETE (R132). A descriptor fetch returns and its POST_IDX is checked. -/
  | descFetchComplete (fn wq : Nat)
  /-- ADMIT_DESCRIPTOR (R140). A work queue admits its next covered descriptor once every admission condition holds. -/
  | admitDescriptor (fn wq : Nat)
  /-- CMD_RESUME_RESUME (R152). CMD_RESUME with Resume writes the held records of a suspended CQ or EQ. -/
  | cmdResumeResume (master fn kind num : Nat)
  /-- CMD_RESUME_ABORT (R152). CMD_RESUME with Abort puts a suspended CQ or EQ into ERROR. -/
  | cmdResumeAbort (master fn kind num : Nat)
  /-- MOD_TIMER_EXPIRE (R161). MOD_TIME passes since the first unsignalled record of an armed queue and its MSI-X message is sent. -/
  | modTimerExpire (fn kind num : Nat)
  /-- TRIG_COUNTER_SET (R158). A write of CMD_TRIGk sets a trigger counter and fires operations that reach their threshold. -/
  | trigCounterSet (master fn counter value : Nat)
  /-- TRIG_ADD (R158). A write of CMD_TRIG_ADD adds atomically to a counter and fires operations that reach their threshold. -/
  | trigAdd (master fn counter addend : Nat)
  /-- SCHEDULE_SEGMENT (R404). The pipe scheduler chooses the eligible entity with the smallest start tag and sends one segment. -/
  | scheduleSegment (pipe : Nat)
  /-- PAYLOAD_READ_COMPLETE (R114). The payload read of a segment completes and the segment proceeds, or on fault the queue is suspended. -/
  | payloadReadComplete (read : Nat)
  /-- PACKET_VERIFY (R486). An ejected packet is checked for lock, tenancy, epoch, freshness and tag, then decrypted or silently discarded. -/
  | packetVerify (junction : Nat)
  /-- FLUSH_READ_COMPLETE (R185). The flush read completes or fails and covered flush requests are acknowledged or refused. -/
  | flushReadComplete (fn : Nat)
  /-- CONTINUATION_TIMER (R180). After a target-fault notice on a GET or pull, the timer expires and a continuation is sent from the offset reached. -/
  | continuationTimer (op : Nat)
  /-- ACK_DELAY_TIMER (R210). ACK_DELAY_NS passes after the first unacknowledged acceptance and an acknowledgement is sent. -/
  | ackDelayTimer (loc rem tc lqp : Nat)
  /-- RETRANSMIT_TIMER (R214). A packet's timer expires and a copy is sent on a freshly chosen route. -/
  | retransmitTimer (loc rem tc lqp seq : Nat)
  /-- GIVEUP_DEADLINE (R216). A packet reaches the give-up deadline unsettled, its operation is abandoned and completed with a status. -/
  | giveupDeadline (loc rem tc lqp seq : Nat) (op : Option Nat)
  /-- SEQ_PERIOD_ROLL (R204). A send state's counting period ends and new sequence numbers may be assigned again. -/
  | seqPeriodRoll (loc rem tc lqp : Nat)
  /-- IDLE_SPILL (R201). A cached pathway idle for IDLE_SPILL_US spills to the store. -/
  | idleSpill (loc rem tc : Nat)
  /-- RECALL_COMPLETE (R225). A stored pathway is fetched back and its parked packets are processed in order. -/
  | recallComplete (loc rem tc : Nat)
  /-- FORGET_RECEIVE_STATE (R220). A receive state idle for the forget time is forgotten. -/
  | forgetReceiveState (loc rem tc : Nat)
  /-- FORGET_SEND_STATE (R221). A settled idle send state is forgotten after forget time plus freshness plus 65 ms. -/
  | forgetSendState (loc rem tc : Nat)
  /-- PWY_CONTEXT_UNCORRECTED (R246). An uncorrectable pathway-entry error closes that pathway and ends its operations. -/
  | pwyContextUncorrected (loc rem tc : Nat)
  /-- CONTEXT_LOST_EXPIRE (R246). The closure period of a pathway after CONTEXT_UNCORRECTED ends and it starts again as new. -/
  | contextLostExpire (loc rem tc : Nat)
  /-- LQP_CONTEXT_FETCH_DONE (R242). An LQP context fetch from host memory completes, or faults and errors the LQP. -/
  | lqpContextFetchDone (lqp : Nat)
  /-- RECV (R258). An admitted posted receive searches unexpected headers and binds one or is posted. -/
  | recv (fn wq : Nat)
  /-- PROBE (R275). An admitted PROBE reports the earliest eligible unexpected header without consuming it. -/
  | probe (fn wq : Nat)
  /-- MATCH_COPY_RETRY (R284). A faulted copy is retried every 10 µs until it finishes or its deadline passes. -/
  | matchCopyRetry (copy : Nat)
  /-- RDV_WAIT_EXPIRE (R267). RDV_WAIT_MS passes without a pull and the SEND completes TIMEOUT. -/
  | rdvWaitExpire (op : Nat)
  /-- MSG_ABANDON (R285). A message record gets no packet for give-up plus freshness and is closed. -/
  | msgAbandon (loc rem tc lqp tag : Nat)
  /-- LIST_READY (R248). Free header entries reach RESUME_FREE and a NOT_READY list returns to READY. -/
  | listReady (fn list : Nat)
  /-- OVF_TAIL_WRITE (R277). A write of MTC_OVF_TAIL supplies overflow buffers, checked as R134. -/
  | ovfTailWrite (master fn tail : Nat)
  /-- CONVOY_BEGIN (R298). A CONVOY descriptor is checked when it begins and its contribution is read into staging. -/
  | convoyBegin (op : Nat)
  /-- CONTRIBUTION_READ_DONE (R299). A contribution read completes into staging, or fails and starts retries. -/
  | contributionReadDone (read : Nat)
  /-- CONTRIBUTION_RETRY (R300). A failed contribution read is retried every 10 µs and the round aborts after the deadline. -/
  | contributionRetry (op : Nat)
  /-- ROUND_TIMER (R315). A round timer expires at the root and the convoy restarts or breaks. -/
  | roundTimer (slot round : Nat)
  /-- ROUND_WAIT_TIMEOUT (R320). WAIT_TMO_MS passes for a round and it aborts or ends locally. -/
  | roundWaitTimeout (slot round : Nat)
  /-- WINDOW_SEND_TIMER (R305). 1 µs after the root's base advances without a carrying RESULT, a WINDOW packet is sent. -/
  | windowSendTimer (slot : Nat)
  /-- RESULT_WRITE_RETRY (R302). A parked result write is retried every 10 µs until written or its deadline passes. -/
  | resultWriteRetry (slot round : Nat)
  /-- ATOMIC_READ_COMPLETE (R331). The host read of an atomic completes and the new value is computed and written if needed. -/
  | atomicReadComplete (read : Nat)
  /-- SEM_ACQUIRE (R336). A read of ATM_SEM_ACQk grants, joins the queue or waits for semaphore k. -/
  | semAcquire (master fn sem : Nat)
  /-- SEM_TRY (R336). A read of ATM_SEM_TRYk grants semaphore k if free and never waits. -/
  | semTry (master fn sem : Nat)
  /-- SEM_ACQUIRE_TIMEOUT (R337). A stalled acquire read returns TIMED_OUT after 10 µs and keeps its place for the keep time. -/
  | semAcquireTimeout (master sem : Nat)
  /-- SEM_KEEP_EXPIRE (R338). The keep time of a timed-out waiter ends and an uncollected grant passes on. -/
  | semKeepExpire (master sem : Nat)
  /-- SEM_RELEASE (R339). A write of ATM_SEM_RELk by the holder passes the semaphore to the next waiter. -/
  | semRelease (master fn sem : Nat)
  /-- SEM_FORCE (R340). A write of ATM_SEM_FORCE releases a semaphore with the broken flag. -/
  | semForce (master sem : Nat)
  /-- LOCK_WAIT_TIMEOUT (R347). WAIT_US passes without a grant, the LOCK completes TIMEOUT and a withdrawing UNLOCK is sent. -/
  | lockWaitTimeout (op : Nat)
  /-- LOCK_LEASE_EXPIRE (R350). LEASE_MS passes after a grant and the lock device releases it as abandoned. -/
  | lockLeaseExpire (off : Nat)
  /-- LOCK_FORCE (R350). A write of ATM_LOCK_FORCE releases a lock of this commons as abandoned. -/
  | lockForce (master off : Nat)
  /-- TRANSIT_FORWARD (R357). A junction reads the milestone, records the return trail, and forwards, ejects or drops the packet. -/
  | transitForward (port vc : Nat)
  /-- QUAR_CLR (R381). A write of RTB_QUAR_CLR.CLR ends every quarantine. -/
  | quarClr (master : Nat)
  /-- RTB_WIN_WRITE (R366). A write to the road-book window changes the shadow bank, or is refused while BUSY. -/
  | rtbWinWrite (master off size value : Nat)
  /-- OUTPUT_ARBITRATE (R389). At a packet boundary a junction grants an output to VCB or a data VC and marks its congestion. -/
  | outputArbitrate (port : Nat)
  /-- VCB_WAIT_EXPIRE (R392). A VCB packet that has waited VCB_WAIT_US is discarded. -/
  | vcbWaitExpire (port : Nat)
  /-- EJECT_WAIT_EXPIRE (R393). A packet not taken from the ejection buffer within EJECT_WAIT_US is discarded. -/
  | ejectWaitExpire (junction : Nat)
  /-- TG_SEL_WRITE (R413). A write of TMG_TG_SEL loads the staging copies of a slot's meter. -/
  | tgSelWrite (master slot : Nat)
  /-- TG_ACT_WRITE (R413). A write of TMG_TG_ACT applies a meter's rates, sizes and actions and refills its buckets. -/
  | tgActWrite (master value : Nat)
  /-- FLIT_RECEIVE (R429). A received flit is decoded and checked, its control blocks acted on and its data area accepted or NAKed. -/
  | flitReceive (port : Nat) (f : Arrival)
  /-- REPLAY_TIMER (R430). No progress for replay_ns starts a replay, or the replay limit sends the port to TRAIN. -/
  | replayTimer (port : Nat)
  /-- CREDIT_UPDATE_TIMER (R435). UPDATE_NS after a pool's count changes, a CREDIT block is sent. -/
  | creditUpdateTimer (port pool : Nat)
  /-- CREDIT_REFRESH_TIMER (R435). Every REFRESH_NS every pool's count and the VCB state are sent again. -/
  | creditRefreshTimer (port : Nat)
  /-- AUDIT_TIMER (R437). Every AUDIT_US the receiver snapshots its pools and sends nine AUDIT blocks, and a scheduled retrain starts. -/
  | auditTimer (port : Nat)
  /-- LINK_RETRAIN (R440). A write of LNK_CTL.RETRAIN moves an UP port to DRAIN before retraining. -/
  | linkRetrain (master port : Nat)
  /-- LINK_ENABLE (R440). A write of LNK_CTL.EN enables a port into TRAIN or disables it toward DOWN. -/
  | linkEnable (master port : Nat) (on : Bool)
  /-- LANES_READY (R441). Every lane of the chosen set is ready and the port applies pending reservations and enters ALIGN. -/
  | lanesReady (port : Nat)
  /-- ALIGN_TIMEOUT (R440). ALIGN_TMO_US passes in ALIGN and the port returns to TRAIN. -/
  | alignTimeout (port : Nat)
  /-- DRAIN_TIMEOUT (R440). DRAIN_TMO_US passes in DRAIN and the port retrains or goes DOWN. -/
  | drainTimeout (port : Nat)
  /-- LINK_GRACE_EXPIRE (R443). The grace period ends and held packets are dropped with LINK_DOWN path faults. -/
  | linkGraceExpire (port : Nat)
  /-- TIME_EXCHANGE_TIMER (R444). Every PERIOD_US an UP port sends TIME and TIME_INFO in a null flit. -/
  | timeExchangeTimer (port : Nat)
  /-- SIGNAL_DETECT (R454). A lane in DETECT detects signal and starts adaptation. -/
  | signalDetect (group lane : Nat)
  /-- ADAPT_CONVERGED (R454). A lane's clock locks and equaliser converges and it moves to MARKER. -/
  | adaptConverged (group lane : Nat) (inverted : Bool)
  /-- MARKER_LOCK (R457). Two valid in-order markers within skew pass MARKER, reaching READY when the peer is ready. -/
  | markerLock (group lane : Nat) (first second : List Byte) (spacing skewPs : Nat)
  /-- SIGNAL_LOST (R454). Signal is lost for SQUELCH_US and the lane returns to DETECT. -/
  | signalLost (group lane : Nat)
  /-- LOCK_TIMEOUT (R455). LOCK_TMO_US passes since entry to TRAIN and the port chooses its lane set. -/
  | lockTimeout (port : Nat)
  /-- LANE_LOSS (R458). A lane misses two alignment codewords or loses clock and the port leaves UP. -/
  | laneLoss (group lane : Nat)
  /-- TRAINING_FRAMES_RX (R456). Training frames received in ALIGN or UP count as a lost lane and the port retrains. -/
  | trainingFramesRx (port : Nat)
  /-- PLL_UNLOCK (R465). The lane-group PLL loses lock and every port of the group leaves UP. -/
  | pllUnlock (group : Nat)
  /-- SER_LIMIT (R465). Corrected symbols of a lane exceed SER_LIMIT within 1 ms and error index 3 is recorded. -/
  | serLimit (group lane count : Nat)
  /-- LANE_FENCE_WRITE (R463). A write of LAN_LANE_CTLl.FENCE fences or unfences a lane and narrows or retrains its port. -/
  | laneFenceWrite (master group lane : Nat) (fence : Bool)
  /-- LAN_TEST_WRITE (R459). A write to LAN_TESTl puts an idle lane into a test mode or returns it to OFF. -/
  | lanTestWrite (master group lane value : Nat)
  /-- INJECT_GO (R461). A write of LAN_INJECTl.GO injects a symbol or burst of symbol errors. -/
  | injectGo (master group lane : Nat)
  /-- MARGIN_START (R462). A write of LAN_MARGINl.START begins a margin scan. -/
  | marginStart (master group lane : Nat)
  /-- MARGIN_SCAN_DONE (R462). A margin scan ends after its dwell, loading ERRORS and clearing BUSY. -/
  | marginScanDone (group lane errors : Nat)
  /-- EYE_REFRESH (R462). Every 1 ms a ready lane refreshes its eye readout. -/
  | eyeRefresh (group lane upper mid lower width snr : Nat)
  /-- GENERATE (R473). SEC_CMD GENERATE makes a new key for a slot as current or next key. -/
  | secGenerate (master slot : Nat)
  /-- WRAP (R474). SEC_CMD WRAP verifies the target by SPDM and builds a key blob for it. -/
  | secWrap (master slot : Nat) (next : Bool)
  /-- INSTALL (R476). SEC_CMD INSTALL verifies the leader and opens a blob into a slot. -/
  | secInstall (master slot : Nat)
  /-- ROLL (R482). SEC_CMD ROLL schedules a key rollover of a slot at a device time. -/
  | secRoll (master slot : Nat)
  /-- RETIRE (R478). SEC_CMD RETIRE makes an unbound slot ABSENT and erases its keys. -/
  | secRetire (master slot : Nat)
  /-- CREATE_OPEN (R470). SEC_CMD CREATE_OPEN creates an OPEN tenancy slot if the fuse allows. -/
  | secCreateOpen (master slot : Nat)
  /-- SEC_CMD_COMPLETE (R473). A key command ends, setting RESULT and incrementing COUNT. -/
  | secCmdComplete (peer : Option Nat)
  /-- KEY_ROLL_TIME (R482). Device time reaches a slot's roll time and sealing moves to the next epoch with a KEY_ROLLED event. -/
  | keyRollTime (slot : Nat)
  /-- OLD_KEY_ERASE (R482). Roll time plus window plus 100 µs passes, the old key is erased and the next becomes current. -/
  | oldKeyErase (slot : Nat)
  /-- PIPE_SELF_TEST (R494). Every 1 ms each AEAD pipeline runs its known-answer test. -/
  | pipeSelfTest (pipe : Nat) (pass : Bool)
  /-- DBG_TOKEN (R490). A valid debug token unlocks its scope, erasing keys first for register access. -/
  | dbgToken (scope serial nonce : Nat) (sig : List Byte)
  /-- SPDM_REQUEST (R467). The management core answers an SPDM request as responder. -/
  | spdmRequest (path : ReqPath) (code : Nat)
  /-- FCL_STAT_CLEAR (R497). A W1C write to FCL_STAT, FCL_PORT or FCL_LANE clears bits unless their lines or group bits remain. -/
  | fclStatClear (master reg mask : Nat)
  /-- FCL_FIRST_REARM (R497). A write of 1 to FCL_FIRST.VALID re-arms the first-page capture. -/
  | fclFirstRearm (master : Nat)
  /-- SVC_REASON_CLEAR (R516). A write of 1 to a replacement reason clears it unless its cause persists. -/
  | svcReasonClear (master mask : Nat)
  /-- FCL_SVC_REQ (R515). A write of FCL_SVC_REQ.RAISE raises reason FIRMWARE with its code. -/
  | fclSvcReq (master code : Nat)
  /-- ALIVE_KICK (R517). A write of FCL_ALIVE.KICK by the management core restarts the heartbeat timer. -/
  | aliveKick (master : Nat)
  /-- UNIT_FENCE_WRITE (R508). A write of FCL_UNIT_FENCE fences or unfences units of the chosen page. -/
  | unitFenceWrite (master mask : Nat)
  /-- SCRUB (R512). Patrol scrub reads a burst, corrects and rewrites or poisons words. -/
  | scrub (ctrl addr : Nat) (r : EccResult)
  /-- ECC_READ (R510). An on-package read is corrected or returns poisoned data to its consumer. -/
  | eccRead (addr len : Nat) (user : MemUser) (r : EccResult)
  /-- SPARE_FORCE (R513). A write of MEM_SPARE_FORCE.GO spares the row holding an address. -/
  | spareForce (master ctrl addr : Nat)
  /-- ROW_SPARE_DONE (R513). A row copy and remap completes and error index 4 is recorded. -/
  | rowSpareDone (ctrl : Nat)
  /-- PMU_SNAP_GO (R527). A write of PMU_SNAP.GO latches all counters with device time. -/
  | pmuSnapGo (master : Nat)
  /-- PMU_SNAP_RELEASE (R527). A write of PMU_SNAP.RELEASE returns counter reads to live values. -/
  | pmuSnapRelease (master : Nat)
  /-- SAMPLE_SEED (R535). A write of PMU_SR_SEED loads the function's sampling LFSR. -/
  | sampleSeed (master fn seed : Nat)
  /-- MGMT_QUERY (R546). Management request QUERY returns firmware, bank, staging and activation state. -/
  | mgmtQuery (path : ReqPath) (tag : Nat)
  /-- ROLE_REQUEST (R547). A signed role request grants or refuses the fabric-manager role. -/
  | roleRequest (path : ReqPath) (tag fn : Nat) (takeover : Bool) (gen serial : Nat) (sig : List Byte)
  /-- FM_KEY_ENROLL (R468). A request enrols or replaces the fabric-manager public key. -/
  | fmKeyEnroll (path : ReqPath) (tag : Nat) (key sig : List Byte)
  /-- STAGE_BEGIN (R549). STAGE_BEGIN starts staging a delta package into the non-running bank. -/
  | stageBegin (path : ReqPath) (tag bank : Nat) (hdr : List Byte)
  /-- STAGE_DATA (R549). STAGE_DATA applies the next bytes of the op stream into the bank. -/
  | stageData (path : ReqPath) (tag off : Nat) (bytes : List Byte)
  /-- STAGE_END (R549). STAGE_END reads the bank back into the preload and marks it STAGED. -/
  | stageEnd (path : ReqPath) (tag : Nat)
  /-- STAGE_ABORT (R549). STAGE_ABORT ends staging, leaving the bank STAGING. -/
  | stageAbort (path : ReqPath) (tag : Nat)
  /-- ACTIVATE (R551). ACTIVATE arms activation of a staged bank at a device time. -/
  | activate (path : ReqPath) (tag bank time : Nat)
  /-- ACTIVATE_CANCEL (R552). ACTIVATE_CANCEL disarms activation unless within 1 ms of its time. -/
  | activateCancel (path : ReqPath) (tag : Nat)
  /-- SVN_ADVANCE (R546). SVN_ADVANCE raises the fused SVN floor to the running SVN. -/
  | svnAdvance (path : ReqPath) (tag : Nat)
  /-- SETTINGS_READ (R553). SETTINGS_READ returns the live record of a type. -/
  | settingsRead (path : ReqPath) (tag type : Nat)
  /-- SETTINGS_WRITE (R556). SETTINGS_WRITE appends a record to the journal unless a newer version is present. -/
  | settingsWrite (path : ReqPath) (tag type version : Nat) (body : List Byte)
  /-- SETTINGS_ERASE (R546). SETTINGS_ERASE removes a record type, refusing protected types. -/
  | settingsErase (path : ReqPath) (tag type : Nat)
  /-- MGMT_REG_READ (R546). Management request REG_READ returns 8 bytes of a BAR0 offset. -/
  | mgmtRegRead (path : ReqPath) (tag off : Nat)
  /-- MGMT_REG_WRITE (R546). Management request REG_WRITE writes a register as master MGMT. -/
  | mgmtRegWrite (path : ReqPath) (tag off value : Nat)
  /-- EVENT_READ (R559). EVENT_READ returns one entry of the fabric-event log. -/
  | eventRead (path : ReqPath) (tag index : Nat)
  /-- EVENT (R559). A received EVENT message is logged and a FABRIC_EVENT record written for the holder. -/
  | mgmtEvent (srcDid cls code : Nat) (body : List Byte)
  /-- FABRIC_EVENT_SEND (R559). The management core sends a fabric event to the destination device and board controller. -/
  | fabricEventSend (delivered : Bool)
  /-- RECOVER_BEGIN (R558). In recovery mode, RECOVER_BEGIN marks a bank STAGING and erases it. -/
  | recoverBegin (path : ReqPath) (tag bank len : Nat)
  /-- RECOVER_DATA (R558). In recovery mode, RECOVER_DATA writes image bytes to flash. -/
  | recoverData (path : ReqPath) (tag off : Nat) (bytes : List Byte)
  /-- RECOVER_BOOT (R558). In recovery mode, RECOVER_BOOT marks a bank STAGED and ACTIVE and boots it. -/
  | recoverBoot (path : ReqPath) (tag bank : Nat)
  /-- RECOVER_ERASE_SETTINGS (R558). In recovery mode, both halves of the settings area are erased. -/
  | recoverEraseSettings (path : ReqPath) (tag : Nat)
  /-- RECOVER_REMOVE_FM_KEY (R558). In recovery mode, the enrolled fabric-manager key is removed. -/
  | recoverRemoveFmKey (path : ReqPath) (tag : Nat)
  /-- PWR_REQ_WRITE (R562). A write of CRP_PWR_REQ.TARGET requests lay-by, parked or Full. -/
  | pwrReqWrite (master target : Nat)
  /-- LAYBY_WAKE (R564). A wake trigger in LAYBY starts powering and restoring the gated domains. -/
  | laybyWake (cause : Nat)
  /-- PARKED_WAKE (R571). A wake trigger in PARKED powers domains, restores contexts and re-enables ports. -/
  | parkedWake (cause : Nat)
  /-- DOMAIN_FAULT (R587). A domain does not power within its time and the transition ends in FULL with its blocks fenced. -/
  | domainFault (domain : Nat)
  /-- RESET_W (R573). CHIP_RST_N low or CRP_RST_CTL.WARM resets every domain but the always-on domain. -/
  | resetW (pin : Bool) (master : Nat)
  /-- RESET_M (R573). CRP_RST_CTL.MGMT, ALIVE expiry, activation or a core fault restarts the management core alone. -/
  | resetM (cause : Nat)
  /-- MASTER_LOSS (R579). A neighbour's master sequence does not advance within LOSS_MS and it becomes ineligible. -/
  | masterLoss (port : Nat)
  /-- TIM_SET (R585). A write of TIM_SET at the master steps device time forward, or is refused. -/
  | timSet (master value : Nat)
  /-- THERMAL_LEVEL (R607). Die temperature reaches WARN_C or CRIT_C and CRP records index 2 or 3. -/
  | thermalLevel (temp : Nat)
  /-- AVS_STEP (R599). At most once per millisecond the device moves the VDD_CORE target with temperature over AVSBus. -/
  | avsStep (target read : Nat) (answered : Bool)
  /-- REG_READ (R414). A BAR0 register read returns its value and, for RC and high-water fields, clears or reloads them; reads of gated blocks set GATED_ACCESS and poisoned trace-window reads record PMU index 5. -/
  | regRead (master off size : Nat)
  /-- CHIP_RST_RELEASE (R597). CHIP_RST_N rises, the straps are sampled and the ROM boot continues after reset C or W. -/
  | chipRstRelease (bootMode : Nat) (recovery routerOnly : Bool) (trained : Nat)
  /-- INTERNAL_STORAGE_ERROR (R498). An on-chip cache, table, context or buffer of a block reports a corrected or uncorrectable error, handled by the block's error index. -/
  | internalStorageError (page index unit locator : Nat)
  /-- ISLAND_CLOCK_UNLOCK (R587). An island clock loses lock and CRP records index 0, with CRP_CLK_STAT showing which. -/
  | islandClockUnlock (island : Nat)
  /-- LANE_PLL_LOCK (R465). The lane-group PLL regains lock, ending the persisting cause of LAN index 4 and letting the group's ports train. -/
  | lanePllLock (group : Nat)
  /-- NO_SIGNAL_TIMEOUT (R455). A candidate lane has had no signal for SQUELCH_US, so the port decides its lane set before LOCK_TMO_US. -/
  | noSignalTimeout (group lane : Nat)
  /-- PRBS_CHECKER_SYNC (R460). The pattern checker sets SYNC after 64 error-free symbols, or clears it and relocks when errors exceed half of 256 symbols. -/
  | prbsCheckerSync (group lane clean : Nat) (errs : List Nat) (more : Nat)
  /-- RDV_CONTINUATION_EXPIRE (R270). No continuation arrives within GIVEUP plus the freshness window of a rendezvous source-read refusal, and the SEND completes with its fault status. -/
  | rdvContinuationExpire (op : Nat)
  /-- FETCH_RESPONSE_TIMEOUT (R333). A FETCH_ATOMIC's response has not arrived GIVEUP after its request was acknowledged, and it completes TIMEOUT with NO_RESPONSE. -/
  | fetchResponseTimeout (op : Nat)
  /-- FLASH_OPERATION_DONE (R549). A flash erase, program or read-back ends, letting STAGE_END mark the bank STAGED or reporting FLASH_FAILED. -/
  | flashOperationDone (ok : Bool)
  /-- RTB_COPY_DONE (R365). The copy of the active bank into the shadow bank ends, clearing BUSY and incrementing COUNT. -/
  | rtbCopyDone
  /-- PACKET_RECEIVE (R208). A verified REQUEST or RESPONSE is checked against the receive state and delivered, held, acknowledged or discarded. -/
  | packetReceive
  /-- ACK_RECEIVE (R212). A verified acknowledgement settles in-flight records, moves UNA, samples the round trip and adjusts the window. -/
  | ackReceive
  /-- NOTICE_RECEIVE (R219). A received notice records a refusal, settles the packet or triggers a continuation. -/
  | noticeReceive
  /-- PWY_KEY_UNCORRECTED (R246). An uncorrectable key error forgets every pathway, gives new epochs and holds every endpoint. -/
  | pwyKeyUncorrected
  /-- PARTIAL (R307). A child's PARTIAL is combined into the round and forwarded when all inputs are present. -/
  | cvPartial
  /-- RESULT (R301). A RESULT is written to local contributors, completes them and is replicated down. -/
  | cvResult
  /-- DONE (R306). A child's DONE is counted and the round retires and advances the window at the root. -/
  | cvDone
  /-- WINDOW (R305). A WINDOW packet updates the device's window base. -/
  | cvWindow
  /-- FAIL (R313). A FAIL is forwarded to the parent or makes the root restart or break. -/
  | cvFail
  /-- RESTART (R316). A RESTART moves the device to the alternate tree and rebuilds rounds without results. -/
  | cvRestart
  /-- ABORT_REQ (R319). An ABORT_REQ is forwarded up and makes the root abort the round. -/
  | cvAbortReq
  /-- ABORT (R319). An ABORT completes the round's local contributions with CONVOY_BROKEN and its detail. -/
  | cvAbort
  /-- BROKEN (R318). A BROKEN puts the slot into BROKEN and ends every round in progress. -/
  | cvBroken
  /-- FLOOD (R309). A FLOOD input is written to local result buffers and forwarded on other tree ports. -/
  | cvFlood
  /-- LOCK_GRANT_RECEIVE (R347). A grant arrives and completes the LOCK, or is released at once if no LOCK is outstanding. -/
  | lockGrantReceive
  /-- PATH_FAULT_RECEIVE (R379). A PATH_FAULT at the source is checked and quarantines the failed route prefix. -/
  | pathFaultReceive
  /-- QUARANTINE_EXPIRE (R381). A quarantine time passes and its withheld candidates return; waiting packets are offered again. -/
  | quarantineExpire
  /-- DBG_CHALLENGE (R489). The TAP instruction DBG_CHALLENGE returns the serial and a fresh nonce. -/
  | dbgChallenge
  /-- ALIVE_TIMEOUT (R517). The heartbeat timer expires, ALIVE stops and reset M starts if AUTO_M. -/
  | aliveTimeout
  /-- TRIAL_CONFIRM (R544). A trial image that has run 1 s with ALIVE kicked confirms itself as GOOD and ACTIVE. -/
  | trialConfirm
  /-- ACTIVATION_TIME (R551). Device time reaches the armed activation time and reset M with cause M_ACTIVATE starts. -/
  | activationTime
  /-- AUTO_LAYBY_IDLE (R562). The entry conditions hold for IDLE_US with AUTO_LAYBY set and lay-by entry starts. -/
  | autoLaybyIdle
  /-- LAYBY_QUIET (R562). The quiet conditions hold, contexts are saved and the host-side domains gated. -/
  | laybyQuiet
  /-- ENTRY_TIMEOUT (R562). ENTRY_TMO_US passes without quiet and the device returns to FULL with refusal BUSY. -/
  | entryTimeout
  /-- LAYBY_WAKE_DONE (R567). A lay-by wake completes, applies held accesses and resumes admission. -/
  | laybyWakeDone
  /-- WAKE_TIME (R564). Device time reaches CRP_WAKE_TIME and wakes the device. -/
  | wakeTime
  /-- RESET_C (R573). VDD_AON rising past power-good resets everything and starts the power-up sequence. -/
  | resetC
  /-- CLAIM_WAIT_EXPIRE (R579). CLAIM_WAIT_MS passes after reset and the device becomes a master candidate. -/
  | claimWaitExpire
  /-- HOLDOVER_EXPIRE (R582). The estimated error in holdover passes HOLD_ERR_NS and time becomes UNLOCKED. -/
  | holdoverExpire
  /-- PPS_IN_EDGE (R584). A rising edge of TIME_PPS_IN is captured and disciplines a PPS master. -/
  | ppsInEdge
  /-- PPS_MISSING (R584). No PPS edge for 2 s at an enabled master records index 3. -/
  | ppsMissing
  /-- PPS_OUT_SECOND (R584). Device time crosses a whole second and TIME_PPS_OUT rises for OUT_WIDTH_US. -/
  | ppsOutSecond
  /-- VDD_AON_LOSS (R601). VDD_AON falls below its power-good level and the device goes Off, losing on-package memory and any flash write in progress. -/
  | vddAonLoss
  /-- FORGET_CHANGE_EFFECTIVE (R223). A lowered PWY_TIMERS.FORGET takes effect once the previous GIVEUP plus the freshness window plus 100 µs has passed since its commit. -/
  | forgetChangeEffective
  /-- MEM_WRITE_COMPLETE (R186). Writes into the commons complete in the MEM controllers, letting commons flush requests be acknowledged and commons-region destroying commits finish. -/
  | memWriteComplete
  /-- PARKED_QUIET (R569). In ENTERING_PARKED the quiet conditions hold, ports drain to DOWN, contexts are saved, keys optionally erased and the state becomes PARKED. -/
  | parkedQuiet
  /-- PARKED_WAKE_DONE (R571). Contexts are restored after a parked wake and the state becomes FULL or LAYBY. -/
  | parkedWakeDone
deriving DecidableEq, Repr

end Sys2Proof
end

