-- ==== Sys2Proof/Decode.lean ====
section
/-! DEFINITION. Decode.lean: the commands that a word spells. The table of the block's commands gives no row any bits: its commands are
accesses and events, not words. -/

namespace Sys2Proof

/-- No command of the table has an encoding (spec/opcode_table.json: every row has no fields). -/
def decodeTableWord (_nbits _w : Nat) : Option Instr := none

end Sys2Proof
end

