-- ==== Sys2Proof/Machine/Table.lean ====
section
/-! DEFINITION. Machine/Table.lean: the two containers of the model: a table from keys to entries, kept in order of
creation, and a sparse store from numbers to values in one canonical form. -/

namespace Sys2Proof

/-- A table: at most one entry for a key, oldest first. -/
abbrev Tbl (κ α : Type) := List (κ × α)

/-- The entry of a key. -/
def Tbl.get {κ α : Type} [DecidableEq κ] (t : Tbl κ α) (k : κ) : Option α :=
  match t with
  | [] => none
  | (k', v) :: r => if k' = k then some v else Tbl.get r k

/-- The entry of a key, or what an absent entry stands for. -/
def Tbl.getD {κ α : Type} [DecidableEq κ] (t : Tbl κ α) (k : κ) (d : α) : α := (Tbl.get t k).getD d

/-- The table with the entry of one key replaced, or added last. -/
def Tbl.set {κ α : Type} [DecidableEq κ] (t : Tbl κ α) (k : κ) (v : α) : Tbl κ α :=
  match t with
  | [] => [(k, v)]
  | (k', v') :: r => if k' = k then (k, v) :: r else (k', v') :: Tbl.set r k v

/-- The table without the entries of one key. -/
def Tbl.del {κ α : Type} [DecidableEq κ] (t : Tbl κ α) (k : κ) : Tbl κ α := t.filter fun e => e.1 ≠ k

/-- Does the table hold an entry of the key? -/
def Tbl.has {κ α : Type} [DecidableEq κ] (t : Tbl κ α) (k : κ) : Bool := (Tbl.get t k).isSome

/-- The table with every entry rewritten. -/
def Tbl.mapVals {κ α : Type} (t : Tbl κ α) (f : κ → α → α) : Tbl κ α := t.map fun e => (e.1, f e.1 e.2)

/-- The table with the entries that fail a test removed. -/
def Tbl.keep {κ α : Type} (t : Tbl κ α) (p : κ → α → Bool) : Tbl κ α := t.filter fun e => p e.1 e.2

/-- How many entries pass a test. -/
def Tbl.count {κ α : Type} (t : Tbl κ α) (p : κ → α → Bool) : Nat := (t.filter fun e => p e.1 e.2).length

/-- A sparse store: keys strictly rising; a key that is not listed holds a default. -/
abbrev Sparse (β : Type) := List (Nat × β)

/-- What a key holds. -/
def Sparse.read {β : Type} (d : β) (m : Sparse β) (a : Nat) : β :=
  match m with
  | [] => d
  | (k, v) :: r => if k = a then v else Sparse.read d r a

/-- The store with one key written; writing the default removes the entry. -/
def Sparse.write {β : Type} [DecidableEq β] (d : β) (m : Sparse β) (a : Nat) (v : β) : Sparse β :=
  match m with
  | [] => if v = d then [] else [(a, v)]
  | (k, w) :: r =>
    if k = a then (if v = d then r else (a, v) :: r)
    else if a < k then (if v = d then (k, w) :: r else (a, v) :: (k, w) :: r)
    else (k, w) :: Sparse.write d r a v

/-- Keys strictly rising from a bound. -/
def Sparse.sortedFrom {β : Type} (lo : Nat) (m : Sparse β) : Bool :=
  match m with
  | [] => true
  | (k, _) :: r => decide (lo ≤ k) && Sparse.sortedFrom (k + 1) r

/-- The canonical form: keys strictly rising, and no entry equal to the default. -/
def Sparse.wf {β : Type} [DecidableEq β] (d : β) (m : Sparse β) : Bool :=
  Sparse.sortedFrom 0 m && m.all fun e => e.2 ≠ d

end Sys2Proof
end

