-- ==== Sys2Proof/Machine/Types.lean ====
section
/-! DEFINITION. Machine/Types.lean: the records the state is made of: plain data, each with the rule of spec/ that gives
it. A field that a register already holds is not repeated here. -/

namespace Sys2Proof.Machine

/-! ## What the block sends out -/

/-- Output pins (20, R593). -/
inductive OutPin where
  | fatalN | svcReqN | alive | ppsOut
  | pwrEn (fn : Nat)
deriving DecidableEq, Repr

/-- A certificate (R466): the public key that it certifies, the serial number that it binds it to, and the issuer's signature over both. -/
structure Certificate where
  key : List Byte
  serial : Option Nat
  sig : List Byte
deriving DecidableEq, Repr

/-- Capabilities of an SPDM responder (R467). -/
inductive SpdmCap where
  | cert | chal | measSig | keyEx | encrypt | mac | mutAuth
deriving DecidableEq, Repr

/-- Algorithms of an SPDM responder (R467). -/
inductive SpdmAlg where
  | ecdsaP384 | sha384 | secp384r1 | aes256Gcm
deriving DecidableEq, Repr

/-- What an SPDM response carries that the spec gives (R466, R467): nothing; capabilities; algorithms; the digest of a slot's chain; the chain of a
slot, and the wrap certificate; a signature; measurements by index, with a signature. -/
inductive SpdmAnswer where
  | bare
  | capabilities (l : List SpdmCap)
  | algorithms (l : List SpdmAlg)
  | digest (slot : Nat) (d : List Byte)
  | chain (slot : Nat) (l : List Certificate) (wrap : Certificate)
  | signature (sig : List Byte)
  | measurements (values : List (Nat × List Byte)) (sig : List Byte)
deriving DecidableEq, Repr

/-- What a lane's transmitter sends (R452, R454, R460): nothing; training frames with their alignment marker and pattern; its share of the
port's codewords; the pattern of its generator; the symbols that it receives. -/
inductive LaneTx where
  | idle
  | training (marker : List Byte) (prbs : Nat)
  | codewords
  | pattern (gen : Nat)
  | received
deriving DecidableEq, Repr

/-- One thing the block gives to the outside, in the order it gives it. -/
inductive Out where
  /-- a posted write on a host port (R68, R69) -/
  | hostWrite (fn addr : Nat) (bytes : List Byte)
  /-- a read request on a host port (R69) -/
  | hostRead (fn id addr len : Nat)
  /-- an MSI-X message (R74 to R76) -/
  | msix (fn vector addr data : Nat)
  /-- completion of a register read (R32 to R36) -/
  | readReply (master off value : Nat)
  /-- completion of a BAR2 or BAR4 read (R65, R66) -/
  | barReply (fn bar off value : Nat)
  /-- completion of a read of configuration space (R63) -/
  | cfgReply (fn off value : Nat)
  /-- an error message of a function: 0 correctable, 1 non-fatal, 2 fatal (R77) -/
  | errMsg (fn sev : Nat)
  /-- a DOE Discovery response: vendor and type of each data object (R85) -/
  | doeTypes (fn : Nat) (types : List (Nat × Nat))
  /-- a flit sent on a port (R421 to R423) -/
  | flit (port : Nat) (f : Flit)
  /-- a codeword sent on a port, or an alignment codeword: the lanes by number, each with the levels that it sends (R421, R451, R458) -/
  | codeword (port : Nat) (lanes : List (Nat × List Nat))
  /-- a lane's transmitter changes what it sends (R452, R454, R460) -/
  | lane (l : Nat) (tx : LaneTx)
  /-- a DOE response (R85): the object served, or the DOE Error bit -/
  | doe (fn : Nat) (ok : Bool) (obj : DoeObject)
  /-- a response of the management core (18, *Management message header*) -/
  | mgmt (path : ReqPath) (tag status : Nat) (payload : List Byte)
  /-- an SPDM response (R467): its code, and what it carries -/
  | spdm (path : ReqPath) (code : Nat) (answer : SpdmAnswer)
  /-- a fabric event sent in-band or over I3C (R559) -/
  | event (did : Nat) (i3c : Bool) (cls code : Nat)
  /-- an output pin changes (R516 to R518, R584, R87) -/
  | pin (p : OutPin) (high : Bool)
  /-- the TAP answers (R489) -/
  | tap (serial nonce : Nat)
  /-- a voltage command on AVSBus (R599) -/
  | avs (mv : Nat)
  /-- an operation of the flash master (R549): 0 erase, 1 program, 2 read back -/
  | flash (op bank : Nat)
  /-- an in-band interrupt on I3C (18 *I3C and MCTP*) -/
  | ibi
deriving DecidableEq, Repr

/-! ## Names of pathways -/

/-- A pathway (R199), or the pathway of a compatibility queue pair (R238): `lqp` is the number plus one, 0 for none. -/
structure PwKey where
  loc : Nat
  rem : Nat
  tc : Nat
  lqp : Nat
deriving DecidableEq, Repr

/-! ## Host ports (03) -/

/-- An entry of a function's MSI-X table (R74, R75). -/
structure MsixEntry where
  addr : Nat := 0
  data : Nat := 0
  masked : Bool := true
deriving DecidableEq, Repr

/-- Indicator levels. -/
inductive Ind where
  | off | on | blink
deriving DecidableEq, Repr

/-- What a host function holds beyond its registers (R61 to R92, R207). -/
structure HostFn where
  /-- reset H in progress (R89) -/
  resetH : Bool := false
  /-- reset H waits for the device to wake (R565, R570) -/
  resetWait : Bool := false
  /-- kept absent by a fence (R503, R504) -/
  fencedAway : Bool := false
  /-- what follows the reset H of a detaching slot: 0 nothing, 1 orderly, 2 surprise, 3 power fault (R87) -/
  detach : Nat := 0
  /-- absence counted while detaching (R87) -/
  gone : Bool := false
  /-- level of `HPn_PERST_N`: `true` when low -/
  perst : Bool := true
  /-- level of `HPn_PWR_FLT_N`: `true` when low -/
  pwrFlt : Bool := false
  /-- presence counted (R86) -/
  present : Bool := false
  /-- device time of the first button press of a removal (R87) -/
  buttonAt : Option Nat := none
  /-- device time at which the quiesce timeout elapses -/
  quiesceAt : Option Nat := none
  mps : Nat := 128
  mrrs : Nat := 512
  msixEnable : Bool := false
  msixFmask : Bool := false
  msix : Tbl Nat MsixEntry := []
  /-- vectors with a pending bit (R75) -/
  pba : List Nat := []
  /-- host writes and messages held under R79 -/
  held : List Out := []
  /-- address of the most recent placing write, and of its last byte, since the port entered `ATTACHED` (R185) -/
  lastWrite : Option (Nat × Nat) := none
  /-- the data link is up (R61, R88) -/
  up : Bool := false
  /-- device time at which presence or absence was last counted, the button was last pressed, and a power fault last came (R86) -/
  pinAt : Nat := 0
  pressAt : Option Nat := none
  fltAt : Nat := 0
  /-- configuration registers that the host wrote or an error changed, by offset (R63, R77) -/
  cfg : Tbl Nat Nat := []
  /-- sub-streams of the IDE stream that hold keys, with the key set: 0 posted, 1 non-posted, 2 completions (R81) -/
  ideSets : List (Nat × Nat) := []
  /-- levels of `HPn_PWR_IND` and `HPn_ATTN_IND` kept through reset W until `HIF` is enabled again (R596) -/
  inds : Option (Ind × Ind) := none
deriving DecidableEq, Repr

/-- What a host read is for. -/
inductive ReadFor where
  | walk (id : Nat)
  | desc (fn wq : Nat)
  | payload (op seg : Nat)
  | retx (key : PwKey) (seq : Nat)
  | serve (get seg : Nat)
  | flush (fn : Nat)
  | atomic (id : Nat)
  | contribution (op : Nat)
  | sample (fn : Nat)
  | admin (fn : Nat)
  | ovf (fn pos : Nat)
  | copy (id : Nat)
  | lqp (n : Nat)
  | ticket (fn : Nat)
deriving DecidableEq, Repr

/-- A host read outstanding or complete (R69 to R72). -/
structure HostRead where
  fn : Nat
  len : Nat
  use : ReadFor
  /-- host address of a read that is never translated and starts at no fixed place: a flush read (R44) -/
  host : Nat := 0
  /-- IOVA of its first byte and its address space, where it was translated (R44, R107) -/
  iova : Option Nat := none
  as : Nat := 0
  /-- the transmit pipe that reads payload -/
  pipe : Option Nat := none
  /-- requests not yet issued: host address, offset in the read, length (R69) -/
  unsent : List (Nat × Nat × Nat) := []
  /-- requests issued whose bytes have not all arrived -/
  sent : List (Nat × Nat) := []
  /-- device time at which the oldest request outstanding was issued, at the earliest (R71) -/
  sentAt : Nat := 0
  /-- pieces received: offset in the read and bytes -/
  parts : List (Nat × List Byte) := []
  /-- a request of it has failed (R72) -/
  bad : Bool := false
  /-- where its first failing request reads: an IOVA, or a host address that was never translated (R44) -/
  failedAt : Nat := 0
  /-- result, once every byte has arrived or the read has failed, and when that was (R122) -/
  result : Option BusResult := none
  doneAt : Nat := 0
deriving DecidableEq, Repr

/-! ## Translation (04) -/

/-- Context of an address space (R94). -/
structure AsCtx where
  root : Nat
  /-- lost to an uncorrectable error (R123 index 1) -/
  lost : Bool := false
deriving DecidableEq, Repr

/-- A translation-cache entry: one leaf (R105); or, held for an access that waited, the kind and level of the fault that its walk met. -/
structure Leaf where
  fn : Nat
  as : Nat
  /-- IOVA of the page -/
  iova : Nat
  shift : Nat
  addr : Nat
  rd : Bool
  wr : Bool
  se : Bool
  fault : Option (Nat × Nat) := none
deriving DecidableEq, Repr

/-- A walk-cache entry: the table reached below `level` (04, *Caches and invalidation*). -/
structure TableRef where
  fn : Nat
  as : Nat
  level : Nat
  /-- IOVA bits above those the entry's level indexes, and those -/
  tag : Nat
  table : Nat
deriving DecidableEq, Repr

/-- Which access waits for a walk, or faulted (R101, *Fault sources*). -/
inductive Waiter where
  | payload (op seg : Nat)
  | retx (key : PwKey) (seq : Nat)
  | place (key : PwKey) (seq : Nat)
  /-- an atomic on host memory at its target (R330) -/
  | atomic (key : PwKey) (seq : Nat)
  | serve (get seg : Nat)
  | desc (fn wq : Nat)
  | record (fn kind num : Nat)
  | copy (id : Nat)
  | contribution (op : Nat)
  | result (slot round fn : Nat)
  | ovf (fn : Nat)
  | lqp (n : Nat)
  | ticket (fn : Nat)
  | sample (fn : Nat)
  | prewalk
deriving DecidableEq, Repr

/-- The access that a translated read belongs to. -/
def ReadFor.waiter : ReadFor → Option Waiter
  | .desc fn n => some (.desc fn n)
  | .payload op seg => some (.payload op seg)
  | .retx k seq => some (.retx k seq)
  | .serve g seg => some (.serve g seg)
  | .contribution op => some (.contribution op)
  | .ovf fn _ => some (.ovf fn)
  | .copy id => some (.copy id)
  | .lqp n => some (.lqp n)
  | .ticket fn => some (.ticket fn)
  | _ => none

/-- A walk in progress, or waiting for a walker (R100, R121). -/
structure Walk where
  fn : Nat
  as : Nat
  iova : Nat
  level : Nat
  table : Nat
  /-- read of the entry, once a walker has issued it -/
  read : Option Nat := none
  /-- its result may be cached, and later misses may share it (R108) -/
  cache : Bool := true
  /-- accesses that wait, with the rights each needs: read, write -/
  waiters : List (Waiter × Bool × Bool) := []
  /-- walker-pool requester (R121) -/
  req : Nat := 0
deriving DecidableEq, Repr

/-- A fault record written lately, for coalescing (R113). -/
structure FaultMark where
  fn : Nat
  as : Nat
  page : Nat
  kind : Nat
  time : Nat
deriving DecidableEq, Repr

/-- An invalidation that waits for covered accesses (R107, R108). -/
structure Inval where
  cmd : AdminCmd
  /-- host reads outstanding at acceptance -/
  reads : List Nat
  /-- walks in progress at acceptance -/
  walks : List Nat
  /-- accesses that those walks serve, and those that hold a translation of a side-effect page (R103, R108) -/
  accs : List Waiter := []
  /-- those of them that have translated in the command in hand (the model's own field) -/
  used : List Waiter := []
  /-- atomics between the read and the write of their word -/
  atoms : List Nat := []
deriving DecidableEq, Repr

/-! ## Regions (06) -/

/-- A region of a host function (R164 to R167). -/
structure Region where
  gen : Nat
  base : Nat
  len : Nat
  as : Nat
  slot : Nat
  eq : Nat
  eqEn : Bool
  rights : Nat
  /-- being destroyed: packets checked from now on are refused (R130, R174) -/
  closing : Bool := false
deriving DecidableEq, Repr

/-! ## Queues (05) -/

/-- States of a work queue (05, *Work-queue states*); an absent queue has no entry. -/
inductive WqState where
  | active | suspended | error | draining
deriving DecidableEq, Repr

/-- A descriptor in the descriptor cache: ring position and contents (R137, R139). -/
structure Cached where
  pos : Nat
  d : Descr
  /-- it was fetched from the ring (R536) -/
  miss : Bool := false
deriving DecidableEq, Repr

/-- A segment that the scheduler has chosen and that is not transmitted yet (R177, R403): its length, the read of its payload,
and the payload once it is here. -/
structure Send where
  op : Nat
  seg : Nat
  len : Nat
  read : Option Nat := none
  data : Option (List Byte) := none
deriving DecidableEq, Repr

/-- A work queue (R129, R134 to R141). -/
structure Wq where
  base : Nat
  log2 : Nat
  as : Nat
  cq : Nat
  recv : Bool
  list : Nat
  slot : Nat
  tcMask : Nat
  counter : Nat
  countEn : Bool
  sched : Nat
  state : WqState := .active
  hold : Bool := false
  detail : Nat := 0
  /-- producer index P -/
  prod : Nat := 0
  /-- consumer index C: slots admitted -/
  cons : Nat := 0
  cache : List Cached := []
  /-- doorbells and direct posts accepted, oldest first: producer index after each, and device time (R536) -/
  doors : List (Nat × Nat) := []
  /-- the descriptor fetch outstanding -/
  fetching : Option Nat := none
  /-- the first 64 bytes of a long descriptor whose rest is being fetched -/
  part : List Byte := []
  /-- the descriptor fetch waits for a walk -/
  fetchWait : Bool := false
  /-- the suspension is due to a descriptor fetch, not a payload read -/
  fetchFault : Bool := false
  /-- the operation whose payload read suspended the queue, with the fault kind -/
  faultOp : Option (Nat × Nat) := none
  /-- position and detail of the descriptor at which the queue entered `ERROR` (R144, R160) -/
  errAt : Option (Nat × Nat) := none
  /-- segments chosen and not transmitted, in order -/
  sends : List Send := []
  /-- draining: `true` for DESTROY_WQ -/
  destroy : Bool := false
  /-- compatibility queue pair bound, its number plus one; 0: none (R236) -/
  lqp : Nat := 0
  /-- bytes of a direct post that have arrived, the newest first: place in the slot and byte (R64, R135) -/
  gather : List (Nat × Byte) := []
deriving DecidableEq, Repr

/-- The fields of a completion record (R145, R273). -/
structure Cpl where
  status : Nat := 0
  kind : Nat := 0
  wq : Nat := 0
  length : Nat := 0
  userCtx : Nat := 0
  data : Nat := 0
  peer : Nat := 0
  postIdx : Nat := 0
  detail : Nat := 0
  /-- the operation that the record completes -/
  op : Option Nat := none
  /-- an entry is reserved for it (R151); a drain writes without (R160) -/
  res : Bool := true
deriving DecidableEq, Repr

/-- The fields of an event record (R154). -/
structure Evt where
  type : Nat
  subtype : Nat := 0
  value : Nat := 0
  offset : Nat := 0
  data : Nat := 0
  peer : Nat := 0
  /-- an entry is reserved for it: signals (R156) -/
  res : Bool := false
deriving DecidableEq, Repr

/-- States of a CQ or EQ (R129, R152, R153, R157); an absent queue has no entry. -/
inductive QState where
  | active | suspended | error
deriving DecidableEq, Repr

/-- A completion queue (R129, R149 to R153, R161). -/
structure Cq where
  base : Nat
  log2 : Nat
  as : Nat
  vector : Nat
  irqEn : Bool
  modCount : Nat
  modTime : Nat
  state : QState := .active
  written : Nat := 0
  consumer : Nat := 0
  reserved : Nat := 0
  armed : Bool := false
  /-- records written since the last message -/
  since : Nat := 0
  /-- device time of the first of those -/
  firstAt : Nat := 0
  /-- records not yet written (R152) -/
  held : List Cpl := []
deriving DecidableEq, Repr

/-- An event queue (R129, R155 to R157, R161). -/
structure Eq where
  base : Nat
  log2 : Nat
  as : Nat
  vector : Nat
  irqEn : Bool
  modCount : Nat
  modTime : Nat
  async : Bool
  /-- creation order (R155) -/
  order : Nat
  state : QState := .active
  written : Nat := 0
  consumer : Nat := 0
  /-- entries reserved for signals (R156) -/
  reserved : Nat := 0
  /-- events lost since the last `EQ_LOST`, and since creation -/
  lost : Nat := 0
  lostAll : Nat := 0
  armed : Bool := false
  since : Nat := 0
  firstAt : Nat := 0
  held : List Evt := []
deriving DecidableEq, Repr

/-- What an executing admin command waits for (R127, R128, R107, R130, R160, R241, R479). -/
inductive AdminWait where
  | drain (wq : Nat)
  | inval
  | region (fn idx : Nat)
  | list (n : Nat)
  | lqp (n : Nat)
  | ticket
  | room
deriving DecidableEq, Repr

/-- The admin command that a function executes (R127). -/
structure AdminOp where
  cmd : AdminCmd
  wait : AdminWait
  /-- when it began to wait -/
  since : Nat := 0
  status : Nat := 0
  result : Nat := 0
  data0 : Nat := 0
  data1 : Nat := 0
deriving DecidableEq, Repr

/-! ## Operations (05, 06) -/

/-- How far an admitted operation has come. -/
inductive OpPhase where
  /-- held in the triggered store (R159) -/
  | held
  /-- admitted or fired, not begun -/
  | queued
  /-- begun: some segment may be left to send -/
  | begun
  /-- every segment sent; waiting to settle -/
  | sent
  /-- over; its record is handed to the completion queue and not yet written (R152) -/
  | closing
deriving DecidableEq, Repr

/-- What a tagged operation's sample record says beside its descriptor (R536): device times of its stages. -/
structure Smp where
  t0 : Nat := 0
  xlt : Option Nat := none
  read : Option Nat := none
  inject : Option Nat := none
  lastInject : Option Nat := none
  settled : Option Nat := none
  retx : Nat := 0
  preempt : Nat := 0
  descMiss : Bool := false
  xltMiss : Bool := false
  pwyMiss : Bool := false
  rtbMiss : Bool := false
  suspended : Bool := false
deriving DecidableEq, Repr

/-- An operation: an admitted descriptor until its completion (R139, R140, R175 to R190). -/
structure Op where
  fn : Nat
  wq : Nat
  pos : Nat
  d : Descr
  phase : OpPhase := .queued
  /-- a posted receive or probe of a receive-posting queue (R252) -/
  recv : Bool := false
  /-- tenancy slot it is sealed under (R472) -/
  slot : Nat := 0
  /-- next segment to send (R177) -/
  nextSeg : Nat := 0
  /-- host read of the segment in progress -/
  reading : Option Nat := none
  /-- no further segment is sent -/
  stop : Bool := false
  /-- status and detail it will complete with, when not OK -/
  fail : Option (Nat × Nat) := none
  /-- bytes acknowledged as placed, or placed locally -/
  bytes : Nat := 0
  /-- kind and reason of the last notice it met -/
  refusal : Option (Nat × Nat) := none
  /-- local fault kind met by a retransmission or a placement (R181, R215) -/
  localFault : Nat := 0
  /-- request acknowledged -/
  acked : Bool := false
  /-- value returned (FETCH_ATOMIC, LOCK) -/
  value : Option Nat := none
  /-- give-up deadline of a GET, or of a wait, as device time -/
  deadline : Option Nat := none
  /-- continuation: device time and offset (R180) -/
  contAt : Option (Nat × Nat) := none
  /-- candidate chosen for the operation and its generation (R374) -/
  cand : Option (Nat × Nat) := none
  /-- operations of the queue admitted earlier that it waits for (FENCE, FENCE_BEFORE, FLUSH) -/
  after : List Nat := []
  /-- waiting for room in the pathway store, counted once (R202) -/
  storeWait : Bool := false
  /-- how it ended: status, detail, length, data; its record may have to wait for earlier ones (R147) -/
  ended : Option Cpl := none
  /-- segments placed of a `GET` or of a pull (R180) -/
  got : List Nat := []
  /-- message that a receive is bound to: its pathway, operation tag and length; whether its data is pulled (R258, R268) -/
  msg : Option (PwKey × Nat × Nat) := none
  pull : Bool := false
  /-- match bits and source of that message -/
  bits : Nat := 0
  src : Nat := 0
  /-- length that a served pull asked for, once one was served (R269, R272) -/
  pulled : Option Nat := none
  /-- convoy round joined (R298); time and kind of the first fault of its contribution's read (kind 0: the host bus), and when
  it is tried again (R300) -/
  round : Option Nat := none
  readFault : Option (Nat × Nat) := none
  retryAt : Nat := 0
  /-- the grant of a `LOCK` carried the broken flag (R347) -/
  broken : Bool := false
  /-- it carries the sampling tag; times of its first transmission and of its last settling (R535, R536) -/
  sampled : Bool := false
  smp : Smp := {}
  admitAt : Nat := 0
  startAt : Nat := 0
deriving DecidableEq, Repr

/-! ## Pathways (07) -/

/-- A packet as this device holds it after ejection: arrival port (0x80: its own injection path), VC (9: none), tenancy slot
it resolved to, time of ejection. -/
structure RxPkt where
  pkt : Pkt
  port : Nat
  vc : Nat
  slot : Nat := 0
  at_ : Nat := 0
  /-- it has passed the checks of R173 and waits to be placed (R174) -/
  passed : Bool := false
deriving DecidableEq, Repr

/-- The data header of a received packet. -/
def RxPkt.hdr (r : RxPkt) : DataHdr :=
  match r.pkt.body with
  | .data h _ => h
  | _ => {}

/-- The send state of a pathway (R200). -/
structure Snd where
  next : Nat := 0
  una : Nat := 0
  cwnd : Nat := 0
  /-- smoothed round trip and variance in ns, once a sample exists (R213) -/
  srtt : Option (Nat × Nat) := none
  baseRtt : Nat := 0
  baseSet : Nat := 0
  lastCut : Nat := 0
  lastAct : Nat := 0
  periodStart : Nat := 0
  periodCount : Nat := 0
deriving DecidableEq, Repr

/-- The receive state of a pathway (R200, R208 to R211). -/
structure Rcv where
  expect : Nat
  map : Nat := 0
  peerEpoch : Nat
  lastAct : Nat := 0
  held : List RxPkt := []
  /-- sequence numbers delivered whose outcome is not known -/
  pend : List Nat := []
  /-- accepted and not acknowledged -/
  unacked : Nat := 0
  firstUnacked : Nat := 0
  marked : Nat := 0
  cong : Nat := 0
  /-- the packet that causes the next acknowledgement -/
  cause : Option RxPkt := none
deriving DecidableEq, Repr

/-- Where a pathway entry is (R201); an absent entry has no record. -/
inductive PwState where
  | cached | stored | recalling
deriving DecidableEq, Repr

/-- A pathway entry. -/
structure Pathway where
  state : PwState := .cached
  snd : Option Snd := none
  rcv : Option Rcv := none
  /-- sticky candidate and its generation (R374) -/
  sticky : Option (Nat × Nat) := none
  /-- device time of an uncorrectable error: closed (R246) -/
  closedAt : Option Nat := none
  /-- device time of the last use -/
  lastUse : Nat := 0
deriving DecidableEq, Repr

/-- Whose packet an in-flight record is. -/
inductive Owner where
  /-- an operation of this device -/
  | op (id : Nat)
  /-- a response of a request served here (R180, R269) -/
  | serve (id : Nat)
  /-- a pull of a rendezvous message bound here (R268) -/
  | pull (id : Nat)
  /-- the response of a `FETCH_ATOMIC`, or of a `LOCK`: its number (R333, R345) -/
  | reply (id : Nat)
  /-- an `UNLOCK` sent on an endpoint's behalf: one that withdraws or abandons, or a plain one: its number (R348, R351) -/
  | unlock (id : Nat) (marked : Bool)
  /-- a grant of the lock at a commons offset, with its `GRANTS` (R349) -/
  | grant (off n : Nat)
  /-- a cancel pull of a list being destroyed: its number, and the list (R249) -/
  | cancelPull (id fn list : Nat)
deriving DecidableEq, Repr

/-- The operation of this device that it belongs to: one that sends, or a receive that pulls. -/
def Owner.operation : Owner → Option Nat
  | .op id => some id
  | .pull id => some id
  | _ => none

/-- Is it an `UNLOCK` that withdraws or abandons (R351, R354)? -/
def Owner.marked : Owner → Bool
  | .unlock _ m => m
  | _ => false

/-- Is it a cancel pull of a list (R249)? -/
def Owner.cancels (o : Owner) (fn list : Nat) : Bool :=
  match o with
  | .cancelPull _ f l => f == fn && l == list
  | _ => false

/-- Where the payload of a packet is read again from for a copy (R214). -/
inductive PaySrc where
  | fixed
  | host (fn as iova : Nat)
  | commons (addr : Nat)
deriving DecidableEq, Repr

/-- An in-flight record (R200, R213 to R216). -/
structure InFlight where
  owner : Owner
  pkt : Pkt
  slot : Nat
  src : PaySrc := .fixed
  /-- device times of the first transmission and of the latest copy -/
  first : Nat
  last : Nat
  cand : Option Nat := none
  bgen : Nat := 0
  /-- retransmissions so far -/
  copies : Nat := 0
  /-- when the timer expires, and the give-up deadline -/
  timer : Nat
  giveup : Nat
  /-- notice type and reason of the last refusal; type 0: the fault kind of its own retransmission (R215) -/
  refusal : Option (Nat × Nat) := none
  /-- waits in `RTB` for a usable candidate (R375) -/
  waiting : Bool := false
  /-- waits in `RTB` for its candidate list (R367, *Road-book timing*) -/
  fetching : Bool := false
  /-- the payload of a copy is being read -/
  reading : Option Nat := none
deriving DecidableEq, Repr

/-- How a packet settled (R200). -/
inductive Settled where
  | ok
  | refused (status detail : Nat)
  | absent
deriving DecidableEq, Repr

/-- What a consumer made of a delivered packet (R208). -/
inductive Outcome where
  | placed
  | refused (status detail : Nat)
  | notice (ntype reason : Nat)
deriving DecidableEq, Repr

/-- A compatibility queue pair (R236 to R242). -/
structure Lqp where
  fn : Nat
  ctx : Nat
  as : Nat
  rem : Nat
  remLqp : Nat
  tc : Nat
  sendWq : Nat
  recvWq : Nat
  recvEn : Bool
  error : Bool := false
  cached : Bool := true
  /-- the read of its context outstanding (R242) -/
  fetching : Option Nat := none
  destroying : Bool := false
deriving DecidableEq, Repr

/-- A GET request being served at the target (R180). -/
structure Serve where
  key : PwKey
  rx : RxPkt
  /-- next response segment, counted within this request -/
  seg : Nat := 0
  reading : Option Nat := none
  /-- source: 0 region, 1 commons, 2 rendezvous source -/
  kind : Nat := 0
  fn : Nat := 0
  as : Nat := 0
  base : Nat := 0
  /-- candidate chosen for it and its generation (R374) -/
  cand : Option (Nat × Nat) := none
  /-- its next segment is chosen and not transmitted -/
  chosen : Bool := false
  /-- every segment was sent -/
  sent : Bool := false
deriving DecidableEq, Repr

/-- A flush request awaiting its read (R185, R186). -/
structure FlushReq where
  key : PwKey
  rx : RxPkt
  /-- the read that covers it is issued -/
  sent : Bool := false
deriving DecidableEq, Repr

/-- What waits in the response entity of a pipe (R403): the next segment of a request being served, or a packet. -/
inductive Resp where
  | serve (id : Nat)
  | pkt (key : PwKey) (slot : Nat) (owner : Owner) (src : PaySrc) (h : DataHdr) (d : List Byte)
deriving DecidableEq, Repr

/-- Start tag of a scheduled entity, and whether it was backlogged when last looked at (R404, R405). -/
structure Tag where
  s : Nat := 0
  live : Bool := false
deriving DecidableEq, Repr

/-- Credit of a shaper in 1/80 byte, with its stamp (R406). -/
structure Credit where
  amount : Int
  stamp : Nat
deriving DecidableEq, Repr

/-! ## Atomics, semaphores and locks (10) -/

/-- An atomic on host memory in progress: the packet, the word and the reserved event entry (R330 to R332). -/
structure AtomJob where
  key : PwKey
  rx : RxPkt
  fn : Nat
  /-- address space and IOVA of its word (R107) -/
  as : Nat := 0
  iova : Nat := 0
  addr : Nat
  width : Nat
  sig : Option (Nat × Nat) := none
deriving DecidableEq, Repr

/-- A waiter of a fabric lock (R345). -/
structure LockWait where
  epa : Nat
  key : PwKey
  slot : Nat
  tag : Nat
  lease : Nat
  /-- region key and offset by which it named the lock -/
  rkey : Nat
  remote : Nat
deriving DecidableEq, Repr

/-- A lock-table entry (R341, R342). -/
structure Lock where
  holder : Option LockWait := none
  waiters : List LockWait := []
  grants : Nat := 0
  broken : Bool := false
  /-- when the lease of the holder ends, once its grant was acknowledged (R350) -/
  leaseEnd : Option Nat := none
deriving DecidableEq, Repr

/-- A held-lock entry: a fabric lock held by an endpoint of this device, or a `LOCK` that waits (R351). -/
structure HeldLock where
  fn : Nat
  slot : Nat
  epa : Nat
  key : Nat
  remote : Nat
  /-- the waiting operation; none once held -/
  op : Option Nat
deriving DecidableEq, Repr

/-- A master that waits on a semaphore (R336 to R338): the acquire reads it has stalled, when they began, the end of its keep
time, and whether the semaphore is held for it. -/
structure SemWait where
  master : Nat
  /-- acquire reads that stall: address and size -/
  reads : List (Nat × Nat) := []
  since : Nat := 0
  keep : Option Nat := none
  held : Bool := false
  broken : Bool := false
deriving DecidableEq, Repr

/-! ## Message matching (08) -/

/-- A match list (R247, R248); an absent list has no entry. -/
structure MList where
  slot : Nat
  eq : Nat
  eqEn : Bool
  ready : Bool := true
  pseq : Nat := 0
  useq : Nat := 0
  closing : Bool := false
deriving DecidableEq, Repr

/-- An entry of the posted side of a list: posting sequence and receive (R256). -/
structure Posted where
  fn : Nat
  list : Nat
  seq : Nat
  op : Nat
deriving DecidableEq, Repr

/-- An overflow buffer taken from a function's ring (R277): its IOVA and the value returned. -/
structure Ovf where
  iova : Nat
  value : Nat
deriving DecidableEq, Repr

/-- An unexpected header, with the payload held for it (R262, R264, R278). -/
structure Unexp where
  fn : Nat
  list : Nat
  seq : Nat
  key : PwKey
  tag : Nat
  ctx : Nat
  bits : Nat
  src : Nat
  len : Nat
  rdv : Bool
  slot : Nat
  /-- pool blocks reserved -/
  blocks : Nat := 0
  /-- segments held in pool blocks -/
  parts : List (Nat × List Byte) := []
  /-- the overflow buffer that holds the payload instead, and the segments written to it -/
  ovf : Option Ovf := none
  segs : List (Nat × Nat) := []
  /-- payload lost in the pool (R288 index 3) -/
  lost : Bool := false
deriving DecidableEq, Repr

/-- A message record: a message still missing packets (R262, R263). -/
structure MRec where
  fn : Nat
  list : Nat
  len : Nat
  /-- the receive it is bound to -/
  op : Option Nat := none
  /-- its unexpected header is stored, and that header's sequence number in its list (R256) -/
  stored : Bool := false
  useq : Nat := 0
  /-- a rendezvous header bound as it arrived: held until its pull is over (R262) -/
  rdv : Bool := false
  /-- segments accepted, and early segments held in pool blocks -/
  got : List Nat := []
  parts : List (Nat × List Byte) := []
  lastAt : Nat := 0
  /-- kind of the placement fault that it met last; 0: none -/
  fault : Nat := 0
  lost : Bool := false
deriving DecidableEq, Repr

/-- A copy of held segments into a bound receive (R265, R284). -/
structure Copy where
  op : Nat
  list : Nat
  /-- function of the list, and source of the message -/
  fn : Nat := 0
  src : Nat := 0
  parts : List (Nat × List Byte)
  blocks : Nat
  ovf : Option Ovf := none
  segs : List (Nat × Nat) := []
  /-- time and kind of the fault it met -/
  fault : Option (Nat × Nat) := none
  retryAt : Nat := 0
  reading : Option Nat := none
  lost : Bool := false
  /-- its next write waits for an atomic on a word that it overlaps (R330) -/
  onWord : Bool := false
deriving DecidableEq, Repr

/-! ## Convoys (09) -/

/-- A tree entry: parent port (none: the root) and child ports, ascending (R289). -/
structure CvTree where
  /-- `HAS_PARENT` = 1: the parent port -/
  parent : Option Nat := none
  /-- the field `PARENT`, whatever `HAS_PARENT` says -/
  parentField : Nat := 0
  /-- the child ports -/
  children : List Nat := []
deriving DecidableEq, Repr

/-- The settings of a convoy slot in effect (R291); `fns` is the mask of contributing functions. -/
structure CvCfg where
  altPresent : Bool
  eqEn : Bool
  fns : Nat
  maxRounds : Nat
  stage : Nat
  slot : Nat
  owner : Nat
  eq : Nat
  participants : Nat
  pri : CvTree
  onAlt : Bool
  alt : CvTree
deriving DecidableEq, Repr

/-- What every contribution to a round agrees on (R297). -/
structure CvParams where
  operation : Nat
  dtype : Nat
  operator : Nat
  mode : Nat
  inLen : Nat
deriving DecidableEq, Repr

/-- A local contribution to a round (R298 to R300, R307). -/
structure CvLocal where
  fn : Nat
  op : Nat
  source : Bool
  here : Bool
  index : Nat
  result : Nat
  data : List Byte := []
  /-- its bytes are staged -/
  ready : Bool := false
  /-- inputs of an allgather written to its result buffer -/
  wrote : List Nat := []
deriving DecidableEq, Repr

/-- Where an input of a round came from. -/
inductive CvFrom where
  | fn (n : Nat)
  | port (p : Nat)
deriving DecidableEq, Repr

/-- An input that a device combines: where from, contributions in it, and elements or accumulators. -/
structure CvIn where
  src : CvFrom
  count : Nat
  data : List Byte
deriving DecidableEq, Repr

/-- States of a round (R306); a `FREE` round has no entry. -/
inductive CvState where
  | opened | sent | down | retired
deriving DecidableEq, Repr

/-- What a round ended with: a result, or an abort with its detail (R307, R319). -/
structure CvRes where
  abort : Option Nat
  data : List Byte := []
  count : Nat := 0
deriving DecidableEq, Repr

/-- A round at this device. -/
structure CvRound where
  state : CvState := .opened
  params : Option CvParams := none
  locals : List CvLocal := []
  /-- inputs in the order in which they became available -/
  ins : List CvIn := []
  /-- inputs of an allgather, by index (R309) -/
  floods : Tbl Nat (List Byte) := []
  res : Option CvRes := none
  /-- the result was delivered to the local contributors (R316) -/
  delivered : Bool := false
  /-- children that sent `DONE`, with the report of a dropped copy (R311) -/
  dones : Tbl Nat (Option (Nat × Nat)) := []
  /-- child ports to which no copy was sent (R311) -/
  masked : List Nat := []
  /-- why this device wants the round aborted, and its DID (R319) -/
  cause : Option (Nat × Nat) := none
  openedAt : Nat
  /-- the wait bound has passed (R320) -/
  waited : Bool := false
  /-- device time at which the round timer started (R315) -/
  timerAt : Option Nat := none
deriving DecidableEq, Repr

/-- A valid convoy slot; states 1 `PRIMARY`, 2 `ALTERNATE`, 3 `BROKEN` (09, *Slot states*). -/
structure CvSlot where
  cfg : CvCfg
  state : Nat := 1
  wbase : Nat := 0
  rounds : Tbl Nat CvRound := []
  /-- the last report of a failed or masked port: DID and port (R313, R317) -/
  report : Option (Nat × Nat) := none
  /-- device time by which a `WINDOW` packet is due (R305) -/
  windowDue : Option Nat := none
deriving DecidableEq, Repr

/-- A result write not yet done: within one page; parked once it has faulted (R302). -/
structure CvWrite where
  slot : Nat
  round : Nat
  fn : Nat
  op : Nat
  iova : Nat
  data : List Byte
  /-- device time and kind of the first fault -/
  fault : Option (Nat × Nat) := none
  retryAt : Nat := 0
  /-- it waits for an atomic on a word that it overlaps (R330) -/
  onWord : Bool := false
deriving DecidableEq, Repr

/-! ## Routing (11) -/

/-- A congestion estimate with its stamp (R372). -/
structure Estimate where
  value : Nat
  stamp : Nat
deriving DecidableEq, Repr

/-- A quarantined prefix: output ports from the source on, and when it ends (R380). -/
structure Quar where
  ports : List Nat
  until_ : Nat
deriving DecidableEq, Repr

/-! ## Ports, lanes and junctions (12, 13, 14) -/

/-- A packet in an input buffer or an injection path (R385, R388), as it arrived: VC it arrived on (8: VCB; 9: injected), pool
charged (9: none), length, time of arrival; once routed, its output port, VC there, milestone index, and the time since which
it waits. -/
structure BufPkt where
  pkt : Pkt
  len : Nat
  vc : Nat
  pool : Nat := 9
  at_ : Nat := 0
  out : Option (Nat × Nat × Nat) := none
  since : Nat := 0
  /-- bytes that have arrived of a packet that is being received, and the output that it has started on (R388, R425) -/
  live : Option Nat := none
  going : Option Nat := none
deriving DecidableEq, Repr

/-- A packet being received (R423 to R426): VC, pool charged, length, bytes that have come, whether the input buffer shows it, or it was
dropped before its end, and the packet once a byte of it is known. -/
structure RxPart where
  vc : Nat
  pool : Nat
  len : Nat
  got : Nat := 0
  shown : Bool := false
  dropped : Bool := false
  pkt : Option Pkt := none
deriving DecidableEq, Repr

/-- A packet being sent (R423, R425): where it comes from, as it leaves, VC, pool charged, length, bytes of the stream placed (item header,
packet and padding), and for a packet that is completed with zeros the bytes of it that came. -/
structure TxPkt where
  src : Nat
  pkt : Pkt
  vc : Nat
  pool : Nat
  len : Nat
  placed : Nat := 0
  real : Option Nat := none
  poison : Bool := false
deriving DecidableEq, Repr

/-- The sender's view of a credit pool: header slots and data units advertised, charged and returned (R435). -/
structure Pool where
  advH : Nat := 0
  advD : Nat := 0
  chgH : Nat := 0
  chgD : Nat := 0
  retH : Nat := 0
  retD : Nat := 0
deriving DecidableEq, Repr

/-- What a port holds beyond its registers (R385, R387, R389, R428 to R444). -/
structure PortSt where
  /-- reserved minima of VC0 to VC7 and VCB in force: data units and header slots (R387) -/
  rsv : List (Nat × Nat) := List.replicate 8 (0x100, 0x20) ++ [(0x100, 0x40)]
  /-- input buffer, in order of arrival -/
  buf : List BufPkt := []
  /-- highest data units and header slots in use by each VC since last read (R414) -/
  hwm : List (Nat × Nat) := List.replicate 9 (0, 0)
  /-- device time of the entry into the present state -/
  since : Nat := 0
  /-- the entry into `TRAIN` was from `DOWN` or `FENCED`, or followed a `LAN` commit (R455) -/
  cold : Bool := true
  /-- the set of lanes is chosen (R455); the set, in port-lane numbers, and the candidates of this entry -/
  chosen : Bool := false
  set : List Nat := []
  cands : List Nat := []
  /-- no set was acceptable: the next choice waits for `LOCK_TMO_US` (R455) -/
  again : Bool := false
  /-- the division that the present stay in `TRAIN` applies once the input buffer is empty (R387, R441) -/
  rsvNext : Option (List (Nat × Nat)) := none
  /-- end of the grace period, and the departure that began it (R443) -/
  graceEnd : Option Nat := none
  leftAt : Nat := 0
  /-- receiver: last flit accepted, any accepted since `ALIGN`, NAK state, packet being received, discarding up to the next item start
  (R424, R429) -/
  last : Nat := 4095
  gotSeq : Bool := false
  nakArmed : Bool := true
  nakAt : Nat := 0
  part : Option RxPart := none
  skip : Bool := false
  /-- mode `S`: whether the codeword of the flit received last, the first of its two, decoded (R421) -/
  rxHalf : Option Bool := none
  /-- cumulative returned counts of pools 0 to 8, and the pools changed since they were last sent, with the time (R433, R435) -/
  retd : List (Nat × Nat) := List.replicate 9 (0, 0)
  changed : List (Nat × Nat) := []
  /-- `XOFF` last sent, own gap and thresholds (R438) -/
  xoff : Bool := false
  gap : Nat := 4
  xoffD : Nat := 0
  xoffH : Nat := 0
  /-- sender: oldest unacknowledged flit, next new one, replays without progress, times (R430) -/
  una : Nat := 0
  next : Nat := 0
  fails : Nat := 0
  progress : Nat := 0
  replayFrom : Nat := 4096
  replayAt : Nat := 0
  pools : List Pool := List.replicate 9 {}
  /-- cumulative charges after the flits sent, newest first: `SEQ` and the charges of each pool (R437) -/
  chgAt : List (Nat × List (Nat × Nat)) := []
  /-- replay buffer: the unacknowledged flits, oldest first (R428) -/
  replayBuf : List Flit := []
  /-- packet being sent; data area of the sequenced flit being filled, bytes in it, its `FIRST` and `POISON` (R423, R425) -/
  tx : Option TxPkt := none
  fill : List Piece := []
  fillLen : Nat := 0
  fillFirst : Nat := 0x1FF
  fillBad : Bool := false
  /-- transmitter: scrambler, mode `S`: first flit of the codeword being filled, codewords since the last alignment codeword (R421,
  R451, R458) -/
  scrambler : List Bool := List.replicate 58 false
  txHalf : Option (List Bool) := none
  sinceAlign : Nat := 0
  /-- no VCB packet starts before this time (R438) -/
  vcbFrom : Nat := 0
  /-- arbitration (R389): VCB grants in a row, set visited (`true`: express), deficits in bytes, last VC served of each set -/
  vcbRun : Nat := 0
  express : Bool := true
  defE : Nat := 0
  defG : Nat := 0
  rrE : Nat := 7
  rrG : Nat := 3
  /-- `ALIGN`: times of the own `INIT`s sent, newest first, own `INIT` with `SEEN` sent, the peer's received and matching, arrival of the peer's
  latest, pools it advertised, its `VCB_ONOFF` received (R440, R442) -/
  inits : List Nat := []
  seenSent : Bool := false
  peerSeen : Bool := false
  peerInitAt : Nat := 0
  advIn : List Nat := []
  onOffIn : Bool := false
  /-- `DRAIN`: a `DRAIN` block was received -/
  drainIn : Bool := false
  /-- times of the last audit, refresh and time exchange; a retrain scheduled by an audit (R435, R437, R444) -/
  auditAt : Nat := 0
  refreshAt : Nat := 0
  timeAt : Nat := 0
  due : Bool := false
  /-- time exchange: own number, own send times by number, the peer's last number and its arrival (R444) -/
  num : Nat := 0
  sentAt : List (Nat × Nat) := []
  peerNum : Option (Nat × Nat) := none
  /-- largest leaks of the audit being received: header slots, data units -/
  leakH : Int := 0
  leakD : Int := 0
deriving DecidableEq, Repr

/-- What a lane holds beyond its registers (R454 to R462). -/
structure LaneSt where
  /-- passed `MARKER`: the receiver is ready (R454) -/
  passed : Bool := false
  /-- device time of the entry into `DETECT`, and since when there is no signal -/
  detectAt : Nat := 0
  quietAt : Nat := 0
  /-- `PORT` of the lane's markers (R457) -/
  peerPort : Option Nat := none
  /-- feed-forward taps of the transmitter, and the receiver's starting point, since the last entry into training (R453) -/
  taps : List Int := []
  rxFrom : Nat := 1
  /-- what the transmitter sends -/
  sends : LaneTx := .idle
  /-- injector (R461): symbols of a single or burst still to be inverted, symbols sent since the last one of a continuous injection -/
  inject : Nat := 0
  injectPhase : Nat := 0
  /-- pattern checker (R460): error-free symbols in a row before it locks; symbols checked since it locked, which of the last 256 were in
  error, and bits checked toward the next 10^9 -/
  clean : Nat := 0
  checked : Nat := 0
  badAt : List Nat := []
  bits : Nat := 0
deriving DecidableEq, Repr

/-- An instance of the common arbiter (R396): the holder and the device time of its grant or last break point, the requesters
that wait and since when, the times until which they back off, their losses, and the grants made. -/
structure ArbInst where
  holder : Option Nat := none
  since : Nat := 0
  waits : Tbl Nat Nat := []
  back : Tbl Nat Nat := []
  losses : Tbl Nat Nat := []
  grants : Nat := 0
deriving DecidableEq, Repr

/-! ## Security (15) -/

/-- A tenancy slot (15, *Tenancies*); an absent slot has no entry. -/
structure TenSlot where
  keyLost : Bool := false
  mode : Nat
  requireIde : Bool
  owner : List Byte
  tnum : Nat
  curEpoch : Nat
  curKey : Nat
  nextValid : Bool := false
  nextEpoch : Nat := 0
  nextKey : Nat := 0
  members : Nat := 0
  /-- scheduled roll time; 0: none -/
  rollAt : Nat := 0
  /-- the roll time has passed and the old key is still held (R482) -/
  rolled : Bool := false
deriving DecidableEq, Repr

/-- A tollgate meter: rates in Mb/s, bucket sizes in bytes, actions, buckets in 1/8,000 byte with their stamp, counts
(R410 to R413). -/
structure Meter where
  en : Bool := false
  cir : Nat := 0
  pir : Nat := 0
  cbs : Nat := 0
  pbs : Nat := 0
  green : Nat := 0
  yellow : Nat := 1
  red : Nat := 2
  tc : Nat := 0
  tp : Nat := 0
  stamp : Nat := 0
  nGreen : Nat := 0
  nYellow : Nat := 0
  nRed : Nat := 0
  nActed : Nat := 0
deriving DecidableEq, Repr

/-- A key command in progress, with its arguments as they were when it was written (R473). -/
structure KeyCmd where
  op : Nat
  slot : Nat
  next : Bool
  tnum : Nat
  epoch : Nat
  mode : Nat
  requireIde : Bool
  target : Nat
  time : Nat
  blob : List Byte
deriving DecidableEq, Repr

/-! ## Faults (16) -/

/-- What is known of an error beside its page and index: access type and locator (R44), master identity (R52), EPA of the
remote master, and the unit it names (R499). -/
structure ErrAt where
  access : Nat := 11
  addr : Nat := 0
  master : Option Nat := none
  remote : Nat := 0
  unit : Option Nat := none
deriving DecidableEq, Repr

/-- The errors that the command in hand has raised in one counting window (R500): whether they made it lasting, and of the most severe
reaction among them the severity (0 report, 1 fence unit, 2 fence block, 3 chip-fatal), the error index and where it was. -/
structure Burst where
  lasting : Bool := false
  sev : Nat := 0
  idx : Nat := 0
  e : ErrAt := {}
deriving DecidableEq, Repr

/-- An open counting window (R498). -/
structure Win where
  start : Nat
  count : Nat
deriving DecidableEq, Repr

/-- Corrected errors of a row since reset C (R513). -/
structure RowCount where
  ctrl : Nat
  row : Nat
  count : Nat
deriving DecidableEq, Repr

/-! ## Management (18) -/

/-- A boot record (R540), the one taken where no copy is valid; bank states as the *Bank states* table numbers them. -/
structure BootRec where
  seq : Nat := 0
  stateA : Nat := 3
  stateB : Nat := 3
  active : Nat := 0
  trialValid : Bool := false
  trial : Nat := 0
  tried : Bool := false
deriving DecidableEq, Repr

/-- State of a bank. -/
def BootRec.bank (r : BootRec) (b : Nat) : Nat := if b = 0 then r.stateA else r.stateB

/-- The record with a bank in another state. -/
def BootRec.setBank (r : BootRec) (b v : Nat) : BootRec := if b = 0 then { r with stateA := v } else { r with stateB := v }

/-- A settings record (R553); `valid`: its `MAC` verifies. -/
structure Setting where
  version : Nat
  seq : Nat
  body : List Byte
  valid : Bool := true
deriving DecidableEq, Repr

/-- A fabric event (R559). -/
structure FabEvent where
  cls : Nat
  code : Nat
  body : List Byte := []
deriving DecidableEq, Repr

/-- An entry of the fabric-event log (R559). -/
structure LogEntry where
  srcDid : Nat
  cls : Nat
  code : Nat
  body : List Byte
deriving DecidableEq, Repr

/-- A staging in progress (R548, R549). -/
structure Staging where
  bank : Nat
  targetLen : Nat
  hasBase : Bool
  /-- initial counter block of the op stream -/
  ctrIv : List Byte
  /-- next package offset expected -/
  nextOff : Nat := 128
  /-- bytes of the target made so far -/
  made : List Byte := []
  /-- stream bytes not yet applied -/
  rest : List Byte := []
  ended : Bool := false
deriving DecidableEq, Repr

/-- A flash operation in progress, and the request that waits for it (R549, R558). -/
inductive FlashOp where
  | program (path : ReqPath) (tag : Nat)
  | readBack (path : ReqPath) (tag : Nat)
  | erase (path : ReqPath) (tag bank : Nat)
  | write (path : ReqPath) (tag bank off : Nat) (bytes : List Byte)
deriving DecidableEq, Repr

/-! ## Time (19) -/

/-- What a port knows of its neighbour's time (R578 to R583). -/
structure TimeNb where
  prio : Nat := 0
  did : Nat := 0x3FFFF
  steps : Nat := 0
  state : Nat := 0
  ppsRef : Bool := false
  seq : Nat := 0
  estErr : Nat := 0
  /-- device time at which the sequence last advanced; none: lost or never -/
  fresh : Option Nat := none
  /-- last offset measured: neighbour's time minus own -/
  offset : Int := 0
  /-- device time of that measurement -/
  offAt : Option Nat := none
deriving DecidableEq, Repr

/-! ## Effects that a command brings about after its own -/

/-- An effect that follows from what a command did, in another block, carried out before the command ends. -/
inductive Todo where
  /-- the effects of a block fence (R503, R504) -/
  | fence (page : Nat)
  /-- the effects of lifting a block fence -/
  | unfence (page : Nat)
  /-- the effects of a unit fence or of its end (R503, R508) -/
  | unitFence (page unit : Nat) (on : Bool)
  /-- spare the row of an on-package address (R513) -/
  | spare (ctrl addr : Nat)
  /-- the rest of a chip-fatal fault (R509) -/
  | fatal
  /-- record an error: page, index, access, address, remote EPA, unit plus one (R498) -/
  | err (page idx access addr remote unit : Nat)
  /-- the errors of one cycle in a window of a page end: the most severe reaction among them (R500) -/
  | lasting (page win : Nat)
  /-- start reset H of a function (R89) -/
  | resetH (fn : Nat)
  /-- packets that wait for a usable candidate are offered again (R375) -/
  | offer
  /-- a port left UP: VCB packets that wait for it, and the convoys that use it (R313, R314, R392) -/
  | portLeft (port : Nat)
  /-- `TIME` and `TIME_INFO` sent on a port; an offset measured on it; a `TIME_INFO` received on it (R444, R579, R581, R583) -/
  | sendTime (port : Nat)
  | timeOffset (port : Nat) (offset : Int)
  | timeInfo (port prio did steps state : Nat) (ppsRef : Bool) (seq estErr : Nat)
  /-- reset M of the management core, with its cause as `CRP_RST_STAT.LAST` numbers it (R573) -/
  | resetM (cause : Nat)
  /-- a packet is delivered to its consumer (R208) -/
  | deliver (key : PwKey) (rx : RxPkt)
  /-- a packet of an operation settled; an operation's packets are abandoned and it fails (R212, R216) -/
  | settled (key : PwKey) (o : Owner) (r : InFlight) (how : Settled)
  | failed (o : Owner) (status detail : Nat)
  /-- a response of a served request cannot be read again: request, and offset in it (R72, R215) -/
  | respLost (id off : Nat)
  /-- a target-fault notice for an outstanding `GET` or pull: operation tag and offset reached (R180) -/
  | faultNotice (key : PwKey) (tag reason offset : Nat)
  /-- a compatibility queue pair enters `ERROR` (R240) -/
  | lqpError (n : Nat) (cause : Option Nat := none)
  /-- the ports of a convoy slot are looked at; the root restarts or breaks it (R313 to R317) -/
  | cvLinks (slot : Nat)
  | cvTrigger (slot tree : Nat) (report : Option (Nat × Nat))
  /-- the sample record of a tagged operation that is over (R536) -/
  | sample (o : Op)
  /-- wake the device (R564, R571) -/
  | wake (cause : Nat)
  /-- firmware brings up a page after reset C or W (R576) -/
  | bringUp (page : Nat)
  /-- a request of a requester that the watchdog has fenced refused: page, instance, requester (R400) -/
  | refusedReq (page inst req : Nat) (master : Option Nat)
  | walkRefused (id : Nat)
  | contextLost (key : PwKey)
  /-- a host write of a function that its port cannot send: its address (R72) -/
  | lostWrite (fn addr : Nat)
  /-- the host-bus traffic of a function goes on: atomics whose write waited for it (R79, R183) -/
  | atomicWrites (fn : Nat)
  /-- copies and convoy results that waited for an atomic's word are tried again (R330) -/
  | words
  /-- a plain `UNLOCK` for a grant that came too late, after the grant's acknowledgement (R348) -/
  | unlock (key : PwKey) (slot rkey remote : Nat)
deriving DecidableEq, Repr

end Sys2Proof.Machine
end

