-- ==== Sys2Proof/Machine/Arith.lean ====
section
/-! DEFINITION. Machine/Arith.lean: the arithmetic of atomics and convoys: integers, and the floating-point formats with exact
values and one rounding (R302 to R304, R326, R327, R329). -/

namespace Sys2Proof.Machine

/-- A floating-point format: exponent bits, fraction bits, and whether it has infinities (`FP8_E4M3` has none). -/
structure Fmt where
  ebits : Nat
  mbits : Nat
  inf : Bool := true
deriving DecidableEq, Repr

def fmtFp64 : Fmt := { ebits := 11, mbits := 52 }
def fmtFp32 : Fmt := { ebits := 8, mbits := 23 }
def fmtFp16 : Fmt := { ebits := 5, mbits := 10 }
def fmtBf16 : Fmt := { ebits := 8, mbits := 7 }
def fmtE5m2 : Fmt := { ebits := 5, mbits := 2 }
def fmtE4m3 : Fmt := { ebits := 4, mbits := 3, inf := false }

/-- Width of a format in bits. -/
def Fmt.width (f : Fmt) : Nat := f.ebits + f.mbits + 1

/-- Magnitude bits of the first pattern that is not finite: infinity, or the NaN of a format without infinities. -/
def Fmt.top (f : Fmt) : Nat := if f.inf then (2 ^ f.ebits - 1) * 2 ^ f.mbits else 2 ^ (f.ebits + f.mbits) - 1

/-- The canonical quiet NaN (R303). -/
def Fmt.nan (f : Fmt) : Nat := if f.inf then f.top + 2 ^ (f.mbits - 1) else f.top

/-- Sign of a pattern: `true` for negative. -/
def Fmt.neg (f : Fmt) (v : Nat) : Bool := bitOf v (f.ebits + f.mbits)

/-- Magnitude bits of a pattern. -/
def Fmt.mag (f : Fmt) (v : Nat) : Nat := v % 2 ^ (f.ebits + f.mbits)

/-- Is a pattern a NaN? -/
def Fmt.isNan (f : Fmt) (v : Nat) : Bool := if f.inf then decide (f.top < f.mag v) else f.mag v == f.top

/-- Is a pattern an infinity? -/
def Fmt.isInf (f : Fmt) (v : Nat) : Bool := f.inf && f.mag v == f.top

/-- Exact value of a finite magnitude, in units of the smallest subnormal. -/
def Fmt.units (f : Fmt) (m : Nat) : Nat :=
  if m < 2 ^ f.mbits then m else (2 ^ f.mbits + m % 2 ^ f.mbits) * 2 ^ (m / 2 ^ f.mbits - 1)

/-- Exact value of a finite pattern, in units of the smallest subnormal. -/
def Fmt.value (f : Fmt) (v : Nat) : Int := if f.neg v then -(f.units (f.mag v) : Int) else (f.units (f.mag v) : Int)

/-- Magnitude bits nearest to an exact magnitude, ties to even; it may reach or pass `top` (R303). -/
def Fmt.roundMag (f : Fmt) (m : Nat) : Nat :=
  if m < 2 ^ (f.mbits + 1) then m
  else
    let sh := m.log2 - f.mbits
    let q := m / 2 ^ sh
    let r := m % 2 ^ sh
    let half := 2 ^ (sh - 1)
    sh * 2 ^ f.mbits + (if half < r || (r == half && q % 2 == 1) then q + 1 else q)

/-- The pattern nearest to an exact value, with overflow to infinity, or to the NaN of a format without infinities;
`zneg` is the sign of a zero. -/
def Fmt.round (f : Fmt) (x : Int) (zneg : Bool) : Nat :=
  let m := f.roundMag x.natAbs
  let sign := if x < 0 || (x == 0 && zneg) then 2 ^ (f.ebits + f.mbits) else 0
  if f.top ≤ m then (if f.inf then sign + f.top else f.nan) else sign + m

/-- The sum of two patterns, rounded once (R303). -/
def Fmt.add (f : Fmt) (a b : Nat) : Nat :=
  if f.isNan a || f.isNan b then f.nan
  else if f.isInf a && f.isInf b then (if f.neg a == f.neg b then a % 2 ^ f.width else f.nan)
  else if f.isInf a then a % 2 ^ f.width
  else if f.isInf b then b % 2 ^ f.width
  else f.round (f.value a + f.value b) (f.neg a && f.neg b)

/-- The order of patterns that are not NaN: −0 below +0. -/
def Fmt.key (f : Fmt) (v : Nat) : Int := if f.neg v then -(f.mag v : Int) - 1 else (f.mag v : Int)

/-- IEEE 754-2019 minimum (R302, R329). -/
def Fmt.min (f : Fmt) (a b : Nat) : Nat :=
  if f.isNan a || f.isNan b then f.nan else if f.key a ≤ f.key b then a % 2 ^ f.width else b % 2 ^ f.width

/-- IEEE 754-2019 maximum (R302, R329). -/
def Fmt.max (f : Fmt) (a b : Nat) : Nat :=
  if f.isNan a || f.isNan b then f.nan else if f.key a ≤ f.key b then b % 2 ^ f.width else a % 2 ^ f.width

/-- How an element is read: integer of a width, signed or not, or a floating-point format. -/
inductive Elem where
  | int (width : Nat) (signed : Bool)
  | fp (f : Fmt)
deriving DecidableEq, Repr

/-- Width of an element in bits. -/
def Elem.width : Elem → Nat
  | .int w _ => w
  | .fp f => f.width

/-- Does `a` come before `b` among integers of a type? -/
def intLe (w : Nat) (signed : Bool) (a b : Nat) : Bool :=
  if signed then decide (toSigned w a ≤ toSigned w b) else decide (a % 2 ^ w ≤ b % 2 ^ w)

/-- Sum. -/
def Elem.add (e : Elem) (a b : Nat) : Nat :=
  match e with
  | .int w _ => wrapAdd w a b
  | .fp f => f.add a b

/-- Minimum. -/
def Elem.min (e : Elem) (a b : Nat) : Nat :=
  match e with
  | .int w sg => if intLe w sg a b then a % 2 ^ w else b % 2 ^ w
  | .fp f => f.min a b

/-- Maximum. -/
def Elem.max (e : Elem) (a b : Nat) : Nat :=
  match e with
  | .int w sg => if intLe w sg a b then b % 2 ^ w else a % 2 ^ w
  | .fp f => f.max a b

/-! ## Atomics (R326, R327, R329) -/

/-- Operand type of an atomic; none for a reserved one. -/
def atomicElem (t : Nat) : Option Elem :=
  match t with
  | 0 => some (.int 32 true) | 1 => some (.int 64 true) | 2 => some (.int 32 false) | 3 => some (.int 64 false)
  | 4 => some (.fp fmtFp64) | 5 => some (.fp fmtFp32) | _ => none

/-- Is a combination of operator and type permitted, with nothing above (R327)? -/
def atomicOk (len : Nat) : Bool :=
  decide (len < 4096) && (match atomicElem (len / 256) with
    | none => false
    | some e => decide (len % 256 < 8) && (match e with
      | .int _ _ => true
      | .fp _ => !decide (3 ≤ len % 256 ∧ len % 256 ≤ 5)))

/-- Width in bytes of the operand type in `LENGTH`. -/
def atomicWidth (len : Nat) : Nat := ((atomicElem (len / 256 % 16)).map Elem.width).getD 64 / 8

/-- Does the operator use a compare value? -/
def atomicCompares (len : Nat) : Bool := len % 256 == 7

/-- The new value of an atomic (R326, R329). -/
def atomicNew (len old o0 o1 : Nat) : Nat :=
  match atomicElem (len / 256 % 16) with
  | none => old
  | some e =>
    let m := 2 ^ e.width
    let x := o0 % m
    match len % 256 with
    | 0 => e.add old x
    | 1 => e.min old x
    | 2 => e.max old x
    | 3 => old &&& x
    | 4 => old ||| x
    | 5 => old ^^^ x
    | 6 => x
    | 7 => if old % m = o1 % m then x else old
    | _ => old

end Sys2Proof.Machine
end

