-- ==== Sys2Proof/Config.lean ====
section
/-! DEFINITION. Config.lean: the free values and the published functions of the model: constants without a body, so that
nothing can be proved of any value of theirs (log entries 4 and 6). -/

namespace Sys2Proof

/-- A value that the spec leaves open, drawn fresh: applied to the state's counter `fresh` (log entry 4). -/
opaque Config.free : Nat → Nat

/-- What a double word of configuration space reads as that the spec does not describe: function and offset (R63; log entry 36). -/
opaque Config.cfgRegister : Nat → Nat → Nat

/-- Issue cycles of a segment with so many bytes of payload: the spec gives no count of them (R530; log entry 53). -/
opaque Config.issueCycles : Nat → Nat

/-- AES-256-GCM (R466, R485; NIST SP 800-38D): the tag of a packet body under a key, an IV and a tenancy mode (log entry 6). -/
opaque Config.gcmTag (key iv mode : Nat) (body : Body) : Nat

/-- AES-256-GCM (R485): byte `i` of the transport header and payload of a packet body with a tag, as a link carries it, where the tenancy
mode encrypts it (log entry 6). -/
opaque Config.cipherByte (body : Body) (tag i : Nat) : Byte

/-- The parity symbols of a codeword of FEC mode `L` (0) or `S` (1) with these data symbols: RS(272,257) or RS(544,514); the spec gives no
generator polynomial (R427; log entry 52). -/
opaque Config.fecParity (mode : Nat) (data : List Nat) : List Nat

/-- ECDSA P-384 with SHA-384 (R466; FIPS 186-5): does the signature verify under the key? (log entry 6) -/
opaque Config.ecdsaVerify (key msg sig : List Byte) : Bool

/-- SHA-384 (FIPS 180-4) (log entry 6). -/
opaque Config.sha384 (msg : List Byte) : List Byte

/-- Wrapping of a tenancy key (R474; NIST SP 800-56A, RFC 5869, SP 800-38D): the 48 bytes of `WRAPPED` and `WTAG`, from the serial
of the target, the additional data and the key (log entry 6). -/
opaque Config.wrapSeal (target : Nat) (aad : List Byte) (key : Nat) : List Byte

/-- The key that a blob opens to under a private wrap key, if its tag verifies (R474, R476; log entry 6). -/
opaque Config.wrapOpen (key : Nat) (blob : List Byte) : Option Nat

/-- The code of the mask ROM (R467): the spec gives none of it. -/
opaque Config.romCode : List Byte

/-- The attestation public key that the certificate of another device with a serial number certifies (R466, R474; log entry 6). -/
opaque Config.attestKey (serial : Nat) : List Byte

/-- The private attestation key and the private wrap key that a device derives from its secret seed (R466; log entry 6). -/
opaque Config.deriveAttest (seed : Nat) : Nat
opaque Config.deriveWrap (seed : Nat) : Nat

/-- The P-384 public key of a private key (R466; FIPS 186-5; log entry 6). -/
opaque Config.p384Public (key : Nat) : List Byte

/-- The ECDSA P-384 signature of a message under a private key (R466; FIPS 186-5; log entry 6). -/
opaque Config.ecdsaSign (key : Nat) (msg : List Byte) : List Byte

/-- The public key of Kramund's root, at which every chain ends, and what its certificate authority signs (R466; log entry 6). -/
opaque Config.kramundRoot : List Byte
opaque Config.kramundSign (msg : List Byte) : List Byte

/-- Does a debug token's signature verify under Kramund's debug authority: scope, serial, nonce (R489; log entry 6)? -/
opaque Config.debugToken (scope serial nonce : Nat) (sig : List Byte) : Bool

/-- AES-256-CTR under the firmware image key of a fuse revision (18 *Images*, R549): byte `i` of the key stream of an initial
counter block (log entry 6). -/
opaque Config.imageStream (rev : Nat) (block : List Byte) (i : Nat) : Byte

/-- The GCM tag of an encrypted image body under that key and an IV (R541; log entry 6). -/
opaque Config.imageTag (rev : Nat) (iv body : List Byte) : List Byte

/-- A settings record of a type converted to the running image's format (R556); the spec does not give the conversion
(log entry 15). -/
opaque Config.migrate (type version : Nat) (body : List Byte) : List Byte

/-- The `HBM3E` interface clock in MHz, which the spec does not give (01 *Clock islands*; log entry 10). -/
opaque Config.memMhz : Nat

/-- The row of an on-package address (R513); the spec gives no size of a row (log entry 12). -/
opaque Config.memRow : Nat → Nat

/-- The first on-package address of a row of a controller (R44, R513; log entry 12). -/
opaque Config.rowAddr : Nat → Nat → Nat

/-- The body of a spare map record, from the rows spared (R514, R553); the spec gives no layout (log entry 12). -/
opaque Config.spareMapBody (rows : List Nat) : List Byte

/-- One step of a 32-bit LFSR with polynomial x^32 + x^22 + x^2 + x + 1 (R535); the spec does not give its form (log entry 13). -/
opaque Config.lfsrStep : Nat → Nat

/-- Kramund's firmware public key, whose digest the ROM holds (R541; log entry 6). -/
opaque Config.kramundKey : List Byte

end Sys2Proof
end

