-- ==== Sys2Proof/Machine/Crc.lean ====
section
/-! DEFINITION. Machine/Crc.lean: the CRC-32 of IEEE 802.3, which boot records and flits carry (13 R422; 18 R540). -/

namespace Sys2Proof.Machine

/-- One bit of the reflected division by the polynomial 0x04C11DB7. -/
def crcBit (c : Nat) : Nat := if c % 2 = 1 then (c / 2) ^^^ 0xEDB88320 else c / 2

/-- One byte of it. -/
def crcByte (c : Nat) (b : Byte) : Nat := crcBit (crcBit (crcBit (crcBit (crcBit (crcBit (crcBit (crcBit (c ^^^ b.toNat))))))))

/-- CRC-32 of IEEE 802.3 of bytes in order: initial value and final inversion of all ones, each byte from its least significant bit. -/
def crc32 (b : List Byte) : Nat := b.foldl crcByte 0xFFFFFFFF ^^^ 0xFFFFFFFF

end Sys2Proof.Machine
end

