-- ==== Sys2Proof/Machine/Reg.lean ====
section
/-! DEFINITION. Machine/Reg.lean: how the model names a field of a BAR0 register, and the page map (R28, R32, R37). -/

namespace Sys2Proof

/-- Access codes of R2. -/
inductive Access where
  | ro | rw | rws | w1c | w1s | wo | rc
deriving DecidableEq, Repr

/-- The resets of R5: cold, warm, management, host-port and block. -/
inductive ResetKind where
  | c | w | m | h | b
deriving DecidableEq, Repr

/-- A field of a register, for every instance of its page (or function window) and every index of its register. -/
structure Fld where
  /-- first page that holds the register -/
  page : Nat
  /-- bytes from one instance (page or function window) to the next -/
  inst : Nat
  /-- number of instances -/
  insts : Nat
  /-- offset in the page, instance 0, index 0 -/
  off : Nat
  /-- bytes from one index to the next -/
  stride : Nat
  /-- first index -/
  first : Nat
  /-- number of indices -/
  count : Nat
  /-- lowest bit -/
  lo : Nat
  /-- width in bits -/
  width : Nat
  acc : Access
  clr : List ResetKind
  rst : Nat
deriving DecidableEq, Repr

/-- BAR0 offset of the register that holds the field. -/
def Fld.addr (f : Fld) (i j : Nat) : Nat := f.page * 65536 + f.off + i * f.inst + j * f.stride

/-- The place of a field in the register bank: eight times the register's BAR0 offset, plus the lowest bit. -/
def Fld.key (f : Fld) (i j : Nat) : Nat := f.addr i j * 8 + f.lo

/-- The blocks of the device (R1 table *Blocks*, and the DEV page). -/
inductive Block where
  | dev | fcl | crp | tim | mgt | sec | pmu | hif | xlt | cmd | txe | rxe | pwy | mtc | col | atm | tmg | rtb | xbr | lnk | lan | mem
deriving DecidableEq, Repr

/-- The block of a BAR0 page, with the page's instance number; none for a reserved page. -/
def pageBlock (p : Nat) : Option (Block × Nat) :=
  if p = 0 then some (.dev, 0) else if p = 1 then some (.fcl, 0) else if p = 2 then some (.crp, 0)
  else if p = 3 then some (.tim, 0) else if p = 4 then some (.mgt, 0) else if p = 5 then some (.sec, 0)
  else if p = 6 then some (.pmu, 0) else if 8 ≤ p ∧ p ≤ 0xB then some (.hif, p - 8)
  else if p = 0x10 then some (.xlt, 0) else if p = 0x11 then some (.cmd, 0) else if p = 0x12 then some (.txe, 0)
  else if p = 0x13 then some (.rxe, 0) else if p = 0x14 then some (.pwy, 0) else if p = 0x15 then some (.mtc, 0)
  else if p = 0x16 then some (.col, 0) else if p = 0x17 then some (.atm, 0) else if p = 0x18 then some (.tmg, 0)
  else if p = 0x19 then some (.rtb, 0) else if 0x20 ≤ p ∧ p ≤ 0x2F then some (.xbr, p - 0x20)
  else if 0x40 ≤ p ∧ p ≤ 0xBF then some (.lnk, p - 0x40) else if 0xC0 ≤ p ∧ p ≤ 0xDF then some (.lan, p - 0xC0)
  else if p = 0xE0 ∨ p = 0xE1 then some (.mem, p - 0xE0) else none

/-- The first page of a block. -/
def Block.page : Block → Nat
  | .dev => 0 | .fcl => 1 | .crp => 2 | .tim => 3 | .mgt => 4 | .sec => 5 | .pmu => 6 | .hif => 8 | .xlt => 0x10
  | .cmd => 0x11 | .txe => 0x12 | .rxe => 0x13 | .pwy => 0x14 | .mtc => 0x15 | .col => 0x16 | .atm => 0x17
  | .tmg => 0x18 | .rtb => 0x19 | .xbr => 0x20 | .lnk => 0x40 | .lan => 0xC0 | .mem => 0xE0

/-- The type code of `BLK_ID.TYPE` (02, *Block type codes*). -/
def Block.type : Block → Nat
  | .dev => 1 | .fcl => 2 | .crp => 3 | .tim => 4 | .mgt => 5 | .sec => 6 | .pmu => 7 | .hif => 8 | .xlt => 9
  | .cmd => 0xA | .txe => 0xB | .rxe => 0xC | .pwy => 0xD | .mtc => 0xE | .col => 0xF | .atm => 0x10
  | .tmg => 0x11 | .rtb => 0x12 | .xbr => 0x13 | .lnk => 0x14 | .lan => 0x15 | .mem => 0x16

/-- The number of pages of a block. -/
def Block.pages : Block → Nat
  | .hif => 4 | .xbr => 16 | .lnk => 128 | .lan => 32 | .mem => 2 | _ => 1

/-- Every block, in page order. -/
def Block.all : List Block :=
  [.dev, .fcl, .crp, .tim, .mgt, .sec, .pmu, .hif, .xlt, .cmd, .txe, .rxe, .pwy, .mtc, .col, .atm, .tmg, .rtb, .xbr,
   .lnk, .lan, .mem]

/-- The pages of a block, in order. -/
def Block.pageList (b : Block) : List Nat := (List.range b.pages).map fun i => b.page + i

/-- Every page that is not reserved. -/
def allPages : List Nat := Block.all.flatMap Block.pageList

/-- Does the page own a common arbiter window? (R395) -/
def Block.arb : Block → Bool
  | .hif | .xlt | .sec | .mem => true
  | _ => false

/-- Does the page hold per-function windows? (02 *Per-function windows*) -/
def Block.fnWin : Block → Bool
  | .cmd | .xlt | .mtc | .atm | .pmu | .hif => true
  | _ => false

/-- `BLK_CAP.UNITS`: units with a fence of their own (R499, R502): the lanes of a group and the crypto pipelines. -/
def Block.units : Block → Nat
  | .lan => 4 | .sec => 48 | _ => 0

/-- Can the block never be fenced? (R502) -/
def Block.unfenceable : Block → Bool
  | .dev | .fcl | .crp | .tim | .mgt => true
  | _ => false

/-- `BLK_CAP.BRST` (02): 0 in `DEV`, `FCL`, `CRP` and `TIM`. -/
def Block.brst : Block → Bool
  | .dev | .fcl | .crp | .tim => false
  | _ => true

/-- First counter of a block, and counters of each instance (R528). -/
def Block.events : Block → Nat × Nat
  | .hif => (0, 16) | .xlt => (64, 32) | .cmd => (96, 64) | .txe => (160, 16) | .rxe => (224, 8) | .pwy => (256, 64)
  | .mtc => (320, 32) | .col => (384, 16) | .atm => (416, 16) | .tmg => (432, 8) | .rtb => (464, 16) | .sec => (480, 32)
  | .xbr => (512, 16) | .lnk => (768, 4) | .lan => (1280, 4) | .mem => (1408, 16) | .mgt => (1440, 16)
  | .fcl => (1456, 8) | .crp => (1464, 8) | .tim => (1472, 8) | .pmu => (1480, 8) | .dev => (0, 0)

/-- The page of an instance of a block: pipes and units share their block's page. -/
def Block.pageOf (b : Block) (i : Nat) : Nat := if b.pages = 1 then b.page else b.page + i

end Sys2Proof
end

