-- ==== Sys2Proof/Machine/Fields.lean ====
section
/-! DEFINITION. Machine/Fields.lean: every field of every BAR0 register, from the offset tables and the field tables of
spec/ (access code, reset value, resets that clear it; R2, R5). A register with an index (k, p, l, ...) and a page with
several instances have one constant for all of them: the instance and the index are arguments where it is used. -/

namespace Sys2Proof.F

/-- BLK_ID.TYPE, 02_register_model.md -/
def BLK_ID_TYPE : Fld := ⟨0, 65536, 1024, 0x0, 0, 0, 1, 0, 16, .ro, [.c], 0x0⟩
/-- BLK_ID.INSTANCE, 02_register_model.md -/
def BLK_ID_INSTANCE : Fld := ⟨0, 65536, 1024, 0x0, 0, 0, 1, 16, 8, .ro, [.c], 0x0⟩
/-- BLK_ID.VER_MAJOR, 02_register_model.md -/
def BLK_ID_VER_MAJOR : Fld := ⟨0, 65536, 1024, 0x0, 0, 0, 1, 24, 8, .ro, [.c], 0x0⟩
/-- BLK_ID.VER_MINOR, 02_register_model.md -/
def BLK_ID_VER_MINOR : Fld := ⟨0, 65536, 1024, 0x0, 0, 0, 1, 32, 8, .ro, [.c], 0x0⟩
/-- BLK_CAP.BRST, 02_register_model.md -/
def BLK_CAP_BRST : Fld := ⟨0, 65536, 1024, 0x8, 0, 0, 1, 0, 1, .ro, [.c], 0x0⟩
/-- BLK_CAP.SHADOW, 02_register_model.md -/
def BLK_CAP_SHADOW : Fld := ⟨0, 65536, 1024, 0x8, 0, 0, 1, 1, 1, .ro, [.c], 0x0⟩
/-- BLK_CAP.ARB, 02_register_model.md -/
def BLK_CAP_ARB : Fld := ⟨0, 65536, 1024, 0x8, 0, 0, 1, 2, 1, .ro, [.c], 0x0⟩
/-- BLK_CAP.FNWIN, 02_register_model.md -/
def BLK_CAP_FNWIN : Fld := ⟨0, 65536, 1024, 0x8, 0, 0, 1, 3, 1, .ro, [.c], 0x0⟩
/-- BLK_CAP.UNITS, 02_register_model.md -/
def BLK_CAP_UNITS : Fld := ⟨0, 65536, 1024, 0x8, 0, 0, 1, 8, 8, .ro, [.c], 0x0⟩
/-- BLK_CAP.ERR_TOP, 02_register_model.md -/
def BLK_CAP_ERR_TOP : Fld := ⟨0, 65536, 1024, 0x8, 0, 0, 1, 16, 5, .ro, [.c], 0x0⟩
/-- BLK_CTL.EN, 02_register_model.md -/
def BLK_CTL_EN : Fld := ⟨0, 65536, 1024, 0x10, 0, 0, 1, 0, 1, .rw, [.c, .w, .b], 0x0⟩
/-- BLK_CTL.FENCE, 02_register_model.md -/
def BLK_CTL_FENCE : Fld := ⟨0, 65536, 1024, 0x10, 0, 0, 1, 1, 1, .rw, [.c, .w], 0x0⟩
/-- BLK_CTL.RST, 02_register_model.md -/
def BLK_CTL_RST : Fld := ⟨0, 65536, 1024, 0x10, 0, 0, 1, 2, 1, .wo, [], 0x0⟩
/-- BLK_STAT.READY, 02_register_model.md -/
def BLK_STAT_READY : Fld := ⟨0, 65536, 1024, 0x18, 0, 0, 1, 0, 1, .ro, [.c, .w, .b, .h], 0x0⟩
/-- BLK_STAT.FENCED, 02_register_model.md -/
def BLK_STAT_FENCED : Fld := ⟨0, 65536, 1024, 0x18, 0, 0, 1, 1, 1, .ro, [.c, .w], 0x0⟩
/-- BLK_STAT.FAULT_FENCED, 02_register_model.md -/
def BLK_STAT_FAULT_FENCED : Fld := ⟨0, 65536, 1024, 0x18, 0, 0, 1, 2, 1, .ro, [.c, .w], 0x0⟩
/-- BLK_STAT.UNIT_FENCED, 02_register_model.md -/
def BLK_STAT_UNIT_FENCED : Fld := ⟨0, 65536, 1024, 0x18, 0, 0, 1, 3, 1, .ro, [.c, .w], 0x0⟩
/-- BLK_STAT.RESET_BUSY, 02_register_model.md -/
def BLK_STAT_RESET_BUSY : Fld := ⟨0, 65536, 1024, 0x18, 0, 0, 1, 4, 1, .ro, [.c, .w], 0x0⟩
/-- BLK_STAT.GATED_ACCESS, 02_register_model.md -/
def BLK_STAT_GATED_ACCESS : Fld := ⟨0, 65536, 1024, 0x18, 0, 0, 1, 5, 1, .w1c, [.c, .w], 0x0⟩
/-- ERR_STAT.ERR, 02_register_model.md -/
def ERR_STAT_ERR : Fld := ⟨0, 65536, 1024, 0x20, 0, 0, 1, 0, 32, .w1c, [.c], 0x0⟩
/-- ERR_MASK.MASK, 02_register_model.md -/
def ERR_MASK_MASK : Fld := ⟨0, 65536, 1024, 0x28, 0, 0, 1, 0, 32, .rw, [.c, .w], 0x0⟩
/-- ERR_CLASS.REACT, 02_register_model.md -/
def ERR_CLASS_REACT : Fld := ⟨0, 65536, 1024, 0x30, 0, 0, 1, 0, 64, .rw, [.c, .w], 0x0⟩
/-- ERR_FIRST_ADDR.ADDR, 02_register_model.md -/
def ERR_FIRST_ADDR_ADDR : Fld := ⟨0, 65536, 1024, 0x38, 0, 0, 1, 0, 64, .ro, [.c], 0x0⟩
/-- ERR_FIRST_INFO.MASTER, 02_register_model.md -/
def ERR_FIRST_INFO_MASTER : Fld := ⟨0, 65536, 1024, 0x40, 0, 0, 1, 0, 8, .ro, [.c], 0x0⟩
/-- ERR_FIRST_INFO.ACCESS, 02_register_model.md -/
def ERR_FIRST_INFO_ACCESS : Fld := ⟨0, 65536, 1024, 0x40, 0, 0, 1, 8, 4, .ro, [.c], 0x0⟩
/-- ERR_FIRST_INFO.INDEX, 02_register_model.md -/
def ERR_FIRST_INFO_INDEX : Fld := ⟨0, 65536, 1024, 0x40, 0, 0, 1, 16, 5, .ro, [.c], 0x0⟩
/-- ERR_FIRST_INFO.REMOTE_EPA, 02_register_model.md -/
def ERR_FIRST_INFO_REMOTE_EPA : Fld := ⟨0, 65536, 1024, 0x40, 0, 0, 1, 32, 21, .ro, [.c], 0x0⟩
/-- ERR_FIRST_INFO.MORE, 02_register_model.md -/
def ERR_FIRST_INFO_MORE : Fld := ⟨0, 65536, 1024, 0x40, 0, 0, 1, 62, 1, .ro, [.c], 0x0⟩
/-- ERR_FIRST_INFO.VALID, 02_register_model.md -/
def ERR_FIRST_INFO_VALID : Fld := ⟨0, 65536, 1024, 0x40, 0, 0, 1, 63, 1, .w1c, [.c], 0x0⟩
/-- ERR_FIRST_TIME.TIME, 02_register_model.md -/
def ERR_FIRST_TIME_TIME : Fld := ⟨0, 65536, 1024, 0x48, 0, 0, 1, 0, 64, .ro, [.c], 0x0⟩
/-- ERR_WINDOW.LENGTH, 02_register_model.md -/
def ERR_WINDOW_LENGTH : Fld := ⟨0, 65536, 1024, 0x50, 0, 0, 1, 0, 24, .rw, [.c, .w], 0xf4240⟩
/-- ERR_WINDOW.THRESHOLD, 02_register_model.md -/
def ERR_WINDOW_THRESHOLD : Fld := ⟨0, 65536, 1024, 0x50, 0, 0, 1, 32, 8, .rw, [.c, .w], 0x10⟩
/-- ERR_COUNT.IN_WINDOW, 02_register_model.md -/
def ERR_COUNT_IN_WINDOW : Fld := ⟨0, 65536, 1024, 0x58, 0, 0, 1, 0, 16, .ro, [.c, .w, .b], 0x0⟩
/-- ERR_COUNT.TOTAL, 02_register_model.md -/
def ERR_COUNT_TOTAL : Fld := ⟨0, 65536, 1024, 0x58, 0, 0, 1, 32, 16, .ro, [.c], 0x0⟩
/-- PWR_CTL.AUTO_GATE, 02_register_model.md -/
def PWR_CTL_AUTO_GATE : Fld := ⟨0, 65536, 1024, 0x70, 0, 0, 1, 0, 1, .rw, [.c, .w], 0x1⟩
/-- PWR_CTL.DOMAIN, 02_register_model.md -/
def PWR_CTL_DOMAIN : Fld := ⟨0, 65536, 1024, 0x70, 0, 0, 1, 8, 2, .ro, [.c, .w], 0x0⟩
/-- EVT_BASE.FIRST, 02_register_model.md -/
def EVT_BASE_FIRST : Fld := ⟨0, 65536, 1024, 0x78, 0, 0, 1, 0, 11, .ro, [.c], 0x0⟩
/-- EVT_BASE.COUNT, 02_register_model.md -/
def EVT_BASE_COUNT : Fld := ⟨0, 65536, 1024, 0x78, 0, 0, 1, 16, 11, .ro, [.c], 0x0⟩
/-- SHADOW_CMT.CMT, 02_register_model.md -/
def SHADOW_CMT_CMT : Fld := ⟨0, 65536, 1024, 0x60, 0, 0, 1, 0, 1, .wo, [], 0x0⟩
/-- SHADOW_CMT.DISCARD, 02_register_model.md -/
def SHADOW_CMT_DISCARD : Fld := ⟨0, 65536, 1024, 0x60, 0, 0, 1, 1, 1, .wo, [], 0x0⟩
/-- SHADOW_STAT.PENDING, 02_register_model.md -/
def SHADOW_STAT_PENDING : Fld := ⟨0, 65536, 1024, 0x68, 0, 0, 1, 0, 1, .ro, [.c, .w, .b], 0x0⟩
/-- SHADOW_STAT.BUSY, 02_register_model.md -/
def SHADOW_STAT_BUSY : Fld := ⟨0, 65536, 1024, 0x68, 0, 0, 1, 1, 1, .ro, [.c, .w, .b], 0x0⟩
/-- SHADOW_STAT.REFUSED, 02_register_model.md -/
def SHADOW_STAT_REFUSED : Fld := ⟨0, 65536, 1024, 0x68, 0, 0, 1, 2, 1, .ro, [.c, .w, .b], 0x0⟩
/-- SHADOW_STAT.REFUSE_CODE, 02_register_model.md -/
def SHADOW_STAT_REFUSE_CODE : Fld := ⟨0, 65536, 1024, 0x68, 0, 0, 1, 8, 8, .ro, [.c, .w, .b], 0x0⟩
/-- SHADOW_STAT.COUNT, 02_register_model.md -/
def SHADOW_STAT_COUNT : Fld := ⟨0, 65536, 1024, 0x68, 0, 0, 1, 16, 16, .ro, [.c, .w, .b], 0x0⟩
/-- ARB_CTL.NTH, 12_router_core.md -/
def ARB_CTL_NTH : Fld := ⟨0, 65536, 1024, 0x800, 0, 0, 1, 0, 7, .rws, [.c, .w], 0x8⟩
/-- ARB_CTL.WDOG_EN, 12_router_core.md -/
def ARB_CTL_WDOG_EN : Fld := ⟨0, 65536, 1024, 0x800, 0, 0, 1, 7, 1, .rws, [.c, .w], 0x1⟩
/-- ARB_CTL.WDOG_LIMIT, 12_router_core.md -/
def ARB_CTL_WDOG_LIMIT : Fld := ⟨0, 65536, 1024, 0x800, 0, 0, 1, 16, 24, .rws, [.c, .w], 0x10000⟩
/-- ARB_STAT.HOLDER, 12_router_core.md -/
def ARB_STAT_HOLDER : Fld := ⟨0, 65536, 1024, 0x808, 0, 0, 1, 0, 6, .ro, [.c, .w, .b], 0x0⟩
/-- ARB_STAT.BUSY, 12_router_core.md -/
def ARB_STAT_BUSY : Fld := ⟨0, 65536, 1024, 0x808, 0, 0, 1, 6, 1, .ro, [.c, .w, .b], 0x0⟩
/-- ARB_STAT.WAITING, 12_router_core.md -/
def ARB_STAT_WAITING : Fld := ⟨0, 65536, 1024, 0x808, 0, 0, 1, 8, 7, .ro, [.c, .w, .b], 0x0⟩
/-- ARB_FENCED.FENCED, 12_router_core.md -/
def ARB_FENCED_FENCED : Fld := ⟨0, 65536, 1024, 0x810, 0, 0, 1, 0, 64, .w1c, [.c, .w], 0x0⟩
/-- ARB_GRANTS.GRANTS, 12_router_core.md -/
def ARB_GRANTS_GRANTS : Fld := ⟨0, 65536, 1024, 0x818, 0, 0, 1, 0, 32, .rc, [.c, .w, .b], 0x0⟩
/-- ARB_GRANTS.RESERVED, 12_router_core.md -/
def ARB_GRANTS_RESERVED : Fld := ⟨0, 65536, 1024, 0x818, 0, 0, 1, 32, 32, .rc, [.c, .w, .b], 0x0⟩
/-- ARB_WAIT_HWM.WAIT_HWM, 12_router_core.md -/
def ARB_WAIT_HWM_WAIT_HWM : Fld := ⟨0, 65536, 1024, 0x820, 0, 0, 1, 0, 32, .rc, [.c, .w, .b], 0x0⟩
/-- ARB_WDOG.LAST, 12_router_core.md -/
def ARB_WDOG_LAST : Fld := ⟨0, 65536, 1024, 0x828, 0, 0, 1, 0, 6, .ro, [.c, .w], 0x0⟩
/-- ARB_WDOG.TRIPS, 12_router_core.md -/
def ARB_WDOG_TRIPS : Fld := ⟨0, 65536, 1024, 0x828, 0, 0, 1, 32, 16, .rc, [.c, .w, .b], 0x0⟩
/-- ARB_SEL.INST, 12_router_core.md -/
def ARB_SEL_INST : Fld := ⟨0, 65536, 1024, 0x830, 0, 0, 1, 0, 6, .rw, [.c, .w], 0x0⟩
/-- ARB_PRIr.PRIO, 12_router_core.md, held as its difference (exclusive or) from the requester's default; indices 64 on are
instance 1 of `SEC` (log entry 10) -/
def ARB_PRIr_PRIO : Fld := ⟨0, 65536, 1024, 0x840, 8, 0, 128, 0, 3, .rws, [.c, .w], 0x0⟩
/-- DEV_PART.PART, 02_register_model.md -/
def DEV_PART_PART : Fld := ⟨0, 65536, 1, 0x100, 0, 0, 1, 0, 16, .ro, [.c], 0x7128⟩
/-- DEV_PART.STEPPING, 02_register_model.md -/
def DEV_PART_STEPPING : Fld := ⟨0, 65536, 1, 0x100, 0, 0, 1, 16, 8, .ro, [.c], 0x0⟩
/-- DEV_SERIAL.SERIAL, 02_register_model.md -/
def DEV_SERIAL_SERIAL : Fld := ⟨0, 65536, 1, 0x108, 0, 0, 1, 0, 64, .ro, [.c], 0x0⟩
/-- DEV_STRAPS.BOOT_MODE, 02_register_model.md -/
def DEV_STRAPS_BOOT_MODE : Fld := ⟨0, 65536, 1, 0x110, 0, 0, 1, 0, 2, .ro, [.c, .w], 0x0⟩
/-- DEV_STRAPS.RECOVERY, 02_register_model.md -/
def DEV_STRAPS_RECOVERY : Fld := ⟨0, 65536, 1, 0x110, 0, 0, 1, 2, 1, .ro, [.c, .w], 0x0⟩
/-- DEV_STRAPS.ROUTER_ONLY, 02_register_model.md -/
def DEV_STRAPS_ROUTER_ONLY : Fld := ⟨0, 65536, 1, 0x110, 0, 0, 1, 3, 1, .ro, [.c, .w], 0x0⟩
/-- DEV_FUSE.OPEN_ALLOWED, 02_register_model.md -/
def DEV_FUSE_OPEN_ALLOWED : Fld := ⟨0, 65536, 1, 0x118, 0, 0, 1, 0, 1, .ro, [.c], 0x0⟩
/-- DEV_FUSE.JTAG_LOCK, 02_register_model.md -/
def DEV_FUSE_JTAG_LOCK : Fld := ⟨0, 65536, 1, 0x118, 0, 0, 1, 1, 1, .ro, [.c], 0x0⟩
/-- DEV_FUSE.FUSE_REV, 02_register_model.md -/
def DEV_FUSE_FUSE_REV : Fld := ⟨0, 65536, 1, 0x118, 0, 0, 1, 8, 8, .ro, [.c], 0x0⟩
/-- DEV_DID.DID, 02_register_model.md -/
def DEV_DID_DID : Fld := ⟨0, 65536, 1, 0x120, 0, 0, 1, 0, 18, .rws, [.c, .w], 0x3ffff⟩
/-- DEV_FM_ROLE.HOLDER, 02_register_model.md -/
def DEV_FM_ROLE_HOLDER : Fld := ⟨0, 65536, 1, 0x128, 0, 0, 1, 0, 3, .ro, [.c, .w], 0x7⟩
/-- DEV_FM_ROLE.GEN, 02_register_model.md -/
def DEV_FM_ROLE_GEN : Fld := ⟨0, 65536, 1, 0x128, 0, 0, 1, 8, 8, .ro, [.c, .w], 0x0⟩
/-- DEV_FM_ROLE.LAST_CAUSE, 02_register_model.md -/
def DEV_FM_ROLE_LAST_CAUSE : Fld := ⟨0, 65536, 1, 0x128, 0, 0, 1, 16, 4, .ro, [.c, .w], 0x0⟩
/-- DEV_FM_CTL.RELEASE, 02_register_model.md -/
def DEV_FM_CTL_RELEASE : Fld := ⟨0, 65536, 1, 0x130, 0, 0, 1, 0, 1, .wo, [], 0x0⟩
/-- DEV_MEM_CAP.CAP_GIB, 02_register_model.md -/
def DEV_MEM_CAP_CAP_GIB : Fld := ⟨0, 65536, 1, 0x138, 0, 0, 1, 0, 16, .ro, [.c, .w], 0x0⟩
/-- DEV_MEM_CAP.STACKS, 02_register_model.md -/
def DEV_MEM_CAP_STACKS : Fld := ⟨0, 65536, 1, 0x138, 0, 0, 1, 16, 2, .ro, [.c, .w], 0x0⟩
/-- DEV_MEM_PLANn.BASE, 02_register_model.md -/
def DEV_MEM_PLANn_BASE : Fld := ⟨0, 65536, 1, 0x178, 8, 1, 8, 0, 16, .ro, [.c, .w], 0x0⟩
/-- DEV_MEM_PLANn.SIZE, 02_register_model.md -/
def DEV_MEM_PLANn_SIZE : Fld := ⟨0, 65536, 1, 0x178, 8, 1, 8, 32, 16, .ro, [.c, .w], 0x0⟩
/-- FCL_STAT.STAT, 16_faults_and_service.md -/
def FCL_STAT_STAT : Fld := ⟨1, 65536, 1, 0x100, 0, 0, 1, 0, 64, .w1c, [.c], 0x0⟩
/-- FCL_PORT_LO.PORT, 16_faults_and_service.md -/
def FCL_PORT_LO_PORT : Fld := ⟨1, 65536, 1, 0x108, 0, 0, 1, 0, 64, .w1c, [.c], 0x0⟩
/-- FCL_PORT_HI.PORT, 16_faults_and_service.md -/
def FCL_PORT_HI_PORT : Fld := ⟨1, 65536, 1, 0x110, 0, 0, 1, 0, 64, .w1c, [.c], 0x0⟩
/-- FCL_LANE.GROUP, 16_faults_and_service.md -/
def FCL_LANE_GROUP : Fld := ⟨1, 65536, 1, 0x118, 0, 0, 1, 0, 32, .w1c, [.c], 0x0⟩
/-- FCL_FIRST.PAGE, 16_faults_and_service.md -/
def FCL_FIRST_PAGE : Fld := ⟨1, 65536, 1, 0x120, 0, 0, 1, 0, 10, .ro, [.c], 0x0⟩
/-- FCL_FIRST.VALID, 16_faults_and_service.md -/
def FCL_FIRST_VALID : Fld := ⟨1, 65536, 1, 0x120, 0, 0, 1, 63, 1, .w1c, [.c], 0x0⟩
/-- FCL_FATAL.PAGE, 16_faults_and_service.md -/
def FCL_FATAL_PAGE : Fld := ⟨1, 65536, 1, 0x128, 0, 0, 1, 0, 10, .ro, [.c], 0x0⟩
/-- FCL_FATAL.INDEX, 16_faults_and_service.md -/
def FCL_FATAL_INDEX : Fld := ⟨1, 65536, 1, 0x128, 0, 0, 1, 16, 5, .ro, [.c], 0x0⟩
/-- FCL_FATAL.VALID, 16_faults_and_service.md -/
def FCL_FATAL_VALID : Fld := ⟨1, 65536, 1, 0x128, 0, 0, 1, 63, 1, .ro, [.c], 0x0⟩
/-- FCL_FATAL_TIME.TIME, 16_faults_and_service.md -/
def FCL_FATAL_TIME_TIME : Fld := ⟨1, 65536, 1, 0x130, 0, 0, 1, 0, 64, .ro, [.c], 0x0⟩
/-- FCL_IRQ_CTL.EN, 16_faults_and_service.md -/
def FCL_IRQ_CTL_EN : Fld := ⟨1, 65536, 1, 0x138, 0, 0, 1, 0, 1, .rw, [.c, .w], 0x0⟩
/-- FCL_IRQ_CTL.FN, 16_faults_and_service.md -/
def FCL_IRQ_CTL_FN : Fld := ⟨1, 65536, 1, 0x138, 0, 0, 1, 1, 2, .rw, [.c, .w], 0x0⟩
/-- FCL_IRQ_CTL.VECTOR, 16_faults_and_service.md -/
def FCL_IRQ_CTL_VECTOR : Fld := ⟨1, 65536, 1, 0x138, 0, 0, 1, 16, 11, .rw, [.c, .w], 0x0⟩
/-- FCL_IRQ_MASK.MASK, 16_faults_and_service.md -/
def FCL_IRQ_MASK_MASK : Fld := ⟨1, 65536, 1, 0x140, 0, 0, 1, 0, 64, .rw, [.c, .w], 0x0⟩
/-- FCL_SVC_CTL.LANES, 16_faults_and_service.md -/
def FCL_SVC_CTL_LANES : Fld := ⟨1, 65536, 1, 0x148, 0, 0, 1, 0, 8, .rw, [.c, .w], 0x1⟩
/-- FCL_SVC_CTL.PIPES, 16_faults_and_service.md -/
def FCL_SVC_CTL_PIPES : Fld := ⟨1, 65536, 1, 0x148, 0, 0, 1, 8, 8, .rw, [.c, .w], 0x4⟩
/-- FCL_SVC_CTL.SPARE_PCT, 16_faults_and_service.md -/
def FCL_SVC_CTL_SPARE_PCT : Fld := ⟨1, 65536, 1, 0x148, 0, 0, 1, 16, 8, .rw, [.c, .w], 0x4b⟩
/-- FCL_SVC_CTL.TOTAL_LIMIT, 16_faults_and_service.md -/
def FCL_SVC_CTL_TOTAL_LIMIT : Fld := ⟨1, 65536, 1, 0x148, 0, 0, 1, 32, 16, .rw, [.c, .w], 0x40⟩
/-- FCL_SVC_STAT.REASONS, 16_faults_and_service.md -/
def FCL_SVC_STAT_REASONS : Fld := ⟨1, 65536, 1, 0x150, 0, 0, 1, 0, 10, .w1c, [.c], 0x0⟩
/-- FCL_SVC_STAT.FIRST, 16_faults_and_service.md -/
def FCL_SVC_STAT_FIRST : Fld := ⟨1, 65536, 1, 0x150, 0, 0, 1, 16, 8, .ro, [.c], 0x0⟩
/-- FCL_SVC_STAT.FW_CODE, 16_faults_and_service.md -/
def FCL_SVC_STAT_FW_CODE : Fld := ⟨1, 65536, 1, 0x150, 0, 0, 1, 32, 8, .ro, [.c], 0x0⟩
/-- FCL_SVC_REQ.RAISE, 16_faults_and_service.md -/
def FCL_SVC_REQ_RAISE : Fld := ⟨1, 65536, 1, 0x158, 0, 0, 1, 0, 1, .wo, [], 0x0⟩
/-- FCL_SVC_REQ.CODE, 16_faults_and_service.md -/
def FCL_SVC_REQ_CODE : Fld := ⟨1, 65536, 1, 0x158, 0, 0, 1, 8, 8, .wo, [], 0x0⟩
/-- FCL_ALIVE.TMO_MS, 16_faults_and_service.md -/
def FCL_ALIVE_TMO_MS : Fld := ⟨1, 65536, 1, 0x160, 0, 0, 1, 0, 16, .rw, [.c, .w], 0x64⟩
/-- FCL_ALIVE.AUTO_M, 16_faults_and_service.md -/
def FCL_ALIVE_AUTO_M : Fld := ⟨1, 65536, 1, 0x160, 0, 0, 1, 16, 1, .rw, [.c, .w], 0x1⟩
/-- FCL_ALIVE.KICK, 16_faults_and_service.md -/
def FCL_ALIVE_KICK : Fld := ⟨1, 65536, 1, 0x160, 0, 0, 1, 31, 1, .wo, [], 0x0⟩
/-- FCL_ALIVE.STOPPED, 16_faults_and_service.md -/
def FCL_ALIVE_STOPPED : Fld := ⟨1, 65536, 1, 0x160, 0, 0, 1, 32, 1, .ro, [.c, .w], 0x0⟩
/-- FCL_UNIT_SEL.PAGE, 16_faults_and_service.md -/
def FCL_UNIT_SEL_PAGE : Fld := ⟨1, 65536, 1, 0x168, 0, 0, 1, 0, 10, .rw, [.c, .w], 0x0⟩
/-- FCL_UNIT_FENCE.FENCE, 16_faults_and_service.md -/
def FCL_UNIT_FENCE_FENCE : Fld := ⟨1, 65536, 1, 0x170, 0, 0, 1, 0, 64, .rw, [.c, .w], 0x0⟩
/-- FCL_UNIT_AUTO.AUTO, 16_faults_and_service.md -/
def FCL_UNIT_AUTO_AUTO : Fld := ⟨1, 65536, 1, 0x178, 0, 0, 1, 0, 64, .ro, [.c, .w], 0x0⟩
/-- FCL_COUNT.LASTING, 16_faults_and_service.md -/
def FCL_COUNT_LASTING : Fld := ⟨1, 65536, 1, 0x180, 0, 0, 1, 0, 32, .rc, [.c, .w], 0x0⟩
/-- FCL_COUNT.FENCES, 16_faults_and_service.md -/
def FCL_COUNT_FENCES : Fld := ⟨1, 65536, 1, 0x180, 0, 0, 1, 32, 32, .rc, [.c, .w], 0x0⟩
/-- FCL_DROP.ENDPOINT, 16_faults_and_service.md -/
def FCL_DROP_ENDPOINT : Fld := ⟨1, 65536, 1, 0x188, 0, 0, 1, 0, 32, .rc, [.c, .w], 0x0⟩
/-- FCL_DROP.CROSSING, 16_faults_and_service.md -/
def FCL_DROP_CROSSING : Fld := ⟨1, 65536, 1, 0x188, 0, 0, 1, 32, 32, .rc, [.c, .w], 0x0⟩
/-- CRP_PWR_REQ.TARGET, 19_power_reset_time.md -/
def CRP_PWR_REQ_TARGET : Fld := ⟨2, 65536, 1, 0x100, 0, 0, 1, 0, 2, .rw, [.c, .w], 0x0⟩
/-- CRP_PWR_STAT.STATE, 19_power_reset_time.md -/
def CRP_PWR_STAT_STATE : Fld := ⟨2, 65536, 1, 0x108, 0, 0, 1, 0, 3, .ro, [.c, .w], 0x0⟩
/-- CRP_PWR_STAT.LAST_REFUSAL, 19_power_reset_time.md -/
def CRP_PWR_STAT_LAST_REFUSAL : Fld := ⟨2, 65536, 1, 0x108, 0, 0, 1, 8, 4, .ro, [.c, .w], 0x0⟩
/-- CRP_PWR_STAT.LAST_WAKE, 19_power_reset_time.md -/
def CRP_PWR_STAT_LAST_WAKE : Fld := ⟨2, 65536, 1, 0x108, 0, 0, 1, 16, 4, .ro, [.c, .w], 0x0⟩
/-- CRP_PWR_CTL.AUTO_LAYBY, 19_power_reset_time.md -/
def CRP_PWR_CTL_AUTO_LAYBY : Fld := ⟨2, 65536, 1, 0x110, 0, 0, 1, 0, 1, .rw, [.c, .w], 0x0⟩
/-- CRP_PWR_CTL.IDLE_US, 19_power_reset_time.md -/
def CRP_PWR_CTL_IDLE_US : Fld := ⟨2, 65536, 1, 0x110, 0, 0, 1, 16, 16, .rw, [.c, .w], 0x3e8⟩
/-- CRP_PWR_CTL.ENTRY_TMO_US, 19_power_reset_time.md -/
def CRP_PWR_CTL_ENTRY_TMO_US : Fld := ⟨2, 65536, 1, 0x110, 0, 0, 1, 32, 16, .rw, [.c, .w], 0x3e8⟩
/-- CRP_WAKE.DISCARDED, 19_power_reset_time.md -/
def CRP_WAKE_DISCARDED : Fld := ⟨2, 65536, 1, 0x118, 0, 0, 1, 0, 32, .rc, [.c, .w], 0x0⟩
/-- CRP_WAKE.WAKES, 19_power_reset_time.md -/
def CRP_WAKE_WAKES : Fld := ⟨2, 65536, 1, 0x118, 0, 0, 1, 32, 16, .rc, [.c, .w], 0x0⟩
/-- CRP_WAKE_TIME.TIME, 19_power_reset_time.md -/
def CRP_WAKE_TIME_TIME : Fld := ⟨2, 65536, 1, 0x120, 0, 0, 1, 0, 64, .rw, [.c, .w], 0x0⟩
/-- CRP_DOM_STAT0.DOM, 19_power_reset_time.md -/
def CRP_DOM_STAT0_DOM : Fld := ⟨2, 65536, 1, 0x128, 0, 0, 1, 0, 64, .ro, [.c, .w], 0x0⟩
/-- CRP_DOM_STAT1.DOM, 19_power_reset_time.md -/
def CRP_DOM_STAT1_DOM : Fld := ⟨2, 65536, 1, 0x130, 0, 0, 1, 0, 8, .ro, [.c, .w], 0x0⟩
/-- CRP_RST_CTL.WARM, 19_power_reset_time.md -/
def CRP_RST_CTL_WARM : Fld := ⟨2, 65536, 1, 0x138, 0, 0, 1, 0, 1, .wo, [], 0x0⟩
/-- CRP_RST_CTL.MGMT, 19_power_reset_time.md -/
def CRP_RST_CTL_MGMT : Fld := ⟨2, 65536, 1, 0x138, 0, 0, 1, 1, 1, .wo, [], 0x0⟩
/-- CRP_RST_STAT.LAST, 19_power_reset_time.md -/
def CRP_RST_STAT_LAST : Fld := ⟨2, 65536, 1, 0x140, 0, 0, 1, 0, 4, .ro, [.c], 0x0⟩
/-- CRP_RST_STAT.WARM_COUNT, 19_power_reset_time.md -/
def CRP_RST_STAT_WARM_COUNT : Fld := ⟨2, 65536, 1, 0x140, 0, 0, 1, 16, 16, .ro, [.c], 0x0⟩
/-- CRP_RST_STAT.M_COUNT, 19_power_reset_time.md -/
def CRP_RST_STAT_M_COUNT : Fld := ⟨2, 65536, 1, 0x140, 0, 0, 1, 32, 16, .ro, [.c], 0x0⟩
/-- CRP_CLK_STAT.LOCKED, 19_power_reset_time.md -/
def CRP_CLK_STAT_LOCKED : Fld := ⟨2, 65536, 1, 0x148, 0, 0, 1, 0, 48, .ro, [.c, .w], 0x0⟩
/-- CRP_AVS.VOUT_MV, 19_power_reset_time.md -/
def CRP_AVS_VOUT_MV : Fld := ⟨2, 65536, 1, 0x150, 0, 0, 1, 0, 10, .ro, [.c, .w], 0x2ee⟩
/-- CRP_AVS.READ_MV, 19_power_reset_time.md -/
def CRP_AVS_READ_MV : Fld := ⟨2, 65536, 1, 0x150, 0, 0, 1, 16, 10, .ro, [.c, .w], 0x0⟩
/-- CRP_AVS.OFFSET_MV, 19_power_reset_time.md -/
def CRP_AVS_OFFSET_MV : Fld := ⟨2, 65536, 1, 0x150, 0, 0, 1, 32, 8, .rw, [.c, .w], 0x0⟩
/-- CRP_AVS.AVS_OK, 19_power_reset_time.md -/
def CRP_AVS_AVS_OK : Fld := ⟨2, 65536, 1, 0x150, 0, 0, 1, 40, 1, .ro, [.c, .w], 0x0⟩
/-- CRP_THERM.TEMP_C, 19_power_reset_time.md -/
def CRP_THERM_TEMP_C : Fld := ⟨2, 65536, 1, 0x158, 0, 0, 1, 0, 8, .ro, [.c, .w], 0x0⟩
/-- CRP_THERM.PEAK_C, 19_power_reset_time.md -/
def CRP_THERM_PEAK_C : Fld := ⟨2, 65536, 1, 0x158, 0, 0, 1, 8, 8, .rc, [.c, .w], 0x0⟩
/-- CRP_THERM.WARN_C, 19_power_reset_time.md -/
def CRP_THERM_WARN_C : Fld := ⟨2, 65536, 1, 0x158, 0, 0, 1, 16, 8, .rw, [.c, .w], 0x64⟩
/-- CRP_THERM.CRIT_C, 19_power_reset_time.md -/
def CRP_THERM_CRIT_C : Fld := ⟨2, 65536, 1, 0x158, 0, 0, 1, 24, 8, .rw, [.c, .w], 0x6e⟩
/-- TIM_NOW.TIME, 19_power_reset_time.md -/
def TIM_NOW_TIME : Fld := ⟨3, 65536, 1, 0x100, 0, 0, 1, 0, 64, .ro, [.c], 0x0⟩
/-- TIM_SET.TIME, 19_power_reset_time.md -/
def TIM_SET_TIME : Fld := ⟨3, 65536, 1, 0x108, 0, 0, 1, 0, 64, .wo, [], 0x0⟩
/-- TIM_CTL.PRIO, 19_power_reset_time.md -/
def TIM_CTL_PRIO : Fld := ⟨3, 65536, 1, 0x110, 0, 0, 1, 0, 8, .rw, [.c, .w], 0x80⟩
/-- TIM_CTL.PPS_IN_EN, 19_power_reset_time.md -/
def TIM_CTL_PPS_IN_EN : Fld := ⟨3, 65536, 1, 0x110, 0, 0, 1, 8, 1, .rw, [.c, .w], 0x0⟩
/-- TIM_CTL.PPS_OUT_EN, 19_power_reset_time.md -/
def TIM_CTL_PPS_OUT_EN : Fld := ⟨3, 65536, 1, 0x110, 0, 0, 1, 9, 1, .rw, [.c, .w], 0x1⟩
/-- TIM_CTL.CLAIM_WAIT_MS, 19_power_reset_time.md -/
def TIM_CTL_CLAIM_WAIT_MS : Fld := ⟨3, 65536, 1, 0x110, 0, 0, 1, 16, 16, .rw, [.c, .w], 0xa⟩
/-- TIM_CTL.LOSS_MS, 19_power_reset_time.md -/
def TIM_CTL_LOSS_MS : Fld := ⟨3, 65536, 1, 0x110, 0, 0, 1, 32, 8, .rw, [.c, .w], 0x3⟩
/-- TIM_CTL.MAX_STEPS, 19_power_reset_time.md -/
def TIM_CTL_MAX_STEPS : Fld := ⟨3, 65536, 1, 0x110, 0, 0, 1, 40, 8, .rw, [.c, .w], 0x20⟩
/-- TIM_SERVO.LOCK_NS, 19_power_reset_time.md -/
def TIM_SERVO_LOCK_NS : Fld := ⟨3, 65536, 1, 0x118, 0, 0, 1, 0, 16, .rw, [.c, .w], 0x64⟩
/-- TIM_SERVO.LOCK_COUNT, 19_power_reset_time.md -/
def TIM_SERVO_LOCK_COUNT : Fld := ⟨3, 65536, 1, 0x118, 0, 0, 1, 16, 4, .rw, [.c, .w], 0x2⟩
/-- TIM_SERVO.SLEW_PPM, 19_power_reset_time.md -/
def TIM_SERVO_SLEW_PPM : Fld := ⟨3, 65536, 1, 0x118, 0, 0, 1, 24, 8, .rw, [.c, .w], 0xa⟩
/-- TIM_HOLD.HOLD_PPB, 19_power_reset_time.md -/
def TIM_HOLD_HOLD_PPB : Fld := ⟨3, 65536, 1, 0x120, 0, 0, 1, 0, 16, .rw, [.c, .w], 0x64⟩
/-- TIM_HOLD.HOLD_ERR_NS, 19_power_reset_time.md -/
def TIM_HOLD_HOLD_ERR_NS : Fld := ⟨3, 65536, 1, 0x120, 0, 0, 1, 32, 16, .rw, [.c, .w], 0x3e8⟩
/-- TIM_GUARD.MAX_NS, 19_power_reset_time.md -/
def TIM_GUARD_MAX_NS : Fld := ⟨3, 65536, 1, 0x128, 0, 0, 1, 0, 32, .rw, [.c, .w], 0x2710⟩
/-- TIM_STAT.STATE, 19_power_reset_time.md -/
def TIM_STAT_STATE : Fld := ⟨3, 65536, 1, 0x130, 0, 0, 1, 0, 2, .ro, [.c, .w], 0x0⟩
/-- TIM_STAT.PARENT_PORT, 19_power_reset_time.md -/
def TIM_STAT_PARENT_PORT : Fld := ⟨3, 65536, 1, 0x130, 0, 0, 1, 8, 7, .ro, [.c, .w], 0x0⟩
/-- TIM_STAT.PARENT_VALID, 19_power_reset_time.md -/
def TIM_STAT_PARENT_VALID : Fld := ⟨3, 65536, 1, 0x130, 0, 0, 1, 15, 1, .ro, [.c, .w], 0x0⟩
/-- TIM_STAT.STEPS, 19_power_reset_time.md -/
def TIM_STAT_STEPS : Fld := ⟨3, 65536, 1, 0x130, 0, 0, 1, 16, 8, .ro, [.c, .w], 0x0⟩
/-- TIM_STAT.M_PRIO, 19_power_reset_time.md -/
def TIM_STAT_M_PRIO : Fld := ⟨3, 65536, 1, 0x130, 0, 0, 1, 24, 8, .ro, [.c, .w], 0x0⟩
/-- TIM_STAT.M_DID, 19_power_reset_time.md -/
def TIM_STAT_M_DID : Fld := ⟨3, 65536, 1, 0x130, 0, 0, 1, 32, 18, .ro, [.c, .w], 0x3ffff⟩
/-- TIM_STAT.M_SEQ, 19_power_reset_time.md -/
def TIM_STAT_M_SEQ : Fld := ⟨3, 65536, 1, 0x130, 0, 0, 1, 48, 16, .ro, [.c, .w], 0x0⟩
/-- TIM_OFFSET.OFFSET_NS, 19_power_reset_time.md -/
def TIM_OFFSET_OFFSET_NS : Fld := ⟨3, 65536, 1, 0x138, 0, 0, 1, 0, 32, .ro, [.c, .w], 0x0⟩
/-- TIM_OFFSET.EST_ERR_NS, 19_power_reset_time.md -/
def TIM_OFFSET_EST_ERR_NS : Fld := ⟨3, 65536, 1, 0x138, 0, 0, 1, 32, 32, .ro, [.c, .w], 0x0⟩
/-- TIM_PPS_CTL.OUT_WIDTH_US, 19_power_reset_time.md -/
def TIM_PPS_CTL_OUT_WIDTH_US : Fld := ⟨3, 65536, 1, 0x140, 0, 0, 1, 0, 20, .rw, [.c, .w], 0x186a0⟩
/-- TIM_PPS_IN.TIME, 19_power_reset_time.md -/
def TIM_PPS_IN_TIME : Fld := ⟨3, 65536, 1, 0x148, 0, 0, 1, 0, 64, .ro, [.c, .w], 0x0⟩
/-- TIM_CNT.STEPS_FWD, 19_power_reset_time.md -/
def TIM_CNT_STEPS_FWD : Fld := ⟨3, 65536, 1, 0x150, 0, 0, 1, 0, 32, .rc, [.c, .w], 0x0⟩
/-- TIM_CNT.GUARD_REFUSED, 19_power_reset_time.md -/
def TIM_CNT_GUARD_REFUSED : Fld := ⟨3, 65536, 1, 0x150, 0, 0, 1, 32, 32, .rc, [.c, .w], 0x0⟩
/-- MGT_BOOT_STAT.BANK, 18_firmware_and_management.md -/
def MGT_BOOT_STAT_BANK : Fld := ⟨4, 65536, 1, 0x100, 0, 0, 1, 0, 1, .ro, [.c], 0x0⟩
/-- MGT_BOOT_STAT.CAUSE, 18_firmware_and_management.md -/
def MGT_BOOT_STAT_CAUSE : Fld := ⟨4, 65536, 1, 0x100, 0, 0, 1, 4, 4, .ro, [.c], 0x0⟩
/-- MGT_BOOT_STAT.RESULT, 18_firmware_and_management.md -/
def MGT_BOOT_STAT_RESULT : Fld := ⟨4, 65536, 1, 0x100, 0, 0, 1, 8, 4, .ro, [.c], 0x0⟩
/-- MGT_BOOT_STAT.RECOVERY, 18_firmware_and_management.md -/
def MGT_BOOT_STAT_RECOVERY : Fld := ⟨4, 65536, 1, 0x100, 0, 0, 1, 12, 1, .ro, [.c], 0x0⟩
/-- MGT_BOOT_STAT.BOOTS, 18_firmware_and_management.md -/
def MGT_BOOT_STAT_BOOTS : Fld := ⟨4, 65536, 1, 0x100, 0, 0, 1, 32, 16, .ro, [.c], 0x0⟩
/-- MGT_FW_VER.VERSION, 18_firmware_and_management.md -/
def MGT_FW_VER_VERSION : Fld := ⟨4, 65536, 1, 0x108, 0, 0, 1, 0, 64, .ro, [.c], 0x0⟩
/-- MGT_FW_SVN.SVN, 18_firmware_and_management.md -/
def MGT_FW_SVN_SVN : Fld := ⟨4, 65536, 1, 0x110, 0, 0, 1, 0, 32, .ro, [.c], 0x0⟩
/-- MGT_FW_SVN.FLOOR, 18_firmware_and_management.md -/
def MGT_FW_SVN_FLOOR : Fld := ⟨4, 65536, 1, 0x110, 0, 0, 1, 32, 7, .ro, [.c], 0x0⟩
/-- MGT_BANK_STAT.STATE_A, 18_firmware_and_management.md -/
def MGT_BANK_STAT_STATE_A : Fld := ⟨4, 65536, 1, 0x118, 0, 0, 1, 0, 3, .ro, [.c], 0x0⟩
/-- MGT_BANK_STAT.STATE_B, 18_firmware_and_management.md -/
def MGT_BANK_STAT_STATE_B : Fld := ⟨4, 65536, 1, 0x118, 0, 0, 1, 4, 3, .ro, [.c], 0x0⟩
/-- MGT_BANK_STAT.ACTIVE, 18_firmware_and_management.md -/
def MGT_BANK_STAT_ACTIVE : Fld := ⟨4, 65536, 1, 0x118, 0, 0, 1, 8, 1, .ro, [.c], 0x0⟩
/-- MGT_BANK_STAT.TRIAL_VALID, 18_firmware_and_management.md -/
def MGT_BANK_STAT_TRIAL_VALID : Fld := ⟨4, 65536, 1, 0x118, 0, 0, 1, 9, 1, .ro, [.c], 0x0⟩
/-- MGT_BANK_STAT.TRIED, 18_firmware_and_management.md -/
def MGT_BANK_STAT_TRIED : Fld := ⟨4, 65536, 1, 0x118, 0, 0, 1, 10, 1, .ro, [.c], 0x0⟩
/-- MGT_BANK_STAT.BOOTCOPY_VALID, 18_firmware_and_management.md -/
def MGT_BANK_STAT_BOOTCOPY_VALID : Fld := ⟨4, 65536, 1, 0x118, 0, 0, 1, 16, 1, .ro, [.c, .w], 0x0⟩
/-- MGT_BANK_STAT.PRELOAD_VALID, 18_firmware_and_management.md -/
def MGT_BANK_STAT_PRELOAD_VALID : Fld := ⟨4, 65536, 1, 0x118, 0, 0, 1, 17, 1, .ro, [.c, .w], 0x0⟩
/-- MGT_STAGE_STAT.STATE, 18_firmware_and_management.md -/
def MGT_STAGE_STAT_STATE : Fld := ⟨4, 65536, 1, 0x120, 0, 0, 1, 0, 2, .ro, [.c, .w, .m], 0x0⟩
/-- MGT_STAGE_STAT.BANK, 18_firmware_and_management.md -/
def MGT_STAGE_STAT_BANK : Fld := ⟨4, 65536, 1, 0x120, 0, 0, 1, 2, 1, .ro, [.c, .w, .m], 0x0⟩
/-- MGT_STAGE_STAT.BYTES, 18_firmware_and_management.md -/
def MGT_STAGE_STAT_BYTES : Fld := ⟨4, 65536, 1, 0x120, 0, 0, 1, 32, 25, .ro, [.c, .w, .m], 0x0⟩
/-- MGT_ACT_CTL.ARMED, 18_firmware_and_management.md -/
def MGT_ACT_CTL_ARMED : Fld := ⟨4, 65536, 1, 0x128, 0, 0, 1, 0, 1, .ro, [.c, .w], 0x0⟩
/-- MGT_ACT_CTL.BANK, 18_firmware_and_management.md -/
def MGT_ACT_CTL_BANK : Fld := ⟨4, 65536, 1, 0x128, 0, 0, 1, 1, 1, .ro, [.c, .w], 0x0⟩
/-- MGT_ACT_TIME.TIME, 18_firmware_and_management.md -/
def MGT_ACT_TIME_TIME : Fld := ⟨4, 65536, 1, 0x130, 0, 0, 1, 0, 64, .ro, [.c, .w], 0x0⟩
/-- MGT_MBOX_STAT.DOE_REQS, 18_firmware_and_management.md -/
def MGT_MBOX_STAT_DOE_REQS : Fld := ⟨4, 65536, 1, 0x138, 0, 0, 1, 0, 16, .rc, [.c, .w], 0x0⟩
/-- MGT_MBOX_STAT.I3C_REQS, 18_firmware_and_management.md -/
def MGT_MBOX_STAT_I3C_REQS : Fld := ⟨4, 65536, 1, 0x138, 0, 0, 1, 16, 16, .rc, [.c, .w], 0x0⟩
/-- MGT_MBOX_STAT.INBAND_REQS, 18_firmware_and_management.md -/
def MGT_MBOX_STAT_INBAND_REQS : Fld := ⟨4, 65536, 1, 0x138, 0, 0, 1, 32, 16, .rc, [.c, .w], 0x0⟩
/-- MGT_MBOX_STAT.DENIED, 18_firmware_and_management.md -/
def MGT_MBOX_STAT_DENIED : Fld := ⟨4, 65536, 1, 0x138, 0, 0, 1, 48, 16, .rc, [.c, .w], 0x0⟩
/-- MGT_EVT_DEST.DID, 18_firmware_and_management.md -/
def MGT_EVT_DEST_DID : Fld := ⟨4, 65536, 1, 0x140, 0, 0, 1, 0, 18, .rw, [.c, .w], 0x3ffff⟩
/-- MGT_EVT_DEST.EN, 18_firmware_and_management.md -/
def MGT_EVT_DEST_EN : Fld := ⟨4, 65536, 1, 0x140, 0, 0, 1, 31, 1, .rw, [.c, .w], 0x0⟩
/-- MGT_EVT_DEST.IBI_EN, 18_firmware_and_management.md -/
def MGT_EVT_DEST_IBI_EN : Fld := ⟨4, 65536, 1, 0x140, 0, 0, 1, 32, 1, .rw, [.c, .w], 0x0⟩
/-- MGT_EVT_STAT.QUEUED, 18_firmware_and_management.md -/
def MGT_EVT_STAT_QUEUED : Fld := ⟨4, 65536, 1, 0x148, 0, 0, 1, 0, 9, .ro, [.c, .w], 0x0⟩
/-- MGT_EVT_STAT.LOST, 18_firmware_and_management.md -/
def MGT_EVT_STAT_LOST : Fld := ⟨4, 65536, 1, 0x148, 0, 0, 1, 32, 16, .rc, [.c, .w], 0x0⟩
/-- MGT_I3C_STAT.DYN_ADDR, 18_firmware_and_management.md -/
def MGT_I3C_STAT_DYN_ADDR : Fld := ⟨4, 65536, 1, 0x150, 0, 0, 1, 0, 7, .ro, [.c, .w], 0x0⟩
/-- MGT_I3C_STAT.DYN_VALID, 18_firmware_and_management.md -/
def MGT_I3C_STAT_DYN_VALID : Fld := ⟨4, 65536, 1, 0x150, 0, 0, 1, 7, 1, .ro, [.c, .w], 0x0⟩
/-- MGT_I3C_STAT.EID, 18_firmware_and_management.md -/
def MGT_I3C_STAT_EID : Fld := ⟨4, 65536, 1, 0x150, 0, 0, 1, 8, 8, .ro, [.c, .w], 0x0⟩
/-- MGT_FLASH_STAT.JEDEC_ID, 18_firmware_and_management.md -/
def MGT_FLASH_STAT_JEDEC_ID : Fld := ⟨4, 65536, 1, 0x158, 0, 0, 1, 0, 24, .ro, [.c, .w], 0x0⟩
/-- MGT_FLASH_STAT.PRESENT, 18_firmware_and_management.md -/
def MGT_FLASH_STAT_PRESENT : Fld := ⟨4, 65536, 1, 0x158, 0, 0, 1, 24, 1, .ro, [.c, .w], 0x0⟩
/-- MGT_FLASH_STAT.BUSY, 18_firmware_and_management.md -/
def MGT_FLASH_STAT_BUSY : Fld := ⟨4, 65536, 1, 0x158, 0, 0, 1, 25, 1, .ro, [.c, .w, .m], 0x0⟩
/-- MGT_FLASH_STAT.ERRORS, 18_firmware_and_management.md -/
def MGT_FLASH_STAT_ERRORS : Fld := ⟨4, 65536, 1, 0x158, 0, 0, 1, 32, 16, .rc, [.c, .w], 0x0⟩
/-- MGT_SETTINGS_STAT.GEN, 18_firmware_and_management.md -/
def MGT_SETTINGS_STAT_GEN : Fld := ⟨4, 65536, 1, 0x160, 0, 0, 1, 0, 32, .ro, [.c, .w], 0x0⟩
/-- MGT_SETTINGS_STAT.RECORDS, 18_firmware_and_management.md -/
def MGT_SETTINGS_STAT_RECORDS : Fld := ⟨4, 65536, 1, 0x160, 0, 0, 1, 32, 16, .ro, [.c, .w], 0x0⟩
/-- MGT_SETTINGS_STAT.MIGRATED, 18_firmware_and_management.md -/
def MGT_SETTINGS_STAT_MIGRATED : Fld := ⟨4, 65536, 1, 0x160, 0, 0, 1, 48, 1, .ro, [.c, .w], 0x0⟩
/-- MGT_SETTINGS_STAT.NEWER_PRESENT, 18_firmware_and_management.md -/
def MGT_SETTINGS_STAT_NEWER_PRESENT : Fld := ⟨4, 65536, 1, 0x160, 0, 0, 1, 49, 1, .ro, [.c, .w], 0x0⟩
/-- MGT_SETTINGS_STAT.BAD, 18_firmware_and_management.md -/
def MGT_SETTINGS_STAT_BAD : Fld := ⟨4, 65536, 1, 0x160, 0, 0, 1, 56, 8, .ro, [.c, .w], 0x0⟩
/-- SEC_FRESH.WINDOW_US, 15_security.md -/
def SEC_FRESH_WINDOW_US : Fld := ⟨5, 65536, 1, 0x100, 0, 0, 1, 0, 24, .rws, [.c, .w], 0xfa0⟩
/-- SEC_FRESH.FUTURE_US, 15_security.md -/
def SEC_FRESH_FUTURE_US : Fld := ⟨5, 65536, 1, 0x100, 0, 0, 1, 32, 8, .rws, [.c, .w], 0xa⟩
/-- SEC_STAT.TIME_LOCKED, 15_security.md -/
def SEC_STAT_TIME_LOCKED : Fld := ⟨5, 65536, 1, 0x108, 0, 0, 1, 0, 1, .ro, [.c, .w], 0x0⟩
/-- SEC_STAT.DEBUG_UNLOCKED, 15_security.md -/
def SEC_STAT_DEBUG_UNLOCKED : Fld := ⟨5, 65536, 1, 0x108, 0, 0, 1, 1, 1, .ro, [.c, .w], 0x0⟩
/-- SEC_STAT.FM_KEY, 15_security.md -/
def SEC_STAT_FM_KEY : Fld := ⟨5, 65536, 1, 0x108, 0, 0, 1, 2, 1, .ro, [.c, .w], 0x0⟩
/-- SEC_STAT.SLOTS, 15_security.md -/
def SEC_STAT_SLOTS : Fld := ⟨5, 65536, 1, 0x108, 0, 0, 1, 16, 13, .ro, [.c, .w], 0x0⟩
/-- SEC_PARK_ZEROISE.EN, 15_security.md -/
def SEC_PARK_ZEROISE_EN : Fld := ⟨5, 65536, 1, 0x110, 0, 0, 1, 0, 1, .rw, [.c, .w], 0x0⟩
/-- SEC_CMD.OP, 15_security.md -/
def SEC_CMD_OP : Fld := ⟨5, 65536, 1, 0x118, 0, 0, 1, 0, 3, .wo, [], 0x0⟩
/-- SEC_CMD.SLOT, 15_security.md -/
def SEC_CMD_SLOT : Fld := ⟨5, 65536, 1, 0x118, 0, 0, 1, 16, 12, .wo, [], 0x0⟩
/-- SEC_CMD.NEXT, 15_security.md -/
def SEC_CMD_NEXT : Fld := ⟨5, 65536, 1, 0x118, 0, 0, 1, 28, 1, .wo, [], 0x0⟩
/-- SEC_CMD_ARG.TNUM, 15_security.md -/
def SEC_CMD_ARG_TNUM : Fld := ⟨5, 65536, 1, 0x120, 0, 0, 1, 0, 16, .rw, [.c, .w], 0x0⟩
/-- SEC_CMD_ARG.EPOCH, 15_security.md -/
def SEC_CMD_ARG_EPOCH : Fld := ⟨5, 65536, 1, 0x120, 0, 0, 1, 16, 14, .rw, [.c, .w], 0x0⟩
/-- SEC_CMD_ARG.MODE, 15_security.md -/
def SEC_CMD_ARG_MODE : Fld := ⟨5, 65536, 1, 0x120, 0, 0, 1, 30, 2, .rw, [.c, .w], 0x0⟩
/-- SEC_CMD_ARG.REQUIRE_IDE, 15_security.md -/
def SEC_CMD_ARG_REQUIRE_IDE : Fld := ⟨5, 65536, 1, 0x120, 0, 0, 1, 32, 1, .rw, [.c, .w], 0x0⟩
/-- SEC_CMD_ARG.TARGET_DID, 15_security.md -/
def SEC_CMD_ARG_TARGET_DID : Fld := ⟨5, 65536, 1, 0x120, 0, 0, 1, 40, 18, .rw, [.c, .w], 0x0⟩
/-- SEC_CMD_TIME.TIME, 15_security.md -/
def SEC_CMD_TIME_TIME : Fld := ⟨5, 65536, 1, 0x128, 0, 0, 1, 0, 64, .rw, [.c, .w], 0x0⟩
/-- SEC_CMD_STAT.BUSY, 15_security.md -/
def SEC_CMD_STAT_BUSY : Fld := ⟨5, 65536, 1, 0x130, 0, 0, 1, 0, 1, .ro, [.c, .w, .m], 0x0⟩
/-- SEC_CMD_STAT.RESULT, 15_security.md -/
def SEC_CMD_STAT_RESULT : Fld := ⟨5, 65536, 1, 0x130, 0, 0, 1, 8, 8, .ro, [.c, .w, .m], 0x0⟩
/-- SEC_CMD_STAT.COUNT, 15_security.md -/
def SEC_CMD_STAT_COUNT : Fld := ⟨5, 65536, 1, 0x130, 0, 0, 1, 16, 16, .ro, [.c, .w, .m], 0x0⟩
/-- SEC_TSEL.SLOT, 15_security.md -/
def SEC_TSEL_SLOT : Fld := ⟨5, 65536, 1, 0x138, 0, 0, 1, 0, 12, .rw, [.c, .w], 0x0⟩
/-- SEC_TSLOT.STATE, 15_security.md -/
def SEC_TSLOT_STATE : Fld := ⟨5, 65536, 1, 0x140, 0, 0, 1, 0, 2, .ro, [.c, .w], 0x0⟩
/-- SEC_TSLOT.MODE, 15_security.md -/
def SEC_TSLOT_MODE : Fld := ⟨5, 65536, 1, 0x140, 0, 0, 1, 2, 2, .ro, [.c, .w], 0x0⟩
/-- SEC_TSLOT.REQUIRE_IDE, 15_security.md -/
def SEC_TSLOT_REQUIRE_IDE : Fld := ⟨5, 65536, 1, 0x140, 0, 0, 1, 4, 1, .ro, [.c, .w], 0x0⟩
/-- SEC_TSLOT.NEXT_VALID, 15_security.md -/
def SEC_TSLOT_NEXT_VALID : Fld := ⟨5, 65536, 1, 0x140, 0, 0, 1, 5, 1, .ro, [.c, .w], 0x0⟩
/-- SEC_TSLOT.MEMBERS, 15_security.md -/
def SEC_TSLOT_MEMBERS : Fld := ⟨5, 65536, 1, 0x140, 0, 0, 1, 8, 4, .ro, [.c, .w], 0x0⟩
/-- SEC_TSLOT.TNUM, 15_security.md -/
def SEC_TSLOT_TNUM : Fld := ⟨5, 65536, 1, 0x140, 0, 0, 1, 16, 16, .ro, [.c, .w], 0x0⟩
/-- SEC_TSLOT.CUR_EPOCH, 15_security.md -/
def SEC_TSLOT_CUR_EPOCH : Fld := ⟨5, 65536, 1, 0x140, 0, 0, 1, 32, 14, .ro, [.c, .w], 0x0⟩
/-- SEC_TSLOT.NEXT_EPOCH, 15_security.md -/
def SEC_TSLOT_NEXT_EPOCH : Fld := ⟨5, 65536, 1, 0x140, 0, 0, 1, 48, 14, .ro, [.c, .w], 0x0⟩
/-- SEC_TOWNER.DIGEST, 15_security.md -/
def SEC_TOWNER_DIGEST : Fld := ⟨5, 65536, 1, 0x148, 0, 0, 1, 0, 64, .ro, [.c, .w], 0x0⟩
/-- SEC_TROLL.TIME, 15_security.md -/
def SEC_TROLL_TIME : Fld := ⟨5, 65536, 1, 0x150, 0, 0, 1, 0, 64, .ro, [.c, .w], 0x0⟩
/-- SEC_TBOUND.BOUND, 15_security.md -/
def SEC_TBOUND_BOUND : Fld := ⟨5, 65536, 1, 0x158, 0, 0, 1, 0, 32, .ro, [.c, .w], 0x0⟩
/-- SEC_DROP.NOT_LOCKED, 15_security.md -/
def SEC_DROP_NOT_LOCKED : Fld := ⟨5, 65536, 1, 0x160, 0, 0, 1, 0, 32, .rc, [.c, .w, .b], 0x0⟩
/-- SEC_DROP.UNKNOWN_TENANCY, 15_security.md -/
def SEC_DROP_UNKNOWN_TENANCY : Fld := ⟨5, 65536, 1, 0x160, 0, 0, 1, 32, 32, .rc, [.c, .w, .b], 0x0⟩
/-- SEC_DROP2.STALE_EPOCH, 15_security.md -/
def SEC_DROP2_STALE_EPOCH : Fld := ⟨5, 65536, 1, 0x168, 0, 0, 1, 0, 32, .rc, [.c, .w, .b], 0x0⟩
/-- SEC_DROP2.NOT_FRESH, 15_security.md -/
def SEC_DROP2_NOT_FRESH : Fld := ⟨5, 65536, 1, 0x168, 0, 0, 1, 32, 32, .rc, [.c, .w, .b], 0x0⟩
/-- SEC_DROP3.TAG_FAIL, 15_security.md -/
def SEC_DROP3_TAG_FAIL : Fld := ⟨5, 65536, 1, 0x170, 0, 0, 1, 0, 32, .rc, [.c, .w, .b], 0x0⟩
/-- SEC_PIPE_STATc.FENCED, 15_security.md -/
def SEC_PIPE_STATc_FENCED : Fld := ⟨5, 65536, 1, 0x180, 8, 0, 4, 0, 12, .ro, [.c, .w, .b], 0x0⟩
/-- SEC_PIPE_STATc.BUSY, 15_security.md -/
def SEC_PIPE_STATc_BUSY : Fld := ⟨5, 65536, 1, 0x180, 8, 0, 4, 16, 12, .ro, [.c, .w, .b], 0x0⟩
/-- PMU_SNAP.GO, 17_performance_monitoring.md -/
def PMU_SNAP_GO : Fld := ⟨6, 65536, 1, 0x100, 0, 0, 1, 0, 1, .wo, [], 0x0⟩
/-- PMU_SNAP.RELEASE, 17_performance_monitoring.md -/
def PMU_SNAP_RELEASE : Fld := ⟨6, 65536, 1, 0x100, 0, 0, 1, 1, 1, .wo, [], 0x0⟩
/-- PMU_SNAP.FROZEN, 17_performance_monitoring.md -/
def PMU_SNAP_FROZEN : Fld := ⟨6, 65536, 1, 0x100, 0, 0, 1, 8, 1, .ro, [.c, .w], 0x0⟩
/-- PMU_SNAP.COUNT, 17_performance_monitoring.md -/
def PMU_SNAP_COUNT : Fld := ⟨6, 65536, 1, 0x100, 0, 0, 1, 16, 16, .ro, [.c, .w], 0x0⟩
/-- PMU_SNAP_TIME.TIME, 17_performance_monitoring.md -/
def PMU_SNAP_TIME_TIME : Fld := ⟨6, 65536, 1, 0x108, 0, 0, 1, 0, 64, .ro, [.c, .w], 0x0⟩
/-- PMU_CHAINk.CHAIN, 17_performance_monitoring.md -/
def PMU_CHAINk_CHAIN : Fld := ⟨6, 65536, 1, 0x110, 8, 0, 16, 0, 64, .rw, [.c, .w], 0x0⟩
/-- PMU_TR_CTL.EN, 17_performance_monitoring.md -/
def PMU_TR_CTL_EN : Fld := ⟨6, 65536, 1, 0x1a0, 0, 0, 1, 0, 1, .rw, [.c, .w], 0x0⟩
/-- PMU_TR_CTL.WRAP, 17_performance_monitoring.md -/
def PMU_TR_CTL_WRAP : Fld := ⟨6, 65536, 1, 0x1a0, 0, 0, 1, 1, 1, .rw, [.c, .w], 0x1⟩
/-- PMU_TR_HEAD.HEAD, 17_performance_monitoring.md -/
def PMU_TR_HEAD_HEAD : Fld := ⟨6, 65536, 1, 0x1a8, 0, 0, 1, 0, 32, .ro, [.c, .w], 0x0⟩
/-- PMU_TR_TAIL.TAIL, 17_performance_monitoring.md -/
def PMU_TR_TAIL_TAIL : Fld := ⟨6, 65536, 1, 0x1b0, 0, 0, 1, 0, 32, .rw, [.c, .w], 0x0⟩
/-- PMU_TR_STAT.SIZE, 17_performance_monitoring.md -/
def PMU_TR_STAT_SIZE : Fld := ⟨6, 65536, 1, 0x1b8, 0, 0, 1, 0, 32, .ro, [.c, .w], 0x0⟩
/-- PMU_TR_STAT.DROPPED, 17_performance_monitoring.md -/
def PMU_TR_STAT_DROPPED : Fld := ⟨6, 65536, 1, 0x1b8, 0, 0, 1, 32, 32, .rc, [.c, .w], 0x0⟩
/-- PMU_TR_WIN_BASE.PAGE, 17_performance_monitoring.md -/
def PMU_TR_WIN_BASE_PAGE : Fld := ⟨6, 65536, 1, 0x1c0, 0, 0, 1, 0, 20, .rw, [.c, .w], 0x0⟩
/-- PMU_TF_CTLf.EN, 17_performance_monitoring.md -/
def PMU_TF_CTLf_EN : Fld := ⟨6, 65536, 1, 0x200, 64, 0, 8, 0, 1, .rw, [.c, .w], 0x0⟩
/-- PMU_TF_CTLf.LOG2_RATE, 17_performance_monitoring.md -/
def PMU_TF_CTLf_LOG2_RATE : Fld := ⟨6, 65536, 1, 0x200, 64, 0, 8, 1, 5, .rw, [.c, .w], 0x0⟩
/-- PMU_TF_CTLf.DROPS_ONLY, 17_performance_monitoring.md -/
def PMU_TF_CTLf_DROPS_ONLY : Fld := ⟨6, 65536, 1, 0x200, 64, 0, 8, 6, 1, .rw, [.c, .w], 0x0⟩
/-- PMU_TF_CTLf.LOCAL, 17_performance_monitoring.md -/
def PMU_TF_CTLf_LOCAL : Fld := ⟨6, 65536, 1, 0x200, 64, 0, 8, 7, 1, .rw, [.c, .w], 0x0⟩
/-- PMU_TF_CTLf.JUNCTIONS, 17_performance_monitoring.md -/
def PMU_TF_CTLf_JUNCTIONS : Fld := ⟨6, 65536, 1, 0x200, 64, 0, 8, 16, 16, .rw, [.c, .w], 0xffff⟩
/-- PMU_TF_CTLf.VC_MASK, 17_performance_monitoring.md -/
def PMU_TF_CTLf_VC_MASK : Fld := ⟨6, 65536, 1, 0x200, 64, 0, 8, 32, 9, .rw, [.c, .w], 0x1ff⟩
/-- PMU_TF_CTLf.PTYPE_MASK, 17_performance_monitoring.md -/
def PMU_TF_CTLf_PTYPE_MASK : Fld := ⟨6, 65536, 1, 0x200, 64, 0, 8, 48, 16, .rw, [.c, .w], 0xffff⟩
/-- PMU_TF_PORTf.IN_PORT, 17_performance_monitoring.md -/
def PMU_TF_PORTf_IN_PORT : Fld := ⟨6, 65536, 1, 0x208, 64, 0, 8, 0, 7, .rw, [.c, .w], 0x0⟩
/-- PMU_TF_PORTf.IN_ANY, 17_performance_monitoring.md -/
def PMU_TF_PORTf_IN_ANY : Fld := ⟨6, 65536, 1, 0x208, 64, 0, 8, 7, 1, .rw, [.c, .w], 0x1⟩
/-- PMU_TF_PORTf.OUT_PORT, 17_performance_monitoring.md -/
def PMU_TF_PORTf_OUT_PORT : Fld := ⟨6, 65536, 1, 0x208, 64, 0, 8, 8, 7, .rw, [.c, .w], 0x0⟩
/-- PMU_TF_PORTf.OUT_ANY, 17_performance_monitoring.md -/
def PMU_TF_PORTf_OUT_ANY : Fld := ⟨6, 65536, 1, 0x208, 64, 0, 8, 15, 1, .rw, [.c, .w], 0x1⟩
/-- PMU_TF_PORTf.CONG_MIN, 17_performance_monitoring.md -/
def PMU_TF_PORTf_CONG_MIN : Fld := ⟨6, 65536, 1, 0x208, 64, 0, 8, 24, 8, .rw, [.c, .w], 0x0⟩
/-- PMU_TF_DSTf.DID, 17_performance_monitoring.md -/
def PMU_TF_DSTf_DID : Fld := ⟨6, 65536, 1, 0x210, 64, 0, 8, 0, 18, .rw, [.c, .w], 0x0⟩
/-- PMU_TF_SRCf.DID, 17_performance_monitoring.md -/
def PMU_TF_SRCf_DID : Fld := ⟨6, 65536, 1, 0x218, 64, 0, 8, 0, 18, .rw, [.c, .w], 0x0⟩
/-- PMU_TF_DSTf.MASK, 17_performance_monitoring.md -/
def PMU_TF_DSTf_MASK : Fld := ⟨6, 65536, 1, 0x210, 64, 0, 8, 32, 18, .rw, [.c, .w], 0x0⟩
/-- PMU_TF_SRCf.MASK, 17_performance_monitoring.md -/
def PMU_TF_SRCf_MASK : Fld := ⟨6, 65536, 1, 0x218, 64, 0, 8, 32, 18, .rw, [.c, .w], 0x0⟩
/-- PMU_SR_BASE.BASE, 17_performance_monitoring.md -/
def PMU_SR_BASE_BASE : Fld := ⟨6, 8192, 4, 0x8000, 0, 0, 1, 12, 36, .rw, [.c, .w, .h], 0x0⟩
/-- PMU_SR_CTL.EN, 17_performance_monitoring.md -/
def PMU_SR_CTL_EN : Fld := ⟨6, 8192, 4, 0x8008, 0, 0, 1, 0, 1, .rw, [.c, .w, .h], 0x0⟩
/-- PMU_SR_CTL.LOG2_SIZE, 17_performance_monitoring.md -/
def PMU_SR_CTL_LOG2_SIZE : Fld := ⟨6, 8192, 4, 0x8008, 0, 0, 1, 4, 4, .rw, [.c, .w, .h], 0x6⟩
/-- PMU_SR_CTL.AS, 17_performance_monitoring.md -/
def PMU_SR_CTL_AS : Fld := ⟨6, 8192, 4, 0x8008, 0, 0, 1, 16, 12, .rw, [.c, .w, .h], 0x0⟩
/-- PMU_SR_CTL.LOG2_N, 17_performance_monitoring.md -/
def PMU_SR_CTL_LOG2_N : Fld := ⟨6, 8192, 4, 0x8008, 0, 0, 1, 32, 5, .rw, [.c, .w, .h], 0xa⟩
/-- PMU_SR_TAIL.TAIL, 17_performance_monitoring.md -/
def PMU_SR_TAIL_TAIL : Fld := ⟨6, 8192, 4, 0x8010, 0, 0, 1, 0, 32, .ro, [.c, .w, .h], 0x0⟩
/-- PMU_SR_HEAD.HEAD, 17_performance_monitoring.md -/
def PMU_SR_HEAD_HEAD : Fld := ⟨6, 8192, 4, 0x8018, 0, 0, 1, 0, 32, .rw, [.c, .w, .h], 0x0⟩
/-- PMU_SR_STAT.DROPPED, 17_performance_monitoring.md -/
def PMU_SR_STAT_DROPPED : Fld := ⟨6, 8192, 4, 0x8020, 0, 0, 1, 0, 32, .rc, [.c, .w, .h], 0x0⟩
/-- PMU_SR_STAT.TAGGED, 17_performance_monitoring.md -/
def PMU_SR_STAT_TAGGED : Fld := ⟨6, 8192, 4, 0x8020, 0, 0, 1, 32, 32, .rc, [.c, .w, .h], 0x0⟩
/-- PMU_SR_SEED.SEED, 17_performance_monitoring.md -/
def PMU_SR_SEED_SEED : Fld := ⟨6, 8192, 4, 0x8028, 0, 0, 1, 0, 32, .wo, [], 0x1⟩
/-- HIF_LINK_STAT.RATE, 03_host_ports.md -/
def HIF_LINK_STAT_RATE : Fld := ⟨8, 65536, 4, 0x100, 0, 0, 1, 0, 4, .ro, [.c, .w, .h], 0x0⟩
/-- HIF_LINK_STAT.WIDTH, 03_host_ports.md -/
def HIF_LINK_STAT_WIDTH : Fld := ⟨8, 65536, 4, 0x100, 0, 0, 1, 4, 5, .ro, [.c, .w, .h], 0x0⟩
/-- HIF_LINK_STAT.FLIT, 03_host_ports.md -/
def HIF_LINK_STAT_FLIT : Fld := ⟨8, 65536, 4, 0x100, 0, 0, 1, 9, 1, .ro, [.c, .w, .h], 0x0⟩
/-- HIF_LINK_STAT.UP, 03_host_ports.md -/
def HIF_LINK_STAT_UP : Fld := ⟨8, 65536, 4, 0x100, 0, 0, 1, 10, 1, .ro, [.c, .w, .h], 0x0⟩
/-- HIF_LINK_STAT.DOWN_COUNT, 03_host_ports.md -/
def HIF_LINK_STAT_DOWN_COUNT : Fld := ⟨8, 65536, 4, 0x100, 0, 0, 1, 32, 16, .ro, [.c, .w], 0x0⟩
/-- HIF_LINK_CTL.MAX_RATE, 03_host_ports.md -/
def HIF_LINK_CTL_MAX_RATE : Fld := ⟨8, 65536, 4, 0x108, 0, 0, 1, 0, 4, .rws, [.c, .w], 0x6⟩
/-- HIF_LINK_CTL.MAX_WIDTH, 03_host_ports.md -/
def HIF_LINK_CTL_MAX_WIDTH : Fld := ⟨8, 65536, 4, 0x108, 0, 0, 1, 4, 5, .rws, [.c, .w], 0x10⟩
/-- HIF_LINK_CTL.FLIT_EN, 03_host_ports.md -/
def HIF_LINK_CTL_FLIT_EN : Fld := ⟨8, 65536, 4, 0x108, 0, 0, 1, 9, 1, .rws, [.c, .w], 0x1⟩
/-- HIF_SLOT_CTL.AUTO_POWER, 03_host_ports.md -/
def HIF_SLOT_CTL_AUTO_POWER : Fld := ⟨8, 65536, 4, 0x110, 0, 0, 1, 0, 1, .rw, [.c, .w], 0x1⟩
/-- HIF_SLOT_CTL.POWER_ON, 03_host_ports.md -/
def HIF_SLOT_CTL_POWER_ON : Fld := ⟨8, 65536, 4, 0x110, 0, 0, 1, 1, 1, .wo, [], 0x0⟩
/-- HIF_SLOT_CTL.REMOVE_REQ, 03_host_ports.md -/
def HIF_SLOT_CTL_REMOVE_REQ : Fld := ⟨8, 65536, 4, 0x110, 0, 0, 1, 2, 1, .wo, [], 0x0⟩
/-- HIF_SLOT_CTL.FORCE_OFF, 03_host_ports.md -/
def HIF_SLOT_CTL_FORCE_OFF : Fld := ⟨8, 65536, 4, 0x110, 0, 0, 1, 3, 1, .wo, [], 0x0⟩
/-- HIF_SLOT_CTL.CANCEL, 03_host_ports.md -/
def HIF_SLOT_CTL_CANCEL : Fld := ⟨8, 65536, 4, 0x110, 0, 0, 1, 4, 1, .wo, [], 0x0⟩
/-- HIF_SLOT_CTL.BUTTON_EN, 03_host_ports.md -/
def HIF_SLOT_CTL_BUTTON_EN : Fld := ⟨8, 65536, 4, 0x110, 0, 0, 1, 5, 1, .rw, [.c, .w], 0x1⟩
/-- HIF_SLOT_CTL.ATTN_MODE, 03_host_ports.md -/
def HIF_SLOT_CTL_ATTN_MODE : Fld := ⟨8, 65536, 4, 0x110, 0, 0, 1, 6, 2, .rw, [.c, .w], 0x3⟩
/-- HIF_SLOT_STAT.STATE, 03_host_ports.md -/
def HIF_SLOT_STAT_STATE : Fld := ⟨8, 65536, 4, 0x118, 0, 0, 1, 0, 3, .ro, [.c, .w], 0x0⟩
/-- HIF_SLOT_STAT.PRSNT, 03_host_ports.md -/
def HIF_SLOT_STAT_PRSNT : Fld := ⟨8, 65536, 4, 0x118, 0, 0, 1, 8, 1, .ro, [.c, .w], 0x0⟩
/-- HIF_SLOT_STAT.PWR_FLT, 03_host_ports.md -/
def HIF_SLOT_STAT_PWR_FLT : Fld := ⟨8, 65536, 4, 0x118, 0, 0, 1, 9, 1, .ro, [.c, .w], 0x0⟩
/-- HIF_SLOT_STAT.PWR_EN, 03_host_ports.md -/
def HIF_SLOT_STAT_PWR_EN : Fld := ⟨8, 65536, 4, 0x118, 0, 0, 1, 10, 1, .ro, [.c, .w], 0x0⟩
/-- HIF_SLOT_STAT.PERST, 03_host_ports.md -/
def HIF_SLOT_STAT_PERST : Fld := ⟨8, 65536, 4, 0x118, 0, 0, 1, 11, 1, .ro, [.c, .w], 0x0⟩
/-- HIF_SLOT_STAT.INSERTED, 03_host_ports.md -/
def HIF_SLOT_STAT_INSERTED : Fld := ⟨8, 65536, 4, 0x118, 0, 0, 1, 16, 1, .w1c, [.c, .w], 0x0⟩
/-- HIF_SLOT_STAT.REMOVED_SURPRISE, 03_host_ports.md -/
def HIF_SLOT_STAT_REMOVED_SURPRISE : Fld := ⟨8, 65536, 4, 0x118, 0, 0, 1, 17, 1, .w1c, [.c, .w], 0x0⟩
/-- HIF_SLOT_STAT.REMOVED_ORDERLY, 03_host_ports.md -/
def HIF_SLOT_STAT_REMOVED_ORDERLY : Fld := ⟨8, 65536, 4, 0x118, 0, 0, 1, 18, 1, .w1c, [.c, .w], 0x0⟩
/-- HIF_SLOT_STAT.BUTTON, 03_host_ports.md -/
def HIF_SLOT_STAT_BUTTON : Fld := ⟨8, 65536, 4, 0x118, 0, 0, 1, 19, 1, .w1c, [.c, .w], 0x0⟩
/-- HIF_SLOT_STAT.POWER_FAULT, 03_host_ports.md -/
def HIF_SLOT_STAT_POWER_FAULT : Fld := ⟨8, 65536, 4, 0x118, 0, 0, 1, 20, 1, .w1c, [.c, .w], 0x0⟩
/-- HIF_SLOT_STAT.QUIESCE_TIMEOUT, 03_host_ports.md -/
def HIF_SLOT_STAT_QUIESCE_TIMEOUT : Fld := ⟨8, 65536, 4, 0x118, 0, 0, 1, 21, 1, .w1c, [.c, .w], 0x0⟩
/-- HIF_SLOT_TMO.QUIESCE, 03_host_ports.md -/
def HIF_SLOT_TMO_QUIESCE : Fld := ⟨8, 65536, 4, 0x120, 0, 0, 1, 0, 16, .rw, [.c, .w], 0x7530⟩
/-- HIF_SLOT_TMO.DEBOUNCE, 03_host_ports.md -/
def HIF_SLOT_TMO_DEBOUNCE : Fld := ⟨8, 65536, 4, 0x120, 0, 0, 1, 16, 16, .rw, [.c, .w], 0x14⟩
/-- HIF_COMMONS_CTL.EN, 03_host_ports.md -/
def HIF_COMMONS_CTL_EN : Fld := ⟨8, 65536, 4, 0x128, 0, 0, 1, 0, 1, .rw, [.c, .w], 0x0⟩
/-- HIF_COMMONS_CTL.WRITE_EN, 03_host_ports.md -/
def HIF_COMMONS_CTL_WRITE_EN : Fld := ⟨8, 65536, 4, 0x128, 0, 0, 1, 1, 1, .rw, [.c, .w], 0x0⟩
/-- HIF_COMMONS_CTL.BASE, 03_host_ports.md -/
def HIF_COMMONS_CTL_BASE : Fld := ⟨8, 65536, 4, 0x128, 0, 0, 1, 8, 16, .rw, [.c, .w], 0x0⟩
/-- HIF_COMMONS_CTL.SIZE, 03_host_ports.md -/
def HIF_COMMONS_CTL_SIZE : Fld := ⟨8, 65536, 4, 0x128, 0, 0, 1, 32, 16, .rw, [.c, .w], 0x0⟩
/-- HIF_IDE_CTL.REQUIRE, 03_host_ports.md -/
def HIF_IDE_CTL_REQUIRE : Fld := ⟨8, 65536, 4, 0x130, 0, 0, 1, 0, 1, .w1s, [.c, .w], 0x0⟩
/-- HIF_IDE_STAT.STREAM, 03_host_ports.md -/
def HIF_IDE_STAT_STREAM : Fld := ⟨8, 65536, 4, 0x138, 0, 0, 1, 0, 2, .ro, [.c, .w, .h], 0x0⟩
/-- HIF_IDE_STAT.SECURE, 03_host_ports.md -/
def HIF_IDE_STAT_SECURE : Fld := ⟨8, 65536, 4, 0x138, 0, 0, 1, 2, 1, .ro, [.c, .w, .h], 0x0⟩
/-- HIF_IDE_STAT.HALTED, 03_host_ports.md -/
def HIF_IDE_STAT_HALTED : Fld := ⟨8, 65536, 4, 0x138, 0, 0, 1, 3, 1, .ro, [.c, .w], 0x0⟩
/-- HIF_IDE_STAT.KEY_SET, 03_host_ports.md -/
def HIF_IDE_STAT_KEY_SET : Fld := ⟨8, 65536, 4, 0x138, 0, 0, 1, 4, 1, .ro, [.c, .w, .h], 0x0⟩
/-- HIF_OUTSTANDING.READS, 03_host_ports.md -/
def HIF_OUTSTANDING_READS : Fld := ⟨8, 65536, 4, 0x140, 0, 0, 1, 0, 11, .ro, [.c, .w, .h], 0x0⟩
/-- HIF_OUTSTANDING.READS_HWM, 03_host_ports.md -/
def HIF_OUTSTANDING_READS_HWM : Fld := ⟨8, 65536, 4, 0x140, 0, 0, 1, 16, 11, .rc, [.c, .w, .h], 0x0⟩
/-- HIF_FN_STAT.EP_HOLD, 03_host_ports.md -/
def HIF_FN_STAT_EP_HOLD : Fld := ⟨8, 65536, 4, 0x8000, 0, 0, 1, 0, 1, .ro, [.c, .w, .h], 0x1⟩
/-- HIF_FN_STAT.QUIESCE_REQ, 03_host_ports.md -/
def HIF_FN_STAT_QUIESCE_REQ : Fld := ⟨8, 65536, 4, 0x8000, 0, 0, 1, 1, 1, .ro, [.c, .w, .h], 0x0⟩
/-- HIF_FN_STAT.IDE_HALT, 03_host_ports.md -/
def HIF_FN_STAT_IDE_HALT : Fld := ⟨8, 65536, 4, 0x8000, 0, 0, 1, 2, 1, .ro, [.c, .w, .h], 0x0⟩
/-- HIF_FN_STAT.BME, 03_host_ports.md -/
def HIF_FN_STAT_BME : Fld := ⟨8, 65536, 4, 0x8000, 0, 0, 1, 3, 1, .ro, [.c, .w, .h], 0x0⟩
/-- HIF_FN_STAT.DSTATE, 03_host_ports.md -/
def HIF_FN_STAT_DSTATE : Fld := ⟨8, 65536, 4, 0x8000, 0, 0, 1, 4, 2, .ro, [.c, .w, .h], 0x0⟩
/-- HIF_FN_STAT.HOLD_REMAIN, 03_host_ports.md -/
def HIF_FN_STAT_HOLD_REMAIN : Fld := ⟨8, 65536, 4, 0x8000, 0, 0, 1, 32, 32, .ro, [.c, .w, .h], 0x0⟩
/-- HIF_FN_CTL.QUIESCED, 03_host_ports.md -/
def HIF_FN_CTL_QUIESCED : Fld := ⟨8, 65536, 4, 0x8008, 0, 0, 1, 0, 1, .w1s, [.c, .w, .h], 0x0⟩
/-- XLT_CTL.PREWALK_EN, 04_translation.md -/
def XLT_CTL_PREWALK_EN : Fld := ⟨16, 65536, 1, 0x100, 0, 0, 1, 0, 1, .rw, [.c, .w], 0x1⟩
/-- XLT_CTL.PREWALK_DIST, 04_translation.md -/
def XLT_CTL_PREWALK_DIST : Fld := ⟨16, 65536, 1, 0x100, 0, 0, 1, 8, 4, .rw, [.c, .w], 0x4⟩
/-- XLT_CTL.COALESCE_US, 04_translation.md -/
def XLT_CTL_COALESCE_US : Fld := ⟨16, 65536, 1, 0x100, 0, 0, 1, 16, 16, .rw, [.c, .w], 0x64⟩
/-- XLT_STAT.WALKS, 04_translation.md -/
def XLT_STAT_WALKS : Fld := ⟨16, 65536, 1, 0x108, 0, 0, 1, 0, 7, .ro, [.c, .w, .b], 0x0⟩
/-- XLT_STAT.WALKS_HWM, 04_translation.md -/
def XLT_STAT_WALKS_HWM : Fld := ⟨16, 65536, 1, 0x108, 0, 0, 1, 16, 7, .rc, [.c, .w, .b], 0x0⟩
/-- XLT_CACHE_CTL.TC_BYPASS, 04_translation.md -/
def XLT_CACHE_CTL_TC_BYPASS : Fld := ⟨16, 65536, 1, 0x110, 0, 0, 1, 0, 1, .rws, [.c, .w, .b], 0x0⟩
/-- XLT_CACHE_CTL.WC_BYPASS, 04_translation.md -/
def XLT_CACHE_CTL_WC_BYPASS : Fld := ⟨16, 65536, 1, 0x110, 0, 0, 1, 1, 1, .rws, [.c, .w, .b], 0x0⟩
/-- XLT_FQ_BASE.BASE, 04_translation.md -/
def XLT_FQ_BASE_BASE : Fld := ⟨16, 8192, 4, 0x8000, 0, 0, 1, 12, 52, .rw, [.c, .w, .h], 0x0⟩
/-- XLT_FQ_CTL.EN, 04_translation.md -/
def XLT_FQ_CTL_EN : Fld := ⟨16, 8192, 4, 0x8008, 0, 0, 1, 0, 1, .rw, [.c, .w, .h], 0x0⟩
/-- XLT_FQ_CTL.LOG2_SIZE, 04_translation.md -/
def XLT_FQ_CTL_LOG2_SIZE : Fld := ⟨16, 8192, 4, 0x8008, 0, 0, 1, 4, 4, .rw, [.c, .w, .h], 0x6⟩
/-- XLT_FQ_CTL.VECTOR, 04_translation.md -/
def XLT_FQ_CTL_VECTOR : Fld := ⟨16, 8192, 4, 0x8008, 0, 0, 1, 16, 11, .rw, [.c, .w, .h], 0x0⟩
/-- XLT_FQ_CTL.IRQ_EN, 04_translation.md -/
def XLT_FQ_CTL_IRQ_EN : Fld := ⟨16, 8192, 4, 0x8008, 0, 0, 1, 27, 1, .rw, [.c, .w, .h], 0x0⟩
/-- XLT_FQ_TAIL.TAIL, 04_translation.md -/
def XLT_FQ_TAIL_TAIL : Fld := ⟨16, 8192, 4, 0x8010, 0, 0, 1, 0, 32, .ro, [.c, .w, .h], 0x0⟩
/-- XLT_FQ_HEAD.HEAD, 04_translation.md -/
def XLT_FQ_HEAD_HEAD : Fld := ⟨16, 8192, 4, 0x8018, 0, 0, 1, 0, 32, .rw, [.c, .w, .h], 0x0⟩
/-- XLT_FQ_STAT.OVERFLOW, 04_translation.md -/
def XLT_FQ_STAT_OVERFLOW : Fld := ⟨16, 8192, 4, 0x8020, 0, 0, 1, 0, 1, .w1c, [.c, .w, .h], 0x0⟩
/-- XLT_FQ_STAT.LOST, 04_translation.md -/
def XLT_FQ_STAT_LOST : Fld := ⟨16, 8192, 4, 0x8020, 0, 0, 1, 16, 16, .rc, [.c, .w, .h], 0x0⟩
/-- XLT_FQ_STAT.SUPPRESSED, 04_translation.md -/
def XLT_FQ_STAT_SUPPRESSED : Fld := ⟨16, 8192, 4, 0x8020, 0, 0, 1, 32, 32, .rc, [.c, .w, .h], 0x0⟩
/-- XLT_FN_RESUME.WQ, 04_translation.md -/
def XLT_FN_RESUME_WQ : Fld := ⟨16, 8192, 4, 0x8028, 0, 0, 1, 0, 14, .wo, [], 0x0⟩
/-- XLT_FN_RESUME.ACTION, 04_translation.md -/
def XLT_FN_RESUME_ACTION : Fld := ⟨16, 8192, 4, 0x8028, 0, 0, 1, 16, 2, .wo, [], 0x0⟩
/-- XLT_FN_SUSP.COUNT, 04_translation.md -/
def XLT_FN_SUSP_COUNT : Fld := ⟨16, 8192, 4, 0x8030, 0, 0, 1, 0, 15, .ro, [.c, .w, .h], 0x0⟩
/-- XLT_FN_SUSP.LAST_REFUSED, 04_translation.md -/
def XLT_FN_SUSP_LAST_REFUSED : Fld := ⟨16, 8192, 4, 0x8030, 0, 0, 1, 31, 1, .w1c, [.c, .w, .h], 0x0⟩
/-- XLT_FN_INVAL_STAT.PENDING, 04_translation.md -/
def XLT_FN_INVAL_STAT_PENDING : Fld := ⟨16, 8192, 4, 0x8038, 0, 0, 1, 0, 16, .ro, [.c, .w, .h], 0x0⟩
/-- XLT_SE_BASEk.BASE, 04_translation.md -/
def XLT_SE_BASEk_BASE : Fld := ⟨16, 8192, 4, 0x8040, 16, 0, 8, 12, 52, .rw, [.c, .w, .h], 0x0⟩
/-- XLT_SE_BASEk.EN, 04_translation.md -/
def XLT_SE_BASEk_EN : Fld := ⟨16, 8192, 4, 0x8040, 16, 0, 8, 0, 1, .rw, [.c, .w, .h], 0x0⟩
/-- XLT_SE_LIMk.LIMIT, 04_translation.md -/
def XLT_SE_LIMk_LIMIT : Fld := ⟨16, 8192, 4, 0x8048, 16, 0, 8, 12, 52, .rw, [.c, .w, .h], 0x0⟩
/-- XLT_FN_USAGE.AS_LIVE, 04_translation.md -/
def XLT_FN_USAGE_AS_LIVE : Fld := ⟨16, 8192, 4, 0x80c0, 0, 0, 1, 0, 13, .ro, [.c, .w, .h], 0x0⟩
/-- XLT_FN_USAGE.REG_PAGES, 04_translation.md -/
def XLT_FN_USAGE_REG_PAGES : Fld := ⟨16, 8192, 4, 0x80c0, 0, 0, 1, 32, 31, .ro, [.c, .w, .h], 0x0⟩
/-- CMD_CTL.PREFETCH, 05_work_queues.md -/
def CMD_CTL_PREFETCH : Fld := ⟨17, 65536, 1, 0x100, 0, 0, 1, 0, 4, .rw, [.c, .w], 0x8⟩
/-- CMD_CTL.DP_EN, 05_work_queues.md -/
def CMD_CTL_DP_EN : Fld := ⟨17, 65536, 1, 0x100, 0, 0, 1, 8, 1, .rw, [.c, .w], 0x1⟩
/-- CMD_STAT.DESC_CACHED, 05_work_queues.md -/
def CMD_STAT_DESC_CACHED : Fld := ⟨17, 65536, 1, 0x108, 0, 0, 1, 0, 15, .ro, [.c, .w, .b], 0x0⟩
/-- CMD_STAT.TRIG_HELD, 05_work_queues.md -/
def CMD_STAT_TRIG_HELD : Fld := ⟨17, 65536, 1, 0x108, 0, 0, 1, 32, 14, .ro, [.c, .w, .b], 0x0⟩
/-- CMD_HWM.DESC_HWM, 05_work_queues.md -/
def CMD_HWM_DESC_HWM : Fld := ⟨17, 65536, 1, 0x110, 0, 0, 1, 0, 15, .rc, [.c, .w, .b], 0x0⟩
/-- CMD_HWM.TRIG_HWM, 05_work_queues.md -/
def CMD_HWM_TRIG_HWM : Fld := ⟨17, 65536, 1, 0x110, 0, 0, 1, 32, 14, .rc, [.c, .w, .b], 0x0⟩
/-- CMD_AQ_BASE.BASE, 05_work_queues.md -/
def CMD_AQ_BASE_BASE : Fld := ⟨17, 8192, 4, 0x8000, 0, 0, 1, 12, 52, .rw, [.c, .w, .h], 0x0⟩
/-- CMD_AQ_CTL.EN, 05_work_queues.md -/
def CMD_AQ_CTL_EN : Fld := ⟨17, 8192, 4, 0x8008, 0, 0, 1, 0, 1, .rw, [.c, .w, .h], 0x0⟩
/-- CMD_AQ_CTL.LOG2_SIZE, 05_work_queues.md -/
def CMD_AQ_CTL_LOG2_SIZE : Fld := ⟨17, 8192, 4, 0x8008, 0, 0, 1, 4, 4, .rw, [.c, .w, .h], 0x4⟩
/-- CMD_AQ_TAIL.TAIL, 05_work_queues.md -/
def CMD_AQ_TAIL_TAIL : Fld := ⟨17, 8192, 4, 0x8010, 0, 0, 1, 0, 32, .rw, [.c, .w, .h], 0x0⟩
/-- CMD_AQ_HEAD.HEAD, 05_work_queues.md -/
def CMD_AQ_HEAD_HEAD : Fld := ⟨17, 8192, 4, 0x8018, 0, 0, 1, 0, 32, .ro, [.c, .w, .h], 0x0⟩
/-- CMD_ACQ_BASE.BASE, 05_work_queues.md -/
def CMD_ACQ_BASE_BASE : Fld := ⟨17, 8192, 4, 0x8020, 0, 0, 1, 12, 52, .rw, [.c, .w, .h], 0x0⟩
/-- CMD_ACQ_CTL.EN, 05_work_queues.md -/
def CMD_ACQ_CTL_EN : Fld := ⟨17, 8192, 4, 0x8028, 0, 0, 1, 0, 1, .rw, [.c, .w, .h], 0x0⟩
/-- CMD_ACQ_CTL.LOG2_SIZE, 05_work_queues.md -/
def CMD_ACQ_CTL_LOG2_SIZE : Fld := ⟨17, 8192, 4, 0x8028, 0, 0, 1, 4, 4, .rw, [.c, .w, .h], 0x4⟩
/-- CMD_ACQ_CTL.VECTOR, 05_work_queues.md -/
def CMD_ACQ_CTL_VECTOR : Fld := ⟨17, 8192, 4, 0x8028, 0, 0, 1, 16, 11, .rw, [.c, .w, .h], 0x0⟩
/-- CMD_ACQ_CTL.IRQ_EN, 05_work_queues.md -/
def CMD_ACQ_CTL_IRQ_EN : Fld := ⟨17, 8192, 4, 0x8028, 0, 0, 1, 27, 1, .rw, [.c, .w, .h], 0x0⟩
/-- CMD_ACQ_TAIL.TAIL, 05_work_queues.md -/
def CMD_ACQ_TAIL_TAIL : Fld := ⟨17, 8192, 4, 0x8030, 0, 0, 1, 0, 32, .ro, [.c, .w, .h], 0x0⟩
/-- CMD_ACQ_HEAD.HEAD, 05_work_queues.md -/
def CMD_ACQ_HEAD_HEAD : Fld := ⟨17, 8192, 4, 0x8038, 0, 0, 1, 0, 32, .rw, [.c, .w, .h], 0x0⟩
/-- CMD_FN_STAT.WQ_LIVE, 05_work_queues.md -/
def CMD_FN_STAT_WQ_LIVE : Fld := ⟨17, 8192, 4, 0x8040, 0, 0, 1, 0, 15, .ro, [.c, .w, .h], 0x0⟩
/-- CMD_FN_STAT.CQ_LIVE, 05_work_queues.md -/
def CMD_FN_STAT_CQ_LIVE : Fld := ⟨17, 8192, 4, 0x8040, 0, 0, 1, 16, 15, .ro, [.c, .w, .h], 0x0⟩
/-- CMD_FN_STAT.EQ_LIVE, 05_work_queues.md -/
def CMD_FN_STAT_EQ_LIVE : Fld := ⟨17, 8192, 4, 0x8040, 0, 0, 1, 32, 11, .ro, [.c, .w, .h], 0x0⟩
/-- CMD_FN_STAT.ADMIN_BUSY, 05_work_queues.md -/
def CMD_FN_STAT_ADMIN_BUSY : Fld := ⟨17, 8192, 4, 0x8040, 0, 0, 1, 48, 1, .ro, [.c, .w, .h], 0x0⟩
/-- CMD_RESUME.NUMBER, 05_work_queues.md -/
def CMD_RESUME_NUMBER : Fld := ⟨17, 8192, 4, 0x8048, 0, 0, 1, 0, 14, .wo, [], 0x0⟩
/-- CMD_RESUME.ACTION, 05_work_queues.md -/
def CMD_RESUME_ACTION : Fld := ⟨17, 8192, 4, 0x8048, 0, 0, 1, 16, 2, .wo, [], 0x0⟩
/-- CMD_RESUME.QKIND, 05_work_queues.md -/
def CMD_RESUME_QKIND : Fld := ⟨17, 8192, 4, 0x8048, 0, 0, 1, 18, 2, .wo, [], 0x0⟩
/-- CMD_TRIG_ADD.COUNTER, 05_work_queues.md -/
def CMD_TRIG_ADD_COUNTER : Fld := ⟨17, 8192, 4, 0x8050, 0, 0, 1, 0, 9, .wo, [], 0x0⟩
/-- CMD_TRIG_ADD.ADDEND, 05_work_queues.md -/
def CMD_TRIG_ADD_ADDEND : Fld := ⟨17, 8192, 4, 0x8050, 0, 0, 1, 32, 32, .wo, [], 0x0⟩
/-- CMD_ASYNC.EQ, 05_work_queues.md -/
def CMD_ASYNC_EQ : Fld := ⟨17, 8192, 4, 0x8058, 0, 0, 1, 0, 10, .ro, [.c, .w, .h], 0x0⟩
/-- CMD_ASYNC.VALID, 05_work_queues.md -/
def CMD_ASYNC_VALID : Fld := ⟨17, 8192, 4, 0x8058, 0, 0, 1, 15, 1, .ro, [.c, .w, .h], 0x0⟩
/-- CMD_ASYNC.LOST, 05_work_queues.md -/
def CMD_ASYNC_LOST : Fld := ⟨17, 8192, 4, 0x8058, 0, 0, 1, 32, 32, .rc, [.c, .w, .h], 0x0⟩
/-- CMD_TRIG_STAT.HELD, 05_work_queues.md -/
def CMD_TRIG_STAT_HELD : Fld := ⟨17, 8192, 4, 0x8060, 0, 0, 1, 0, 12, .ro, [.c, .w, .h], 0x0⟩
/-- CMD_TRIG_STAT.HELD_HWM, 05_work_queues.md -/
def CMD_TRIG_STAT_HELD_HWM : Fld := ⟨17, 8192, 4, 0x8060, 0, 0, 1, 16, 12, .rc, [.c, .w, .h], 0x0⟩
/-- CMD_TRIGk.COUNT, 05_work_queues.md -/
def CMD_TRIGk_COUNT : Fld := ⟨17, 8192, 4, 0x9000, 8, 0, 512, 0, 32, .rw, [.c, .w, .h], 0x0⟩
/-- TXE_CTL.READ_LIMIT, 06_remote_access.md -/
def TXE_CTL_READ_LIMIT : Fld := ⟨18, 65536, 1, 0x100, 0, 0, 1, 0, 11, .rw, [.c, .w], 0x100⟩
/-- TXE_PIPE_STATp.READS, 06_remote_access.md -/
def TXE_PIPE_STATp_READS : Fld := ⟨18, 65536, 1, 0x110, 8, 0, 4, 0, 11, .ro, [.c, .w, .b], 0x0⟩
/-- TXE_PIPE_STATp.ACTIVE_WQ, 06_remote_access.md -/
def TXE_PIPE_STATp_ACTIVE_WQ : Fld := ⟨18, 65536, 1, 0x110, 8, 0, 4, 16, 15, .ro, [.c, .w, .b], 0x0⟩
/-- TXE_HWMp.READS_HWM, 06_remote_access.md -/
def TXE_HWMp_READS_HWM : Fld := ⟨18, 65536, 1, 0x130, 8, 0, 4, 0, 11, .rc, [.c, .w, .b], 0x0⟩
/-- TXE_HWMp.ACTIVE_HWM, 06_remote_access.md -/
def TXE_HWMp_ACTIVE_HWM : Fld := ⟨18, 65536, 1, 0x130, 8, 0, 4, 16, 15, .rc, [.c, .w, .b], 0x0⟩
/-- TXE_PREEMPTp.COUNT, 06_remote_access.md -/
def TXE_PREEMPTp_COUNT : Fld := ⟨18, 65536, 1, 0x150, 8, 0, 4, 0, 32, .rc, [.c, .w, .b], 0x0⟩
/-- RXE_CTL.VIOL_COALESCE_US, 06_remote_access.md -/
def RXE_CTL_VIOL_COALESCE_US : Fld := ⟨19, 65536, 1, 0x100, 0, 0, 1, 0, 16, .rw, [.c, .w], 0x3e8⟩
/-- RXE_CTL.FLUSH_ZERO_LEN, 06_remote_access.md -/
def RXE_CTL_FLUSH_ZERO_LEN : Fld := ⟨19, 65536, 1, 0x100, 0, 0, 1, 16, 1, .rw, [.c, .w], 0x1⟩
/-- RXE_PIPE_STATp.WALK_PARKED, 06_remote_access.md -/
def RXE_PIPE_STATp_WALK_PARKED : Fld := ⟨19, 65536, 1, 0x110, 8, 0, 4, 0, 8, .ro, [.c, .w, .b], 0x0⟩
/-- RXE_PIPE_STATp.FLUSH_PENDING, 06_remote_access.md -/
def RXE_PIPE_STATp_FLUSH_PENDING : Fld := ⟨19, 65536, 1, 0x110, 8, 0, 4, 16, 8, .ro, [.c, .w, .b], 0x0⟩
/-- RXE_HWMp.WALK_PARKED_HWM, 06_remote_access.md -/
def RXE_HWMp_WALK_PARKED_HWM : Fld := ⟨19, 65536, 1, 0x130, 8, 0, 4, 0, 8, .rc, [.c, .w, .b], 0x0⟩
/-- RXE_HWMp.FLUSH_HWM, 06_remote_access.md -/
def RXE_HWMp_FLUSH_HWM : Fld := ⟨19, 65536, 1, 0x130, 8, 0, 4, 16, 8, .rc, [.c, .w, .b], 0x0⟩
/-- RXE_VIOL.REFUSED, 06_remote_access.md -/
def RXE_VIOL_REFUSED : Fld := ⟨19, 65536, 1, 0x150, 0, 0, 1, 0, 32, .rc, [.c, .w], 0x0⟩
/-- RXE_VIOL.SUPPRESSED, 06_remote_access.md -/
def RXE_VIOL_SUPPRESSED : Fld := ⟨19, 65536, 1, 0x150, 0, 0, 1, 32, 32, .rc, [.c, .w], 0x0⟩
/-- RXE_REGIONS.LIVE_FN, 06_remote_access.md -/
def RXE_REGIONS_LIVE_FN : Fld := ⟨19, 65536, 1, 0x158, 0, 0, 1, 0, 64, .ro, [.c, .w, .h], 0x0⟩
/-- RXE_CREG_LIVE.LIVE, 06_remote_access.md -/
def RXE_CREG_LIVE_LIVE : Fld := ⟨19, 65536, 1, 0x160, 0, 0, 1, 0, 10, .ro, [.c, .w], 0x0⟩
/-- RXE_CREG_BASEi.BASE, 06_remote_access.md -/
def RXE_CREG_BASEi_BASE : Fld := ⟨19, 65536, 1, 0x4000, 32, 1, 1023, 12, 24, .rws, [.c, .w], 0x0⟩
/-- RXE_CREG_LENi.LEN, 06_remote_access.md -/
def RXE_CREG_LENi_LEN : Fld := ⟨19, 65536, 1, 0x4008, 32, 1, 1023, 12, 25, .rws, [.c, .w], 0x0⟩
/-- RXE_CREG_ATTRi.VALID, 06_remote_access.md -/
def RXE_CREG_ATTRi_VALID : Fld := ⟨19, 65536, 1, 0x4010, 32, 1, 1023, 0, 1, .rws, [.c, .w], 0x0⟩
/-- RXE_CREG_ATTRi.RIGHTS, 06_remote_access.md -/
def RXE_CREG_ATTRi_RIGHTS : Fld := ⟨19, 65536, 1, 0x4010, 32, 1, 1023, 4, 4, .rws, [.c, .w], 0x0⟩
/-- RXE_CREG_ATTRi.TENANCY, 06_remote_access.md -/
def RXE_CREG_ATTRi_TENANCY : Fld := ⟨19, 65536, 1, 0x4010, 32, 1, 1023, 8, 12, .rws, [.c, .w], 0x0⟩
/-- RXE_CREG_ATTRi.OWNER_FN, 06_remote_access.md -/
def RXE_CREG_ATTRi_OWNER_FN : Fld := ⟨19, 65536, 1, 0x4010, 32, 1, 1023, 20, 2, .rws, [.c, .w], 0x0⟩
/-- RXE_CREG_ATTRi.EQ, 06_remote_access.md -/
def RXE_CREG_ATTRi_EQ : Fld := ⟨19, 65536, 1, 0x4010, 32, 1, 1023, 24, 10, .rws, [.c, .w], 0x0⟩
/-- RXE_CREG_ATTRi.EQ_EN, 06_remote_access.md -/
def RXE_CREG_ATTRi_EQ_EN : Fld := ⟨19, 65536, 1, 0x4010, 32, 1, 1023, 34, 1, .rws, [.c, .w], 0x0⟩
/-- RXE_CREG_ATTRi.GEN, 06_remote_access.md -/
def RXE_CREG_ATTRi_GEN : Fld := ⟨19, 65536, 1, 0x4010, 32, 1, 1023, 40, 8, .ro, [.c, .w], 0x0⟩
/-- PWY_CTL.ACK_COALESCE, 07_pathways.md -/
def PWY_CTL_ACK_COALESCE : Fld := ⟨20, 65536, 1, 0x100, 0, 0, 1, 0, 8, .rw, [.c, .w], 0x4⟩
/-- PWY_CTL.ACK_DELAY_NS, 07_pathways.md -/
def PWY_CTL_ACK_DELAY_NS : Fld := ⟨20, 65536, 1, 0x100, 0, 0, 1, 8, 16, .rw, [.c, .w], 0x1f4⟩
/-- PWY_CTL.IDLE_SPILL_US, 07_pathways.md -/
def PWY_CTL_IDLE_SPILL_US : Fld := ⟨20, 65536, 1, 0x100, 0, 0, 1, 32, 16, .rw, [.c, .w], 0x32⟩
/-- PWY_TIMERS.GIVEUP, 07_pathways.md -/
def PWY_TIMERS_GIVEUP : Fld := ⟨20, 65536, 1, 0x108, 0, 0, 1, 0, 32, .rws, [.c, .w], 0x7d0⟩
/-- PWY_TIMERS.FORGET, 07_pathways.md -/
def PWY_TIMERS_FORGET : Fld := ⟨20, 65536, 1, 0x108, 0, 0, 1, 32, 32, .rws, [.c, .w], 0x1f40⟩
/-- PWY_RTO.INIT, 07_pathways.md -/
def PWY_RTO_INIT : Fld := ⟨20, 65536, 1, 0x110, 0, 0, 1, 0, 16, .rws, [.c, .w], 0x50⟩
/-- PWY_RTO.MIN, 07_pathways.md -/
def PWY_RTO_MIN : Fld := ⟨20, 65536, 1, 0x110, 0, 0, 1, 16, 16, .rws, [.c, .w], 0x14⟩
/-- PWY_RTO.MAX, 07_pathways.md -/
def PWY_RTO_MAX : Fld := ⟨20, 65536, 1, 0x110, 0, 0, 1, 32, 16, .rws, [.c, .w], 0x1f4⟩
/-- PWY_CC_CTL.EN, 07_pathways.md -/
def PWY_CC_CTL_EN : Fld := ⟨20, 65536, 1, 0x118, 0, 0, 1, 0, 1, .rws, [.c, .w], 0x1⟩
/-- PWY_CC_CTL.MD_MARK, 07_pathways.md -/
def PWY_CC_CTL_MD_MARK : Fld := ⟨20, 65536, 1, 0x118, 0, 0, 1, 8, 8, .rws, [.c, .w], 0x80⟩
/-- PWY_CC_CTL.MD_DELAY, 07_pathways.md -/
def PWY_CC_CTL_MD_DELAY : Fld := ⟨20, 65536, 1, 0x118, 0, 0, 1, 16, 8, .rws, [.c, .w], 0xc0⟩
/-- PWY_CC_CTL.MARK_LEVEL, 07_pathways.md -/
def PWY_CC_CTL_MARK_LEVEL : Fld := ⟨20, 65536, 1, 0x118, 0, 0, 1, 24, 8, .rws, [.c, .w], 0x1⟩
/-- PWY_CC_CTL.DELAY_TARGET, 07_pathways.md -/
def PWY_CC_CTL_DELAY_TARGET : Fld := ⟨20, 65536, 1, 0x118, 0, 0, 1, 32, 16, .rws, [.c, .w], 0x7d0⟩
/-- PWY_CC_CTL.AI, 07_pathways.md -/
def PWY_CC_CTL_AI : Fld := ⟨20, 65536, 1, 0x118, 0, 0, 1, 48, 8, .rws, [.c, .w], 0x10⟩
/-- PWY_CC_WIN.INIT, 07_pathways.md -/
def PWY_CC_WIN_INIT : Fld := ⟨20, 65536, 1, 0x120, 0, 0, 1, 0, 12, .rws, [.c, .w], 0x100⟩
/-- PWY_CC_WIN.MIN, 07_pathways.md -/
def PWY_CC_WIN_MIN : Fld := ⟨20, 65536, 1, 0x120, 0, 0, 1, 16, 12, .rws, [.c, .w], 0x10⟩
/-- PWY_CC_WIN.MAX, 07_pathways.md -/
def PWY_CC_WIN_MAX : Fld := ⟨20, 65536, 1, 0x120, 0, 0, 1, 32, 12, .rws, [.c, .w], 0x400⟩
/-- PWY_STAT.CACHED, 07_pathways.md -/
def PWY_STAT_CACHED : Fld := ⟨20, 65536, 1, 0x128, 0, 0, 1, 0, 17, .ro, [.c, .w, .b], 0x0⟩
/-- PWY_STAT.STORED, 07_pathways.md -/
def PWY_STAT_STORED : Fld := ⟨20, 65536, 1, 0x128, 0, 0, 1, 32, 25, .ro, [.c, .w, .b], 0x0⟩
/-- PWY_OCC.INFLIGHT, 07_pathways.md -/
def PWY_OCC_INFLIGHT : Fld := ⟨20, 65536, 1, 0x130, 0, 0, 1, 0, 17, .ro, [.c, .w, .b], 0x0⟩
/-- PWY_OCC.PARKED, 07_pathways.md -/
def PWY_OCC_PARKED : Fld := ⟨20, 65536, 1, 0x130, 0, 0, 1, 32, 10, .ro, [.c, .w, .b], 0x0⟩
/-- PWY_OCC.HELD, 07_pathways.md -/
def PWY_OCC_HELD : Fld := ⟨20, 65536, 1, 0x130, 0, 0, 1, 48, 9, .ro, [.c, .w, .b], 0x0⟩
/-- PWY_HWM.INFLIGHT_HWM, 07_pathways.md -/
def PWY_HWM_INFLIGHT_HWM : Fld := ⟨20, 65536, 1, 0x138, 0, 0, 1, 0, 17, .rc, [.c, .w, .b], 0x0⟩
/-- PWY_HWM.PARKED_HWM, 07_pathways.md -/
def PWY_HWM_PARKED_HWM : Fld := ⟨20, 65536, 1, 0x138, 0, 0, 1, 32, 10, .rc, [.c, .w, .b], 0x0⟩
/-- PWY_HWM.HELD_HWM, 07_pathways.md -/
def PWY_HWM_HELD_HWM : Fld := ⟨20, 65536, 1, 0x138, 0, 0, 1, 48, 9, .rc, [.c, .w, .b], 0x0⟩
/-- PWY_REFUSE.PARK_FULL, 07_pathways.md -/
def PWY_REFUSE_PARK_FULL : Fld := ⟨20, 65536, 1, 0x140, 0, 0, 1, 0, 32, .rc, [.c, .w, .b], 0x0⟩
/-- PWY_REFUSE.STORE_FULL, 07_pathways.md -/
def PWY_REFUSE_STORE_FULL : Fld := ⟨20, 65536, 1, 0x140, 0, 0, 1, 32, 32, .rc, [.c, .w, .b], 0x0⟩
/-- PWY_LQP_STAT.CACHED, 07_pathways.md -/
def PWY_LQP_STAT_CACHED : Fld := ⟨20, 65536, 1, 0x148, 0, 0, 1, 0, 13, .ro, [.c, .w, .b], 0x0⟩
/-- PWY_LQP_STAT.FETCHES, 07_pathways.md -/
def PWY_LQP_STAT_FETCHES : Fld := ⟨20, 65536, 1, 0x148, 0, 0, 1, 32, 32, .rc, [.c, .w, .b], 0x0⟩
/-- MTC_CTL.EAGER_MAX, 08_matching.md -/
def MTC_CTL_EAGER_MAX : Fld := ⟨21, 65536, 1, 0x100, 0, 0, 1, 0, 15, .rw, [.c, .w], 0x2000⟩
/-- MTC_CTL.RESUME_FREE, 08_matching.md -/
def MTC_CTL_RESUME_FREE : Fld := ⟨21, 65536, 1, 0x100, 0, 0, 1, 16, 16, .rw, [.c, .w], 0x40⟩
/-- MTC_CTL.RDV_WAIT_MS, 08_matching.md -/
def MTC_CTL_RDV_WAIT_MS : Fld := ⟨21, 65536, 1, 0x100, 0, 0, 1, 32, 16, .rw, [.c, .w], 0x0⟩
/-- MTC_STORE.POSTED, 08_matching.md -/
def MTC_STORE_POSTED : Fld := ⟨21, 65536, 1, 0x108, 0, 0, 1, 0, 27, .ro, [.c, .w, .b], 0x0⟩
/-- MTC_STORE.UNEXP, 08_matching.md -/
def MTC_STORE_UNEXP : Fld := ⟨21, 65536, 1, 0x108, 0, 0, 1, 32, 27, .ro, [.c, .w, .b], 0x0⟩
/-- MTC_POOL.BLOCKS, 08_matching.md -/
def MTC_POOL_BLOCKS : Fld := ⟨21, 65536, 1, 0x110, 0, 0, 1, 0, 23, .ro, [.c, .w, .b], 0x0⟩
/-- MTC_POOL.RECORDS, 08_matching.md -/
def MTC_POOL_RECORDS : Fld := ⟨21, 65536, 1, 0x110, 0, 0, 1, 24, 17, .ro, [.c, .w, .b], 0x0⟩
/-- MTC_POOL.RDV_SRC, 08_matching.md -/
def MTC_POOL_RDV_SRC : Fld := ⟨21, 65536, 1, 0x110, 0, 0, 1, 42, 17, .ro, [.c, .w, .b], 0x0⟩
/-- MTC_HWM.POSTED_HWM, 08_matching.md -/
def MTC_HWM_POSTED_HWM : Fld := ⟨21, 65536, 1, 0x118, 0, 0, 1, 0, 27, .rc, [.c, .w, .b], 0x0⟩
/-- MTC_HWM.UNEXP_HWM, 08_matching.md -/
def MTC_HWM_UNEXP_HWM : Fld := ⟨21, 65536, 1, 0x118, 0, 0, 1, 32, 27, .rc, [.c, .w, .b], 0x0⟩
/-- MTC_HWM2.BLOCKS_HWM, 08_matching.md -/
def MTC_HWM2_BLOCKS_HWM : Fld := ⟨21, 65536, 1, 0x120, 0, 0, 1, 0, 23, .rc, [.c, .w, .b], 0x0⟩
/-- MTC_HWM2.RECORDS_HWM, 08_matching.md -/
def MTC_HWM2_RECORDS_HWM : Fld := ⟨21, 65536, 1, 0x120, 0, 0, 1, 24, 17, .rc, [.c, .w, .b], 0x0⟩
/-- MTC_REFUSE.NOT_READY, 08_matching.md -/
def MTC_REFUSE_NOT_READY : Fld := ⟨21, 65536, 1, 0x128, 0, 0, 1, 0, 32, .rc, [.c, .w, .b], 0x0⟩
/-- MTC_REFUSE.SPILLED, 08_matching.md -/
def MTC_REFUSE_SPILLED : Fld := ⟨21, 65536, 1, 0x128, 0, 0, 1, 32, 32, .rc, [.c, .w, .b], 0x0⟩
/-- MTC_QUOTA_Fn.HDR_MAX, 08_matching.md -/
def MTC_QUOTA_Fn_HDR_MAX : Fld := ⟨21, 65536, 1, 0x140, 8, 0, 4, 0, 27, .rw, [.c, .w], 0x0⟩
/-- MTC_QUOTA_Fn.POOL_MAX, 08_matching.md -/
def MTC_QUOTA_Fn_POOL_MAX : Fld := ⟨21, 65536, 1, 0x140, 8, 0, 4, 32, 23, .rw, [.c, .w], 0x0⟩
/-- MTC_OVF_BASE.BASE, 08_matching.md -/
def MTC_OVF_BASE_BASE : Fld := ⟨21, 8192, 4, 0x8000, 0, 0, 1, 12, 36, .rw, [.c, .w, .h], 0x0⟩
/-- MTC_OVF_CTL.EN, 08_matching.md -/
def MTC_OVF_CTL_EN : Fld := ⟨21, 8192, 4, 0x8008, 0, 0, 1, 0, 1, .rw, [.c, .w, .h], 0x0⟩
/-- MTC_OVF_CTL.LOG2_SIZE, 08_matching.md -/
def MTC_OVF_CTL_LOG2_SIZE : Fld := ⟨21, 8192, 4, 0x8008, 0, 0, 1, 4, 4, .rw, [.c, .w, .h], 0x4⟩
/-- MTC_OVF_CTL.AS, 08_matching.md -/
def MTC_OVF_CTL_AS : Fld := ⟨21, 8192, 4, 0x8008, 0, 0, 1, 16, 12, .rw, [.c, .w, .h], 0x0⟩
/-- MTC_OVF_TAIL.TAIL, 08_matching.md -/
def MTC_OVF_TAIL_TAIL : Fld := ⟨21, 8192, 4, 0x8010, 0, 0, 1, 0, 32, .rw, [.c, .w, .h], 0x0⟩
/-- MTC_OVF_HEAD.HEAD, 08_matching.md -/
def MTC_OVF_HEAD_HEAD : Fld := ⟨21, 8192, 4, 0x8018, 0, 0, 1, 0, 32, .ro, [.c, .w, .h], 0x0⟩
/-- MTC_FN_USE.LISTS, 08_matching.md -/
def MTC_FN_USE_LISTS : Fld := ⟨21, 8192, 4, 0x8020, 0, 0, 1, 0, 13, .ro, [.c, .w, .h], 0x0⟩
/-- MTC_FN_USE.UNEXP, 08_matching.md -/
def MTC_FN_USE_UNEXP : Fld := ⟨21, 8192, 4, 0x8020, 0, 0, 1, 32, 27, .ro, [.c, .w, .h], 0x0⟩
/-- MTC_FN_POOL.BLOCKS, 08_matching.md -/
def MTC_FN_POOL_BLOCKS : Fld := ⟨21, 8192, 4, 0x8028, 0, 0, 1, 0, 23, .ro, [.c, .w, .h], 0x0⟩
/-- MTC_LIST_SEL.LIST, 08_matching.md -/
def MTC_LIST_SEL_LIST : Fld := ⟨21, 8192, 4, 0x8030, 0, 0, 1, 0, 12, .rw, [.c, .w, .h], 0x0⟩
/-- MTC_LIST_STAT.STATE, 08_matching.md -/
def MTC_LIST_STAT_STATE : Fld := ⟨21, 8192, 4, 0x8038, 0, 0, 1, 0, 2, .ro, [.c, .w, .h], 0x0⟩
/-- MTC_LIST_STAT.UNEXP, 08_matching.md -/
def MTC_LIST_STAT_UNEXP : Fld := ⟨21, 8192, 4, 0x8038, 0, 0, 1, 32, 27, .ro, [.c, .w, .h], 0x0⟩
/-- MTC_LIST_POSTED.POSTED, 08_matching.md -/
def MTC_LIST_POSTED_POSTED : Fld := ⟨21, 8192, 4, 0x8040, 0, 0, 1, 0, 27, .ro, [.c, .w, .h], 0x0⟩
/-- COL_CTL.ROUND_TMO_US, 09_convoys.md -/
def COL_CTL_ROUND_TMO_US : Fld := ⟨22, 65536, 1, 0x100, 0, 0, 1, 0, 16, .rw, [.c, .w], 0x32⟩
/-- COL_CTL.WAIT_TMO_MS, 09_convoys.md -/
def COL_CTL_WAIT_TMO_MS : Fld := ⟨22, 65536, 1, 0x100, 0, 0, 1, 32, 16, .rw, [.c, .w], 0x2710⟩
/-- COL_STAGE.RESERVED, 09_convoys.md -/
def COL_STAGE_RESERVED : Fld := ⟨22, 65536, 1, 0x108, 0, 0, 1, 0, 21, .ro, [.c, .w], 0x0⟩
/-- COL_STAGE.CAPACITY, 09_convoys.md -/
def COL_STAGE_CAPACITY : Fld := ⟨22, 65536, 1, 0x108, 0, 0, 1, 32, 21, .ro, [.c, .w], 0x0⟩
/-- COL_STAT.SLOTS, 09_convoys.md -/
def COL_STAT_SLOTS : Fld := ⟨22, 65536, 1, 0x110, 0, 0, 1, 0, 13, .ro, [.c, .w], 0x0⟩
/-- COL_STAT.ROUNDS, 09_convoys.md -/
def COL_STAT_ROUNDS : Fld := ⟨22, 65536, 1, 0x110, 0, 0, 1, 32, 19, .ro, [.c, .w, .b], 0x0⟩
/-- COL_STAT.PARKED, 09_convoys.md -/
def COL_STAT_PARKED : Fld := ⟨22, 65536, 1, 0x110, 0, 0, 1, 51, 9, .ro, [.c, .w, .b], 0x0⟩
/-- COL_HWM.ROUNDS_HWM, 09_convoys.md -/
def COL_HWM_ROUNDS_HWM : Fld := ⟨22, 65536, 1, 0x118, 0, 0, 1, 0, 19, .rc, [.c, .w, .b], 0x0⟩
/-- COL_HWM.PARKED_HWM, 09_convoys.md -/
def COL_HWM_PARKED_HWM : Fld := ⟨22, 65536, 1, 0x118, 0, 0, 1, 32, 9, .rc, [.c, .w, .b], 0x0⟩
/-- COL_DROP.MASKED, 09_convoys.md -/
def COL_DROP_MASKED : Fld := ⟨22, 65536, 1, 0x120, 0, 0, 1, 0, 32, .rc, [.c, .w, .b], 0x0⟩
/-- COL_DROP.NO_SLOT, 09_convoys.md -/
def COL_DROP_NO_SLOT : Fld := ⟨22, 65536, 1, 0x120, 0, 0, 1, 32, 32, .rc, [.c, .w, .b], 0x0⟩
/-- COL_EVENTS.RESTARTS, 09_convoys.md -/
def COL_EVENTS_RESTARTS : Fld := ⟨22, 65536, 1, 0x128, 0, 0, 1, 0, 32, .rc, [.c, .w, .b], 0x0⟩
/-- COL_EVENTS.BROKEN, 09_convoys.md -/
def COL_EVENTS_BROKEN : Fld := ⟨22, 65536, 1, 0x128, 0, 0, 1, 32, 32, .rc, [.c, .w, .b], 0x0⟩
/-- COL_ABORTS.ABORTED, 09_convoys.md -/
def COL_ABORTS_ABORTED : Fld := ⟨22, 65536, 1, 0x130, 0, 0, 1, 0, 32, .rc, [.c, .w, .b], 0x0⟩
/-- COL_SLOT_SEL.SLOT, 09_convoys.md -/
def COL_SLOT_SEL_SLOT : Fld := ⟨22, 65536, 1, 0x180, 0, 0, 1, 0, 12, .rw, [.c, .w], 0x0⟩
/-- COL_SLOT_STAT.STATE, 09_convoys.md -/
def COL_SLOT_STAT_STATE : Fld := ⟨22, 65536, 1, 0x188, 0, 0, 1, 0, 2, .ro, [.c, .w], 0x0⟩
/-- COL_SLOT_STAT.WBASE, 09_convoys.md -/
def COL_SLOT_STAT_WBASE : Fld := ⟨22, 65536, 1, 0x188, 0, 0, 1, 16, 16, .ro, [.c, .w], 0x0⟩
/-- COL_SLOT_STAT.ROUNDS, 09_convoys.md -/
def COL_SLOT_STAT_ROUNDS : Fld := ⟨22, 65536, 1, 0x188, 0, 0, 1, 32, 7, .ro, [.c, .w], 0x0⟩
/-- COL_SLOT_CFG.VALID, 09_convoys.md -/
def COL_SLOT_CFG_VALID : Fld := ⟨22, 65536, 1, 0x200, 0, 0, 1, 0, 1, .rws, [.c, .w], 0x0⟩
/-- COL_SLOT_CFG.ALT_PRESENT, 09_convoys.md -/
def COL_SLOT_CFG_ALT_PRESENT : Fld := ⟨22, 65536, 1, 0x200, 0, 0, 1, 1, 1, .rws, [.c, .w], 0x0⟩
/-- COL_SLOT_CFG.EQ_EN, 09_convoys.md -/
def COL_SLOT_CFG_EQ_EN : Fld := ⟨22, 65536, 1, 0x200, 0, 0, 1, 2, 1, .rws, [.c, .w], 0x0⟩
/-- COL_SLOT_CFG.LOCAL, 09_convoys.md -/
def COL_SLOT_CFG_LOCAL : Fld := ⟨22, 65536, 1, 0x200, 0, 0, 1, 3, 4, .rws, [.c, .w], 0x0⟩
/-- COL_SLOT_CFG.MAX_ROUNDS_M1, 09_convoys.md -/
def COL_SLOT_CFG_MAX_ROUNDS_M1 : Fld := ⟨22, 65536, 1, 0x200, 0, 0, 1, 7, 6, .rws, [.c, .w], 0x0⟩
/-- COL_SLOT_CFG.STAGE_UNITS, 09_convoys.md -/
def COL_SLOT_CFG_STAGE_UNITS : Fld := ⟨22, 65536, 1, 0x200, 0, 0, 1, 13, 8, .rws, [.c, .w], 0x0⟩
/-- COL_SLOT_CFG.TENANCY, 09_convoys.md -/
def COL_SLOT_CFG_TENANCY : Fld := ⟨22, 65536, 1, 0x200, 0, 0, 1, 21, 12, .rws, [.c, .w], 0x0⟩
/-- COL_SLOT_CFG.OWNER_FN, 09_convoys.md -/
def COL_SLOT_CFG_OWNER_FN : Fld := ⟨22, 65536, 1, 0x200, 0, 0, 1, 33, 2, .rws, [.c, .w], 0x0⟩
/-- COL_SLOT_CFG.EQ, 09_convoys.md -/
def COL_SLOT_CFG_EQ : Fld := ⟨22, 65536, 1, 0x200, 0, 0, 1, 35, 10, .rws, [.c, .w], 0x0⟩
/-- COL_SLOT_PART.PARTICIPANTS_M1, 09_convoys.md -/
def COL_SLOT_PART_PARTICIPANTS_M1 : Fld := ⟨22, 65536, 1, 0x208, 0, 0, 1, 0, 20, .rws, [.c, .w], 0x0⟩
/-- COL_SLOT_PRI.PARENT, 09_convoys.md -/
def COL_SLOT_PRI_PARENT : Fld := ⟨22, 65536, 1, 0x210, 0, 0, 1, 0, 7, .rws, [.c, .w], 0x0⟩
/-- COL_SLOT_PRI.HAS_PARENT, 09_convoys.md -/
def COL_SLOT_PRI_HAS_PARENT : Fld := ⟨22, 65536, 1, 0x210, 0, 0, 1, 7, 1, .rws, [.c, .w], 0x0⟩
/-- COL_SLOT_PRI_CH0.CHILD_LO, 09_convoys.md -/
def COL_SLOT_PRI_CH0_CHILD_LO : Fld := ⟨22, 65536, 1, 0x218, 0, 0, 1, 0, 64, .rws, [.c, .w], 0x0⟩
/-- COL_SLOT_PRI_CH1.CHILD_HI, 09_convoys.md -/
def COL_SLOT_PRI_CH1_CHILD_HI : Fld := ⟨22, 65536, 1, 0x220, 0, 0, 1, 0, 64, .rws, [.c, .w], 0x0⟩
/-- COL_SLOT_ALT.PARENT, 09_convoys.md -/
def COL_SLOT_ALT_PARENT : Fld := ⟨22, 65536, 1, 0x228, 0, 0, 1, 0, 7, .rws, [.c, .w], 0x0⟩
/-- COL_SLOT_ALT.HAS_PARENT, 09_convoys.md -/
def COL_SLOT_ALT_HAS_PARENT : Fld := ⟨22, 65536, 1, 0x228, 0, 0, 1, 7, 1, .rws, [.c, .w], 0x0⟩
/-- COL_SLOT_ALT.ON_TREE, 09_convoys.md -/
def COL_SLOT_ALT_ON_TREE : Fld := ⟨22, 65536, 1, 0x228, 0, 0, 1, 8, 1, .rws, [.c, .w], 0x0⟩
/-- COL_SLOT_ALT_CH0.CHILD_LO, 09_convoys.md -/
def COL_SLOT_ALT_CH0_CHILD_LO : Fld := ⟨22, 65536, 1, 0x230, 0, 0, 1, 0, 64, .rws, [.c, .w], 0x0⟩
/-- COL_SLOT_ALT_CH1.CHILD_HI, 09_convoys.md -/
def COL_SLOT_ALT_CH1_CHILD_HI : Fld := ⟨22, 65536, 1, 0x238, 0, 0, 1, 0, 64, .rws, [.c, .w], 0x0⟩
/-- ATM_CTL.SEM_KEEP_US, 10_atomics_and_locks.md -/
def ATM_CTL_SEM_KEEP_US : Fld := ⟨23, 65536, 1, 0x100, 0, 0, 1, 0, 8, .rw, [.c, .w], 0x2⟩
/-- ATM_STAT.ATOMICS, 10_atomics_and_locks.md -/
def ATM_STAT_ATOMICS : Fld := ⟨23, 65536, 1, 0x108, 0, 0, 1, 0, 11, .ro, [.c, .w, .b], 0x0⟩
/-- ATM_STAT.LOCKS, 10_atomics_and_locks.md -/
def ATM_STAT_LOCKS : Fld := ⟨23, 65536, 1, 0x108, 0, 0, 1, 16, 15, .ro, [.c, .w, .b], 0x0⟩
/-- ATM_STAT.WAITERS, 10_atomics_and_locks.md -/
def ATM_STAT_WAITERS : Fld := ⟨23, 65536, 1, 0x108, 0, 0, 1, 32, 17, .ro, [.c, .w, .b], 0x0⟩
/-- ATM_HWM.ATOMICS_HWM, 10_atomics_and_locks.md -/
def ATM_HWM_ATOMICS_HWM : Fld := ⟨23, 65536, 1, 0x110, 0, 0, 1, 0, 11, .rc, [.c, .w, .b], 0x0⟩
/-- ATM_HWM.LOCKS_HWM, 10_atomics_and_locks.md -/
def ATM_HWM_LOCKS_HWM : Fld := ⟨23, 65536, 1, 0x110, 0, 0, 1, 16, 15, .rc, [.c, .w, .b], 0x0⟩
/-- ATM_HWM.WAITERS_HWM, 10_atomics_and_locks.md -/
def ATM_HWM_WAITERS_HWM : Fld := ⟨23, 65536, 1, 0x110, 0, 0, 1, 32, 17, .rc, [.c, .w, .b], 0x0⟩
/-- ATM_HELD.ENTRIES, 10_atomics_and_locks.md -/
def ATM_HELD_ENTRIES : Fld := ⟨23, 65536, 1, 0x118, 0, 0, 1, 0, 15, .ro, [.c, .w], 0x0⟩
/-- ATM_SEM_FORCE.SEM, 10_atomics_and_locks.md -/
def ATM_SEM_FORCE_SEM : Fld := ⟨23, 65536, 1, 0x120, 0, 0, 1, 0, 8, .wo, [], 0x0⟩
/-- ATM_SEM_FORCE.GO, 10_atomics_and_locks.md -/
def ATM_SEM_FORCE_GO : Fld := ⟨23, 65536, 1, 0x120, 0, 0, 1, 8, 1, .wo, [], 0x0⟩
/-- ATM_LOCK_FORCE.OFFSET, 10_atomics_and_locks.md -/
def ATM_LOCK_FORCE_OFFSET : Fld := ⟨23, 65536, 1, 0x128, 0, 0, 1, 4, 32, .wo, [], 0x0⟩
/-- ATM_LOCK_FORCE.GO, 10_atomics_and_locks.md -/
def ATM_LOCK_FORCE_GO : Fld := ⟨23, 65536, 1, 0x128, 0, 0, 1, 63, 1, .wo, [], 0x0⟩
/-- ATM_BROKEN.SEM, 10_atomics_and_locks.md -/
def ATM_BROKEN_SEM : Fld := ⟨23, 65536, 1, 0x130, 0, 0, 1, 0, 32, .rc, [.c, .w], 0x0⟩
/-- ATM_BROKEN.LOCK, 10_atomics_and_locks.md -/
def ATM_BROKEN_LOCK : Fld := ⟨23, 65536, 1, 0x130, 0, 0, 1, 32, 32, .rc, [.c, .w], 0x0⟩
/-- ATM_REFUSE.ATOMIC_QUEUE_FULL, 10_atomics_and_locks.md -/
def ATM_REFUSE_ATOMIC_QUEUE_FULL : Fld := ⟨23, 65536, 1, 0x138, 0, 0, 1, 0, 32, .rc, [.c, .w, .b], 0x0⟩
/-- ATM_REFUSE.LOCK_TABLE_FULL, 10_atomics_and_locks.md -/
def ATM_REFUSE_LOCK_TABLE_FULL : Fld := ⟨23, 65536, 1, 0x138, 0, 0, 1, 32, 32, .rc, [.c, .w, .b], 0x0⟩
/-- ATM_SEM_STATk.HELD, 10_atomics_and_locks.md -/
def ATM_SEM_STATk_HELD : Fld := ⟨23, 65536, 1, 0x1000, 8, 0, 256, 0, 1, .ro, [.c, .w], 0x0⟩
/-- ATM_SEM_STATk.BROKEN, 10_atomics_and_locks.md -/
def ATM_SEM_STATk_BROKEN : Fld := ⟨23, 65536, 1, 0x1000, 8, 0, 256, 1, 1, .ro, [.c, .w], 0x0⟩
/-- ATM_SEM_STATk.HOLDER, 10_atomics_and_locks.md -/
def ATM_SEM_STATk_HOLDER : Fld := ⟨23, 65536, 1, 0x1000, 8, 0, 256, 8, 8, .ro, [.c, .w], 0xff⟩
/-- ATM_SEM_STATk.WAITING, 10_atomics_and_locks.md -/
def ATM_SEM_STATk_WAITING : Fld := ⟨23, 65536, 1, 0x1000, 8, 0, 256, 16, 5, .ro, [.c, .w], 0x0⟩
/-- ATM_SEM_STATk.GRANTS, 10_atomics_and_locks.md -/
def ATM_SEM_STATk_GRANTS : Fld := ⟨23, 65536, 1, 0x1000, 8, 0, 256, 32, 32, .ro, [.c, .w], 0x0⟩
/-- ATM_SEM_ACQk.GRANTED, 10_atomics_and_locks.md -/
def ATM_SEM_ACQk_GRANTED : Fld := ⟨23, 8192, 4, 0x8000, 8, 0, 256, 0, 1, .ro, [], 0x0⟩
/-- ATM_SEM_ACQk.BROKEN, 10_atomics_and_locks.md -/
def ATM_SEM_ACQk_BROKEN : Fld := ⟨23, 8192, 4, 0x8000, 8, 0, 256, 1, 1, .ro, [], 0x0⟩
/-- ATM_SEM_ACQk.AGAIN, 10_atomics_and_locks.md -/
def ATM_SEM_ACQk_AGAIN : Fld := ⟨23, 8192, 4, 0x8000, 8, 0, 256, 2, 1, .ro, [], 0x0⟩
/-- ATM_SEM_ACQk.TIMED_OUT, 10_atomics_and_locks.md -/
def ATM_SEM_ACQk_TIMED_OUT : Fld := ⟨23, 8192, 4, 0x8000, 8, 0, 256, 3, 1, .ro, [], 0x0⟩
/-- ATM_SEM_ACQk.HOLDER, 10_atomics_and_locks.md -/
def ATM_SEM_ACQk_HOLDER : Fld := ⟨23, 8192, 4, 0x8000, 8, 0, 256, 8, 8, .ro, [], 0xff⟩
/-- ATM_SEM_ACQk.WAITERS, 10_atomics_and_locks.md -/
def ATM_SEM_ACQk_WAITERS : Fld := ⟨23, 8192, 4, 0x8000, 8, 0, 256, 16, 3, .ro, [], 0x0⟩
/-- ATM_SEM_ACQk.GRANTS, 10_atomics_and_locks.md -/
def ATM_SEM_ACQk_GRANTS : Fld := ⟨23, 8192, 4, 0x8000, 8, 0, 256, 32, 32, .ro, [], 0x0⟩
/-- ATM_SEM_TRYk.VALUE, 10_atomics_and_locks.md -/
def ATM_SEM_TRYk_VALUE : Fld := ⟨23, 8192, 4, 0x8800, 8, 0, 256, 0, 64, .ro, [], 0x0⟩
/-- ATM_SEM_RELk.REL, 10_atomics_and_locks.md -/
def ATM_SEM_RELk_REL : Fld := ⟨23, 8192, 4, 0x9000, 8, 0, 256, 0, 1, .wo, [], 0x0⟩
/-- ATM_FN_LOCKS.HELD, 10_atomics_and_locks.md -/
def ATM_FN_LOCKS_HELD : Fld := ⟨23, 8192, 4, 0x9800, 0, 0, 1, 0, 15, .ro, [.c, .w, .h], 0x0⟩
/-- ATM_FN_LOCKS.WAITING, 10_atomics_and_locks.md -/
def ATM_FN_LOCKS_WAITING : Fld := ⟨23, 8192, 4, 0x9800, 0, 0, 1, 16, 15, .ro, [.c, .w, .h], 0x0⟩
/-- ATM_FN_LOCKS.SEMS, 10_atomics_and_locks.md -/
def ATM_FN_LOCKS_SEMS : Fld := ⟨23, 8192, 4, 0x9800, 0, 0, 1, 32, 9, .ro, [.c, .w, .h], 0x0⟩
/-- TMG_CTL.RESP_WEIGHT, 12_router_core.md -/
def TMG_CTL_RESP_WEIGHT : Fld := ⟨24, 65536, 1, 0x100, 0, 0, 1, 0, 16, .rw, [.c, .w], 0x100⟩
/-- TMG_CTL.TG_EN, 12_router_core.md -/
def TMG_CTL_TG_EN : Fld := ⟨24, 65536, 1, 0x100, 0, 0, 1, 16, 1, .rw, [.c, .w], 0x1⟩
/-- TMG_TC_CTL.WEIGHT, 12_router_core.md -/
def TMG_TC_CTL_WEIGHT : Fld := ⟨24, 65536, 1, 0x108, 0, 0, 1, 0, 32, .rws, [.c, .w], 0x80804040⟩
/-- TMG_TC_CTL.STRICT, 12_router_core.md -/
def TMG_TC_CTL_STRICT : Fld := ⟨24, 65536, 1, 0x108, 0, 0, 1, 32, 4, .rws, [.c, .w], 0x8⟩
/-- TMG_TC_SHAPEt.RATE, 12_router_core.md -/
def TMG_TC_SHAPEt_RATE : Fld := ⟨24, 65536, 1, 0x110, 8, 0, 4, 0, 16, .rws, [.c, .w], 0x0⟩
/-- TMG_TC_SHAPEt.BURST, 12_router_core.md -/
def TMG_TC_SHAPEt_BURST : Fld := ⟨24, 65536, 1, 0x110, 8, 0, 4, 32, 16, .rws, [.c, .w], 0x0⟩
/-- TMG_TC_SHAPEt.EN, 12_router_core.md -/
def TMG_TC_SHAPEt_EN : Fld := ⟨24, 65536, 1, 0x110, 8, 0, 4, 63, 1, .rws, [.c, .w], 0x0⟩
/-- TMG_VTIMEp.V, 12_router_core.md -/
def TMG_VTIMEp_V : Fld := ⟨24, 65536, 1, 0x130, 8, 0, 4, 0, 64, .ro, [.c, .w, .b], 0x0⟩
/-- TMG_PIPEp.BACKLOG, 12_router_core.md -/
def TMG_PIPEp_BACKLOG : Fld := ⟨24, 65536, 1, 0x150, 8, 0, 4, 0, 15, .ro, [.c, .w, .b], 0x0⟩
/-- TMG_PIPEp.ASIDE, 12_router_core.md -/
def TMG_PIPEp_ASIDE : Fld := ⟨24, 65536, 1, 0x150, 8, 0, 4, 32, 15, .ro, [.c, .w, .b], 0x0⟩
/-- TMG_HWMp.BACKLOG_HWM, 12_router_core.md -/
def TMG_HWMp_BACKLOG_HWM : Fld := ⟨24, 65536, 1, 0x170, 8, 0, 4, 0, 15, .rc, [.c, .w, .b], 0x0⟩
/-- TMG_HWMp.ASIDE_HWM, 12_router_core.md -/
def TMG_HWMp_ASIDE_HWM : Fld := ⟨24, 65536, 1, 0x170, 8, 0, 4, 32, 15, .rc, [.c, .w, .b], 0x0⟩
/-- TMG_TG_SEL.SLOT, 12_router_core.md -/
def TMG_TG_SEL_SLOT : Fld := ⟨24, 65536, 1, 0x190, 0, 0, 1, 0, 12, .rw, [.c, .w], 0x0⟩
/-- TMG_TG_CIR.CIR, 12_router_core.md -/
def TMG_TG_CIR_CIR : Fld := ⟨24, 65536, 1, 0x198, 0, 0, 1, 0, 32, .rw, [.c, .w], 0x0⟩
/-- TMG_TG_CIR.CBS, 12_router_core.md -/
def TMG_TG_CIR_CBS : Fld := ⟨24, 65536, 1, 0x198, 0, 0, 1, 32, 32, .rw, [.c, .w], 0x0⟩
/-- TMG_TG_PIR.PIR, 12_router_core.md -/
def TMG_TG_PIR_PIR : Fld := ⟨24, 65536, 1, 0x1a0, 0, 0, 1, 0, 32, .rw, [.c, .w], 0x0⟩
/-- TMG_TG_PIR.PBS, 12_router_core.md -/
def TMG_TG_PIR_PBS : Fld := ⟨24, 65536, 1, 0x1a0, 0, 0, 1, 32, 32, .rw, [.c, .w], 0x0⟩
/-- TMG_TG_ACT.EN, 12_router_core.md -/
def TMG_TG_ACT_EN : Fld := ⟨24, 65536, 1, 0x1a8, 0, 0, 1, 0, 1, .rw, [.c, .w], 0x0⟩
/-- TMG_TG_ACT.GREEN, 12_router_core.md -/
def TMG_TG_ACT_GREEN : Fld := ⟨24, 65536, 1, 0x1a8, 0, 0, 1, 2, 2, .rw, [.c, .w], 0x0⟩
/-- TMG_TG_ACT.YELLOW, 12_router_core.md -/
def TMG_TG_ACT_YELLOW : Fld := ⟨24, 65536, 1, 0x1a8, 0, 0, 1, 4, 2, .rw, [.c, .w], 0x1⟩
/-- TMG_TG_ACT.RED, 12_router_core.md -/
def TMG_TG_ACT_RED : Fld := ⟨24, 65536, 1, 0x1a8, 0, 0, 1, 6, 2, .rw, [.c, .w], 0x2⟩
/-- TMG_TG_CNT.GREEN, 12_router_core.md -/
def TMG_TG_CNT_GREEN : Fld := ⟨24, 65536, 1, 0x1b0, 0, 0, 1, 0, 32, .rc, [.c, .w, .b], 0x0⟩
/-- TMG_TG_CNT.YELLOW, 12_router_core.md -/
def TMG_TG_CNT_YELLOW : Fld := ⟨24, 65536, 1, 0x1b0, 0, 0, 1, 32, 32, .rc, [.c, .w, .b], 0x0⟩
/-- TMG_TG_CNT2.RED, 12_router_core.md -/
def TMG_TG_CNT2_RED : Fld := ⟨24, 65536, 1, 0x1b8, 0, 0, 1, 0, 32, .rc, [.c, .w, .b], 0x0⟩
/-- TMG_TG_CNT2.ACTED, 12_router_core.md -/
def TMG_TG_CNT2_ACTED : Fld := ⟨24, 65536, 1, 0x1b8, 0, 0, 1, 32, 32, .rc, [.c, .w, .b], 0x0⟩
/-- RTB_CTL.MODE, 11_routing.md -/
def RTB_CTL_MODE : Fld := ⟨25, 65536, 1, 0x100, 0, 0, 1, 0, 1, .rws, [.c, .w], 0x0⟩
/-- RTB_CTL.GLOBAL_EN, 11_routing.md -/
def RTB_CTL_GLOBAL_EN : Fld := ⟨25, 65536, 1, 0x100, 0, 0, 1, 1, 1, .rws, [.c, .w], 0x1⟩
/-- RTB_CTL.GLOBAL_CLASS, 11_routing.md -/
def RTB_CTL_GLOBAL_CLASS : Fld := ⟨25, 65536, 1, 0x100, 0, 0, 1, 2, 2, .rws, [.c, .w], 0x0⟩
/-- RTB_CTL.CLASS_CHECK, 11_routing.md -/
def RTB_CTL_CLASS_CHECK : Fld := ⟨25, 65536, 1, 0x100, 0, 0, 1, 4, 1, .rws, [.c, .w], 0x1⟩
/-- RTB_CTL.CLEAR_QUAR, 11_routing.md -/
def RTB_CTL_CLEAR_QUAR : Fld := ⟨25, 65536, 1, 0x100, 0, 0, 1, 5, 1, .rws, [.c, .w], 0x0⟩
/-- RTB_CTL.TRANSIT_CHECK, 11_routing.md -/
def RTB_CTL_TRANSIT_CHECK : Fld := ⟨25, 65536, 1, 0x100, 0, 0, 1, 6, 1, .rws, [.c, .w], 0x1⟩
/-- RTB_SEL.MODE_TC, 11_routing.md -/
def RTB_SEL_MODE_TC : Fld := ⟨25, 65536, 1, 0x108, 0, 0, 1, 0, 8, .rws, [.c, .w], 0x1a⟩
/-- RTB_EST.UNIT_NS, 11_routing.md -/
def RTB_EST_UNIT_NS : Fld := ⟨25, 65536, 1, 0x110, 0, 0, 1, 0, 8, .rw, [.c, .w], 0x32⟩
/-- RTB_EST.MARK_PENALTY, 11_routing.md -/
def RTB_EST_MARK_PENALTY : Fld := ⟨25, 65536, 1, 0x110, 0, 0, 1, 8, 8, .rw, [.c, .w], 0x20⟩
/-- RTB_EST.PRIOR, 11_routing.md -/
def RTB_EST_PRIOR : Fld := ⟨25, 65536, 1, 0x110, 0, 0, 1, 16, 8, .rw, [.c, .w], 0x10⟩
/-- RTB_EST.DETOUR_BIAS, 11_routing.md -/
def RTB_EST_DETOUR_BIAS : Fld := ⟨25, 65536, 1, 0x110, 0, 0, 1, 24, 8, .rw, [.c, .w], 0x10⟩
/-- RTB_EST.GAIN, 11_routing.md -/
def RTB_EST_GAIN : Fld := ⟨25, 65536, 1, 0x110, 0, 0, 1, 32, 3, .rw, [.c, .w], 0x2⟩
/-- RTB_EST.AGE_US, 11_routing.md -/
def RTB_EST_AGE_US : Fld := ⟨25, 65536, 1, 0x110, 0, 0, 1, 40, 24, .rw, [.c, .w], 0x2710⟩
/-- RTB_QUAR_CTL.TIME_US, 11_routing.md -/
def RTB_QUAR_CTL_TIME_US : Fld := ⟨25, 65536, 1, 0x118, 0, 0, 1, 0, 32, .rw, [.c, .w], 0xc350⟩
/-- RTB_LEG_CFG.GROUPS, 11_routing.md -/
def RTB_LEG_CFG_GROUPS : Fld := ⟨25, 65536, 1, 0x120, 0, 0, 1, 0, 13, .rws, [.c, .w], 0x0⟩
/-- RTB_LEG_CFG.OWN_GROUP, 11_routing.md -/
def RTB_LEG_CFG_OWN_GROUP : Fld := ⟨25, 65536, 1, 0x120, 0, 0, 1, 16, 13, .rws, [.c, .w], 0x0⟩
/-- RTB_LEG_CFG.MEMBERS, 11_routing.md -/
def RTB_LEG_CFG_MEMBERS : Fld := ⟨25, 65536, 1, 0x120, 0, 0, 1, 32, 7, .rws, [.c, .w], 0x0⟩
/-- RTB_LEG_CFG.OWN_MEMBER, 11_routing.md -/
def RTB_LEG_CFG_OWN_MEMBER : Fld := ⟨25, 65536, 1, 0x120, 0, 0, 1, 40, 6, .rws, [.c, .w], 0x0⟩
/-- RTB_BOOK_STAT.ACTIVE_BANK, 11_routing.md -/
def RTB_BOOK_STAT_ACTIVE_BANK : Fld := ⟨25, 65536, 1, 0x128, 0, 0, 1, 0, 1, .ro, [.c, .w], 0x0⟩
/-- RTB_BOOK_STAT.GEN, 11_routing.md -/
def RTB_BOOK_STAT_GEN : Fld := ⟨25, 65536, 1, 0x128, 0, 0, 1, 8, 4, .ro, [.c, .w], 0x0⟩
/-- RTB_BOOK_STAT.COPYING, 11_routing.md -/
def RTB_BOOK_STAT_COPYING : Fld := ⟨25, 65536, 1, 0x128, 0, 0, 1, 16, 1, .ro, [.c, .w], 0x0⟩
/-- RTB_WIN_BASE.PAGE, 11_routing.md -/
def RTB_WIN_BASE_PAGE : Fld := ⟨25, 65536, 1, 0x130, 0, 0, 1, 0, 14, .rw, [.c, .w], 0x0⟩
/-- RTB_QUAR_STAT.ENTRIES, 11_routing.md -/
def RTB_QUAR_STAT_ENTRIES : Fld := ⟨25, 65536, 1, 0x138, 0, 0, 1, 0, 11, .ro, [.c, .w, .b], 0x0⟩
/-- RTB_QUAR_STAT.OVERFLOW, 11_routing.md -/
def RTB_QUAR_STAT_OVERFLOW : Fld := ⟨25, 65536, 1, 0x138, 0, 0, 1, 32, 16, .rc, [.c, .w, .b], 0x0⟩
/-- RTB_QUAR_CLR.CLR, 11_routing.md -/
def RTB_QUAR_CLR_CLR : Fld := ⟨25, 65536, 1, 0x140, 0, 0, 1, 0, 1, .wo, [], 0x0⟩
/-- RTB_CNT.REFUSED, 11_routing.md -/
def RTB_CNT_REFUSED : Fld := ⟨25, 65536, 1, 0x148, 0, 0, 1, 0, 32, .rc, [.c, .w, .b], 0x0⟩
/-- RTB_CNT.WAITED, 11_routing.md -/
def RTB_CNT_WAITED : Fld := ⟨25, 65536, 1, 0x148, 0, 0, 1, 32, 32, .rc, [.c, .w, .b], 0x0⟩
/-- RTB_FAULTS.ACCEPTED, 11_routing.md -/
def RTB_FAULTS_ACCEPTED : Fld := ⟨25, 65536, 1, 0x150, 0, 0, 1, 0, 32, .rc, [.c, .w, .b], 0x0⟩
/-- RTB_FAULTS.STALE, 11_routing.md -/
def RTB_FAULTS_STALE : Fld := ⟨25, 65536, 1, 0x150, 0, 0, 1, 32, 32, .rc, [.c, .w, .b], 0x0⟩
/-- RTB_CACHE.MISSES, 11_routing.md -/
def RTB_CACHE_MISSES : Fld := ⟨25, 65536, 1, 0x158, 0, 0, 1, 0, 32, .rc, [.c, .w, .b], 0x0⟩
/-- RTB_CACHE.OUTSTANDING, 11_routing.md -/
def RTB_CACHE_OUTSTANDING : Fld := ⟨25, 65536, 1, 0x158, 0, 0, 1, 32, 7, .ro, [.c, .w, .b], 0x0⟩
/-- RTB_PORT_CLASSk.CLASS, 11_routing.md -/
def RTB_PORT_CLASSk_CLASS : Fld := ⟨25, 65536, 1, 0x160, 8, 0, 4, 0, 64, .rws, [.c, .w], 0x0⟩
/-- XBR_CTL.VCB_WAIT_US, 12_router_core.md -/
def XBR_CTL_VCB_WAIT_US : Fld := ⟨32, 65536, 16, 0x100, 0, 0, 1, 0, 16, .rw, [.c, .w], 0x14⟩
/-- XBR_CTL.EJECT_WAIT_US, 12_router_core.md -/
def XBR_CTL_EJECT_WAIT_US : Fld := ⟨32, 65536, 16, 0x100, 0, 0, 1, 16, 16, .rw, [.c, .w], 0x5⟩
/-- XBR_ARB.EXP_QUANTUM, 12_router_core.md -/
def XBR_ARB_EXP_QUANTUM : Fld := ⟨32, 65536, 16, 0x108, 0, 0, 1, 0, 8, .rws, [.c, .w], 0x30⟩
/-- XBR_ARB.GEN_QUANTUM, 12_router_core.md -/
def XBR_ARB_GEN_QUANTUM : Fld := ⟨32, 65536, 16, 0x108, 0, 0, 1, 8, 8, .rws, [.c, .w], 0x10⟩
/-- XBR_ARB.VCB_BURST, 12_router_core.md -/
def XBR_ARB_VCB_BURST : Fld := ⟨32, 65536, 16, 0x108, 0, 0, 1, 16, 8, .rws, [.c, .w], 0x10⟩
/-- XBR_MARK.LO, 12_router_core.md -/
def XBR_MARK_LO : Fld := ⟨32, 65536, 16, 0x110, 0, 0, 1, 0, 12, .rws, [.c, .w], 0x40⟩
/-- XBR_MARK.HI, 12_router_core.md -/
def XBR_MARK_HI : Fld := ⟨32, 65536, 16, 0x110, 0, 0, 1, 16, 12, .rws, [.c, .w], 0x200⟩
/-- XBR_STAT.RSV_PENDING, 12_router_core.md -/
def XBR_STAT_RSV_PENDING : Fld := ⟨32, 65536, 16, 0x118, 0, 0, 1, 8, 8, .ro, [.c, .w], 0x0⟩
/-- XBR_DROP.MISROUTED, 12_router_core.md -/
def XBR_DROP_MISROUTED : Fld := ⟨32, 65536, 16, 0x120, 0, 0, 1, 0, 16, .rc, [.c, .w, .b], 0x0⟩
/-- XBR_DROP.FAULT_LOST, 12_router_core.md -/
def XBR_DROP_FAULT_LOST : Fld := ⟨32, 65536, 16, 0x120, 0, 0, 1, 16, 16, .rc, [.c, .w, .b], 0x0⟩
/-- XBR_DROP.VCB_DISCARD, 12_router_core.md -/
def XBR_DROP_VCB_DISCARD : Fld := ⟨32, 65536, 16, 0x120, 0, 0, 1, 32, 16, .rc, [.c, .w, .b], 0x0⟩
/-- XBR_DROP.EJECT_DISCARD, 12_router_core.md -/
def XBR_DROP_EJECT_DISCARD : Fld := ⟨32, 65536, 16, 0x120, 0, 0, 1, 48, 16, .rc, [.c, .w, .b], 0x0⟩
/-- XBR_DROP2.FAULT_DROPS, 12_router_core.md -/
def XBR_DROP2_FAULT_DROPS : Fld := ⟨32, 65536, 16, 0x128, 0, 0, 1, 0, 32, .rc, [.c, .w, .b], 0x0⟩
/-- XBR_DROP2.BUF_LOST, 12_router_core.md -/
def XBR_DROP2_BUF_LOST : Fld := ⟨32, 65536, 16, 0x128, 0, 0, 1, 32, 32, .rc, [.c, .w, .b], 0x0⟩
/-- XBR_BUF_SEL.PORT, 12_router_core.md -/
def XBR_BUF_SEL_PORT : Fld := ⟨32, 65536, 16, 0x130, 0, 0, 1, 0, 3, .rw, [.c, .w], 0x0⟩
/-- XBR_BUF_SEL.VC, 12_router_core.md -/
def XBR_BUF_SEL_VC : Fld := ⟨32, 65536, 16, 0x130, 0, 0, 1, 4, 4, .rw, [.c, .w], 0x0⟩
/-- XBR_BUF_OCC.DATA, 12_router_core.md -/
def XBR_BUF_OCC_DATA : Fld := ⟨32, 65536, 16, 0x138, 0, 0, 1, 0, 13, .ro, [.c, .w, .b], 0x0⟩
/-- XBR_BUF_OCC.HDR, 12_router_core.md -/
def XBR_BUF_OCC_HDR : Fld := ⟨32, 65536, 16, 0x138, 0, 0, 1, 16, 10, .ro, [.c, .w, .b], 0x0⟩
/-- XBR_BUF_HWM.DATA_HWM, 12_router_core.md -/
def XBR_BUF_HWM_DATA_HWM : Fld := ⟨32, 65536, 16, 0x140, 0, 0, 1, 0, 13, .rc, [.c, .w, .b], 0x0⟩
/-- XBR_BUF_HWM.HDR_HWM, 12_router_core.md -/
def XBR_BUF_HWM_HDR_HWM : Fld := ⟨32, 65536, 16, 0x140, 0, 0, 1, 16, 10, .rc, [.c, .w, .b], 0x0⟩
/-- XBR_EJECT.OCC, 12_router_core.md -/
def XBR_EJECT_OCC : Fld := ⟨32, 65536, 16, 0x148, 0, 0, 1, 0, 9, .ro, [.c, .w, .b], 0x0⟩
/-- XBR_EJECT.OCC_HWM, 12_router_core.md -/
def XBR_EJECT_OCC_HWM : Fld := ⟨32, 65536, 16, 0x148, 0, 0, 1, 16, 9, .rc, [.c, .w, .b], 0x0⟩
/-- XBR_INJECT.OCC, 12_router_core.md -/
def XBR_INJECT_OCC : Fld := ⟨32, 65536, 16, 0x150, 0, 0, 1, 0, 9, .ro, [.c, .w, .b], 0x0⟩
/-- XBR_INJECT.OCC_HWM, 12_router_core.md -/
def XBR_INJECT_OCC_HWM : Fld := ⟨32, 65536, 16, 0x150, 0, 0, 1, 16, 9, .rc, [.c, .w, .b], 0x0⟩
/-- XBR_RSV_VCv.DATA_MIN, 12_router_core.md -/
def XBR_RSV_VCv_DATA_MIN : Fld := ⟨32, 65536, 16, 0x180, 8, 0, 8, 0, 13, .rws, [.c, .w], 0x100⟩
/-- XBR_RSV_VCv.HDR_MIN, 12_router_core.md -/
def XBR_RSV_VCv_HDR_MIN : Fld := ⟨32, 65536, 16, 0x180, 8, 0, 8, 16, 10, .rws, [.c, .w], 0x20⟩
/-- XBR_RSV_VCB.DATA_MIN, 12_router_core.md -/
def XBR_RSV_VCB_DATA_MIN : Fld := ⟨32, 65536, 16, 0x1c0, 0, 0, 1, 0, 13, .rws, [.c, .w], 0x100⟩
/-- XBR_RSV_VCB.HDR_MIN, 12_router_core.md -/
def XBR_RSV_VCB_HDR_MIN : Fld := ⟨32, 65536, 16, 0x1c0, 0, 0, 1, 16, 10, .rws, [.c, .w], 0x40⟩
/-- XBR_OUTQi.BACKLOG, 12_router_core.md -/
def XBR_OUTQi_BACKLOG : Fld := ⟨32, 65536, 16, 0x200, 8, 0, 8, 0, 24, .ro, [.c, .w, .b], 0x0⟩
/-- XBR_OUTQi.LEVEL, 12_router_core.md -/
def XBR_OUTQi_LEVEL : Fld := ⟨32, 65536, 16, 0x200, 8, 0, 8, 32, 8, .ro, [.c, .w, .b], 0x0⟩
/-- XBR_OUTQ_HWMi.BACKLOG_HWM, 12_router_core.md -/
def XBR_OUTQ_HWMi_BACKLOG_HWM : Fld := ⟨32, 65536, 16, 0x240, 8, 0, 8, 0, 24, .rc, [.c, .w, .b], 0x0⟩
/-- XBR_GRP_SEL.SLOT, 12_router_core.md -/
def XBR_GRP_SEL_SLOT : Fld := ⟨32, 65536, 16, 0x300, 0, 0, 1, 0, 12, .rw, [.c, .w], 0x0⟩
/-- XBR_GRP.PRI_MASK, 12_router_core.md -/
def XBR_GRP_PRI_MASK : Fld := ⟨32, 65536, 16, 0x308, 0, 0, 1, 0, 8, .ro, [.c, .w], 0x0⟩
/-- XBR_GRP.ALT_MASK, 12_router_core.md -/
def XBR_GRP_ALT_MASK : Fld := ⟨32, 65536, 16, 0x308, 0, 0, 1, 8, 8, .ro, [.c, .w], 0x0⟩
/-- LNK_CTL.EN, 13_link_layer.md -/
def LNK_CTL_EN : Fld := ⟨64, 65536, 128, 0x100, 0, 0, 1, 0, 1, .rw, [.c, .w], 0x0⟩
/-- LNK_CTL.RETRAIN, 13_link_layer.md -/
def LNK_CTL_RETRAIN : Fld := ⟨64, 65536, 128, 0x100, 0, 0, 1, 1, 1, .wo, [], 0x0⟩
/-- LNK_CTL.FEC, 13_link_layer.md -/
def LNK_CTL_FEC : Fld := ⟨64, 65536, 128, 0x100, 0, 0, 1, 2, 1, .rw, [.c, .w], 0x0⟩
/-- LNK_CTL.HOLD_RETRAIN, 13_link_layer.md -/
def LNK_CTL_HOLD_RETRAIN : Fld := ⟨64, 65536, 128, 0x100, 0, 0, 1, 3, 1, .rw, [.c, .w], 0x0⟩
/-- LNK_CTL.REPLAY_MAX, 13_link_layer.md -/
def LNK_CTL_REPLAY_MAX : Fld := ⟨64, 65536, 128, 0x100, 0, 0, 1, 8, 4, .rw, [.c, .w], 0x8⟩
/-- LNK_TMO.ALIGN_TMO_US, 13_link_layer.md -/
def LNK_TMO_ALIGN_TMO_US : Fld := ⟨64, 65536, 128, 0x108, 0, 0, 1, 0, 16, .rw, [.c, .w], 0x64⟩
/-- LNK_TMO.DRAIN_TMO_US, 13_link_layer.md -/
def LNK_TMO_DRAIN_TMO_US : Fld := ⟨64, 65536, 128, 0x108, 0, 0, 1, 16, 16, .rw, [.c, .w], 0x32⟩
/-- LNK_TMO.REPLAY_NS, 13_link_layer.md -/
def LNK_TMO_REPLAY_NS : Fld := ⟨64, 65536, 128, 0x108, 0, 0, 1, 32, 16, .rw, [.c, .w], 0x0⟩
/-- LNK_GRACE.GRACE_US, 13_link_layer.md -/
def LNK_GRACE_GRACE_US : Fld := ⟨64, 65536, 128, 0x110, 0, 0, 1, 0, 17, .rw, [.c, .w], 0x3e8⟩
/-- LNK_CREDIT_CTL.UPDATE_NS, 13_link_layer.md -/
def LNK_CREDIT_CTL_UPDATE_NS : Fld := ⟨64, 65536, 128, 0x118, 0, 0, 1, 0, 16, .rw, [.c, .w], 0x64⟩
/-- LNK_CREDIT_CTL.REFRESH_NS, 13_link_layer.md -/
def LNK_CREDIT_CTL_REFRESH_NS : Fld := ⟨64, 65536, 128, 0x118, 0, 0, 1, 16, 16, .rw, [.c, .w], 0x3e8⟩
/-- LNK_CREDIT_CTL.AUDIT_US, 13_link_layer.md -/
def LNK_CREDIT_CTL_AUDIT_US : Fld := ⟨64, 65536, 128, 0x118, 0, 0, 1, 32, 8, .rw, [.c, .w], 0x40⟩
/-- LNK_CREDIT_CTL.THRESH_DATA, 13_link_layer.md -/
def LNK_CREDIT_CTL_THRESH_DATA : Fld := ⟨64, 65536, 128, 0x118, 0, 0, 1, 40, 16, .rw, [.c, .w], 0x84⟩
/-- LNK_CREDIT_CTL.THRESH_HDR, 13_link_layer.md -/
def LNK_CREDIT_CTL_THRESH_HDR : Fld := ⟨64, 65536, 128, 0x118, 0, 0, 1, 56, 8, .rw, [.c, .w], 0x4⟩
/-- LNK_VCB_CTL.GAP, 13_link_layer.md -/
def LNK_VCB_CTL_GAP : Fld := ⟨64, 65536, 128, 0x120, 0, 0, 1, 0, 9, .rw, [.c, .w], 0x4⟩
/-- LNK_VCB_CTL.HYST, 13_link_layer.md -/
def LNK_VCB_CTL_HYST : Fld := ⟨64, 65536, 128, 0x120, 0, 0, 1, 16, 8, .rw, [.c, .w], 0x10⟩
/-- LNK_TIME_CTL.PERIOD_US, 13_link_layer.md -/
def LNK_TIME_CTL_PERIOD_US : Fld := ⟨64, 65536, 128, 0x128, 0, 0, 1, 0, 16, .rw, [.c, .w], 0x3e8⟩
/-- LNK_TIME_CTL.ASYM_PS, 13_link_layer.md -/
def LNK_TIME_CTL_ASYM_PS : Fld := ⟨64, 65536, 128, 0x128, 0, 0, 1, 32, 16, .rw, [.c, .w], 0x0⟩
/-- LNK_STAT.STATE, 13_link_layer.md -/
def LNK_STAT_STATE : Fld := ⟨64, 65536, 128, 0x130, 0, 0, 1, 0, 3, .ro, [.c, .w, .b], 0x0⟩
/-- LNK_STAT.RETRAIN_DUE, 13_link_layer.md -/
def LNK_STAT_RETRAIN_DUE : Fld := ⟨64, 65536, 128, 0x130, 0, 0, 1, 3, 1, .ro, [.c, .w, .b], 0x0⟩
/-- LNK_STAT.WIDTH, 13_link_layer.md -/
def LNK_STAT_WIDTH : Fld := ⟨64, 65536, 128, 0x130, 0, 0, 1, 4, 3, .ro, [.c, .w, .b], 0x0⟩
/-- LNK_STAT.FEC_ACTIVE, 13_link_layer.md -/
def LNK_STAT_FEC_ACTIVE : Fld := ⟨64, 65536, 128, 0x130, 0, 0, 1, 7, 1, .ro, [.c, .w, .b], 0x0⟩
/-- LNK_STAT.PEER_XOFF, 13_link_layer.md -/
def LNK_STAT_PEER_XOFF : Fld := ⟨64, 65536, 128, 0x130, 0, 0, 1, 8, 1, .ro, [.c, .w, .b], 0x0⟩
/-- LNK_STAT.VCB_GAP, 13_link_layer.md -/
def LNK_STAT_VCB_GAP : Fld := ⟨64, 65536, 128, 0x130, 0, 0, 1, 16, 9, .ro, [.c, .w, .b], 0x0⟩
/-- LNK_STAT.RTT_NS, 13_link_layer.md -/
def LNK_STAT_RTT_NS : Fld := ⟨64, 65536, 128, 0x130, 0, 0, 1, 32, 16, .ro, [.c, .w, .b], 0x0⟩
/-- LNK_STAT.LAST_CAUSE, 13_link_layer.md -/
def LNK_STAT_LAST_CAUSE : Fld := ⟨64, 65536, 128, 0x130, 0, 0, 1, 48, 4, .ro, [.c, .w], 0x0⟩
/-- LNK_PEER.PEER_DID, 13_link_layer.md -/
def LNK_PEER_PEER_DID : Fld := ⟨64, 65536, 128, 0x138, 0, 0, 1, 0, 18, .ro, [.c, .w, .b], 0x3ffff⟩
/-- LNK_PEER.PEER_PORT, 13_link_layer.md -/
def LNK_PEER_PEER_PORT : Fld := ⟨64, 65536, 128, 0x138, 0, 0, 1, 24, 7, .ro, [.c, .w, .b], 0x0⟩
/-- LNK_PEER.VALID, 13_link_layer.md -/
def LNK_PEER_VALID : Fld := ⟨64, 65536, 128, 0x138, 0, 0, 1, 31, 1, .ro, [.c, .w, .b], 0x0⟩
/-- LNK_CNT.FLITS_BAD, 13_link_layer.md -/
def LNK_CNT_FLITS_BAD : Fld := ⟨64, 65536, 128, 0x140, 0, 0, 1, 0, 32, .rc, [.c, .w, .b], 0x0⟩
/-- LNK_CNT.REPLAYS, 13_link_layer.md -/
def LNK_CNT_REPLAYS : Fld := ⟨64, 65536, 128, 0x140, 0, 0, 1, 32, 32, .rc, [.c, .w, .b], 0x0⟩
/-- LNK_FEC.CW_CORRECTED, 13_link_layer.md -/
def LNK_FEC_CW_CORRECTED : Fld := ⟨64, 65536, 128, 0x148, 0, 0, 1, 0, 32, .rc, [.c, .w, .b], 0x0⟩
/-- LNK_FEC.CW_UNCORRECTABLE, 13_link_layer.md -/
def LNK_FEC_CW_UNCORRECTABLE : Fld := ⟨64, 65536, 128, 0x148, 0, 0, 1, 32, 32, .rc, [.c, .w, .b], 0x0⟩
/-- LNK_AUDIT.LEAK_DATA, 13_link_layer.md -/
def LNK_AUDIT_LEAK_DATA : Fld := ⟨64, 65536, 128, 0x150, 0, 0, 1, 0, 16, .ro, [.c, .w, .b], 0x0⟩
/-- LNK_AUDIT.LEAK_HDR, 13_link_layer.md -/
def LNK_AUDIT_LEAK_HDR : Fld := ⟨64, 65536, 128, 0x150, 0, 0, 1, 16, 16, .ro, [.c, .w, .b], 0x0⟩
/-- LNK_AUDIT.AUDITS, 13_link_layer.md -/
def LNK_AUDIT_AUDITS : Fld := ⟨64, 65536, 128, 0x150, 0, 0, 1, 32, 32, .rc, [.c, .w, .b], 0x0⟩
/-- LNK_HOLD.HELD, 13_link_layer.md -/
def LNK_HOLD_HELD : Fld := ⟨64, 65536, 128, 0x158, 0, 0, 1, 0, 16, .ro, [.c, .w, .b], 0x0⟩
/-- LNK_HOLD.FLUSHED, 13_link_layer.md -/
def LNK_HOLD_FLUSHED : Fld := ⟨64, 65536, 128, 0x158, 0, 0, 1, 32, 16, .rc, [.c, .w, .b], 0x0⟩
/-- LNK_TIME_STAT.OFFSET_NS, 13_link_layer.md -/
def LNK_TIME_STAT_OFFSET_NS : Fld := ⟨64, 65536, 128, 0x160, 0, 0, 1, 0, 32, .ro, [.c, .w, .b], 0x0⟩
/-- LNK_TIME_STAT.DELAY_NS, 13_link_layer.md -/
def LNK_TIME_STAT_DELAY_NS : Fld := ⟨64, 65536, 128, 0x160, 0, 0, 1, 32, 16, .ro, [.c, .w, .b], 0x0⟩
/-- LNK_CREDk.HDR_AVAIL, 13_link_layer.md -/
def LNK_CREDk_HDR_AVAIL : Fld := ⟨64, 65536, 128, 0x180, 8, 0, 9, 0, 10, .ro, [.c, .w, .b], 0x0⟩
/-- LNK_CREDk.DATA_AVAIL, 13_link_layer.md -/
def LNK_CREDk_DATA_AVAIL : Fld := ⟨64, 65536, 128, 0x180, 8, 0, 9, 16, 13, .ro, [.c, .w, .b], 0x0⟩
/-- LNK_CREDk.HDR_ADV, 13_link_layer.md -/
def LNK_CREDk_HDR_ADV : Fld := ⟨64, 65536, 128, 0x180, 8, 0, 9, 32, 10, .ro, [.c, .w, .b], 0x0⟩
/-- LNK_CREDk.DATA_ADV, 13_link_layer.md -/
def LNK_CREDk_DATA_ADV : Fld := ⟨64, 65536, 128, 0x180, 8, 0, 9, 48, 13, .ro, [.c, .w, .b], 0x0⟩
/-- LAN_CFG.SPLIT, 14_lanes.md -/
def LAN_CFG_SPLIT : Fld := ⟨192, 65536, 32, 0x100, 0, 0, 1, 0, 2, .rws, [.c, .w], 0x0⟩
/-- LAN_CFG.RATE, 14_lanes.md -/
def LAN_CFG_RATE : Fld := ⟨192, 65536, 32, 0x100, 0, 0, 1, 4, 2, .rws, [.c, .w], 0x0⟩
/-- LAN_CFG.SLOT_A, 14_lanes.md -/
def LAN_CFG_SLOT_A : Fld := ⟨192, 65536, 32, 0x100, 0, 0, 1, 8, 2, .rws, [.c, .w], 0x0⟩
/-- LAN_CFG.SLOT_B, 14_lanes.md -/
def LAN_CFG_SLOT_B : Fld := ⟨192, 65536, 32, 0x100, 0, 0, 1, 10, 2, .rws, [.c, .w], 0x2⟩
/-- LAN_CFG.REVERSE, 14_lanes.md -/
def LAN_CFG_REVERSE : Fld := ⟨192, 65536, 32, 0x100, 0, 0, 1, 12, 1, .rws, [.c, .w], 0x0⟩
/-- LAN_CFG.NARROW_EN, 14_lanes.md -/
def LAN_CFG_NARROW_EN : Fld := ⟨192, 65536, 32, 0x100, 0, 0, 1, 13, 1, .rws, [.c, .w], 0x1⟩
/-- LAN_TMO.LOCK_TMO_US, 14_lanes.md -/
def LAN_TMO_LOCK_TMO_US : Fld := ⟨192, 65536, 32, 0x108, 0, 0, 1, 0, 16, .rws, [.c, .w], 0x7d0⟩
/-- LAN_TMO.SQUELCH_US, 14_lanes.md -/
def LAN_TMO_SQUELCH_US : Fld := ⟨192, 65536, 32, 0x108, 0, 0, 1, 16, 16, .rws, [.c, .w], 0xa⟩
/-- LAN_STAT.PLL_LOCK, 14_lanes.md -/
def LAN_STAT_PLL_LOCK : Fld := ⟨192, 65536, 32, 0x110, 0, 0, 1, 0, 1, .ro, [.c, .w, .b], 0x0⟩
/-- LAN_STAT.READY, 14_lanes.md -/
def LAN_STAT_READY : Fld := ⟨192, 65536, 32, 0x110, 0, 0, 1, 4, 4, .ro, [.c, .w, .b], 0x0⟩
/-- LAN_STAT.IN_SET, 14_lanes.md -/
def LAN_STAT_IN_SET : Fld := ⟨192, 65536, 32, 0x110, 0, 0, 1, 8, 4, .ro, [.c, .w, .b], 0x0⟩
/-- LAN_SER_CTL.SER_LIMIT, 14_lanes.md -/
def LAN_SER_CTL_SER_LIMIT : Fld := ⟨192, 65536, 32, 0x118, 0, 0, 1, 0, 16, .rw, [.c, .w], 0x850⟩
/-- LAN_LANE_CTLl.FENCE, 14_lanes.md -/
def LAN_LANE_CTLl_FENCE : Fld := ⟨192, 65536, 32, 0x200, 64, 0, 4, 0, 1, .rw, [.c, .w], 0x0⟩
/-- LAN_LANE_CTLl.TX_OFF, 14_lanes.md -/
def LAN_LANE_CTLl_TX_OFF : Fld := ⟨192, 65536, 32, 0x200, 64, 0, 4, 1, 1, .rw, [.c, .w], 0x0⟩
/-- LAN_LANE_CTLl.TX_PRESET, 14_lanes.md -/
def LAN_LANE_CTLl_TX_PRESET : Fld := ⟨192, 65536, 32, 0x200, 64, 0, 4, 4, 4, .rw, [.c, .w], 0x3⟩
/-- LAN_LANE_CTLl.RX_PRESET, 14_lanes.md -/
def LAN_LANE_CTLl_RX_PRESET : Fld := ⟨192, 65536, 32, 0x200, 64, 0, 4, 8, 2, .rw, [.c, .w], 0x1⟩
/-- LAN_TX_FFEl.PRE2, 14_lanes.md -/
def LAN_TX_FFEl_PRE2 : Fld := ⟨192, 65536, 32, 0x208, 64, 0, 4, 0, 8, .rw, [.c, .w], 0x0⟩
/-- LAN_TX_FFEl.PRE1, 14_lanes.md -/
def LAN_TX_FFEl_PRE1 : Fld := ⟨192, 65536, 32, 0x208, 64, 0, 4, 8, 8, .rw, [.c, .w], 0x0⟩
/-- LAN_TX_FFEl.MAIN, 14_lanes.md -/
def LAN_TX_FFEl_MAIN : Fld := ⟨192, 65536, 32, 0x208, 64, 0, 4, 16, 8, .rw, [.c, .w], 0x40⟩
/-- LAN_TX_FFEl.POST1, 14_lanes.md -/
def LAN_TX_FFEl_POST1 : Fld := ⟨192, 65536, 32, 0x208, 64, 0, 4, 24, 8, .rw, [.c, .w], 0x0⟩
/-- LAN_LANE_STATl.STATE, 14_lanes.md -/
def LAN_LANE_STATl_STATE : Fld := ⟨192, 65536, 32, 0x210, 64, 0, 4, 0, 3, .ro, [.c, .w, .b], 0x0⟩
/-- LAN_LANE_STATl.POL_INV, 14_lanes.md -/
def LAN_LANE_STATl_POL_INV : Fld := ⟨192, 65536, 32, 0x210, 64, 0, 4, 3, 1, .ro, [.c, .w, .b], 0x0⟩
/-- LAN_LANE_STATl.SIGNAL, 14_lanes.md -/
def LAN_LANE_STATl_SIGNAL : Fld := ⟨192, 65536, 32, 0x210, 64, 0, 4, 4, 1, .ro, [.c, .w, .b], 0x0⟩
/-- LAN_LANE_STATl.PEER_RX_READY, 14_lanes.md -/
def LAN_LANE_STATl_PEER_RX_READY : Fld := ⟨192, 65536, 32, 0x210, 64, 0, 4, 5, 1, .ro, [.c, .w, .b], 0x0⟩
/-- LAN_LANE_STATl.SKEW_PS, 14_lanes.md -/
def LAN_LANE_STATl_SKEW_PS : Fld := ⟨192, 65536, 32, 0x210, 64, 0, 4, 16, 16, .ro, [.c, .w, .b], 0x0⟩
/-- LAN_LANE_STATl.LOCK_TIME_US, 14_lanes.md -/
def LAN_LANE_STATl_LOCK_TIME_US : Fld := ⟨192, 65536, 32, 0x210, 64, 0, 4, 32, 16, .ro, [.c, .w, .b], 0x0⟩
/-- LAN_TESTl.GEN, 14_lanes.md -/
def LAN_TESTl_GEN : Fld := ⟨192, 65536, 32, 0x218, 64, 0, 4, 0, 3, .rw, [.c, .w, .b], 0x0⟩
/-- LAN_TESTl.CHK, 14_lanes.md -/
def LAN_TESTl_CHK : Fld := ⟨192, 65536, 32, 0x218, 64, 0, 4, 4, 3, .rw, [.c, .w, .b], 0x0⟩
/-- LAN_TESTl.LOOP, 14_lanes.md -/
def LAN_TESTl_LOOP : Fld := ⟨192, 65536, 32, 0x218, 64, 0, 4, 8, 2, .rw, [.c, .w, .b], 0x0⟩
/-- LAN_PRBS_CNTl.ERRORS, 14_lanes.md -/
def LAN_PRBS_CNTl_ERRORS : Fld := ⟨192, 65536, 32, 0x220, 64, 0, 4, 0, 32, .rc, [.c, .w, .b], 0x0⟩
/-- LAN_PRBS_CNTl.GBITS, 14_lanes.md -/
def LAN_PRBS_CNTl_GBITS : Fld := ⟨192, 65536, 32, 0x220, 64, 0, 4, 32, 31, .rc, [.c, .w, .b], 0x0⟩
/-- LAN_PRBS_CNTl.SYNC, 14_lanes.md -/
def LAN_PRBS_CNTl_SYNC : Fld := ⟨192, 65536, 32, 0x220, 64, 0, 4, 63, 1, .ro, [.c, .w, .b], 0x0⟩
/-- LAN_INJECTl.MODE, 14_lanes.md -/
def LAN_INJECTl_MODE : Fld := ⟨192, 65536, 32, 0x228, 64, 0, 4, 0, 2, .rw, [.c, .w, .b], 0x0⟩
/-- LAN_INJECTl.GO, 14_lanes.md -/
def LAN_INJECTl_GO : Fld := ⟨192, 65536, 32, 0x228, 64, 0, 4, 2, 1, .wo, [], 0x0⟩
/-- LAN_INJECTl.LEN, 14_lanes.md -/
def LAN_INJECTl_LEN : Fld := ⟨192, 65536, 32, 0x228, 64, 0, 4, 4, 8, .rw, [.c, .w, .b], 0x1⟩
/-- LAN_INJECTl.RATE_LOG2, 14_lanes.md -/
def LAN_INJECTl_RATE_LOG2 : Fld := ⟨192, 65536, 32, 0x228, 64, 0, 4, 16, 5, .rw, [.c, .w, .b], 0x14⟩
/-- LAN_INJECTl.INJECTED, 14_lanes.md -/
def LAN_INJECTl_INJECTED : Fld := ⟨192, 65536, 32, 0x228, 64, 0, 4, 32, 32, .rc, [.c, .w, .b], 0x0⟩
/-- LAN_EYEl.H_UPPER, 14_lanes.md -/
def LAN_EYEl_H_UPPER : Fld := ⟨192, 65536, 32, 0x230, 64, 0, 4, 0, 8, .ro, [.c, .w, .b], 0x0⟩
/-- LAN_EYEl.H_MID, 14_lanes.md -/
def LAN_EYEl_H_MID : Fld := ⟨192, 65536, 32, 0x230, 64, 0, 4, 8, 8, .ro, [.c, .w, .b], 0x0⟩
/-- LAN_EYEl.H_LOWER, 14_lanes.md -/
def LAN_EYEl_H_LOWER : Fld := ⟨192, 65536, 32, 0x230, 64, 0, 4, 16, 8, .ro, [.c, .w, .b], 0x0⟩
/-- LAN_EYEl.WIDTH, 14_lanes.md -/
def LAN_EYEl_WIDTH : Fld := ⟨192, 65536, 32, 0x230, 64, 0, 4, 24, 10, .ro, [.c, .w, .b], 0x0⟩
/-- LAN_EYEl.SNR, 14_lanes.md -/
def LAN_EYEl_SNR : Fld := ⟨192, 65536, 32, 0x230, 64, 0, 4, 40, 8, .ro, [.c, .w, .b], 0x0⟩
/-- LAN_EYEl.VALID, 14_lanes.md -/
def LAN_EYEl_VALID : Fld := ⟨192, 65536, 32, 0x230, 64, 0, 4, 63, 1, .ro, [.c, .w, .b], 0x0⟩
/-- LAN_MARGINl.V_OFFSET, 14_lanes.md -/
def LAN_MARGINl_V_OFFSET : Fld := ⟨192, 65536, 32, 0x238, 64, 0, 4, 0, 8, .rw, [.c, .w, .b], 0x0⟩
/-- LAN_MARGINl.H_OFFSET, 14_lanes.md -/
def LAN_MARGINl_H_OFFSET : Fld := ⟨192, 65536, 32, 0x238, 64, 0, 4, 8, 8, .rw, [.c, .w, .b], 0x0⟩
/-- LAN_MARGINl.DWELL_LOG2, 14_lanes.md -/
def LAN_MARGINl_DWELL_LOG2 : Fld := ⟨192, 65536, 32, 0x238, 64, 0, 4, 16, 6, .rw, [.c, .w, .b], 0x1e⟩
/-- LAN_MARGINl.START, 14_lanes.md -/
def LAN_MARGINl_START : Fld := ⟨192, 65536, 32, 0x238, 64, 0, 4, 24, 1, .wo, [], 0x0⟩
/-- LAN_MARGINl.BUSY, 14_lanes.md -/
def LAN_MARGINl_BUSY : Fld := ⟨192, 65536, 32, 0x238, 64, 0, 4, 25, 1, .ro, [.c, .w, .b], 0x0⟩
/-- LAN_MARGINl.ERRORS, 14_lanes.md -/
def LAN_MARGINl_ERRORS : Fld := ⟨192, 65536, 32, 0x238, 64, 0, 4, 32, 32, .ro, [.c, .w, .b], 0x0⟩
/-- LAN_SYMl.CORRECTED, 14_lanes.md -/
def LAN_SYMl_CORRECTED : Fld := ⟨192, 65536, 32, 0x300, 8, 0, 4, 0, 32, .rc, [.c, .w, .b], 0x0⟩
/-- MEM_SCRUB_CTL.EN, 16_faults_and_service.md -/
def MEM_SCRUB_CTL_EN : Fld := ⟨224, 65536, 2, 0x200, 0, 0, 1, 0, 1, .rw, [.c, .w], 0x1⟩
/-- MEM_SCRUB_CTL.PERIOD_H, 16_faults_and_service.md -/
def MEM_SCRUB_CTL_PERIOD_H : Fld := ⟨224, 65536, 2, 0x200, 0, 0, 1, 8, 8, .rw, [.c, .w], 0x18⟩
/-- MEM_SCRUB_STAT.PASSES, 16_faults_and_service.md -/
def MEM_SCRUB_STAT_PASSES : Fld := ⟨224, 65536, 2, 0x208, 0, 0, 1, 0, 32, .ro, [.c, .w], 0x0⟩
/-- MEM_SCRUB_STAT.POS_MIB, 16_faults_and_service.md -/
def MEM_SCRUB_STAT_POS_MIB : Fld := ⟨224, 65536, 2, 0x208, 0, 0, 1, 32, 32, .ro, [.c, .w], 0x0⟩
/-- MEM_SPARE_CTL.CE_ROW_LIMIT, 16_faults_and_service.md -/
def MEM_SPARE_CTL_CE_ROW_LIMIT : Fld := ⟨224, 65536, 2, 0x210, 0, 0, 1, 0, 8, .rw, [.c, .w], 0x8⟩
/-- MEM_SPARE_CTL.AUTO, 16_faults_and_service.md -/
def MEM_SPARE_CTL_AUTO : Fld := ⟨224, 65536, 2, 0x210, 0, 0, 1, 8, 1, .rw, [.c, .w], 0x1⟩
/-- MEM_SPARE_STAT.TOTAL, 16_faults_and_service.md -/
def MEM_SPARE_STAT_TOTAL : Fld := ⟨224, 65536, 2, 0x218, 0, 0, 1, 0, 16, .ro, [.c], 0x0⟩
/-- MEM_SPARE_STAT.USED, 16_faults_and_service.md -/
def MEM_SPARE_STAT_USED : Fld := ⟨224, 65536, 2, 0x218, 0, 0, 1, 16, 16, .ro, [.c], 0x0⟩
/-- MEM_SPARE_STAT.BUSY, 16_faults_and_service.md -/
def MEM_SPARE_STAT_BUSY : Fld := ⟨224, 65536, 2, 0x218, 0, 0, 1, 32, 1, .ro, [.c, .w], 0x0⟩
/-- MEM_SPARE_FORCE.ADDR, 16_faults_and_service.md -/
def MEM_SPARE_FORCE_ADDR : Fld := ⟨224, 65536, 2, 0x220, 0, 0, 1, 0, 36, .wo, [], 0x0⟩
/-- MEM_SPARE_FORCE.GO, 16_faults_and_service.md -/
def MEM_SPARE_FORCE_GO : Fld := ⟨224, 65536, 2, 0x220, 0, 0, 1, 63, 1, .wo, [], 0x0⟩
/-- MEM_ECC_CNT.CORRECTED, 16_faults_and_service.md -/
def MEM_ECC_CNT_CORRECTED : Fld := ⟨224, 65536, 2, 0x228, 0, 0, 1, 0, 32, .rc, [.c, .w], 0x0⟩
/-- MEM_ECC_CNT.UNCORRECTED, 16_faults_and_service.md -/
def MEM_ECC_CNT_UNCORRECTED : Fld := ⟨224, 65536, 2, 0x228, 0, 0, 1, 32, 32, .rc, [.c, .w], 0x0⟩

/-- Fields of HDR, part 0. -/
def listHDR0 : List Fld :=
  [BLK_ID_TYPE, BLK_ID_INSTANCE, BLK_ID_VER_MAJOR, BLK_ID_VER_MINOR,
   BLK_CAP_BRST, BLK_CAP_SHADOW, BLK_CAP_ARB, BLK_CAP_FNWIN,
   BLK_CAP_UNITS, BLK_CAP_ERR_TOP, BLK_CTL_EN, BLK_CTL_FENCE,
   BLK_CTL_RST, BLK_STAT_READY, BLK_STAT_FENCED, BLK_STAT_FAULT_FENCED,
   BLK_STAT_UNIT_FENCED, BLK_STAT_RESET_BUSY, BLK_STAT_GATED_ACCESS, ERR_STAT_ERR,
   ERR_MASK_MASK, ERR_CLASS_REACT, ERR_FIRST_ADDR_ADDR, ERR_FIRST_INFO_MASTER,
   ERR_FIRST_INFO_ACCESS]
/-- Fields of HDR, part 1. -/
def listHDR1 : List Fld :=
  [ERR_FIRST_INFO_INDEX, ERR_FIRST_INFO_REMOTE_EPA, ERR_FIRST_INFO_MORE, ERR_FIRST_INFO_VALID,
   ERR_FIRST_TIME_TIME, ERR_WINDOW_LENGTH, ERR_WINDOW_THRESHOLD, ERR_COUNT_IN_WINDOW,
   ERR_COUNT_TOTAL, PWR_CTL_AUTO_GATE, PWR_CTL_DOMAIN, EVT_BASE_FIRST,
   EVT_BASE_COUNT, SHADOW_CMT_CMT, SHADOW_CMT_DISCARD, SHADOW_STAT_PENDING,
   SHADOW_STAT_BUSY, SHADOW_STAT_REFUSED, SHADOW_STAT_REFUSE_CODE, SHADOW_STAT_COUNT]
/-- The fields of a HDR page. -/
def fieldsHDR : List Fld := listHDR0 ++ listHDR1

/-- Fields of ARB, part 0. -/
def listARB0 : List Fld :=
  [ARB_CTL_NTH, ARB_CTL_WDOG_EN, ARB_CTL_WDOG_LIMIT, ARB_STAT_HOLDER,
   ARB_STAT_BUSY, ARB_STAT_WAITING, ARB_FENCED_FENCED, ARB_GRANTS_GRANTS,
   ARB_GRANTS_RESERVED, ARB_WAIT_HWM_WAIT_HWM, ARB_WDOG_LAST, ARB_WDOG_TRIPS,
   ARB_SEL_INST, ARB_PRIr_PRIO]
/-- The fields of a ARB page beyond the header. -/
def fieldsARB : List Fld := listARB0

/-- Fields of DEV, part 0. -/
def listDEV0 : List Fld :=
  [DEV_PART_PART, DEV_PART_STEPPING, DEV_SERIAL_SERIAL, DEV_STRAPS_BOOT_MODE,
   DEV_STRAPS_RECOVERY, DEV_STRAPS_ROUTER_ONLY, DEV_FUSE_OPEN_ALLOWED, DEV_FUSE_JTAG_LOCK,
   DEV_FUSE_FUSE_REV, DEV_DID_DID, DEV_FM_ROLE_HOLDER, DEV_FM_ROLE_GEN,
   DEV_FM_ROLE_LAST_CAUSE, DEV_FM_CTL_RELEASE, DEV_MEM_CAP_CAP_GIB, DEV_MEM_CAP_STACKS,
   DEV_MEM_PLANn_BASE, DEV_MEM_PLANn_SIZE]
/-- The fields of a DEV page beyond the header. -/
def fieldsDEV : List Fld := listDEV0

/-- Fields of FCL, part 0. -/
def listFCL0 : List Fld :=
  [FCL_STAT_STAT, FCL_PORT_LO_PORT, FCL_PORT_HI_PORT, FCL_LANE_GROUP,
   FCL_FIRST_PAGE, FCL_FIRST_VALID, FCL_FATAL_PAGE, FCL_FATAL_INDEX,
   FCL_FATAL_VALID, FCL_FATAL_TIME_TIME, FCL_IRQ_CTL_EN, FCL_IRQ_CTL_FN,
   FCL_IRQ_CTL_VECTOR, FCL_IRQ_MASK_MASK, FCL_SVC_CTL_LANES, FCL_SVC_CTL_PIPES,
   FCL_SVC_CTL_SPARE_PCT, FCL_SVC_CTL_TOTAL_LIMIT, FCL_SVC_STAT_REASONS, FCL_SVC_STAT_FIRST,
   FCL_SVC_STAT_FW_CODE, FCL_SVC_REQ_RAISE, FCL_SVC_REQ_CODE, FCL_ALIVE_TMO_MS,
   FCL_ALIVE_AUTO_M]
/-- Fields of FCL, part 1. -/
def listFCL1 : List Fld :=
  [FCL_ALIVE_KICK, FCL_ALIVE_STOPPED, FCL_UNIT_SEL_PAGE, FCL_UNIT_FENCE_FENCE,
   FCL_UNIT_AUTO_AUTO, FCL_COUNT_LASTING, FCL_COUNT_FENCES, FCL_DROP_ENDPOINT,
   FCL_DROP_CROSSING]
/-- The fields of a FCL page beyond the header. -/
def fieldsFCL : List Fld := listFCL0 ++ listFCL1

/-- Fields of CRP, part 0. -/
def listCRP0 : List Fld :=
  [CRP_PWR_REQ_TARGET, CRP_PWR_STAT_STATE, CRP_PWR_STAT_LAST_REFUSAL, CRP_PWR_STAT_LAST_WAKE,
   CRP_PWR_CTL_AUTO_LAYBY, CRP_PWR_CTL_IDLE_US, CRP_PWR_CTL_ENTRY_TMO_US, CRP_WAKE_DISCARDED,
   CRP_WAKE_WAKES, CRP_WAKE_TIME_TIME, CRP_DOM_STAT0_DOM, CRP_DOM_STAT1_DOM,
   CRP_RST_CTL_WARM, CRP_RST_CTL_MGMT, CRP_RST_STAT_LAST, CRP_RST_STAT_WARM_COUNT,
   CRP_RST_STAT_M_COUNT, CRP_CLK_STAT_LOCKED, CRP_AVS_VOUT_MV, CRP_AVS_READ_MV,
   CRP_AVS_OFFSET_MV, CRP_AVS_AVS_OK, CRP_THERM_TEMP_C, CRP_THERM_PEAK_C,
   CRP_THERM_WARN_C]
/-- Fields of CRP, part 1. -/
def listCRP1 : List Fld :=
  [CRP_THERM_CRIT_C]
/-- The fields of a CRP page beyond the header. -/
def fieldsCRP : List Fld := listCRP0 ++ listCRP1

/-- Fields of TIM, part 0. -/
def listTIM0 : List Fld :=
  [TIM_NOW_TIME, TIM_SET_TIME, TIM_CTL_PRIO, TIM_CTL_PPS_IN_EN,
   TIM_CTL_PPS_OUT_EN, TIM_CTL_CLAIM_WAIT_MS, TIM_CTL_LOSS_MS, TIM_CTL_MAX_STEPS,
   TIM_SERVO_LOCK_NS, TIM_SERVO_LOCK_COUNT, TIM_SERVO_SLEW_PPM, TIM_HOLD_HOLD_PPB,
   TIM_HOLD_HOLD_ERR_NS, TIM_GUARD_MAX_NS, TIM_STAT_STATE, TIM_STAT_PARENT_PORT,
   TIM_STAT_PARENT_VALID, TIM_STAT_STEPS, TIM_STAT_M_PRIO, TIM_STAT_M_DID,
   TIM_STAT_M_SEQ, TIM_OFFSET_OFFSET_NS, TIM_OFFSET_EST_ERR_NS, TIM_PPS_CTL_OUT_WIDTH_US,
   TIM_PPS_IN_TIME]
/-- Fields of TIM, part 1. -/
def listTIM1 : List Fld :=
  [TIM_CNT_STEPS_FWD, TIM_CNT_GUARD_REFUSED]
/-- The fields of a TIM page beyond the header. -/
def fieldsTIM : List Fld := listTIM0 ++ listTIM1

/-- Fields of MGT, part 0. -/
def listMGT0 : List Fld :=
  [MGT_BOOT_STAT_BANK, MGT_BOOT_STAT_CAUSE, MGT_BOOT_STAT_RESULT, MGT_BOOT_STAT_RECOVERY,
   MGT_BOOT_STAT_BOOTS, MGT_FW_VER_VERSION, MGT_FW_SVN_SVN, MGT_FW_SVN_FLOOR,
   MGT_BANK_STAT_STATE_A, MGT_BANK_STAT_STATE_B, MGT_BANK_STAT_ACTIVE, MGT_BANK_STAT_TRIAL_VALID,
   MGT_BANK_STAT_TRIED, MGT_BANK_STAT_BOOTCOPY_VALID, MGT_BANK_STAT_PRELOAD_VALID, MGT_STAGE_STAT_STATE,
   MGT_STAGE_STAT_BANK, MGT_STAGE_STAT_BYTES, MGT_ACT_CTL_ARMED, MGT_ACT_CTL_BANK,
   MGT_ACT_TIME_TIME, MGT_MBOX_STAT_DOE_REQS, MGT_MBOX_STAT_I3C_REQS, MGT_MBOX_STAT_INBAND_REQS,
   MGT_MBOX_STAT_DENIED]
/-- Fields of MGT, part 1. -/
def listMGT1 : List Fld :=
  [MGT_EVT_DEST_DID, MGT_EVT_DEST_EN, MGT_EVT_DEST_IBI_EN, MGT_EVT_STAT_QUEUED,
   MGT_EVT_STAT_LOST, MGT_I3C_STAT_DYN_ADDR, MGT_I3C_STAT_DYN_VALID, MGT_I3C_STAT_EID,
   MGT_FLASH_STAT_JEDEC_ID, MGT_FLASH_STAT_PRESENT, MGT_FLASH_STAT_BUSY, MGT_FLASH_STAT_ERRORS,
   MGT_SETTINGS_STAT_GEN, MGT_SETTINGS_STAT_RECORDS, MGT_SETTINGS_STAT_MIGRATED, MGT_SETTINGS_STAT_NEWER_PRESENT,
   MGT_SETTINGS_STAT_BAD]
/-- The fields of a MGT page beyond the header. -/
def fieldsMGT : List Fld := listMGT0 ++ listMGT1

/-- Fields of SEC, part 0. -/
def listSEC0 : List Fld :=
  [SEC_FRESH_WINDOW_US, SEC_FRESH_FUTURE_US, SEC_STAT_TIME_LOCKED, SEC_STAT_DEBUG_UNLOCKED,
   SEC_STAT_FM_KEY, SEC_STAT_SLOTS, SEC_PARK_ZEROISE_EN, SEC_CMD_OP,
   SEC_CMD_SLOT, SEC_CMD_NEXT, SEC_CMD_ARG_TNUM, SEC_CMD_ARG_EPOCH,
   SEC_CMD_ARG_MODE, SEC_CMD_ARG_REQUIRE_IDE, SEC_CMD_ARG_TARGET_DID, SEC_CMD_TIME_TIME,
   SEC_CMD_STAT_BUSY, SEC_CMD_STAT_RESULT, SEC_CMD_STAT_COUNT, SEC_TSEL_SLOT,
   SEC_TSLOT_STATE, SEC_TSLOT_MODE, SEC_TSLOT_REQUIRE_IDE, SEC_TSLOT_NEXT_VALID,
   SEC_TSLOT_MEMBERS]
/-- Fields of SEC, part 1. -/
def listSEC1 : List Fld :=
  [SEC_TSLOT_TNUM, SEC_TSLOT_CUR_EPOCH, SEC_TSLOT_NEXT_EPOCH, SEC_TOWNER_DIGEST,
   SEC_TROLL_TIME, SEC_TBOUND_BOUND, SEC_DROP_NOT_LOCKED, SEC_DROP_UNKNOWN_TENANCY,
   SEC_DROP2_STALE_EPOCH, SEC_DROP2_NOT_FRESH, SEC_DROP3_TAG_FAIL, SEC_PIPE_STATc_FENCED,
   SEC_PIPE_STATc_BUSY]
/-- The fields of a SEC page beyond the header. -/
def fieldsSEC : List Fld := listSEC0 ++ listSEC1

/-- Fields of PMU, part 0. -/
def listPMU0 : List Fld :=
  [PMU_SNAP_GO, PMU_SNAP_RELEASE, PMU_SNAP_FROZEN, PMU_SNAP_COUNT,
   PMU_SNAP_TIME_TIME, PMU_CHAINk_CHAIN, PMU_TR_CTL_EN, PMU_TR_CTL_WRAP,
   PMU_TR_HEAD_HEAD, PMU_TR_TAIL_TAIL, PMU_TR_STAT_SIZE, PMU_TR_STAT_DROPPED,
   PMU_TR_WIN_BASE_PAGE, PMU_TF_CTLf_EN, PMU_TF_CTLf_LOG2_RATE, PMU_TF_CTLf_DROPS_ONLY,
   PMU_TF_CTLf_LOCAL, PMU_TF_CTLf_JUNCTIONS, PMU_TF_CTLf_VC_MASK, PMU_TF_CTLf_PTYPE_MASK,
   PMU_TF_PORTf_IN_PORT, PMU_TF_PORTf_IN_ANY, PMU_TF_PORTf_OUT_PORT, PMU_TF_PORTf_OUT_ANY,
   PMU_TF_PORTf_CONG_MIN]
/-- Fields of PMU, part 1. -/
def listPMU1 : List Fld :=
  [PMU_TF_DSTf_DID, PMU_TF_SRCf_DID, PMU_TF_DSTf_MASK, PMU_TF_SRCf_MASK,
   PMU_SR_BASE_BASE, PMU_SR_CTL_EN, PMU_SR_CTL_LOG2_SIZE, PMU_SR_CTL_AS,
   PMU_SR_CTL_LOG2_N, PMU_SR_TAIL_TAIL, PMU_SR_HEAD_HEAD, PMU_SR_STAT_DROPPED,
   PMU_SR_STAT_TAGGED, PMU_SR_SEED_SEED]
/-- The fields of a PMU page beyond the header. -/
def fieldsPMU : List Fld := listPMU0 ++ listPMU1

/-- Fields of HIF, part 0. -/
def listHIF0 : List Fld :=
  [HIF_LINK_STAT_RATE, HIF_LINK_STAT_WIDTH, HIF_LINK_STAT_FLIT, HIF_LINK_STAT_UP,
   HIF_LINK_STAT_DOWN_COUNT, HIF_LINK_CTL_MAX_RATE, HIF_LINK_CTL_MAX_WIDTH, HIF_LINK_CTL_FLIT_EN,
   HIF_SLOT_CTL_AUTO_POWER, HIF_SLOT_CTL_POWER_ON, HIF_SLOT_CTL_REMOVE_REQ, HIF_SLOT_CTL_FORCE_OFF,
   HIF_SLOT_CTL_CANCEL, HIF_SLOT_CTL_BUTTON_EN, HIF_SLOT_CTL_ATTN_MODE, HIF_SLOT_STAT_STATE,
   HIF_SLOT_STAT_PRSNT, HIF_SLOT_STAT_PWR_FLT, HIF_SLOT_STAT_PWR_EN, HIF_SLOT_STAT_PERST,
   HIF_SLOT_STAT_INSERTED, HIF_SLOT_STAT_REMOVED_SURPRISE, HIF_SLOT_STAT_REMOVED_ORDERLY, HIF_SLOT_STAT_BUTTON,
   HIF_SLOT_STAT_POWER_FAULT]
/-- Fields of HIF, part 1. -/
def listHIF1 : List Fld :=
  [HIF_SLOT_STAT_QUIESCE_TIMEOUT, HIF_SLOT_TMO_QUIESCE, HIF_SLOT_TMO_DEBOUNCE, HIF_COMMONS_CTL_EN,
   HIF_COMMONS_CTL_WRITE_EN, HIF_COMMONS_CTL_BASE, HIF_COMMONS_CTL_SIZE, HIF_IDE_CTL_REQUIRE,
   HIF_IDE_STAT_STREAM, HIF_IDE_STAT_SECURE, HIF_IDE_STAT_HALTED, HIF_IDE_STAT_KEY_SET,
   HIF_OUTSTANDING_READS, HIF_OUTSTANDING_READS_HWM, HIF_FN_STAT_EP_HOLD, HIF_FN_STAT_QUIESCE_REQ,
   HIF_FN_STAT_IDE_HALT, HIF_FN_STAT_BME, HIF_FN_STAT_DSTATE, HIF_FN_STAT_HOLD_REMAIN,
   HIF_FN_CTL_QUIESCED]
/-- The fields of a HIF page beyond the header. -/
def fieldsHIF : List Fld := listHIF0 ++ listHIF1

/-- Fields of XLT, part 0. -/
def listXLT0 : List Fld :=
  [XLT_CTL_PREWALK_EN, XLT_CTL_PREWALK_DIST, XLT_CTL_COALESCE_US, XLT_STAT_WALKS,
   XLT_STAT_WALKS_HWM, XLT_CACHE_CTL_TC_BYPASS, XLT_CACHE_CTL_WC_BYPASS, XLT_FQ_BASE_BASE,
   XLT_FQ_CTL_EN, XLT_FQ_CTL_LOG2_SIZE, XLT_FQ_CTL_VECTOR, XLT_FQ_CTL_IRQ_EN,
   XLT_FQ_TAIL_TAIL, XLT_FQ_HEAD_HEAD, XLT_FQ_STAT_OVERFLOW, XLT_FQ_STAT_LOST,
   XLT_FQ_STAT_SUPPRESSED, XLT_FN_RESUME_WQ, XLT_FN_RESUME_ACTION, XLT_FN_SUSP_COUNT,
   XLT_FN_SUSP_LAST_REFUSED, XLT_FN_INVAL_STAT_PENDING, XLT_SE_BASEk_BASE, XLT_SE_BASEk_EN,
   XLT_SE_LIMk_LIMIT]
/-- Fields of XLT, part 1. -/
def listXLT1 : List Fld :=
  [XLT_FN_USAGE_AS_LIVE, XLT_FN_USAGE_REG_PAGES]
/-- The fields of a XLT page beyond the header. -/
def fieldsXLT : List Fld := listXLT0 ++ listXLT1

/-- Fields of CMD, part 0. -/
def listCMD0 : List Fld :=
  [CMD_CTL_PREFETCH, CMD_CTL_DP_EN, CMD_STAT_DESC_CACHED, CMD_STAT_TRIG_HELD,
   CMD_HWM_DESC_HWM, CMD_HWM_TRIG_HWM, CMD_AQ_BASE_BASE, CMD_AQ_CTL_EN,
   CMD_AQ_CTL_LOG2_SIZE, CMD_AQ_TAIL_TAIL, CMD_AQ_HEAD_HEAD, CMD_ACQ_BASE_BASE,
   CMD_ACQ_CTL_EN, CMD_ACQ_CTL_LOG2_SIZE, CMD_ACQ_CTL_VECTOR, CMD_ACQ_CTL_IRQ_EN,
   CMD_ACQ_TAIL_TAIL, CMD_ACQ_HEAD_HEAD, CMD_FN_STAT_WQ_LIVE, CMD_FN_STAT_CQ_LIVE,
   CMD_FN_STAT_EQ_LIVE, CMD_FN_STAT_ADMIN_BUSY, CMD_RESUME_NUMBER, CMD_RESUME_ACTION,
   CMD_RESUME_QKIND]
/-- Fields of CMD, part 1. -/
def listCMD1 : List Fld :=
  [CMD_TRIG_ADD_COUNTER, CMD_TRIG_ADD_ADDEND, CMD_ASYNC_EQ, CMD_ASYNC_VALID,
   CMD_ASYNC_LOST, CMD_TRIG_STAT_HELD, CMD_TRIG_STAT_HELD_HWM, CMD_TRIGk_COUNT]
/-- The fields of a CMD page beyond the header. -/
def fieldsCMD : List Fld := listCMD0 ++ listCMD1

/-- Fields of TXE, part 0. -/
def listTXE0 : List Fld :=
  [TXE_CTL_READ_LIMIT, TXE_PIPE_STATp_READS, TXE_PIPE_STATp_ACTIVE_WQ, TXE_HWMp_READS_HWM,
   TXE_HWMp_ACTIVE_HWM, TXE_PREEMPTp_COUNT]
/-- The fields of a TXE page beyond the header. -/
def fieldsTXE : List Fld := listTXE0

/-- Fields of RXE, part 0. -/
def listRXE0 : List Fld :=
  [RXE_CTL_VIOL_COALESCE_US, RXE_CTL_FLUSH_ZERO_LEN, RXE_PIPE_STATp_WALK_PARKED, RXE_PIPE_STATp_FLUSH_PENDING,
   RXE_HWMp_WALK_PARKED_HWM, RXE_HWMp_FLUSH_HWM, RXE_VIOL_REFUSED, RXE_VIOL_SUPPRESSED,
   RXE_REGIONS_LIVE_FN, RXE_CREG_LIVE_LIVE, RXE_CREG_BASEi_BASE, RXE_CREG_LENi_LEN,
   RXE_CREG_ATTRi_VALID, RXE_CREG_ATTRi_RIGHTS, RXE_CREG_ATTRi_TENANCY, RXE_CREG_ATTRi_OWNER_FN,
   RXE_CREG_ATTRi_EQ, RXE_CREG_ATTRi_EQ_EN, RXE_CREG_ATTRi_GEN]
/-- The fields of a RXE page beyond the header. -/
def fieldsRXE : List Fld := listRXE0

/-- Fields of PWY, part 0. -/
def listPWY0 : List Fld :=
  [PWY_CTL_ACK_COALESCE, PWY_CTL_ACK_DELAY_NS, PWY_CTL_IDLE_SPILL_US, PWY_TIMERS_GIVEUP,
   PWY_TIMERS_FORGET, PWY_RTO_INIT, PWY_RTO_MIN, PWY_RTO_MAX,
   PWY_CC_CTL_EN, PWY_CC_CTL_MD_MARK, PWY_CC_CTL_MD_DELAY, PWY_CC_CTL_MARK_LEVEL,
   PWY_CC_CTL_DELAY_TARGET, PWY_CC_CTL_AI, PWY_CC_WIN_INIT, PWY_CC_WIN_MIN,
   PWY_CC_WIN_MAX, PWY_STAT_CACHED, PWY_STAT_STORED, PWY_OCC_INFLIGHT,
   PWY_OCC_PARKED, PWY_OCC_HELD, PWY_HWM_INFLIGHT_HWM, PWY_HWM_PARKED_HWM,
   PWY_HWM_HELD_HWM]
/-- Fields of PWY, part 1. -/
def listPWY1 : List Fld :=
  [PWY_REFUSE_PARK_FULL, PWY_REFUSE_STORE_FULL, PWY_LQP_STAT_CACHED, PWY_LQP_STAT_FETCHES]
/-- The fields of a PWY page beyond the header. -/
def fieldsPWY : List Fld := listPWY0 ++ listPWY1

/-- Fields of MTC, part 0. -/
def listMTC0 : List Fld :=
  [MTC_CTL_EAGER_MAX, MTC_CTL_RESUME_FREE, MTC_CTL_RDV_WAIT_MS, MTC_STORE_POSTED,
   MTC_STORE_UNEXP, MTC_POOL_BLOCKS, MTC_POOL_RECORDS, MTC_POOL_RDV_SRC,
   MTC_HWM_POSTED_HWM, MTC_HWM_UNEXP_HWM, MTC_HWM2_BLOCKS_HWM, MTC_HWM2_RECORDS_HWM,
   MTC_REFUSE_NOT_READY, MTC_REFUSE_SPILLED, MTC_QUOTA_Fn_HDR_MAX, MTC_QUOTA_Fn_POOL_MAX,
   MTC_OVF_BASE_BASE, MTC_OVF_CTL_EN, MTC_OVF_CTL_LOG2_SIZE, MTC_OVF_CTL_AS,
   MTC_OVF_TAIL_TAIL, MTC_OVF_HEAD_HEAD, MTC_FN_USE_LISTS, MTC_FN_USE_UNEXP,
   MTC_FN_POOL_BLOCKS]
/-- Fields of MTC, part 1. -/
def listMTC1 : List Fld :=
  [MTC_LIST_SEL_LIST, MTC_LIST_STAT_STATE, MTC_LIST_STAT_UNEXP, MTC_LIST_POSTED_POSTED]
/-- The fields of a MTC page beyond the header. -/
def fieldsMTC : List Fld := listMTC0 ++ listMTC1

/-- Fields of COL, part 0. -/
def listCOL0 : List Fld :=
  [COL_CTL_ROUND_TMO_US, COL_CTL_WAIT_TMO_MS, COL_STAGE_RESERVED, COL_STAGE_CAPACITY,
   COL_STAT_SLOTS, COL_STAT_ROUNDS, COL_STAT_PARKED, COL_HWM_ROUNDS_HWM,
   COL_HWM_PARKED_HWM, COL_DROP_MASKED, COL_DROP_NO_SLOT, COL_EVENTS_RESTARTS,
   COL_EVENTS_BROKEN, COL_ABORTS_ABORTED, COL_SLOT_SEL_SLOT, COL_SLOT_STAT_STATE,
   COL_SLOT_STAT_WBASE, COL_SLOT_STAT_ROUNDS, COL_SLOT_CFG_VALID, COL_SLOT_CFG_ALT_PRESENT,
   COL_SLOT_CFG_EQ_EN, COL_SLOT_CFG_LOCAL, COL_SLOT_CFG_MAX_ROUNDS_M1, COL_SLOT_CFG_STAGE_UNITS,
   COL_SLOT_CFG_TENANCY]
/-- Fields of COL, part 1. -/
def listCOL1 : List Fld :=
  [COL_SLOT_CFG_OWNER_FN, COL_SLOT_CFG_EQ, COL_SLOT_PART_PARTICIPANTS_M1, COL_SLOT_PRI_PARENT,
   COL_SLOT_PRI_HAS_PARENT, COL_SLOT_PRI_CH0_CHILD_LO, COL_SLOT_PRI_CH1_CHILD_HI, COL_SLOT_ALT_PARENT,
   COL_SLOT_ALT_HAS_PARENT, COL_SLOT_ALT_ON_TREE, COL_SLOT_ALT_CH0_CHILD_LO, COL_SLOT_ALT_CH1_CHILD_HI]
/-- The fields of a COL page beyond the header. -/
def fieldsCOL : List Fld := listCOL0 ++ listCOL1

/-- Fields of ATM, part 0. -/
def listATM0 : List Fld :=
  [ATM_CTL_SEM_KEEP_US, ATM_STAT_ATOMICS, ATM_STAT_LOCKS, ATM_STAT_WAITERS,
   ATM_HWM_ATOMICS_HWM, ATM_HWM_LOCKS_HWM, ATM_HWM_WAITERS_HWM, ATM_HELD_ENTRIES,
   ATM_SEM_FORCE_SEM, ATM_SEM_FORCE_GO, ATM_LOCK_FORCE_OFFSET, ATM_LOCK_FORCE_GO,
   ATM_BROKEN_SEM, ATM_BROKEN_LOCK, ATM_REFUSE_ATOMIC_QUEUE_FULL, ATM_REFUSE_LOCK_TABLE_FULL,
   ATM_SEM_STATk_HELD, ATM_SEM_STATk_BROKEN, ATM_SEM_STATk_HOLDER, ATM_SEM_STATk_WAITING,
   ATM_SEM_STATk_GRANTS, ATM_SEM_ACQk_GRANTED, ATM_SEM_ACQk_BROKEN, ATM_SEM_ACQk_AGAIN,
   ATM_SEM_ACQk_TIMED_OUT]
/-- Fields of ATM, part 1. -/
def listATM1 : List Fld :=
  [ATM_SEM_ACQk_HOLDER, ATM_SEM_ACQk_WAITERS, ATM_SEM_ACQk_GRANTS, ATM_SEM_TRYk_VALUE,
   ATM_SEM_RELk_REL, ATM_FN_LOCKS_HELD, ATM_FN_LOCKS_WAITING, ATM_FN_LOCKS_SEMS]
/-- The fields of a ATM page beyond the header. -/
def fieldsATM : List Fld := listATM0 ++ listATM1

/-- Fields of TMG, part 0. -/
def listTMG0 : List Fld :=
  [TMG_CTL_RESP_WEIGHT, TMG_CTL_TG_EN, TMG_TC_CTL_WEIGHT, TMG_TC_CTL_STRICT,
   TMG_TC_SHAPEt_RATE, TMG_TC_SHAPEt_BURST, TMG_TC_SHAPEt_EN, TMG_VTIMEp_V,
   TMG_PIPEp_BACKLOG, TMG_PIPEp_ASIDE, TMG_HWMp_BACKLOG_HWM, TMG_HWMp_ASIDE_HWM,
   TMG_TG_SEL_SLOT, TMG_TG_CIR_CIR, TMG_TG_CIR_CBS, TMG_TG_PIR_PIR,
   TMG_TG_PIR_PBS, TMG_TG_ACT_EN, TMG_TG_ACT_GREEN, TMG_TG_ACT_YELLOW,
   TMG_TG_ACT_RED, TMG_TG_CNT_GREEN, TMG_TG_CNT_YELLOW, TMG_TG_CNT2_RED,
   TMG_TG_CNT2_ACTED]
/-- The fields of a TMG page beyond the header. -/
def fieldsTMG : List Fld := listTMG0

/-- Fields of RTB, part 0. -/
def listRTB0 : List Fld :=
  [RTB_CTL_MODE, RTB_CTL_GLOBAL_EN, RTB_CTL_GLOBAL_CLASS, RTB_CTL_CLASS_CHECK,
   RTB_CTL_CLEAR_QUAR, RTB_CTL_TRANSIT_CHECK, RTB_SEL_MODE_TC, RTB_EST_UNIT_NS,
   RTB_EST_MARK_PENALTY, RTB_EST_PRIOR, RTB_EST_DETOUR_BIAS, RTB_EST_GAIN,
   RTB_EST_AGE_US, RTB_QUAR_CTL_TIME_US, RTB_LEG_CFG_GROUPS, RTB_LEG_CFG_OWN_GROUP,
   RTB_LEG_CFG_MEMBERS, RTB_LEG_CFG_OWN_MEMBER, RTB_BOOK_STAT_ACTIVE_BANK, RTB_BOOK_STAT_GEN,
   RTB_BOOK_STAT_COPYING, RTB_WIN_BASE_PAGE, RTB_QUAR_STAT_ENTRIES, RTB_QUAR_STAT_OVERFLOW,
   RTB_QUAR_CLR_CLR]
/-- Fields of RTB, part 1. -/
def listRTB1 : List Fld :=
  [RTB_CNT_REFUSED, RTB_CNT_WAITED, RTB_FAULTS_ACCEPTED, RTB_FAULTS_STALE,
   RTB_CACHE_MISSES, RTB_CACHE_OUTSTANDING, RTB_PORT_CLASSk_CLASS]
/-- The fields of a RTB page beyond the header. -/
def fieldsRTB : List Fld := listRTB0 ++ listRTB1

/-- Fields of XBR, part 0. -/
def listXBR0 : List Fld :=
  [XBR_CTL_VCB_WAIT_US, XBR_CTL_EJECT_WAIT_US, XBR_ARB_EXP_QUANTUM, XBR_ARB_GEN_QUANTUM,
   XBR_ARB_VCB_BURST, XBR_MARK_LO, XBR_MARK_HI, XBR_STAT_RSV_PENDING,
   XBR_DROP_MISROUTED, XBR_DROP_FAULT_LOST, XBR_DROP_VCB_DISCARD, XBR_DROP_EJECT_DISCARD,
   XBR_DROP2_FAULT_DROPS, XBR_DROP2_BUF_LOST, XBR_BUF_SEL_PORT, XBR_BUF_SEL_VC,
   XBR_BUF_OCC_DATA, XBR_BUF_OCC_HDR, XBR_BUF_HWM_DATA_HWM, XBR_BUF_HWM_HDR_HWM,
   XBR_EJECT_OCC, XBR_EJECT_OCC_HWM, XBR_INJECT_OCC, XBR_INJECT_OCC_HWM,
   XBR_RSV_VCv_DATA_MIN]
/-- Fields of XBR, part 1. -/
def listXBR1 : List Fld :=
  [XBR_RSV_VCv_HDR_MIN, XBR_RSV_VCB_DATA_MIN, XBR_RSV_VCB_HDR_MIN, XBR_OUTQi_BACKLOG,
   XBR_OUTQi_LEVEL, XBR_OUTQ_HWMi_BACKLOG_HWM, XBR_GRP_SEL_SLOT, XBR_GRP_PRI_MASK,
   XBR_GRP_ALT_MASK]
/-- The fields of a XBR page beyond the header. -/
def fieldsXBR : List Fld := listXBR0 ++ listXBR1

/-- Fields of LNK, part 0. -/
def listLNK0 : List Fld :=
  [LNK_CTL_EN, LNK_CTL_RETRAIN, LNK_CTL_FEC, LNK_CTL_HOLD_RETRAIN,
   LNK_CTL_REPLAY_MAX, LNK_TMO_ALIGN_TMO_US, LNK_TMO_DRAIN_TMO_US, LNK_TMO_REPLAY_NS,
   LNK_GRACE_GRACE_US, LNK_CREDIT_CTL_UPDATE_NS, LNK_CREDIT_CTL_REFRESH_NS, LNK_CREDIT_CTL_AUDIT_US,
   LNK_CREDIT_CTL_THRESH_DATA, LNK_CREDIT_CTL_THRESH_HDR, LNK_VCB_CTL_GAP, LNK_VCB_CTL_HYST,
   LNK_TIME_CTL_PERIOD_US, LNK_TIME_CTL_ASYM_PS, LNK_STAT_STATE, LNK_STAT_RETRAIN_DUE,
   LNK_STAT_WIDTH, LNK_STAT_FEC_ACTIVE, LNK_STAT_PEER_XOFF, LNK_STAT_VCB_GAP,
   LNK_STAT_RTT_NS]
/-- Fields of LNK, part 1. -/
def listLNK1 : List Fld :=
  [LNK_STAT_LAST_CAUSE, LNK_PEER_PEER_DID, LNK_PEER_PEER_PORT, LNK_PEER_VALID,
   LNK_CNT_FLITS_BAD, LNK_CNT_REPLAYS, LNK_FEC_CW_CORRECTED, LNK_FEC_CW_UNCORRECTABLE,
   LNK_AUDIT_LEAK_DATA, LNK_AUDIT_LEAK_HDR, LNK_AUDIT_AUDITS, LNK_HOLD_HELD,
   LNK_HOLD_FLUSHED, LNK_TIME_STAT_OFFSET_NS, LNK_TIME_STAT_DELAY_NS, LNK_CREDk_HDR_AVAIL,
   LNK_CREDk_DATA_AVAIL, LNK_CREDk_HDR_ADV, LNK_CREDk_DATA_ADV]
/-- The fields of a LNK page beyond the header. -/
def fieldsLNK : List Fld := listLNK0 ++ listLNK1

/-- Fields of LAN, part 0. -/
def listLAN0 : List Fld :=
  [LAN_CFG_SPLIT, LAN_CFG_RATE, LAN_CFG_SLOT_A, LAN_CFG_SLOT_B,
   LAN_CFG_REVERSE, LAN_CFG_NARROW_EN, LAN_TMO_LOCK_TMO_US, LAN_TMO_SQUELCH_US,
   LAN_STAT_PLL_LOCK, LAN_STAT_READY, LAN_STAT_IN_SET, LAN_SER_CTL_SER_LIMIT,
   LAN_LANE_CTLl_FENCE, LAN_LANE_CTLl_TX_OFF, LAN_LANE_CTLl_TX_PRESET, LAN_LANE_CTLl_RX_PRESET,
   LAN_TX_FFEl_PRE2, LAN_TX_FFEl_PRE1, LAN_TX_FFEl_MAIN, LAN_TX_FFEl_POST1,
   LAN_LANE_STATl_STATE, LAN_LANE_STATl_POL_INV, LAN_LANE_STATl_SIGNAL, LAN_LANE_STATl_PEER_RX_READY,
   LAN_LANE_STATl_SKEW_PS]
/-- Fields of LAN, part 1. -/
def listLAN1 : List Fld :=
  [LAN_LANE_STATl_LOCK_TIME_US, LAN_TESTl_GEN, LAN_TESTl_CHK, LAN_TESTl_LOOP,
   LAN_PRBS_CNTl_ERRORS, LAN_PRBS_CNTl_GBITS, LAN_PRBS_CNTl_SYNC, LAN_INJECTl_MODE,
   LAN_INJECTl_GO, LAN_INJECTl_LEN, LAN_INJECTl_RATE_LOG2, LAN_INJECTl_INJECTED,
   LAN_EYEl_H_UPPER, LAN_EYEl_H_MID, LAN_EYEl_H_LOWER, LAN_EYEl_WIDTH,
   LAN_EYEl_SNR, LAN_EYEl_VALID, LAN_MARGINl_V_OFFSET, LAN_MARGINl_H_OFFSET,
   LAN_MARGINl_DWELL_LOG2, LAN_MARGINl_START, LAN_MARGINl_BUSY, LAN_MARGINl_ERRORS,
   LAN_SYMl_CORRECTED]
/-- The fields of a LAN page beyond the header. -/
def fieldsLAN : List Fld := listLAN0 ++ listLAN1

/-- Fields of MEM, part 0. -/
def listMEM0 : List Fld :=
  [MEM_SCRUB_CTL_EN, MEM_SCRUB_CTL_PERIOD_H, MEM_SCRUB_STAT_PASSES, MEM_SCRUB_STAT_POS_MIB,
   MEM_SPARE_CTL_CE_ROW_LIMIT, MEM_SPARE_CTL_AUTO, MEM_SPARE_STAT_TOTAL, MEM_SPARE_STAT_USED,
   MEM_SPARE_STAT_BUSY, MEM_SPARE_FORCE_ADDR, MEM_SPARE_FORCE_GO, MEM_ECC_CNT_CORRECTED,
   MEM_ECC_CNT_UNCORRECTED]
/-- The fields of a MEM page beyond the header. -/
def fieldsMEM : List Fld := listMEM0

end Sys2Proof.F
end

