-- ==== Sys2Proof/Machine/State.lean ====
section
/-! DEFINITION. Machine/State.lean: the state of the block, as plain data, and the state after reset C. -/

namespace Sys2Proof.Machine

/-- Why a command stops the block. No command of the table does: the spec gives each an effect. -/
inductive Fault where
  /-- raised by no command; kept so that the type has a name for a stop (safe) -/
  | stuck
deriving DecidableEq, Repr

/-- Why a command is refused. -/
inductive Refusal where
  /-- a row of the table whose meaning is not written; raised by an arm of `exec` only (safe) -/
  | notModelled (mnemonic : String)
deriving DecidableEq, Repr

/-- What was fused and enrolled at manufacture (02 *DEV page fields*; 18 R541). -/
structure Fuses where
  serial : Nat := 0
  /-- the secret seed (R466) -/
  seed : Nat := 0
  /-- stepping, `OPEN_ALLOWED`, `JTAG_LOCK` and the fuse revision (02 *DEV page fields*; R489, R490, R541) -/
  stepping : Nat := 0x10
  openAllowed : Bool := false
  jtagLock : Bool := true
  fuseRev : Nat := 0
  /-- ordering code C48, not C24 (R514) -/
  c48 : Bool := true
  /-- SVN floor (R541) -/
  svnFloor : Nat := 0
  /-- core-voltage target of the die, in mV (R599) -/
  avsMv : Nat := 750
deriving DecidableEq, Repr

/-- The external flash (R540, R553): what the first 64 bytes of each copy of the boot record hold, where bytes beyond the list are erased; banks as stored, where a byte that is not listed is erased; settings records by
type, generation and bytes used of the current half, next record sequence, and the measurement in the half's header. -/
structure Flash where
  copy0 : List Byte := []
  copy1 : List Byte := []
  banks : Tbl Nat (List Byte) := []
  settings : Tbl Nat Setting := []
  gen : Nat := 0
  used : Nat := 32
  seq : Nat := 0
  image : List Byte := []
deriving DecidableEq, Repr

/-- The management core: the staging in progress, flash operations in progress, and the bank of the last `RECOVER_BEGIN` (R549, R558); the
fabric-event log and its next index (R559); device time at which the running image started (R544), and of the resets M of cause
`M_ALIVE` or `M_FAULT` in the last hour (18 *Firmware codes*). -/
structure Mgmt where
  staging : Option Staging := none
  ops : List FlashOp := []
  recoverBank : Option Nat := none
  log : Tbl Nat LogEntry := []
  logNext : Nat := 0
  bootAt : Nat := 0
  faultResets : List Nat := []
  /-- requests that wait for the one in progress on their path (R545) -/
  queue : List Instr := []
deriving DecidableEq, Repr

/-- Power states: host-port accesses held for a wake, oldest first (R565), and master and page of each that is a register access (R36); device time of the entry in progress, and of the last host
access to a block that lay-by gates (R562); the state that the transition in progress left, and the one that a wake is to reach; a `TARGET`
written meanwhile, and a reset M that waits for `FULL` (R572); ports enabled, and slots whose keys were erased, at the entry of parked (R569, R571); device
time of the last voltage step (R599). -/
structure Power where
  heldIo : List Instr := []
  heldAt : List (Nat × Nat) := []
  at_ : Nat := 0
  hostAt : Nat := 0
  wakeFrom : Nat := 0
  wakeTo : Nat := 0
  next : Option Nat := none
  waitM : Option Nat := none
  ports : List Nat := []
  zeroised : List Nat := []
  avsAt : Option Nat := none
deriving DecidableEq, Repr

/-- A commit in progress on a page, or the copy between banks of the road book that follows a commit or a discard (R47 to R49, R365): `phase` 0 the
commit, 1 the copy of a commit, 2 that of a discard; the shadow copies that it takes, with the convoy slot they are for; and what was
written meanwhile, oldest first: `true` for `CMT`. -/
structure Commit where
  phase : Nat := 0
  snap : Sparse Nat := []
  slot : Nat := 0
  next : List Bool := []
deriving DecidableEq, Repr

/-- Shadow copies that differ from the value in effect, in the way of `State.regs`; commits in progress by page; and the values in effect of
the slot registers of `COL`, by slot (R47 to R49, R291). -/
structure Shadow where
  vals : Sparse Nat := []
  commits : Tbl Nat Commit := []
  slots : Tbl Nat (Sparse Nat) := []
deriving DecidableEq, Repr

/-- The state. Registers are held field by field in `regs`, at `Fld.key`; a field that is not listed holds its reset
value. -/
structure State where
  /-- commands waiting, first in first out -/
  pending : List Instr := []
  /-- register fields that do not hold their reset value, by `Fld.key` (R2, R5, R32) -/
  regs : Sparse Nat := []
  /-- shadow copies and commits in progress (R47 to R49) -/
  sh : Shadow := {}
  /-- on-package memory (R17 to R23): an unlisted byte reads 0 (log entry 5) -/
  mem : List Host.Cell := []
  /-- on-package words marked poisoned (R510) -/
  poison : List Nat := []
  /-- everything the block has sent, oldest first -/
  out : List Out := []
  /-- free-value counter: the model's own field, not the spec's (log entry 4) -/
  fresh : Nat := 0
  /-- fuses and what is fixed at manufacture (R1, R466, R541) -/
  fuses : Fuses := {}
  /-- device time in ns (R577) -/
  now : Nat := 0
  /-- device time, fraction in 2^-32 ns (R577) -/
  nowFrac : Nat := 0
  /-- neighbours by port: what each has said of time (R578, R579) -/
  nbs : Tbl Nat TimeNb := []
  /-- offsets in a row within `LOCK_NS` (R582) -/
  timeGood : Nat := 0
  /-- phase correction still to be made, in 2^-32 ns (R577, R581) -/
  slew : Int := 0
  /-- frequency correction in force, in ppb (R577, R581) -/
  freq : Int := 0
  /-- device time of the last release of reset C or W (R579) -/
  resetAt : Nat := 0
  /-- device time of entry into `HOLDOVER` (R582) -/
  holdAt : Nat := 0
  /-- estimated error at entry into `HOLDOVER` (R582) -/
  holdErr : Nat := 0
  /-- device time of the last `M_SEQ` of this master (R578) -/
  seqAt : Nat := 0
  /-- this master is disciplined by `TIME_PPS_IN` (R584) -/
  ppsRef : Bool := false
  /-- end of the pulse on `TIME_PPS_OUT` (R584) -/
  ppsLowAt : Option Nat := none
  /-- effects still to be carried out by the command in hand: empty between commands (the model's own field) -/
  todo : List Todo := []
  /-- chip-fatal: everything but the always-on blocks is halted (R509) -/
  halted : Bool := false
  /-- counting windows that are open: page and unit plus one (0: the page's own) (R498, R499) -/
  wins : Tbl (Nat × Nat) Win := []
  /-- errors that the command in hand has raised, by page and window (R500): empty between commands (the model's own field) -/
  bursts : Tbl (Nat × Nat) Burst := []
  /-- pages whose capture the command in hand has loaded (R45): empty between commands (the model's own field) -/
  caught : List Nat := []
  /-- unit fences of each page (R502, R508) -/
  unitFence : Sparse Nat := []
  /-- unit fences that a reaction applied (R502, R508) -/
  unitAuto : Sparse Nat := []
  /-- crypto pipelines whose fence was lifted and whose known-answer test has not ended (R508) -/
  pipeTest : List Nat := []
  /-- device time of the last heartbeat (R517) -/
  aliveAt : Nat := 0
  /-- the 1,024 most recently corrected rows, newest first (R513) -/
  rowCounts : List RowCount := []
  /-- the memory stack that trained, where only one did (R18) -/
  solo : Nat := 0
  /-- rows spared in the controllers, by controller (R514) -/
  spareMap : List (Nat × Nat) := []
  /-- rows spared that the settings area holds, by controller (R514) -/
  spareSaved : List (Nat × Nat) := []
  /-- row copies in progress (R514) -/
  rowCopies : List (Nat × Nat) := []
  /-- JTAG register access unlocked by a token (R490) -/
  jtagOpen : Bool := false
  /-- host functions by number (R61 to R93) -/
  hostFns : Tbl Nat HostFn := []
  /-- host reads outstanding or complete (R69 to R72) -/
  reads : Tbl Nat HostRead := []
  /-- number of the next host read (the model's own field) -/
  nextRead : Nat := 0
  /-- address spaces of functions: function and number (R94) -/
  spaces : Tbl (Nat × Nat) AsCtx := []
  /-- translation cache, newest first (R105) -/
  tcache : List Leaf := []
  /-- walk caches, newest first (R105, R106) -/
  wcache : List TableRef := []
  /-- table walks in progress (R97, R98) -/
  walks : Tbl Nat Walk := []
  /-- number of the next walk (the model's own field) -/
  nextWalk : Nat := 0
  /-- translations that a finished walk holds for the access that waited for it (R105, R108) -/
  grants : List (Waiter × Leaf) := []
  /-- fault records written lately, newest first (R113) -/
  faultMarks : List FaultMark := []
  /-- regions of functions: function and index (R164) -/
  regions : Tbl (Nat × Nat) Region := []
  /-- generations last given, by function and index (R31) -/
  regionGen : Tbl (Nat × Nat) Nat := []
  /-- indices that have been used and are free, by how long they have been (R31, R165) -/
  freed : List (Nat × Nat) := []
  /-- work queues: function and number (R124) -/
  wqs : Tbl (Nat × Nat) Wq := []
  /-- completion queues: function and number (R124) -/
  cqs : Tbl (Nat × Nat) Cq := []
  /-- event queues: function and number (R124) -/
  eqs : Tbl (Nat × Nat) Eq := []
  /-- order in which the event queues were made (R155) -/
  nextEq : Nat := 0
  /-- the admin command that each function executes (R127) -/
  admin : Tbl Nat AdminOp := []
  /-- invalidations that wait for covered accesses (R107) -/
  invals : Tbl Nat Inval := []
  /-- admitted operations, in the order in which the operations of a queue begin; the key is the operation tag (R177) -/
  ops : Tbl Nat Op := []
  /-- the next operation tag (R177) -/
  nextOp : Nat := 0
  /-- ports by slot (R421 to R444) -/
  ports : Tbl Nat PortSt := []
  /-- lanes by lane number (R446 to R463) -/
  lanes : Tbl Nat LaneSt := []
  /-- injection paths of the junctions (R10) -/
  inject : Tbl Nat (List BufPkt) := []
  /-- ejection buffers of the junctions (R393) -/
  eject : Tbl Nat (List RxPkt) := []
  /-- packets that passed verification and wait for their engine, oldest first (R486) -/
  rx : List RxPkt := []
  /-- group tables of the junctions: convoy slot, primary and alternate child masks of all ports (R291) -/
  groupTable : Tbl Nat (Nat × Nat) := []
  /-- congestion estimates by key and candidate (R372) -/
  ests : Tbl ((Nat × Nat) × Nat) Estimate := []
  /-- candidate lists in the road-book cache, by estimate key (R371) -/
  bookCache : List (Nat × Nat) := []
  /-- lists being fetched, with the device time at which their fetch may end at the earliest (R367, *Road-book timing*) -/
  listFetch : Tbl (Nat × Nat) Nat := []
  /-- excluded candidates, by destination (R362, R370) -/
  excluded : List (Nat × Nat) := []
  /-- destinations whose entry an uncorrectable error has lost (11, index 2) -/
  bookLost : List Nat := []
  /-- quarantined prefixes (R381) -/
  quars : List Quar := []
  /-- pathways (R199, R200) -/
  pws : Tbl PwKey Pathway := []
  /-- in-flight records (R204) -/
  inflight : Tbl (PwKey × Nat) InFlight := []
  /-- packets parked for a recall (R225) -/
  parked : List RxPkt := []
  /-- packets parked for a walk (R119) -/
  walkPark : List (PwKey × RxPkt) := []
  /-- endpoint epochs, by selector (R207) -/
  epochs : Tbl Nat Nat := []
  /-- ends of the endpoint holds, by selector (R90) -/
  holds : Tbl Nat Nat := []
  /-- a forget time that stays in force until a device time (R223) -/
  forgetOld : Option (Nat × Nat) := none
  /-- compatibility queue pairs by number (R236) -/
  lqps : Tbl Nat Lqp := []
  /-- requests served at this device (R180) -/
  gets : Tbl Nat Serve := []
  /-- number of the next request served (the model's own field) -/
  nextGet : Nat := 0
  /-- flush requests waiting for a read of each function (R185) -/
  flushes : Tbl Nat (List FlushReq) := []
  /-- writes into the commons are not yet complete in the `MEM` controllers (R186) -/
  memBusy : Bool := false
  /-- flush requests that wait for those writes (R186) -/
  memFlushes : List FlushReq := []
  /-- violation events written lately: initiator, key, detail and time (R196) -/
  violations : List (Nat × Nat × Nat × Nat) := []
  /-- what waits in the response entities, oldest first (R403) -/
  resps : List Resp := []
  /-- start tags by pipe, level and entity (R404) -/
  tags : Tbl (Nat × Nat × Nat) Tag := []
  /-- virtual times by pipe and level (R404) -/
  vtimes : Tbl (Nat × Nat) Nat := []
  /-- shaper credits (R405, R406) -/
  credits : Tbl (Nat × Nat) Credit := []
  /-- the queue that each pipe served last (R408) -/
  lastWq : Tbl Nat (Nat × Nat) := []
  /-- atomics on host memory in progress (R330) -/
  atomics : Tbl Nat AtomJob := []
  /-- number of the next atomic (the model's own field) -/
  nextAtomic : Nat := 0
  /-- number of the next reply, `UNLOCK` or cancel pull that the device sends for itself (the model's own field) -/
  nextMsg : Nat := 0
  /-- packets that wait for an atomic on their word (R334) -/
  wordWait : List (PwKey × RxPkt) := []
  /-- packets that wait for a supplied entry of a function's overflow ring to be read (R277, R278) -/
  ovfWait : List (Nat × PwKey × RxPkt) := []
  /-- the lock table by commons offset (R345, R347) -/
  locks : Tbl Nat Lock := []
  /-- the held-lock table (R351) -/
  heldLocks : List HeldLock := []
  /-- waiters of each semaphore, oldest first (R336) -/
  semQ : Tbl Nat (List SemWait) := []
  /-- match lists: function and number (R247) -/
  lists : Tbl (Nat × Nat) MList := []
  /-- posted receives, in the order of their posting (R252, R256) -/
  posted : List Posted := []
  /-- unexpected headers, in the order of their arrival (R256) -/
  unexp : List Unexp := []
  /-- message records (R262) -/
  recs : Tbl (PwKey × Nat) MRec := []
  /-- messages whose later segments are acknowledged and discarded (R285) -/
  closedMsgs : List (PwKey × Nat) := []
  /-- copies of held segments into bound receives (R265) -/
  copies : Tbl Nat Copy := []
  /-- number of the next copy (the model's own field) -/
  nextCopy : Nat := 0
  /-- overflow buffers that have been read from the rings, by function (R277) -/
  ovfs : Tbl Nat (List Ovf) := []
  /-- valid convoy slots (R289) -/
  convoys : Tbl Nat CvSlot := []
  /-- convoy result writes not yet done (R315) -/
  cvWrites : List CvWrite := []
  /-- instances of the common arbiter: page and instance (R395) -/
  arbs : Tbl (Nat × Nat) ArbInst := []
  /-- tenancy slots (R469, R470) -/
  slots : Tbl Nat TenSlot := []
  /-- packet counters of slot and epoch (R484) -/
  pktCtrs : Tbl (Nat × Nat) Nat := []
  /-- tollgate meters (R410) -/
  meters : Tbl Nat Meter := []
  /-- blob buffer (R475) -/
  secBlob : List Byte := List.replicate 288 0
  /-- key command in progress (R473) -/
  secCmd : Option KeyCmd := none
  /-- nonce of the last challenge (R489) -/
  dbgNonce : Option Nat := none
  /-- boundary scan unlocked (R489) -/
  scanOpen : Bool := false
  /-- fabric events queued to be sent (R559) -/
  events : List FabEvent := []
  /-- the external flash (R541, R554) -/
  flash : Flash := {}
  /-- the management core (R545 to R559) -/
  mg : Mgmt := {}
  /-- power states and transitions (R561 to R572) -/
  pw : Power := {}
  /-- reset C or W is in force, until `CHIP_RST_RELEASE` (R573, R597) -/
  inReset : Bool := true
  /-- power is off, until reset C (R601) -/
  off : Bool := false
  /-- performance counters (R524) -/
  ctrs : Sparse Nat := []
  /-- the sampler's LFSR of each function, 1 where unlisted (R535) -/
  lfsr : Tbl Nat Nat := []
  /-- sample records not yet written, by function, without their lap bit (R537) -/
  samples : Tbl Nat (List (List Byte)) := []
  /-- counters as the last snapshot latched them (R527) -/
  snap : Sparse Nat := []
deriving DecidableEq, Repr

/-- The state after reset C, before `CHIP_RST_N` rises. -/
def State.reset : State := {}

end Sys2Proof.Machine
end

