-- ==== Sys2Proof/Machine/Ops.lean ====
section
/-! DEFINITION. Machine/Ops.lean: the named operations over registers, on-package memory and outputs. -/

namespace Sys2Proof.Machine

/-! ## Registers (R32 to R51) -/

/-- The value of a field (for a shadowed one, the value in effect): instance `i` of its page or window, index `j`. -/
def State.rd (s : State) (f : Fld) (i : Nat := 0) (j : Nat := 0) : Nat := Sparse.read f.rst s.regs (f.key i j)

/-- The field written; a value is cut to the field's width. -/
def State.wr (s : State) (f : Fld) (v : Nat) (i : Nat := 0) (j : Nat := 0) : State :=
  { s with regs := Sparse.write f.rst s.regs (f.key i j) (v % 2 ^ f.width) }

/-- Is a field not 0? -/
def State.on (s : State) (f : Fld) (i : Nat := 0) (j : Nat := 0) : Bool := s.rd f i j != 0

/-- A saturating counter field raised by `n`. -/
def State.bump (s : State) (f : Fld) (n : Nat := 1) (i : Nat := 0) (j : Nat := 0) : State :=
  s.wr f (satAdd f.width (s.rd f i j) n) i j

/-- A wrapping counter field raised by `n`. -/
def State.roll (s : State) (f : Fld) (n : Nat := 1) (i : Nat := 0) (j : Nat := 0) : State :=
  s.wr f (s.rd f i j + n) i j

/-- A high-water field raised to a live value (R414). -/
def State.high (s : State) (f : Fld) (v : Nat) (i : Nat := 0) (j : Nat := 0) : State :=
  if s.rd f i j < v then s.wr f v i j else s

/-- Bits of a field set. -/
def State.orBits (s : State) (f : Fld) (m : Nat) (i : Nat := 0) (j : Nat := 0) : State :=
  s.wr f (s.rd f i j ||| m) i j

/-- One bit of a field cleared. -/
def State.clrBit (s : State) (f : Fld) (b : Nat) (i : Nat := 0) (j : Nat := 0) : State :=
  s.wr f (clearBit (s.rd f i j) b) i j

/-- A condition on the state, and an effect where it holds. -/
def State.when (s : State) (c : Bool) (f : State → State) : State := if c then f s else s

/-! ## What the device is (02 *DEV page*) -/

/-- The identifier in effect (R59). -/
def State.did (s : State) : Nat := s.rd F.DEV_DID_DID

/-- Is an identifier in effect? (R60) -/
def State.hasDid (s : State) : Bool := s.did != 0x3FFFF

/-- Operating as a router only (R24). -/
def State.routerOnly (s : State) : Bool := s.on F.DEV_STRAPS_ROUTER_ONLY

/-- Base of a region of the memory plan, in bytes; regions are numbered from 1 (01 *Memory plan regions*). -/
def State.planBase (s : State) (n : Nat) : Nat := s.rd F.DEV_MEM_PLANn_BASE 0 n * 0x4000000

/-- Size of a region of the memory plan, in bytes. -/
def State.planSize (s : State) (n : Nat) : Nat := s.rd F.DEV_MEM_PLANn_SIZE 0 n * 0x4000000

/-- Installed on-package memory, in bytes. -/
def State.capBytes (s : State) : Nat := s.rd F.DEV_MEM_CAP_CAP_GIB * 0x40000000

/-- The device identifier of an EPA (R27). -/
def epaDid (e : Nat) : Nat := e / 8 % 2 ^ 18

/-- The endpoint selector of an EPA (R27). -/
def epaSel (e : Nat) : Nat := e % 8

/-- The EPA of a selector of this device. -/
def State.epa (s : State) (sel : Nat) : Nat := s.did * 8 + sel

/-! ## Outputs, free values, follow-up effects -/

/-- The block sends something. -/
def State.emit (s : State) (o : Out) : State := { s with out := s.out ++ [o] }

/-- An effect to be carried out before the command ends. -/
def State.later (s : State) (t : Todo) : State := { s with todo := s.todo ++ [t] }

/-- The next free value (log entry 4). -/
def State.freeVal (s : State) : Nat := Config.free s.fresh

/-! ## Boot records (R540) -/

/-- The bytes of a boot record. -/
def BootRec.bytes (r : BootRec) : List Byte :=
  let b := leBytes 4 0x7128B007 ++ leBytes 4 r.seq ++ leBytes 1 (r.stateA % 8 + r.stateB % 8 * 16)
    ++ leBytes 1 (r.active % 2 + 2 * b2n r.trialValid + 4 * (r.trial % 2) + 8 * b2n r.tried) ++ List.replicate 50 0
  b ++ leBytes 4 (crc32 b)

/-- The boot record that a copy holds, where its magic number and its CRC are right. -/
def bootRecOf (b : List Byte) : Option BootRec :=
  if leNat (b.take 4) ≠ 0x7128B007 || leNat ((b.drop 60).take 4) ≠ crc32 (b.take 60) || b.length < 64 then none
  else
    let at_ (o : Nat) : Nat := leNat ((b.drop o).take 1)
    some { seq := leNat ((b.drop 4).take 4), stateA := at_ 8 % 8, stateB := at_ 8 / 16 % 8, active := at_ 9 % 2, trialValid := bitOf (at_ 9) 1,
           trial := at_ 9 / 4 % 2, tried := bitOf (at_ 9) 3 }

/-- The copy of the boot record in force: a valid one, the one with the higher sequence number, which wraps, where both are. -/
def Flash.force (f : Flash) : Option Nat :=
  match bootRecOf f.copy0, bootRecOf f.copy1 with
  | none, none => none
  | some _, none => some 0
  | none, some _ => some 1
  | some a, some b => if wrapSub 32 b.seq a.seq < 2 ^ 31 && a.seq ≠ b.seq then some 1 else some 0

/-- The boot record in force; with no valid copy, bank A is active, both banks are `GOOD`, and there is no trial. -/
def Flash.bootRec (f : Flash) : BootRec :=
  match f.force with
  | some 0 => (bootRecOf f.copy0).getD {}
  | some _ => (bootRecOf f.copy1).getD {}
  | none => {}

/-- The part of a register that an access of a size at an offset takes (R32). -/
def partOf (a size v : Nat) : Nat := if size = 8 then v else if a % 8 = 0 then v % 2 ^ 32 else v / 2 ^ 32

/-- A message of the device's own numbered. -/
def State.numbered (s : State) : State := { s with nextMsg := s.nextMsg + 1 }

/-- The free-value counter moved on. -/
def State.drawn (s : State) : State := { s with fresh := s.fresh + 1 }

/-- Device time in whole microseconds, as intervals are counted. -/
def us (n : Nat) : Nat := n * 1000

/-- Milliseconds in nanoseconds. -/
def ms (n : Nat) : Nat := n * 1000000

/-- Device time moved on to a moment that has been reached; it never decreases (R577). -/
def State.reach (s : State) (t : Nat) : State := if s.now < t then { s with now := t, nowFrac := 0 } else s

/-! ## On-package memory (01 *The memory plan*; 16 R510) -/

/-- What an unlisted byte of on-package memory reads as (log entry 5). -/
def memDefault : Byte := 0

/-- One byte. -/
def State.byte (s : State) (a : Nat) : Byte := Sparse.read memDefault s.mem a

/-- One byte written. -/
def State.setByte (s : State) (a : Nat) (b : Byte) : State := { s with mem := Sparse.write memDefault s.mem a b }

/-- `n` bytes from an address. -/
def State.bytes (s : State) (a : Nat) : Nat → List Byte
  | 0 => []
  | n + 1 => s.byte a :: s.bytes (a + 1) n

/-- Bytes put from an address on. -/
def State.putBytes (s : State) (a : Nat) : List Byte → State
  | [] => s
  | b :: r => (s.setByte a b).putBytes (a + 1) r

/-- Bytes written from an address on; a word written whole is no longer poisoned (R510). -/
def State.setBytes (s : State) (a : Nat) (b : List Byte) : State :=
  let s := { s with poison := s.poison.filter fun w => w * 32 < a || a + b.length < w * 32 + 32 }
  s.putBytes a b

/-- A little-endian word of `n` bytes (R6). -/
def State.word (s : State) (a n : Nat) : Nat := leNat (s.bytes a n)

/-- A little-endian word of `n` bytes written. -/
def State.setWord (s : State) (a n v : Nat) : State := s.setBytes a (leBytes n v)

/-- The canonical form of the memory. -/
abbrev State.memWf (s : State) : Prop := Sparse.wf memDefault s.mem = true

/-- Is a byte range free of poisoned words? (R510, R511) -/
def State.clean (s : State) (a n : Nat) : Bool := s.poison.all fun w => w * 32 + 32 ≤ a || a + n ≤ w * 32

/-! ## Blocks: enable, fence, power (R38 to R41, R561) -/

/-- The power domain of a page; none for the always-on domain (19 *Power domains*; 01 *Blocks of the ZU-7128*). -/
def pageDomain (p : Nat) : Option Nat :=
  match pageBlock p with
  | none => none
  | some (b, i) =>
    match b with
    | .lnk => some (i / 16) | .lan => some (i / 4) | .hif => some (8 + i) | .xbr => some (12 + i) | .mem => some (28 + i)
    | .sec => some 30 | .mtc => some 31 | .atm => some 31 | .col => some 32 | .cmd => some 33 | .tmg => some 33
    | .xlt => some 33 | .txe => some 34 | .rxe => some 34 | .pwy => some 34 | .rtb => some 34 | .pmu => some 35
    | .dev => none | .fcl => none | .crp => none | .tim => none | .mgt => none

/-- The pages of a power domain (R561). -/
def domPages (d : Nat) : List Nat :=
  if d < 8 then (List.range 16).map (fun i => Block.lnk.page + 16 * d + i) ++ (List.range 4).map fun i => Block.lan.page + 4 * d + i
  else if d < 12 then [Block.hif.page + (d - 8)]
  else if d < 28 then [Block.xbr.page + (d - 12)]
  else if d < 30 then [Block.mem.page + (d - 28)]
  else match d with
    | 30 => [Block.sec.page]
    | 31 => [Block.mtc.page, Block.atm.page]
    | 32 => [Block.col.page]
    | 33 => [Block.cmd.page, Block.tmg.page, Block.xlt.page]
    | 34 => [Block.txe.page, Block.rxe.page, Block.pwy.page, Block.rtb.page]
    | _ => [Block.pmu.page]

/-- Is a domain unpowered in Full: every block of it fenced, or a host port with `ROUTER_ONLY` high (R561)? -/
def State.unpowered (s : State) (d : Nat) : Bool :=
  (domPages d).all (fun p => s.on F.BLK_CTL_FENCE p) || (s.routerOnly && decide (8 ≤ d) && decide (d < 12))

/-- The state that the power states give a domain: 0 powered, 1 retention, 2 gated (`PWR_CTL.DOMAIN`). -/
def State.domHeld (s : State) (d : Nat) : Nat :=
  if d < 32 then bitsOf (s.rd F.CRP_DOM_STAT0_DOM) (2 * d) 2 else bitsOf (s.rd F.CRP_DOM_STAT1_DOM) (2 * (d - 32)) 2

/-- State of a power domain, as `CRP_DOM_STAT0` and `CRP_DOM_STAT1` show it (R561). -/
def State.dom (s : State) (d : Nat) : Nat := if s.domHeld d = 0 && s.unpowered d then 2 else s.domHeld d

/-- A power domain set to a state. -/
def State.setDom (s : State) (d v : Nat) : State :=
  if d < 32 then
    s.wr F.CRP_DOM_STAT0_DOM (s.rd F.CRP_DOM_STAT0_DOM - bitsOf (s.rd F.CRP_DOM_STAT0_DOM) (2 * d) 2 * 4 ^ d + v * 4 ^ d)
  else
    s.wr F.CRP_DOM_STAT1_DOM
      (s.rd F.CRP_DOM_STAT1_DOM - bitsOf (s.rd F.CRP_DOM_STAT1_DOM) (2 * (d - 32)) 2 * 4 ^ (d - 32) + v * 4 ^ (d - 32))

/-- State of the power domain of a page, as `PWR_CTL.DOMAIN` shows it: 3 always-on. -/
def State.pageDom (s : State) (p : Nat) : Nat :=
  match pageDomain p with
  | none => 3
  | some d => s.dom d

/-- Is a page's block fenced? (R40, R502) -/
def State.fenced (s : State) (p : Nat) : Bool := s.on F.BLK_CTL_FENCE p

/-- `BLK_STAT.READY`: enabled, out of reset B, powered and not fenced. -/
def State.ready (s : State) (p : Nat) : Bool :=
  s.on F.BLK_CTL_EN p && !s.fenced p && !s.on F.BLK_STAT_RESET_BUSY p && (s.pageDom p == 0 || s.pageDom p == 3)

/-- Does a block serve: its page ready, and the device not halted by a chip-fatal fault (R509)? -/
def State.serves (s : State) (b : Block) (i : Nat := 0) : Bool := s.ready (b.page + i) && !s.halted

/-- Fences and holds that close every endpoint of the device (R504). -/
def State.shutdown (s : State) : Bool :=
  [Block.sec, .cmd, .xlt, .txe, .rxe, .pwy, .rtb, .tmg].any fun b => s.fenced b.page

/-- Is a controller of on-package memory fenced? Every access then fails (R503). -/
def State.memFenced (s : State) : Bool := Block.mem.pageList.any fun p => s.fenced p

/-! ## Performance counters (17 R524 to R529) -/

/-- Does the page keep its counters from counting: gated, in reset or fenced (R524)? -/
def State.countStopped (s : State) (p : Nat) : Bool :=
  s.fenced p || s.on F.BLK_STAT_RESET_BUSY p || s.pageDom p == 1 || s.pageDom p == 2

/-- Is pair `m` chained? (R526) -/
def State.chained (s : State) (m : Nat) : Bool := bitOf (s.rd F.PMU_CHAINk_CHAIN 0 (m / 64)) (m % 64)

/-- Counter `i` of the bank. -/
def State.ctr (s : State) (i : Nat) : Nat := Sparse.read 0 s.ctrs i

/-- Counter `i` advanced by `n`, with its wrap and its chain (R524, R526). -/
def State.advance (s : State) (i n : Nat) : State :=
  let v := s.ctr i + n
  let s := { s with ctrs := Sparse.write 0 s.ctrs i (v % 2 ^ 48) }
  if i % 2 = 0 && s.chained (i / 2) && decide (2 ^ 48 ≤ v) then
    { s with ctrs := Sparse.write 0 s.ctrs (i + 1) ((s.ctr (i + 1) + v / 2 ^ 48) % 2 ^ 48) }
  else s

/-- Event `e` of instance `i` of a block occurs `n` times, or with `n` bytes (R524, R525). -/
def State.tally (s : State) (b : Block) (e : Nat) (n : Nat := 1) (i : Nat := 0) : State :=
  let k := b.events.1 + i * b.events.2 + e
  if s.halted || s.countStopped Block.pmu.page || s.countStopped (b.pageOf i) || (k % 2 = 1 && s.chained (k / 2)) then s
  else s.advance k n

/-! ## The common arbiter's priorities (12 R398, R401, R402; 04 R121; 15 R491) -/

/-- Default priority of a requester of a page's arbiter; requesters of instance 1 of `SEC` count from 64 (log entry 10). -/
def arbDefault (p r : Nat) : Nat :=
  match pageBlock p with
  | some (.hif, _) =>
    if r ≤ 3 then 4 else if r ≤ 7 then 6 else if r = 9 then 6 else if r = 15 then 1 else if r < 15 then 5 else 0
  | some (.mem, _) =>
    match r with
    | 0 => 6 | 1 => 5 | 2 => 5 | 3 => 6 | 4 => 6 | 5 => 6 | 6 => 5 | 7 => 6 | 8 => 4 | 9 => 2 | 10 => 3 | 11 => 1 | _ => 0
  | some (.xlt, _) => if r ≤ 3 then 6 else if r ≤ 7 then 4 else if r ≤ 13 then 5 else if r = 14 then 1 else 0
  | some (.sec, _) =>
    if r ≤ 3 then 4 else if r = 4 then 7 else if r ≤ 6 then 6 else if 64 ≤ r ∧ r ≤ 79 then 6 else 0
  | _ => 0

/-- Priority of a requester in effect (R398). -/
def State.prio (s : State) (p r : Nat) : Nat := s.rd F.ARB_PRIr_PRIO p r ^^^ arbDefault p r

/-! ## The settings area (18 R553 to R556) -/

/-- The format version that the image has for every type (R554, R555; log entry 15). -/
def typeVersion : Nat := 1

/-- Bytes that a record takes in a half of the settings area (R553). -/
def Setting.size (r : Setting) : Nat := 48 + r.body.length

/-- `MGT_SETTINGS_STAT.GEN` and `RECORDS`. -/
def State.settingsShow (s : State) : State :=
  (s.wr F.MGT_SETTINGS_STAT_GEN s.flash.gen).wr F.MGT_SETTINGS_STAT_RECORDS (Tbl.count s.flash.settings fun _ r => r.valid)

/-- A record written: it supersedes an earlier one of its type; a full half is left for the other (18 *Settings area*). -/
def State.writeSetting (s : State) (t version : Nat) (body : List Byte) : State :=
  let r : Setting := { version := version, seq := s.flash.seq, body := body }
  let all := Tbl.set s.flash.settings t r
  let s := { s with flash.settings := all, flash.seq := (s.flash.seq + 1) % 2 ^ 64 }
  let s :=
    if 2 ^ 20 < s.flash.used + r.size then
      { s with flash.gen := (s.flash.gen + 1) % 2 ^ 32, flash.used := 32 + (all.map fun e => e.2.size).sum }
    else { s with flash.used := s.flash.used + r.size }
  s.settingsShow

/-! ## Host functions -/

/-- What the device holds of a host function. -/
def State.hf (s : State) (fn : Nat) : HostFn := Tbl.getD s.hostFns fn {}

/-- The record of a host function replaced. -/
def State.setHf (s : State) (fn : Nat) (h : HostFn) : State := { s with hostFns := Tbl.set s.hostFns fn h }

/-- The record of a host function changed. -/
def State.modHf (s : State) (fn : Nat) (f : HostFn → HostFn) : State := s.setHf fn (f (s.hf fn))

/-- Is a function number one of the four host functions? (R28) -/
def isFn (fn : Nat) : Bool := decide (fn < 4)

/-- Is a number a master identity, and not a reserved one? (R52) -/
def isMaster (m : Nat) : Bool := decide (m < 6) || (decide (0x10 ≤ m) && decide (m < 0x2B)) || m == 0x80

/-- May a master write global registers? (R53) -/
def State.mayWrite (s : State) (m : Nat) : Bool :=
  m == 4 || (decide (m < 4) && s.rd F.DEV_FM_ROLE_HOLDER == m)
    || (m == 5 && (!s.fuses.jtagLock || s.jtagOpen))

/-- May a master reach the window of a function? (R54) -/
def mayWindow (m fn : Nat) : Bool := m == 4 || m == fn

end Sys2Proof.Machine
end

