-- ==== Sys2Proof/Machine/HostBus.lean ====
section
/-! DEFINITION. Machine/HostBus.lean: host-bus transfers and MSI-X messages of a host function (03). -/

namespace Sys2Proof.Machine

/-- The code of a work-queue state (05, *Work-queue states*). -/
def WqState.code : WqState → Nat
  | .active => 1 | .suspended => 2 | .error => 3 | .draining => 4

/-- Is the function's data link up? -/
def State.linkUp (s : State) (fn : Nat) : Bool := (s.hf fn).up

/-- Is the function's host-bus traffic held: D3hot, Bus Master Enable 0, or halted for want of a Secure stream? (R79, R84) -/
def State.busHeld (s : State) (fn : Nat) : Bool :=
  s.on F.HIF_FN_STAT_DSTATE fn || !s.on F.HIF_FN_STAT_BME fn || s.on F.HIF_IDE_STAT_HALTED fn

/-- Are the function's host writes discarded: link down, or Bus Master Enable 0 during reset H? (R72, R609) -/
def State.busGone (s : State) (fn : Nat) : Bool :=
  !s.linkUp fn || ((s.hf fn).resetH && !s.on F.HIF_FN_STAT_BME fn)

/-- Pieces of a transfer of `len` bytes at `addr`: none longer than `lim`, none crossing a 4 KiB boundary; offsets from
`off` on (R69). The first argument bounds the number of pieces. -/
def pieces (fuel addr off len lim : Nat) : List (Nat × Nat) :=
  match fuel with
  | 0 => []
  | n + 1 =>
    if len = 0 then []
    else
      let k := min len (min lim (4096 - addr % 4096))
      (off, k) :: pieces n (addr + k) (off + k) (len - k) lim

/-- The posted write requests of a transfer (R69). -/
def splitWrites (fn addr mps : Nat) (b : List Byte) : List Out :=
  (pieces (b.length + 1) addr 0 b.length mps).map fun p => .hostWrite fn (addr + p.1) ((b.drop p.1).take p.2)

/-- `MWR_REQ`, `MWR_BYTES` and `MSIX` of posted outputs that are issued (R529). -/
def countPosts (fn : Nat) (o : List Out) (s : State) : State :=
  o.foldl (fun s x => match x with
    | .hostWrite _ _ b => (s.tally .hif 2 1 fn).tally .hif 3 b.length fn
    | .msix .. => s.tally .hif 4 1 fn
    | _ => s) s

/-- Is a requester fenced at a page's arbiter (R400)? -/
def State.reqFenced (s : State) (p r : Nat) : Bool := bitOf (s.rd F.ARB_FENCED_FENCED p) r

/-- The atomic that a read is of. -/
def HostRead.atomicOf (r : HostRead) : Option Nat :=
  match r.use with
  | .atomic id => some id
  | _ => none

/-- A read that an access of an invalidation issues: the invalidation waits for it, and for the write of an atomic (R107). -/
def Inval.issue (i : Inval) (w : Option Waiter) (atomic : Option Nat) (read : Nat) : Inval :=
  match w with
  | some w => if i.used.contains w then { i with reads := read :: i.reads, atoms := i.atoms ++ atomic.toList } else i
  | none => i

/-- The access that a read is issued for (R108). -/
def State.readWaiter (s : State) (u : ReadFor) : Option Waiter :=
  match u with
  | .atomic id => (Tbl.get s.atomics id).map fun j => .atomic j.key j.rx.hdr.seq
  | _ => u.waiter

/-- The requester at the `HIF` master that a read is of: its engine, of pipe or unit `n` (R401). -/
def ReadFor.requester (u : ReadFor) (n : Nat) : Nat :=
  match u with
  | .payload .. | .retx .. | .serve .. => n % 4
  | .flush fn => 4 + fn % 4
  | .desc .. | .admin _ | .ticket _ => 8
  | .walk _ => 10
  | .ovf .. | .copy _ => 11
  | .atomic _ => 12
  | .contribution _ => 13
  | .lqp _ => 14
  | .sample _ => 15

/-- The host address of a posted output. -/
def postAddr : Out → Nat
  | .hostWrite _ a _ => a
  | _ => 0

/-- Writes that a port cannot send are discarded, and the failure is recorded in `HIF` and in AER (R72; log entry 49). -/
def State.lostPosts (s : State) (fn : Nat) (o : List Out) : State :=
  match o with
  | [] => s
  | x :: _ => s.later (.lostWrite fn (postAddr x))

/-- A posted output of a function: issued, held (R79), discarded (R609), at the crossing where the port is fenced (R12), or dropped with the device
halted (R509). -/
def State.post (s : State) (fn : Nat) (o : List Out) : State :=
  if s.halted then s
  else if s.fenced (Block.hif.page + fn) then s.bump F.FCL_DROP_CROSSING o.length
  else if s.busGone fn then s.lostPosts fn o
  else if s.busHeld fn || (s.hf fn).held != [] then s.modHf fn fun h => { h with held := h.held ++ o }
  else countPosts fn o { s with out := s.out ++ o }

/-- A write of host memory, by a requester of the `HIF` master (R68, R69, R400, R401). -/
def State.hostWrite (s : State) (req fn addr : Nat) (b : List Byte) : State :=
  if s.reqFenced (Block.hif.page + fn) req then s.later (.refusedReq (Block.hif.page + fn) 0 req none)
  else s.post fn (splitWrites fn addr (s.hf fn).mps b)

/-- Held writes and messages issued once the function's traffic may go on (R79). -/
def State.release (s : State) (fn : Nat) : State :=
  if s.halted || s.busHeld fn then s
  else
    let o := (s.hf fn).held
    let s := (s.modHf fn fun h => { h with held := [] }).later (.atomicWrites fn)
    if s.busGone fn then s.lostPosts fn o else countPosts fn o { s with out := s.out ++ o }

/-- An MSI-X message of a vector, sent or held as a pending bit (R74 to R76). -/
def State.msix (s : State) (fn vector : Nat) : State :=
  let h := s.hf fn
  let e := Tbl.getD h.msix vector {}
  if !h.msixEnable || s.halted then s
  else if h.msixFmask || e.masked then
    s.modHf fn fun h => { h with pba := if h.pba.contains vector then h.pba else h.pba ++ [vector] }
  else s.post fn [.msix fn vector e.addr e.data]

/-- Non-posted requests of a function outstanding (`HIF_OUTSTANDING.READS`). -/
def State.outstanding (s : State) (fn : Nat) : Nat :=
  s.reads.foldl (fun n e => if e.2.fn = fn then n + e.2.sent.length else n) 0

/-- A read moves `n` of its waiting requests to the bus. -/
def HostRead.issue (r : HostRead) (n now : Nat) : HostRead :=
  { r with sent := r.sent ++ (r.unsent.take n).map Prod.snd, unsent := r.unsent.drop n, sentAt := if r.sent = [] then now else r.sentAt }

/-- Waiting requests of a function issued in order, up to its room and to the room of each transmit pipe (R70; 06 *TXE fields*). -/
def issueAll (fn now room : Nat) (pipes : List Nat) : Tbl Nat HostRead → Tbl Nat HostRead × List Out
  | [] => ([], [])
  | (id, r) :: rest =>
    if r.fn = fn then
      let lim := match r.pipe with
        | some p => min room (pipes.getD p 0)
        | none => room
      let n := min lim r.unsent.length
      let o := (r.unsent.take n).map fun p => Out.hostRead fn id p.1 p.2.2
      let pipes' := match r.pipe with
        | some p => pipes.set p (pipes.getD p 0 - n)
        | none => pipes
      let (rest', o') := issueAll fn now (room - n) pipes' rest
      ((id, r.issue n now) :: rest', o ++ o')
    else
      let (rest', o') := issueAll fn now room pipes rest
      ((id, r) :: rest', o')

/-- Payload read requests of a transmit pipe outstanding (`TXE_PIPE_STATp.READS`). -/
def State.pipeReads (s : State) (p : Nat) : Nat :=
  s.reads.foldl (fun n e => if e.2.pipe = some p then n + e.2.sent.length else n) 0

/-- Waiting read requests of a function issued, at most 1,024 outstanding, unless its traffic is held (R70, R79). -/
def State.issueReads (s : State) (fn : Nat) : State :=
  if s.halted || s.busHeld fn then s
  else
    let lim := orWhenZero (s.rd F.TXE_CTL_READ_LIMIT) 1
    let (t, o) := issueAll fn s.now (1024 - s.outstanding fn) ((List.range 4).map fun p => lim - s.pipeReads p) s.reads
    let s := { s with reads := t, out := s.out ++ o }
    let s := o.foldl (fun s x => match x with
      | .hostRead _ _ _ n => (s.tally .hif 0 1 fn).tally .hif 1 n fn
      | _ => s) s
    let s := (List.range 4).foldl (fun s p => s.high F.TXE_HWMp_READS_HWM (s.pipeReads p) 0 p) s
    s.high F.HIF_OUTSTANDING_READS_HWM (s.outstanding fn) fn

/-- A read of host memory asked for, from pieces of an access: host address, offset in the access, length, the transmit
pipe that reads payload, and the address space of a translated one; answers its number (R69, R70). That of a fenced requester fails (R400), and so does
one toward a fenced port, discarded at the crossing (R12). -/
def State.hostReadV (s : State) (fn : Nat) (ps : List (Nat × Nat × Nat)) (len : Nat) (use : ReadFor) (iova : Option Nat := none)
    (pipe : Option Nat := none) (as : Nat := 0) : State × Nat :=
  let id := s.nextRead
  let mrrs := (s.hf fn).mrrs
  let unsent := ps.flatMap fun p => (pieces (p.2.2 + 1) p.1 0 p.2.2 mrrs).map fun q => (p.1 + q.1, p.2.1 + q.1, q.2)
  let r : HostRead := { fn := fn, len := len, use := use, iova := iova, as := as, unsent := unsent, pipe := pipe }
  let req := use.requester (pipe.getD 0)
  let failed : HostRead := { r with unsent := [], result := some .failed, doneAt := s.now, failedAt := iova.getD (((ps.head?).map fun p => p.1).getD 0) }
  let fail (s : State) : State := { s with nextRead := id + 1, reads := s.reads ++ [(id, failed)] }
  if s.reqFenced (Block.hif.page + fn) req then ((fail s).later (.refusedReq (Block.hif.page + fn) 0 req none), id)
  else if s.fenced (Block.hif.page + fn) then ((fail s).bump F.FCL_DROP_CROSSING, id)
  else
  let s := { s with invals := Tbl.mapVals s.invals fun _ i => i.issue (s.readWaiter use) r.atomicOf id }
  (({ s with nextRead := id + 1, reads := s.reads ++ [(id, r)] } : State).issueReads fn, id)

/-- A read of consecutive host addresses. -/
def State.hostRead (s : State) (fn addr len : Nat) (use : ReadFor) : State × Nat := s.hostReadV fn [(addr, 0, len)] len use

/-- The bytes of a read put together; none while some are missing (R70). -/
def assemble (len : Nat) (parts : List (Nat × List Byte)) : Nat → Nat → Option (List Byte)
  | _, 0 => none
  | off, fuel + 1 =>
    if len ≤ off then some []
    else
      match parts.find? fun p => p.1 ≤ off && off < p.1 + p.2.length with
      | none => none
      | some p =>
        match assemble len parts (p.1 + p.2.length) fuel with
        | none => none
        | some r => some (p.2.drop (off - p.1) ++ r)

/-- A request of a read whose bytes have all arrived. -/
def HostRead.answered (r : HostRead) (p : Nat × Nat) : Bool :=
  (assemble (p.1 + p.2) r.parts p.1 (r.parts.length + 1)).isSome

/-- Result of a finished read, and the read forgotten. -/
def State.takeRead (s : State) (id : Nat) : State × Option (HostRead × BusResult) :=
  match Tbl.get s.reads id with
  | none => (s, none)
  | some r =>
    match r.result with
    | none => (s, none)
    | some x => ({ s with reads := Tbl.del s.reads id }, some (r, x))

/-- The result of a finished read, of whatever use. -/
def State.readResult (s : State) (id : Nat) : Option BusResult :=
  match Tbl.get s.reads id with
  | none => none
  | some r => r.result

end Sys2Proof.Machine
end

