-- ==== Sys2Proof/Machine/Faults.lean ====
section
/-! DEFINITION. Machine/Faults.lean: recording errors, counting windows, reactions, replacement reasons and the status
word (02 R40 to R46, 16 R495 to R520). -/

namespace Sys2Proof.Machine

/-- Access types of R44. -/
def accHostRead : Nat := 0
def accHostWrite : Nat := 1
def accWalk : Nat := 2
def accDesc : Nat := 3
def accMemRead : Nat := 4
def accMemWrite : Nat := 5
def accAtomic : Nat := 6
def accRegRead : Nat := 7
def accRegWrite : Nat := 8
def accPktRx : Nat := 9
def accPktTx : Nat := 10
def accInternal : Nat := 11

/-- `PTYPE` of a packet (R231). -/
def Body.ptype : Body → Nat
  | .data h _ => if h.resp then 2 else 1
  | .ack _ => 3
  | .notice _ => 4
  | .convoy _ _ => 5
  | .pathFault _ => 6
  | .other t => t

/-- The transport `SEQ` of a packet, 0 for one without (R44). -/
def Body.seq : Body → Nat
  | .data h _ => h.seq
  | _ => 0

/-- A port slot in a locator: the slot of arrival or departure, 0x7F for a junction local port (R44). -/
def portLocator (port : Nat) : Nat := (if port < 128 then port else 0x7F) * 2 ^ 32

/-- `ERR_FIRST_ADDR` of a packet received or transmitted: its `SEQ`, port slot, VC (9: it crossed no link) and `PTYPE` (R44). -/
def Pkt.locator (p : Pkt) (port vc : Nat) : Nat := Body.seq p.body + portLocator port + vc * 2 ^ 39 + Body.ptype p.body * 2 ^ 44

/-- An error of a packet received (R44). -/
def rxErr (p : Pkt) (port vc : Nat) : ErrAt := { access := accPktRx, addr := Pkt.locator p port vc }

/-- An error of a flit, which carries no one packet: its port alone (R44; log entry 30). -/
def flitErr (port : Nat) : ErrAt := { access := accPktRx, addr := portLocator port }

/-- The master identity of a block's own accesses (R52): its first engine, where the error names none. DESIGN CHOICE: a block to which R52 gives no
identity (`LNK`, `LAN`, `XBR`, `DEV`) records that of the management core (log entry 59). -/
def blockMaster (p : Nat) : Nat :=
  match pageBlock p with
  | some (.fcl, _) => 0x28 | some (.crp, _) => 0x29 | some (.tim, _) => 0x2A | some (.mgt, _) => 0x04
  | some (.sec, _) => 0x23 | some (.pmu, _) => 0x26 | some (.hif, i) => i | some (.xlt, _) => 0x1A
  | some (.cmd, _) => 0x18 | some (.txe, _) => 0x10 | some (.rxe, _) => 0x14 | some (.pwy, _) => 0x1B
  | some (.mtc, _) => 0x1D | some (.col, _) => 0x20 | some (.atm, _) => 0x1F | some (.tmg, _) => 0x22
  | some (.rtb, _) => 0x1C | some (.mem, i) => 0x24 + i | _ => 0x04

/-- Indices that are recorded but not counted (R501, R538, R560, R587, R588). -/
def notCounted (p i : Nat) : Bool :=
  i == 30 ||
  match pageBlock p with
  | some (.hif, _) => [0, 1, 2, 5, 6, 7, 8, 9, 10].contains i
  | some (.xlt, _) => [2, 3].contains i
  | some (.cmd, _) => [3, 4, 5, 6].contains i
  | some (.rxe, _) => i == 4
  | some (.pwy, _) => [5, 6, 7].contains i
  | some (.mtc, _) => [5, 6].contains i
  | some (.col, _) => [4, 5, 6, 7].contains i
  | some (.atm, _) => [3, 4, 5].contains i
  | some (.rtb, _) => [3, 4].contains i
  | some (.xbr, _) => [4, 5, 6, 7].contains i
  | some (.lnk, _) => [0, 5, 6, 8, 11].contains i
  | some (.lan, _) => i == 5
  | some (.sec, _) => [3, 4].contains i
  | some (.mem, _) => [4, 5, 6, 9].contains i
  | some (.fcl, _) => i == 2
  | some (.pmu, _) => [2, 3, 5].contains i
  | some (.mgt, _) => [3, 4, 5, 6, 7, 8, 9].contains i
  | some (.crp, _) => i == 2
  | some (.tim, _) => [0, 1, 2, 3, 4].contains i
  | _ => false

/-- Indices whose every error is lasting at once (R501, R560, R587). -/
def immediate (p i : Nat) : Bool :=
  i == 31 ||
  match pageBlock p with
  | some (.sec, _) => i == 2
  | some (.mem, _) => [1, 3].contains i
  | some (.mgt, _) => [1, 2].contains i
  | some (.crp, _) => i == 3
  | _ => false

/-- Does each unit of the page keep a window of its own for the index? (R499) -/
def perUnit (p i : Nat) : Bool :=
  match pageBlock p with
  | some (.lan, _) => decide (i ≤ 3)
  | some (.sec, _) => i == 2
  | _ => false

/-- The window an error counts in: 0 for the page's own, unit plus one for a unit's. -/
def winOf (p i : Nat) (u : Option Nat) : Nat :=
  match u with
  | some k => if perUnit p i then k + 1 else 0
  | none => 0

/-- `ERR_COUNT.IN_WINDOW`: the largest count among the open windows of a page (R499). -/
def State.inWindow (s : State) (p : Nat) : Nat :=
  s.wins.foldl (fun m e => if e.1.1 = p then max m e.2.count else m) 0

/-- Is an error index masked? (R43) -/
def State.masked (s : State) (p i : Nat) : Bool := bitOf (s.rd F.ERR_MASK_MASK p) i

/-- Does the page's error line stand? (R495) -/
def State.line (s : State) (p : Nat) : Bool :=
  (List.range 32).any fun i => bitOf (s.rd F.ERR_STAT_ERR p) i && !s.masked p i

/-- The `FCL_STAT` bit of a page (R496). -/
def fclBit (p : Nat) : Option Nat :=
  match pageBlock p with
  | some (.dev, _) => some 0 | some (.fcl, _) => some 1 | some (.crp, _) => some 2 | some (.tim, _) => some 3
  | some (.mgt, _) => some 4 | some (.sec, _) => some 5 | some (.pmu, _) => some 6 | some (.hif, i) => some (8 + i)
  | some (.xlt, _) => some 12 | some (.cmd, _) => some 13 | some (.txe, _) => some 14 | some (.rxe, _) => some 15
  | some (.pwy, _) => some 16 | some (.mtc, _) => some 17 | some (.col, _) => some 18 | some (.atm, _) => some 19
  | some (.tmg, _) => some 20 | some (.rtb, _) => some 21 | some (.mem, i) => some (22 + i)
  | some (.xbr, i) => some (24 + i) | some (.lnk, i) => some (40 + i / 16) | some (.lan, i) => some (48 + i / 4)
  | none => none

/-- Is a host function absent: link down, in reset H, or kept away by a fence? (R89, R503, R504) -/
def State.fnAbsent (s : State) (fn : Nat) : Bool :=
  !s.linkUp fn || (s.hf fn).resetH || (s.hf fn).fencedAway || s.routerOnly

/-- A bit of `FCL_STAT` set; its rise sends the status message (R496, R520). -/
def State.fclSet (s : State) (b : Nat) : State :=
  if bitOf (s.rd F.FCL_STAT_STAT) b then s
  else
    let s := s.orBits F.FCL_STAT_STAT (2 ^ b)
    if s.on F.FCL_IRQ_CTL_EN && !bitOf (s.rd F.FCL_IRQ_MASK_MASK) b && !s.fnAbsent (s.rd F.FCL_IRQ_CTL_FN) then
      s.msix (s.rd F.FCL_IRQ_CTL_FN) (s.rd F.FCL_IRQ_CTL_VECTOR)
    else s

/-- The latches of a page whose line stands: `FCL_STAT`, `FCL_PORT`, `FCL_LANE`, `FCL_FIRST` (R496, R497). -/
def State.latch (s : State) (p : Nat) : State :=
  if !s.line p then s
  else
    let s := match pageBlock p with
      | some (.lnk, i) =>
        if i < 64 then s.orBits F.FCL_PORT_LO_PORT (2 ^ i) else s.orBits F.FCL_PORT_HI_PORT (2 ^ (i - 64))
      | some (.lan, i) => s.orBits F.FCL_LANE_GROUP (2 ^ i)
      | _ => s
    let s := if s.on F.FCL_FIRST_VALID then s else (s.wr F.FCL_FIRST_PAGE p).wr F.FCL_FIRST_VALID 1
    match fclBit p with
    | some b => s.fclSet b
    | none => s

/-- The capture registers of a page loaded (R44, R45). -/
def State.loadCapture (s : State) (p i : Nat) (e : ErrAt) : State :=
  let s := s.wr F.ERR_FIRST_ADDR_ADDR e.addr p
  let s := s.wr F.ERR_FIRST_INFO_MASTER (e.master.getD (blockMaster p)) p
  let s := s.wr F.ERR_FIRST_INFO_ACCESS e.access p
  let s := s.wr F.ERR_FIRST_INFO_INDEX i p
  let s := s.wr F.ERR_FIRST_INFO_REMOTE_EPA (if e.master = some 0x80 then e.remote else 0) p
  let s := s.wr F.ERR_FIRST_TIME_TIME s.now p
  s.wr F.ERR_FIRST_INFO_VALID 1 p

/-- The capture of the first error: of those that the command in hand raises, which stands for the cycle (log entry 29), the one with the lowest
index (R45). -/
def State.capture (s : State) (p i : Nat) (e : ErrAt) : State :=
  if !s.on F.ERR_FIRST_INFO_VALID p then { s.loadCapture p i e with caught := p :: s.caught }
  else (if s.caught.contains p && decide (i < s.rd F.ERR_FIRST_INFO_INDEX p) then s.loadCapture p i e else s).wr F.ERR_FIRST_INFO_MORE 1 p

/-- A fabric event queued to be sent: at most 256, a further one is lost (R559; 18 *MGT fields*, *I3C and MCTP*). -/
def State.queueEvent (s : State) (e : FabEvent) : State :=
  let s := s.tally .mgt 2
  if s.events.length < 256 then
    let s := { s with events := s.events ++ [e] }
    if s.on F.MGT_EVT_DEST_IBI_EN then s.emit .ibi else s
  else (s.bump F.MGT_EVT_STAT_LOST).later (.err Block.mgt.page 9 accInternal 0 0 0)

/-- The 64 bits of `FCL_SVC_STAT`. -/
def State.svcStat (s : State) : Nat :=
  s.rd F.FCL_SVC_STAT_REASONS + s.rd F.FCL_SVC_STAT_FIRST * 2 ^ 16 + s.rd F.FCL_SVC_STAT_FW_CODE * 2 ^ 32

/-- A replacement reason raised (R516). -/
def State.svc (s : State) (r : Nat) : State :=
  let old := s.rd F.FCL_SVC_STAT_REASONS
  if bitOf old (r - 1) then s
  else
    let s := if old = 0 then (s.wr F.FCL_SVC_STAT_FIRST r).emit (.pin .svcReqN false) else s
    let s := s.orBits F.FCL_SVC_STAT_REASONS (2 ^ (r - 1))
    let s := s.fclSet 56
    s.queueEvent { cls := 1, code := r, body := leBytes 8 s.svcStat }

/-- Lanes fenced by a reaction, in the whole device (R515): a page fenced by one has its four lanes fenced (R503; log entry 56). -/
def State.autoLanes (s : State) : Nat :=
  (Block.lan.pageList.map fun p => if s.on F.BLK_STAT_FAULT_FENCED p then 4 else popCount (Sparse.read 0 s.unitAuto p) 4).sum

/-- Reason 1 where the lanes fenced by a reaction reach the threshold (R515). -/
def State.laneReason (s : State) : State := s.when (decide (orWhenZero (s.rd F.FCL_SVC_CTL_LANES) 1 ≤ s.autoLanes)) fun s => s.svc 1

/-- Pipelines of a `SEC` arbiter instance: 0 sealing, 1 verifying (15 R491). -/
def pipesOf (inst : Nat) : List Nat := (List.range 48).filter fun u => u % 12 / 6 = inst

/-- Pipelines of an instance that a reaction fenced (R515). -/
def State.autoPipes (s : State) (inst : Nat) : Nat :=
  ((pipesOf inst).filter fun u => bitOf (Sparse.read 0 s.unitAuto Block.sec.page) u).length

/-- The replacement reason of a page fenced by a reaction (R515). -/
def fenceReason (p : Nat) : Option Nat :=
  match pageBlock p with
  | some (.lnk, _) => some 2 | some (.xbr, _) => some 3 | some (.hif, _) => some 6
  | some (.sec, _) => some 7 | some (.cmd, _) => some 7 | some (.xlt, _) => some 7 | some (.txe, _) => some 7
  | some (.rxe, _) => some 7 | some (.pwy, _) => some 7 | some (.rtb, _) => some 7 | some (.tmg, _) => some 7
  | some (.mtc, _) => some 7 | some (.atm, _) => some 7 | some (.col, _) => some 7 | some (.pmu, _) => some 7
  | some (.mem, _) => some 7
  | _ => none

/-- A block fence applied by a reaction (R502, R515). -/
def State.fenceBlock (s : State) (p : Nat) : State :=
  let fresh := !s.fenced p
  let s := (s.wr F.BLK_CTL_FENCE 1 p).wr F.BLK_STAT_FAULT_FENCED 1 p
  let s := if fresh then ((s.bump F.FCL_COUNT_FENCES).tally .fcl 2).later (.fence p) else s
  match fenceReason p, pageBlock p with
  | some r, _ => s.svc r
  | none, some (.lan, _) => s.laneReason
  | none, _ => s

/-- A unit fence: `LAN_LANE_CTLl.FENCE` of a lane, a bit of `FCL_UNIT_FENCE` elsewhere, which a pipeline's `SEC_PIPE_STATc.FENCED` follows (R502). -/
def State.setUnit (s : State) (p u : Nat) (on : Bool) : State :=
  match pageBlock p with
  | some (.lan, g) => s.wr F.LAN_LANE_CTLl_FENCE (b2n on) g u
  | _ =>
    let m := Sparse.read 0 s.unitFence p
    let s := { s with unitFence := Sparse.write 0 s.unitFence p (if on then setBit m u else clearBit m u) }
    if p ≠ Block.sec.page then s
    else if on then s.orBits F.SEC_PIPE_STATc_FENCED (2 ^ (u % 12)) 0 (u / 12)
    else s.clrBit F.SEC_PIPE_STATc_FENCED (u % 12) 0 (u / 12)

/-- The unit fences of a page, as `FCL_UNIT_FENCE` shows them. -/
def State.units (s : State) (p : Nat) : Nat :=
  match pageBlock p with
  | some (.lan, g) => ((List.range 4).map fun l => s.rd F.LAN_LANE_CTLl_FENCE g l * 2 ^ l).sum
  | _ => Sparse.read 0 s.unitFence p

/-- A unit fence applied by a reaction (R502, R507, R515). -/
def State.fenceUnit (s : State) (p u : Nat) : State :=
  let fresh := !bitOf (s.units p) u
  let s := s.setUnit p u true
  let s := { s with unitAuto := Sparse.write 0 s.unitAuto p (setBit (Sparse.read 0 s.unitAuto p) u) }
  let s := if fresh then ((s.bump F.FCL_COUNT_FENCES).tally .fcl 2).later (.unitFence p u true) else s
  match pageBlock p with
  | some (.lan, _) => s.laneReason
  | some (.sec, _) =>
    let inst := u % 12 / 6
    let s := s.when (decide (orWhenZero (s.rd F.FCL_SVC_CTL_PIPES) 1 ≤ s.autoPipes inst)) fun s => s.svc 4
    s.when ((pipesOf inst).all fun k => bitOf (s.units p) k) fun s => s.fenceBlock p
  | _ => s

/-- A chip-fatal fault: the record, the status and the pins; the rest follows (R509). -/
def State.chipFatal (s : State) (p i : Nat) : State :=
  let s := if s.on F.FCL_FATAL_VALID then s
    else (((s.wr F.FCL_FATAL_PAGE p).wr F.FCL_FATAL_INDEX i).wr F.FCL_FATAL_VALID 1).wr F.FCL_FATAL_TIME_TIME s.now
  let s := s.fclSet 57
  let s := (s.svc 9).emit (.pin .fatalN false)
  (s.emit (.pin .alive false)).later .fatal

/-- The reaction of a lasting, unmasked fault (R502): 0 report, 1 fence unit, 2 fence block, 3 chip-fatal. -/
def State.react (s : State) (p i : Nat) (e : ErrAt) : State :=
  match bitsOf (s.rd F.ERR_CLASS_REACT p) (2 * i) 2, pageBlock p with
  | 3, _ => s.chipFatal p i
  | 2, some (b, _) => if b.unfenceable then s else s.fenceBlock p
  | 1, some (b, k) =>
    if b.unfenceable then s
    else if b = .mem then (if i ≤ 3 then s.later (.spare k e.addr) else s)
    else
      match e.unit with
      | some u => if b.units ≠ 0 ∧ perUnit p i then s.fenceUnit p u else s.fenceBlock p
      | none => s.fenceBlock p
  | _, _ => s

/-- An error taken into those of its window that the command in hand has raised, with its reaction: none for a masked one (R43, R500).
The command in hand stands for the cycle (log entry 29). -/
def State.inBurst (s : State) (p i : Nat) (e : ErrAt) (lasting : Bool) : State :=
  let k := (p, winOf p i e.unit)
  let sev := if s.masked p i then 0 else bitsOf (s.rd F.ERR_CLASS_REACT p) (2 * i) 2
  let b := Tbl.getD s.bursts k {}
  let b := if b.sev < sev then { b with sev := sev, idx := i, e := e } else b
  let s' := { s with bursts := Tbl.set s.bursts k { b with lasting := b.lasting || lasting } }
  if Tbl.has s.bursts k then s' else s'.later (.lasting k.1 k.2)

/-- The errors of one cycle in a window end: where they made it lasting, the most severe reaction among them applies, once (R500). -/
def State.endBurst (s : State) (k : Nat × Nat) : State :=
  match Tbl.get s.bursts k with
  | none => s
  | some b =>
    let s := { s with bursts := Tbl.del s.bursts k }
    if b.lasting && b.sev != 0 then s.react k.1 b.idx b.e else s

/-- `on_error` (R498): status, capture, window and lasting fault; the reaction follows when the errors of the cycle are known (R500). -/
def State.err (s : State) (p i : Nat) (e : ErrAt := {}) : State :=
  let was := s.line p
  let s := s.orBits F.ERR_STAT_ERR (2 ^ i) p
  let s := (s.capture p i e).latch p
  let s := s.when (!was && s.line p) fun s => s.tally .fcl 0
  if notCounted p i then s
  else
    let k := (p, winOf p i e.unit)
    let w := match Tbl.get s.wins k with
      | none => { start := s.now, count := 1 : Win }
      | some w => { w with count := satAdd 16 w.count 1 }
    let lasting := immediate p i || s.rd F.ERR_WINDOW_LENGTH p = 0
      || decide (max (s.rd F.ERR_WINDOW_THRESHOLD p) 1 ≤ w.count)
    let s := s.inBurst p i e lasting
    if !lasting then { s with wins := Tbl.set s.wins k w }
    else
      let s := { s with wins := Tbl.del s.wins k }
      let s := ((s.bump F.ERR_COUNT_TOTAL 1 p).bump F.FCL_COUNT_LASTING).tally .fcl 1
      let lim := s.rd F.FCL_SVC_CTL_TOTAL_LIMIT
      s.when (lim != 0 && s.rd F.ERR_COUNT_TOTAL p % lim = 0) fun s => s.svc 8

/-- An error of a block, by its page. -/
def State.berr (s : State) (b : Block) (i : Nat) (e : ErrAt := {}) (inst : Nat := 0) : State := s.err (b.page + inst) i e

/-- `REG_ACCESS_REFUSED`, index 30, of a page, at the register of an offset (R34, R42, R44). -/
def State.refuse (s : State) (m p off : Nat) (write : Bool) : State :=
  s.err p 30 { access := if write then accRegWrite else accRegRead, addr := off / 8 * 8, master := some m }

/-! ## Who may reach a region of on-package memory (R21) -/

/-- Regions of the memory plan that are listed for a block (01 *Memory plan regions*); `MGT` writes the shadow bank of the road book besides. -/
def userRegions : MemUser → List Nat
  | .mgt => [1] | .pmu => [2] | .rtb => [3] | .pwy => [4] | .mtc _ => [5, 6] | .rxe _ => [6, 8] | .col _ => [7] | .atm => [8] | .hif _ => [8]

/-- Master identity of a block that reaches on-package memory (R52). -/
def userMaster : MemUser → Nat
  | .mgt => 4 | .pmu => 0x26 | .rtb => 0x1C | .pwy => 0x1B | .mtc u => 0x1D + u % 2 | .rxe p => 0x14 + p % 4 | .col u => 0x20 + u % 2
  | .atm => 0x1F | .hif fn => fn % 4

/-- The region of the memory plan that holds a range. -/
def State.regionOf (s : State) (a n : Nat) : Option Nat :=
  (List.range 8).findSome? fun i =>
    let r := i + 1
    if s.planBase r ≤ a ∧ a + n ≤ s.planBase r + s.planSize r then some r else none

/-- The controller that serves an on-package address: that of the stack that trained, where only one did (R18). -/
def State.memCtrl (s : State) (a : Nat) : Nat := if s.rd F.DEV_MEM_CAP_STACKS = 2 then a / 4096 % 2 else s.solo

/-- Does a range lie in the shadow bank of the road book (R364)? -/
def State.inShadowBank (s : State) (a n : Nat) : Bool :=
  let half := s.planSize 3 / 2
  let base := s.planBase 3 + (1 - s.rd F.RTB_BOOK_STAT_ACTIVE_BANK) * half
  decide (base ≤ a) && decide (a + n ≤ base + half)

/-- Does the table of regions list the region of a range for a block (R21)? -/
def State.ownsMem (s : State) (u : MemUser) (a n : Nat) (write : Bool) : Bool :=
  match s.regionOf a n with
  | some r => (userRegions u).contains r || (u == .mgt && write && s.inShadowBank a n)
  | none => false

/-- An access to a region that the table does not list for its block: refused, and logged in the page of the controller (R21). -/
def State.foreignMem (s : State) (u : MemUser) (a : Nat) (write : Bool) : State :=
  s.berr .mem 6 { access := if write then accMemWrite else accMemRead, addr := a, master := some (userMaster u) } (s.memCtrl a)

/-- The requester at the channel ports that a block is (R402). -/
def userReq : MemUser → Nat
  | .pwy => 0 | .mtc u => 1 + u % 2 | .rtb => 3 | .col u => 4 + u % 2 | .rxe _ => 6 | .atm => 7 | .hif _ => 8 | .pmu => 9 | .mgt => 10

/-- Is a block's request for an on-package address refused: the watchdog has fenced its requester (R400)? -/
def State.memDenied (s : State) (u : MemUser) (a : Nat) : Bool := s.reqFenced (Block.mem.page + s.memCtrl a) (userReq u)

/-- Does an access not reach on-package memory: its requester is fenced, a controller is, or the region is another block's (R21, R400, R503)? -/
def State.memBarred (s : State) (u : MemUser) (a n : Nat) (write : Bool) : Bool :=
  s.memDenied u a || s.memFenced || !s.ownsMem u a n write

/-- What such an access brings about: the refusal handled by the block that made it, the entry counted at the crossing that discards it, or the
controller's error (R12, R21, R400). -/
def State.memDeny (s : State) (u : MemUser) (a n : Nat) (write : Bool := false) : State :=
  if s.memDenied u a then s.later (.refusedReq (Block.mem.page + s.memCtrl a) 0 (userReq u) (some (userMaster u)))
  else if s.memFenced then s.bump F.FCL_DROP_CROSSING
  else if !s.ownsMem u a n write then s.foreignMem u a write
  else s

/-- The 256-byte bursts of an access counted: reads or writes of the controller, and those of the requester (R402, R529). -/
def State.memBursts (s : State) (u : MemUser) (a n : Nat) (write : Bool) : State :=
  if n = 0 then s
  else
    (List.range ((a + n - 1) / 256 - a / 256 + 1)).foldl (fun s i =>
      let k := s.memCtrl (a / 256 * 256 + 256 * i)
      (s.tally .mem (if write then 1 else 0) 1 k).tally .mem (4 + userReq u) 1 k) s

/-- Bytes that a block writes into on-package memory, in its own regions (R21). -/
def State.memWrite (s : State) (u : MemUser) (a : Nat) (b : List Byte) : State :=
  if b = [] then s
  else if s.memBarred u a b.length true then s.memDeny u a b.length true
  else (s.setBytes a b).memBursts u a b.length true

/-- `winOf` and the window closed: a counting window reaches its length (R498). -/
def errWindowExpire (p u : Nat) (s : State) : State :=
  match Tbl.get s.wins (p, u) with
  | none => s
  | some w =>
    let s := s.reach (w.start + us (s.rd F.ERR_WINDOW_LENGTH p))
    { s with wins := Tbl.del s.wins (p, u) }

end Sys2Proof.Machine
end

