-- ==== Sys2Proof/Machine/Grants.lean ====
section
/-! DEFINITION. Machine/Grants.lean: how an instance of the common arbiter chooses among its requesters (12 R395, R396, R400 to R402; 15
R491). -/

namespace Sys2Proof.Machine

/-- Instances of a page's arbiter (R395, R491); the spec gives no number of channel ports (log entry 10). -/
def arbInsts (p : Nat) : Nat :=
  match pageBlock p with
  | some (.hif, _) => 1 | some (.xlt, _) => 1 | some (.sec, _) => 2 | some (.mem, _) => 64 | _ => 0

/-- Requesters of an instance: 0 up to this (R121, R401, R402, R491). -/
def arbCount (p inst : Nat) : Nat :=
  match pageBlock p with
  | some (.hif, _) => 16 | some (.xlt, _) => 15 | some (.mem, _) => 12
  | some (.sec, _) => if inst = 0 then 7 else 16 | _ => 0

/-- Arbiter cycles in a time in ns (R395). -/
def arbCycles (p ns : Nat) : Nat :=
  match pageBlock p with
  | some (.hif, _) => ns | some (.mem, _) => ns * Config.memMhz / 1000 | _ => ns * 14 / 10

/-- The time in ns of a number of arbiter cycles (R395). -/
def arbNs (p n : Nat) : Nat :=
  match pageBlock p with
  | some (.hif, _) => n | some (.mem, _) => ceilDiv (n * 1000) (max 1 Config.memMhz) | _ => ceilDiv (n * 10) 14

/-- Master identities of the engines behind a requester: several where engines share it (R52, R121, R401, R402, R491). -/
def arbMasters (p inst r : Nat) : List Nat :=
  match pageBlock p with
  | some (.hif, _) =>
    if r ≤ 7 then [0x10 + r]
    else match r with
      | 8 => [0x18] | 9 => [0x19] | 10 => [0x1A] | 11 => [0x1D, 0x1E] | 12 => [0x1F] | 13 => [0x20, 0x21] | 14 => [0x1B] | _ => [0x27]
  | some (.mem, k) =>
    match r with
    | 0 => [0x1B] | 1 => [0x1D] | 2 => [0x1E] | 3 => [0x1C] | 4 => [0x20] | 5 => [0x21] | 6 => [0x14, 0x15, 0x16, 0x17] | 7 => [0x1F]
    | 8 => [0, 1, 2, 3] | 9 => [0x26] | 10 => [4] | _ => [0x24 + k]
  | some (.xlt, _) =>
    if r ≤ 3 then [0x14 + r] else if r ≤ 7 then [0x0C + r]
    else match r with
      | 8 => [0x18, 0x19] | 9 => [0x1D] | 10 => [0x1E] | 11 => [0x1F] | 12 => [0x20] | 13 => [0x21] | _ => [0x1A]
  | some (.sec, _) => if inst = 1 then [0x23] else if r ≤ 3 then [0x10 + r] else if r = 4 then [0x1B] else [0x1B + r]
  | _ => [4]

/-- The master identity of the engine that uses a requester; among engines that share one, which it is is a free value where the
command in hand does not say it (log entry 10). -/
def State.arbMaster (s : State) (p inst r : Nat) : State × Nat :=
  match arbMasters p inst r with
  | [m] => (s, m)
  | ms => (s.drawn, ms.getD (s.freeVal % max 1 ms.length) 4)

/-- The uncorrectable internal error of the block behind a requester that the arbiter refuses: block, instance, index (R400;
log entry 10). A refused walk faults by itself. -/
def arbError (p inst r : Nat) : Option (Block × Nat × Nat) :=
  match pageBlock p with
  | some (.hif, _) =>
    if r ≤ 3 then some (.txe, 0, 1) else if r ≤ 7 then some (.rxe, 0, 1)
    else match r with
      | 8 => some (.cmd, 0, 1) | 9 => some (.cmd, 0, 1) | 11 => some (.mtc, 0, 3) | 12 => some (.atm, 0, 7)
      | 13 => some (.col, 0, 1) | 14 => some (.pwy, 0, 1) | 15 => some (.pmu, 0, 1) | _ => none
  | some (.mem, k) =>
    match r with
    | 0 => some (.pwy, 0, 1) | 1 => some (.mtc, 0, 2) | 2 => some (.mtc, 0, 2) | 3 => some (.rtb, 0, 2)
    | 4 => some (.col, 0, 1) | 5 => some (.col, 0, 1) | 6 => some (.rxe, 0, 1) | 7 => some (.atm, 0, 7)
    | 8 => some (.hif, 0, 12) | 9 => some (.pmu, 0, 1) | 10 => some (.mgt, 0, 1) | _ => some (.mem, k, 8)
  | some (.sec, _) =>
    if inst = 1 then some (.xbr, r, 1) else if r ≤ 3 then some (.txe, 0, 1) else if r = 4 then some (.pwy, 0, 1)
    else some (.col, 0, 1)
  | _ => none

/-- An arbiter instance. -/
def State.arb (s : State) (p inst : Nat) : ArbInst := Tbl.getD s.arbs (p, inst) {}

/-- An arbiter instance replaced. -/
def State.setArb (s : State) (p inst : Nat) (a : ArbInst) : State := { s with arbs := Tbl.set s.arbs (p, inst) a }

/-- The requester with the greatest age; ties: the lowest (R396). -/
def oldestOf (a : ArbInst) (w : List Nat) : Option Nat :=
  w.foldl (fun b r => match b with
    | none => some r
    | some m => if Tbl.getD a.waits r 0 < Tbl.getD a.waits m 0 then some r else some m) none

/-- The requester of the highest priority; ties: the oldest, then the lowest (R396). -/
def highestOf (prio : Nat → Nat) (a : ArbInst) (w : List Nat) : Option Nat :=
  let top := w.foldl (fun m r => max m (prio r)) 0
  oldestOf a (w.filter fun r => prio r = top)

/-- `ARB_CTL.NTH` as it acts. -/
def State.nth (s : State) (p : Nat) : Nat := min 64 (max 2 (s.rd F.ARB_CTL_NTH p))

/-- Can an instance grant at all? A crypto pipeline must be left (R491), and the stack of a `MEM` controller must have trained (R18). -/
def State.grantableArb (s : State) (p inst : Nat) : Bool :=
  match pageBlock p with
  | some (.sec, _) => (pipesOf inst).any fun u => !bitOf (s.units p) u && !s.pipeTest.contains u
  | some (.mem, k) => s.rd F.DEV_MEM_CAP_STACKS == 2 || (s.rd F.DEV_MEM_CAP_STACKS == 1 && k == s.solo)
  | _ => true

/-- A refused request of a fenced requester: an uncorrectable internal error of the access at the block that made it (R400); `m`: the
engine, where it is known. -/
def State.refusedReq (s : State) (p inst r : Nat) (m : Option Nat := none) : State :=
  match arbError p inst r with
  | none => s
  | some (b, k, i) =>
    match m with
    | some m => s.berr b i { master := some m } k
    | none =>
      let (s, m) := s.arbMaster p inst r
      s.berr b i { master := some m } k

/-- `arbitrate` (R396) among the requesters of a list, none of them fenced: they wait from now on, where they did not; the instance has
reached a break point. Answers the winner. -/
def State.arbPick (s : State) (p inst : Nat) (w : List Nat) : State × Option Nat :=
  let a := s.arb p inst
  let a := { a with waits := w.map fun r => (r, Tbl.getD a.waits r s.now), holder := none }
  if w = [] || !s.grantableArb p inst then (s.setArb p inst a, none)
  else
    let prio (r : Nat) : Nat := s.prio p (r + (if pageBlock p = some (.sec, 0) then 64 * inst else 0))
    let grants := a.grants + 1
    let e := w.filter fun r => decide (Tbl.getD a.back r 0 ≤ s.now)
    let reserved := grants % s.nth p = 0
    let win := if reserved then oldestOf a w else if e ≠ [] then highestOf prio a e else highestOf prio a w
    match win with
    | none => (s.setArb p inst a, none)
    | some k =>
      let s := s.bump F.ARB_GRANTS_GRANTS 1 p
      let s := if reserved then s.bump F.ARB_GRANTS_RESERVED 1 p else s
      let s := s.high F.ARB_WAIT_HWM_WAIT_HWM (min (2 ^ 32 - 1) (arbCycles p (s.now - Tbl.getD a.waits k s.now))) p
      let a := (e.filter fun r => r ≠ k).foldl (fun (a : ArbInst) r =>
        let l := Tbl.getD a.losses r 0 + 1
        { a with losses := Tbl.set a.losses r l, back := Tbl.set a.back r (s.now + arbNs p (min 256 (2 ^ l))) }) a
      (s.setArb p inst { a with holder := some k, since := s.now, grants := grants, waits := Tbl.del a.waits k,
                                losses := Tbl.del a.losses k, back := Tbl.del a.back k }, some k)

end Sys2Proof.Machine
end

