-- ==== Sys2Proof/Machine/Translate.lean ====
section
/-! DEFINITION. Machine/Translate.lean: address translation: caches, walks, the fault queue, invalidation (04). -/

namespace Sys2Proof.Machine

/-- Fault kinds of R110. -/
def xkNotPresent : Nat := 1
def xkPermission : Nat := 2
def xkBadEntry : Nat := 3
def xkBusError : Nat := 4
def xkSideEffect : Nat := 5
def xkAsInvalid : Nat := 6
def xkRange : Nat := 7

/-- The completion status of a fault kind (R110). -/
def faultStatus (k : Nat) : Nat :=
  if k = xkPermission then 0x11 else if k = xkBusError then 0x12 else if k = xkSideEffect then 0x13 else 0x10

/-- What a translation answers: host bus pieces (address, offset in the access, length) and whether a page has side
effects; a fault with its kind, level and IOVA; or that a walk must end first. -/
inductive XRes where
  | ok (pieces : List (Nat × Nat × Nat)) (se : Bool)
  | fault (kind level iova : Nat)
  | wait
deriving DecidableEq, Repr

/-- Does a leaf map an IOVA with the rights an access needs? -/
def Leaf.serves (l : Leaf) (fn as iova : Nat) (rd wr : Bool) : Bool :=
  l.fault.isNone && l.fn == fn && l.as == as && iova / 2 ^ l.shift == l.iova / 2 ^ l.shift && (!rd || l.rd) && (!wr || l.wr)

/-- The fault that a walk met for an access that waited for it. -/
def State.walkFault (s : State) (w : Waiter) (fn as iova : Nat) : Option (Nat × Nat) :=
  match s.grants.find? fun g => g.1 == w && g.2.fault.isSome && g.2.fn == fn && g.2.as == as && g.2.iova / 4096 == iova / 4096 with
  | some g => g.2.fault
  | none => none

/-- An access that an invalidation waits for has translated: what it issues is told apart from later accesses of the same name (R107, R108). -/
def Inval.use (i : Inval) (w : Waiter) : Inval :=
  if i.accs.contains w then { i with accs := i.accs.filter (fun x => x != w), used := w :: i.used } else i

/-- The translations held for an access that is over, or that issues what it translated for. -/
def State.dropGrants (s : State) (w : Waiter) : State :=
  { s with grants := s.grants.filter (fun g => g.1 != w), invals := Tbl.mapVals s.invals fun _ i => i.use w }

/-- Can a block use a range of on-package memory: no poisoned word, no fenced controller, and its requests not refused (R400, R503,
R511)? -/
def State.memOk (s : State) (u : MemUser) (a n : Nat) : Bool :=
  s.clean a n && !s.memBarred u a n false

/-- The leaf that serves a page of an access: one that a walk holds for it, or a cached one (R105). -/
def State.leaf (s : State) (w : Waiter) (fn as iova : Nat) (rd wr : Bool) : Option Leaf :=
  match s.grants.find? fun g => g.1 == w && g.2.serves fn as iova rd wr with
  | some g => some g.2
  | none =>
    if s.on F.XLT_CACHE_CTL_TC_BYPASS then none else s.tcache.find? fun l => l.serves fn as iova rd wr

/-- Is a table in a side-effect window of the function? (R102) -/
def State.inSeWindow (s : State) (fn table : Nat) : Bool :=
  (List.range 8).any fun k => s.on F.XLT_SE_BASEk_EN fn k &&
    decide (s.rd F.XLT_SE_BASEk_BASE fn k ≤ table / 4096) && decide (table / 4096 ≤ s.rd F.XLT_SE_LIMk_LIMIT fn k)

/-- The deepest table a walk may begin at: level and table (R100). -/
def State.walkStart (s : State) (fn as iova root : Nat) : Nat × Nat :=
  if s.on F.XLT_CACHE_CTL_WC_BYPASS then (4, root)
  else
    let at_ (l : Nat) := s.wcache.find? fun t => t.fn == fn && t.as == as && t.level == l && t.tag == iova / 2 ^ (12 + 9 * (l - 1))
    match at_ 2, at_ 3, at_ 4 with
    | some t, _, _ => (1, t.table)
    | none, some t, _ => (2, t.table)
    | none, none, some t => (3, t.table)
    | none, none, none => (4, root)

/-- Walks that a walker works on. -/
def State.walking (s : State) : Nat := Tbl.count s.walks fun _ w => w.read.isSome

/-- Does an access wait for a walk? -/
def State.walkWaits (s : State) (w : Waiter) : Bool := s.walks.any fun e => e.2.waiters.any fun x => x.1 == w

/-- The read of a walk's next entry issued (R99, R100). -/
def State.walkRead (s : State) (id : Nat) (w : Walk) : State :=
  let idx := w.iova / 2 ^ (12 + 9 * (w.level - 1)) % 512
  let (s, r) := s.hostRead w.fn (w.table + 8 * idx) 8 (.walk id)
  let s := (s.tally .xlt 3)
  { s with walks := Tbl.set s.walks id { w with read := some r } }

/-- Is a requester of the walker pool fenced (R400)? -/
def State.walkFenced (s : State) (r : Nat) : Bool := s.reqFenced Block.xlt.page r

/-- Walks that wait for a walker and whose requester is fenced are refused (R400). -/
def State.refuseWalks (s : State) : State :=
  (s.walks.filter fun e => e.2.read.isNone && s.walkFenced e.2.req).foldl (fun s e => s.later (.walkRefused e.1)) s

/-- Waiting walks given a walker, at most 64: the common arbiter chooses the requester, whose oldest walk goes on (R121, R395, R396). -/
def State.grantWalkers (s : State) : Nat → State
  | 0 => s
  | n + 1 =>
    let w := s.walks.filter fun e => e.2.read.isNone && !s.walkFenced e.2.req
    if 64 ≤ s.walking || w = [] then s
    else
      match s.arbPick Block.xlt.page 0 ((List.range 15).filter fun r => w.any fun e => e.2.req == r) with
      | (s, none) => s
      | (s, some r) =>
        match w.find? fun e => e.2.req == r with
        | none => s
        | some e => ((s.walkRead e.1 e.2).high F.XLT_STAT_WALKS_HWM (s.walking + 1)).grantWalkers n

/-- The walker pool at a break point: refused walks, then the others (R396, R400). -/
def State.walkers (s : State) : State := s.refuseWalks.grantWalkers 64

/-- The engine pair of a pathway: its receive pipe, and the transmit pipe of its responses (R200). -/
def PwKey.pipe (k : PwKey) : Nat := (k.loc + k.rem + k.tc) % 4

/-- The transmit pipe of an operation: that of its work queue (R8). -/
def State.opPipe (s : State) (id : Nat) : Nat := ((Tbl.get s.ops id).map Op.wq).getD 0 % 4

/-- The transmit pipe of a packet: its work queue's (R8), or its pathway's for a packet of no operation (R200). -/
def State.txPipe (s : State) (o : Owner) (k : PwKey) : Nat :=
  match o with
  | .op id => s.opPipe id
  | _ => PwKey.pipe k

/-- The walker-pool requester of an access (R121): its transmit pipe, receive pipe, matching unit or convoy unit, `ATM`, or the
command engine, which also reads for `PWY`, `SEC` and `PMU` (log entry 31). -/
def State.walkReq (s : State) : Waiter → Nat
  | .payload op _ => 4 + s.opPipe op
  | .retx k seq => 4 + ((Tbl.get s.inflight (k, seq)).map fun r => s.txPipe r.owner k).getD (PwKey.pipe k)
  | .place k _ => PwKey.pipe k
  | .atomic _ _ => 11
  | .serve g _ => 4 + ((Tbl.get s.gets g).map fun x => PwKey.pipe x.key).getD 0
  | .desc _ _ => 8 | .record _ _ _ => 8
  | .copy id => 9 + ((Tbl.get s.copies id).map fun c => c.list % 2).getD 0
  | .contribution op => 12 + ((Tbl.get s.ops op).map fun o => o.d.key % 2).getD 0
  | .result slot _ _ => 12 + slot % 2 | .ovf fn => 9 + fn % 2
  | .lqp _ => 8 | .ticket _ => 8 | .sample _ => 8 | .prewalk => 14

/-- A walk started for one page of an access, or a walk in progress shared (R100, R108); a fault found before any read. -/
def State.miss (s : State) (w : Waiter) (fn as iova root : Nat) (rd wr : Bool) : State × XRes :=
  match s.walks.find? fun e => e.2.cache && e.2.fn == fn && e.2.as == as && e.2.iova / 4096 == iova / 4096 with
  | some e =>
    let ws := if e.2.waiters.contains (w, rd, wr) then e.2.waiters else e.2.waiters ++ [(w, rd, wr)]
    ({ s with walks := Tbl.set s.walks e.1 { e.2 with waiters := ws } }, .wait)
  | none =>
    let (level, table) := s.walkStart fn as iova root
    if s.inSeWindow fn table then (s, .fault xkSideEffect level iova)
    else if s.walkFenced (s.walkReq w) then (s, .fault xkBusError level iova)
    else
      let s := s.tally .xlt 2
      let s := if level ≤ 3 then s.tally .xlt (8 - level) else s
      let id := s.nextWalk
      let k : Walk := { fn := fn, as := as, iova := iova, level := level, table := table, waiters := [(w, rd, wr)], req := s.walkReq w }
      (({ s with walks := s.walks ++ [(id, k)], nextWalk := id + 1 } : State).walkers, .wait)

/-- The pages of an access translated in turn; the first argument bounds them. -/
def State.xlatPages (s : State) (fuel : Nat) (w : Waiter) (fn as iova off len root : Nat) (rd wr : Bool) : State × XRes :=
  match fuel with
  | 0 => (s, .ok [] false)
  | n + 1 =>
    if len = 0 then (s, .ok [] false)
    else
      match s.leaf w fn as iova rd wr with
      | none =>
        match s.walkFault w fn as iova with
        | some (k, l) => (s.dropGrants w, .fault k l iova)
        | none => (s.tally .xlt 1).miss w fn as iova root rd wr
      | some l =>
        let inPage := iova % 2 ^ l.shift
        let k := min len (2 ^ l.shift - inPage)
        match s.xlatPages n w fn as (iova + k) (off + k) (len - k) root rd wr with
        | (s, .ok ps se) => (s, .ok ((l.addr + inPage, off, k) :: ps) (se || l.se))
        | r => r

/-- The translation of an access (R96, R100): waiter, function, address space, IOVA, length, rights needed. DESIGN CHOICE: the record of an access that
ends at or beyond 2^48 names its first address (R112; log entry 59). -/
def State.xlat (s : State) (w : Waiter) (fn as iova len : Nat) (rd wr : Bool) : State × XRes :=
  let s := s.tally .xlt 0
  if 2 ^ 48 ≤ iova || 2 ^ 48 ≤ iova + len - 1 then (s, .fault xkRange 0 iova)
  else
    match Tbl.get s.spaces (fn, as) with
    | none => (s, .fault xkAsInvalid 0 iova)
    | some c => if c.lost then (s, .fault xkAsInvalid 0 iova) else s.xlatPages (len / 4096 + 2) w fn as iova 0 len c.root rd wr

/-- Translated pieces of a host write, written in order (R68). -/
def State.writePieces (s : State) (req fn : Nat) (ps : List (Nat × Nat × Nat)) (b : List Byte) : State :=
  ps.foldl (fun s p => s.hostWrite req fn p.1 ((b.drop p.2.1).take p.2.2)) s

/-- The next page walked ahead of an access sequence, silently (R104): `left` bytes of the operation's range follow the
access, which ends at `last`. -/
def State.prewalk (s : State) (fn as last left : Nat) (rd wr : Bool) : State :=
  let d := orWhenZero (s.rd F.XLT_CTL_PREWALK_DIST) 1 * 256
  let next := last / 4096 * 4096 + 4096
  if !s.on F.XLT_CTL_PREWALK_EN || decide (last + left < next) || decide (last % 4096 + d < 4096) || decide (2 ^ 48 ≤ next) then s
  else
    match Tbl.get s.spaces (fn, as), s.leaf .prewalk fn as next rd wr, s.leaf .prewalk fn as last rd wr with
    | some c, none, some l =>
      if l.se || c.lost then s
      else
        let s := s.tally .xlt 8
        match s.miss .prewalk fn as next c.root rd wr with
        | (s, .fault _ _ _) => s.tally .xlt 9
        | (s, _) => s
    | _, _, _ => s

/-! ## The fault queue (R111 to R113) -/

/-- What a fault record says (R112). -/
structure FaultRec where
  kind : Nat
  source : Nat
  level : Nat
  write : Bool := false
  master : Nat
  as : Nat
  iova : Nat
  context : Nat
  remote : Nat := 0
deriving DecidableEq, Repr

/-- Size of the fault queue: other values of `LOG2_SIZE` act as 6 (04 *XLT fields*). -/
def State.fqSize (s : State) (fn : Nat) : Nat :=
  let l := s.rd F.XLT_FQ_CTL_LOG2_SIZE fn
  2 ^ (if 6 ≤ l then l else 6)

/-- Is the fault queue full? (R111) -/
def State.fqFull (s : State) (fn : Nat) : Bool :=
  wrapSub 32 (s.rd F.XLT_FQ_TAIL_TAIL fn) (s.rd F.XLT_FQ_HEAD_HEAD fn) == s.fqSize fn

/-- The 32 bytes of a fault record (R112). -/
def FaultRec.bytes (r : FaultRec) (phase : Bool) (time : Nat) : List Byte :=
  leBytes 1 r.kind ++ leBytes 1 r.source ++ leBytes 1 (r.level % 8 + 8 * b2n r.write + 128 * b2n phase) ++ leBytes 1 r.master
    ++ leBytes 2 (r.as % 4096) ++ leBytes 2 0 ++ leBytes 8 r.iova ++ leBytes 4 r.context ++ leBytes 4 r.remote
    ++ leBytes 8 time

/-- A fault record written, lost or suppressed (R111 to R113); `recv` for a receive-side fault. A record whose write the host port
discards leaves `LOST` and `OVERFLOW` alone: the rule names neither for it (DESIGN CHOICE, log entry 32). -/
def State.faultRecord (s : State) (fn : Nat) (r : FaultRec) (recv : Bool := false) : State :=
  let s := s.tally .xlt 10
  let win := us (s.rd F.XLT_CTL_COALESCE_US)
  if recv && win != 0 && s.faultMarks.any (fun m => m.fn == fn && m.as == r.as && m.page == r.iova / 4096 &&
      m.kind == r.kind && decide (s.now < m.time + win)) then
    (s.bump F.XLT_FQ_STAT_SUPPRESSED 1 fn).tally .xlt 11
  else if !s.on F.XLT_FQ_CTL_EN fn || s.fqFull fn then
    ((s.wr F.XLT_FQ_STAT_OVERFLOW 1 fn).bump F.XLT_FQ_STAT_LOST 1 fn).berr .xlt 2
  else
    let i := s.rd F.XLT_FQ_TAIL_TAIL fn
    let n := s.fqSize fn
    let a := s.rd F.XLT_FQ_BASE_BASE fn * 4096 + 32 * (i % n)
    let s := s.roll F.XLT_FQ_TAIL_TAIL 1 fn
    if s.busGone fn then s.berr .xlt 3 { access := accHostWrite, addr := a }
    else
      let s := s.hostWrite 10 fn a (r.bytes (i / n % 2 == 0) s.now)
      let mine := s.faultMarks.filter fun m => m.fn == fn
      let keep := s.faultMarks.filter fun m => m.fn != fn
      let s := { s with faultMarks := { fn := fn, as := r.as, page := r.iova / 4096, kind := r.kind, time := s.now : FaultMark } :: (mine.take 15 ++ keep) }
      if s.on F.XLT_FQ_CTL_IRQ_EN fn then s.msix fn (s.rd F.XLT_FQ_CTL_VECTOR fn) else s

/-! ## A walk step (R100) -/

/-- What a walk step finds. -/
inductive StepRes where
  | descend (level table : Nat)
  | leaf (l : Leaf)
  | fault (kind level : Nat)
deriving DecidableEq, Repr

/-- The entry read at a level (R97, R98, R100, R102). -/
def State.walkEntry (s : State) (w : Walk) (r : BusResult) : StepRes :=
  match r with
  | .failed => .fault xkBusError w.level
  | .ok b =>
    let pte := leNat b
    let shift := 12 + 9 * (w.level - 1)
    let addr := pte / 4096 * 4096
    if !bitOf pte 0 then .fault xkNotPresent w.level
    else if bitOf pte 1 then
      if addr % 2 ^ shift ≠ 0 then .fault xkBadEntry w.level
      else .leaf { fn := w.fn, as := w.as, iova := w.iova / 2 ^ shift * 2 ^ shift, shift := shift, addr := addr,
                   rd := bitOf pte 2, wr := bitOf pte 3, se := bitOf pte 4 }
    else if w.level = 1 then .fault xkBadEntry 1
    else if bitOf pte 4 || s.inSeWindow w.fn addr then .fault xkSideEffect (w.level - 1)
    else .descend (w.level - 1) addr

/-- A leaf put into the translation cache: 32,768 entries; the oldest gives way (log entry 7). -/
def State.fillLeaf (s : State) (l : Leaf) : State :=
  if s.on F.XLT_CACHE_CTL_TC_BYPASS then s
  else
    let rest := s.tcache.filter fun k => !(k.fn == l.fn && k.as == l.as && k.iova == l.iova && k.shift == l.shift)
    { s with tcache := (l :: rest).take 32768 }

/-- Entries of the walk cache of a level (04 *Caches and invalidation*). -/
def walkCacheSize (level : Nat) : Nat := if level = 4 then 256 else if level = 3 then 512 else 1024

/-- A non-leaf entry put into the walk cache of its level. -/
def State.fillTable (s : State) (t : TableRef) : State :=
  if s.on F.XLT_CACHE_CTL_WC_BYPASS then s
  else
    let same := s.wcache.filter fun k => k.level == t.level && k != t
    let others := s.wcache.filter fun k => k.level != t.level
    { s with wcache := (t :: same).take (walkCacheSize t.level) ++ others }

/-- Does an invalidation of a scope cover an access: function, address space, IOVA and length? (R107) -/
def inScope (fn scope as iova npages f a io len : Nat) : Bool :=
  f == fn && (scope == 0 || (a == as && (scope == 1 ||
    (decide (io < iova / 4096 * 4096 + npages * 4096) && decide (iova / 4096 * 4096 < io + len)))))

/-- Does a leaf translate a byte of a range? -/
def Leaf.covers (l : Leaf) (fn as iova len : Nat) : Bool :=
  l.fn == fn && l.as == as && decide (l.iova < iova + len) && decide (iova < l.iova + 2 ^ l.shift)

/-- Does a leaf overlap the scope of an invalidation? -/
def Leaf.inScope (l : Leaf) (fn scope as iova npages : Nat) : Bool :=
  Sys2Proof.Machine.inScope fn scope as iova npages l.fn l.as l.iova (2 ^ l.shift)

/-- Entries that an invalidation covers removed from both caches (R107): scope 0 function, 1 address space, 2 range of
`pages` 4 KiB pages. Walks in progress that it covers serve only the access that started them (R108). -/
def State.sweep (s : State) (fn scope as iova npages : Nat) : State :=
  let near (f a : Nat) : Bool := f == fn && (scope == 0 || a == as)
  { s with
    tcache := s.tcache.filter fun l => !l.inScope fn scope as iova npages
    wcache := s.wcache.filter fun t => !near t.fn t.as
    walks := Tbl.mapVals s.walks fun _ w => if near w.fn w.as then { w with cache := false } else w }

/-- The lengths of a function's live regions, in 4 KiB units rounded up per region (`XLT_FN_USAGE.REG_PAGES`). -/
def regPages (r : Tbl (Nat × Nat) Region) (fn : Nat) : Nat :=
  r.foldl (fun n e => if e.1.1 = fn then n + ceilDiv e.2.len 4096 else n) 0

end Sys2Proof.Machine
end

