-- ==== Sys2Proof/Machine/Queues.lean ====
section
/-! DEFINITION. Machine/Queues.lean: completion and event records, work-queue states, descriptor fetch, trigger counters,
the end of operations (05). -/

namespace Sys2Proof

/-- Does a descriptor carry an adverb? -/
def Descr.adv (d : Descr) (b : Nat) : Bool := bitOf d.adverbs b

/-- Slots that a descriptor fills (05 *Work queues*). -/
def Descr.slots (d : Descr) : Nat := if d.long then 4 else 1

end Sys2Proof

namespace Sys2Proof.Machine

/-- Bits of `ADVERBS` (R143). -/
def advSignal : Nat := 0
def advInline : Nat := 1
def advFence : Nat := 2
def advSilent : Nat := 3
def advTriggered : Nat := 4
def advOrdered : Nat := 5
def advCounted : Nat := 6

/-- Completion statuses (R145). -/
def stOk : Nat := 0x00
def stAborted : Nat := 0x01
def stFlushed : Nat := 0x02
def stRemoteAccess : Nat := 0x20
def stRemoteXlt : Nat := 0x21
def stNotReady : Nat := 0x22
def stAbsent : Nat := 0x23
def stTimeout : Nat := 0x30
def stPathLost : Nat := 0x31
def stTruncated : Nat := 0x40
def stBroken : Nat := 0x41
def stTenancy : Nat := 0x50
def stLockBroken : Nat := 0x60

/-- Completion details (R144). -/
def dtPostIdx : Nat := 0x0001
def dtReserved : Nat := 0x0002
def dtBadVerb : Nat := 0x0003
def dtBadAlign : Nat := 0x0004
def dtBadNoun : Nat := 0x0005
def dtBadAdverb : Nat := 0x0006
def dtBadLength : Nat := 0x0007
def dtTc : Nat := 0x0008
def dtFetchFailed : Nat := 0x0009
def dtPayloadBus : Nat := 0x000A
/-- `PAYLOAD_CORRUPTED` (06, *Detail codes*). -/
def dtPayloadCorrupted : Nat := 0x0109
def dtDrained : Nat := 0x000B
def dtWithdrawn : Nat := 0x000C
def dtFetchXlt : Nat := 0x000D
def dtCqError : Nat := 0x000E
def dtContext : Nat := 0x000F
def dtReset : Nat := 0x0010

/-! ## Event queues (R154 to R157) -/

/-- Entries of an event queue in use: written and not consumed, reserved, or waiting to be written. -/
def Eq.used (q : Eq) : Nat :=
  wrapSub 32 q.written q.consumer + q.reserved + (q.held.filter fun e => !e.res).length

/-- Is an event queue full? One entry is kept for `EQ_LOST` (R156). -/
def Eq.full (q : Eq) : Bool := decide (2 ^ q.log2 ≤ q.used + 1)

/-- The asynchronous EQ of a function (R155). -/
def State.asyncEq (s : State) (fn : Nat) : Option Nat :=
  (s.eqs.foldl (fun b e => if e.1.1 = fn ∧ e.2.async then (match b with
    | none => some (e.1.2, e.2.order)
    | some m => if m.2 < e.2.order then some (e.1.2, e.2.order) else some m) else b) none).map Prod.fst

/-- The 32 bytes of an event record (R154). -/
def Evt.bytes (e : Evt) (phase : Bool) (time : Nat) : List Byte :=
  leBytes 1 e.type ++ leBytes 1 (128 * b2n phase) ++ leBytes 2 e.subtype ++ leBytes 4 e.value ++ leBytes 8 e.offset
    ++ leBytes 8 e.data ++ leBytes 4 e.peer ++ leBytes 4 time

/-- An event queue's message sent if its moderation allows (R161). -/
def State.eqIrq (s : State) (fn n : Nat) : State :=
  match Tbl.get s.eqs (fn, n) with
  | none => s
  | some q =>
    if q.irqEn && q.armed && q.since != 0 && (decide (max q.modCount 1 ≤ q.since) || (q.modTime != 0 && decide (q.firstAt + us q.modTime ≤ s.now))) then
      (({ s with eqs := Tbl.set s.eqs (fn, n) { q with armed := false, since := 0 } } : State).msix fn q.vector).tally .cmd 10
    else s

/-- Number of a work queue among the entities of a class (R404). -/
def wqEnt (fn wq : Nat) : Nat := 1 + fn * 16384 + wq

/-- A queue that is made has no tag, and its shaper starts at its burst (R405, R406). -/
def State.freshEntity (s : State) (fn n : Nat) : State :=
  { s with credits := Tbl.del s.credits (n % 4, 4 + wqEnt fn n), tags := Tbl.keep s.tags fun k _ => !(k.2.1 != 0 && k.2.2 == wqEnt fn n) }

/-- Waiting event records written in order; the first argument bounds them (R125, R156, R157). -/
def State.eqWrite (s : State) (fuel fn n : Nat) : State :=
  match fuel with
  | 0 => s
  | k + 1 =>
    match Tbl.get s.eqs (fn, n) with
    | none => s
    | some q =>
      match q.state, q.held with
      | .active, e :: rest =>
        let size := 2 ^ q.log2
        let a := q.base + 32 * (q.written % size)
        let (s, r) := s.xlat (.record fn 2 n) fn q.as a 32 false true
        match r with
        | .wait => s
        | .fault kind level iova =>
          let s := { s with eqs := Tbl.set s.eqs (fn, n) { q with state := .suspended } }
          s.faultRecord fn { kind := kind, source := 5, level := level, write := true, master := 0x19, as := q.as, iova := iova, context := n + 2 ^ 31 }
        | .ok ps _ =>
          let s := s.dropGrants (.record fn 2 n)
          if s.busGone fn then
            let s := { s with eqs := Tbl.set s.eqs (fn, n) { q with state := .error, held := [], reserved := 0 } }
            s.berr .cmd 4 { access := accHostWrite, addr := a, master := some 0x19 }
          else
            let s := s.writePieces 9 fn ps (e.bytes (q.written / size % 2 == 0) s.now)
            let q' := { q with held := rest, written := wrapAdd 32 q.written 1, since := q.since + 1,
                               firstAt := if q.since = 0 then s.now else q.firstAt,
                               reserved := if e.res then q.reserved - 1 else q.reserved }
            let s := ({ s with eqs := Tbl.set s.eqs (fn, n) q' } : State).tally .cmd 8
            (s.eqIrq fn n).eqWrite k fn n
      | _, _ => s

/-- An event put at the end of an event queue, or discarded and counted (R156, R157). -/
def State.eqPut (s : State) (fn n : Nat) (e : Evt) : State :=
  match Tbl.get s.eqs (fn, n) with
  | none => s
  | some q =>
    if q.state = .error then s
    else if !e.res && (q.full || q.state = .suspended) then
      ({ s with eqs := Tbl.set s.eqs (fn, n) { q with lost := satAdd 32 q.lost 1, lostAll := satAdd 32 q.lostAll 1 } } : State).tally .cmd 9
    else
      let s := { s with eqs := Tbl.set s.eqs (fn, n) { q with held := q.held ++ [e] } }
      s.eqWrite (q.held.length + 1) fn n

/-- Is an event queue in `ERROR`? -/
def State.eqDead (s : State) (fn n : Nat) : Bool :=
  match Tbl.get s.eqs (fn, n) with
  | some q => q.state == .error
  | none => false

/-- An asynchronous event of a function (R155). -/
def State.asyncEvent (s : State) (fn : Nat) (e : Evt) : State :=
  match s.asyncEq fn with
  | none => s.bump F.CMD_ASYNC_LOST 1 fn
  | some n => s.eqPut fn n e

/-- `EQ_ERROR`, unless the queue is itself the asynchronous EQ (R157). -/
def State.eqErrorEvent (s : State) (fn n : Nat) : State :=
  if s.asyncEq fn = some n then s else s.asyncEvent fn { type := 6, value := n }

/-- An event for a named event queue (R156). -/
def State.event (s : State) (fn n : Nat) (e : Evt) : State :=
  let was := s.eqDead fn n
  let s := s.eqPut fn n e
  if !was && s.eqDead fn n then s.eqErrorEvent fn n else s

/-- `EQ_LOST` written once an entry is free (R156). -/
def State.eqLost (s : State) (fn n : Nat) : State :=
  match Tbl.get s.eqs (fn, n) with
  | none => s
  | some q =>
    if q.lost = 0 || q.state ≠ .active || q.full then s
    else ({ s with eqs := Tbl.set s.eqs (fn, n) { q with lost := 0 } } : State).event fn n { type := 5, value := q.lost }

/-- An event queue put into `ERROR` (R157). -/
def State.eqError (s : State) (fn n : Nat) : State :=
  match Tbl.get s.eqs (fn, n) with
  | none => s
  | some q =>
    if q.state = .error then s
    else ({ s with eqs := Tbl.set s.eqs (fn, n) { q with state := .error, held := [], reserved := 0 } } : State).eqErrorEvent fn n

/-- Waiting events of a queue tried again: after a walk, a resume, or when entries became free. -/
def State.eqKick (s : State) (fn n : Nat) : State :=
  let was := s.eqDead fn n
  let s := s.eqWrite 4096 fn n
  if !was && s.eqDead fn n then s.eqErrorEvent fn n else s

/-- Would an event other than a signal be written, now or once what waits before it is? (R156, R157) -/
def State.eqTakes (s : State) (fn n : Nat) : Bool :=
  match Tbl.get s.eqs (fn, n) with
  | some q => q.state == .active && !q.full
  | none => false

/-- An entry of an event queue reserved for a signal; none when it is full (R156). -/
def State.reserveSignal (s : State) (fn n : Nat) : Option State :=
  match Tbl.get s.eqs (fn, n) with
  | none => none
  | some q =>
    if q.state ≠ .active || q.full then none
    else some { s with eqs := Tbl.set s.eqs (fn, n) { q with reserved := q.reserved + 1 } }

/-! ## Work-queue states (R141) -/

/-- A tagged operation's sample changed (R535). -/
def Op.stamp (o : Op) (f : Smp → Smp) : Op := if o.sampled then { o with smp := f o.smp } else o

/-- Is a work queue suspended (`XLT_FN_SUSP.COUNT`)? -/
def State.suspendedWqs (s : State) (fn : Nat) : Nat := Tbl.count s.wqs fun k q => k.1 == fn && q.state == .suspended

/-- A work queue changed. -/
def State.modWq (s : State) (fn n : Nat) (f : Wq → Wq) : State :=
  match Tbl.get s.wqs (fn, n) with
  | none => s
  | some q => { s with wqs := Tbl.set s.wqs (fn, n) (f q) }

/-- An operation changed. -/
def State.modOp (s : State) (id : Nat) (f : Op → Op) : State :=
  match Tbl.get s.ops id with
  | none => s
  | some o => { s with ops := Tbl.set s.ops id (f o) }

/-- A work queue enters `ERROR` with a detail, from `ACTIVE` or `SUSPENDED`, and its event is sent (R141). -/
def State.wqError (s : State) (fn n detail : Nat) (pos : Option Nat := none) : State :=
  match Tbl.get s.wqs (fn, n) with
  | none => s
  | some q =>
    if q.state = .active || q.state = .suspended then
      let s := { s with wqs := Tbl.set s.wqs (fn, n) { q with state := .error, detail := detail } }
      let sends := match Tbl.get s.lqps (q.lqp - 1) with
        | some l => q.lqp != 0 && l.sendWq == n
        | none => false
      let s := s.when sends fun s => s.later (.lqpError (q.lqp - 1))
      s.asyncEvent fn { type := 3, subtype := detail, value := n, offset := pos.getD q.cons }
    else s

/-! ## Trigger counters (R158, R159) -/

/-- Has a counter reached a threshold? (R158) -/
def reached (c t : Nat) : Bool := decide (wrapSub 32 c t < 2 ^ 31)

/-- Held triggered operations of a function (`CMD_TRIG_STAT.HELD`). -/
def State.trigHeld (s : State) (fn : Nat) : Nat := Tbl.count s.ops fun _ o => o.fn == fn && o.phase == .held

/-- Operations of a queue that have begun or are over, and whose record is not written. -/
def State.begunOps (s : State) (fn wq : Nat) : List Nat :=
  (s.ops.filter fun e => e.2.fn == fn && e.2.wq == wq && e.2.phase != .held && e.2.phase != .queued).map Prod.fst

/-- Operations of a queue that a `FENCE` or a `FLUSH` waits for, of those admitted before it (R184, R189). -/
def Descr.covers (d o : Descr) : Bool :=
  d.verb == 0x0A || (d.verb == 0x06 && (o.verb == 0x01 || o.verb == 0x04 || o.verb == 0x05) && o.targetEpa == d.targetEpa)

/-- A held operation fires: it begins in admission order with the operations of its queue that have not begun (R159, R178). `FENCE_BEFORE`
applies to those that began before it fired; a `FENCE` or a `FLUSH` still waits for what was admitted ahead of it (R184, R189). -/
def State.fire (s : State) (id : Nat) : State :=
  match Tbl.get s.ops id with
  | none => s
  | some o =>
    if o.phase ≠ .held then s
    else
      let ahead := (s.ops.takeWhile fun e => e.1 != id).filter fun e => e.2.fn == o.fn && e.2.wq == o.wq && Descr.covers o.d e.2.d
      let after := (if o.d.adv advFence then s.begunOps o.fn o.wq else []) ++ ahead.map Prod.fst
      ({ s with ops := Tbl.set s.ops id { o with phase := .queued, after := after, admitAt := s.now } } : State).tally .cmd 11

/-- Held operations of a function whose counter has reached their threshold fire, in admission order (R159). -/
def State.fireAll (s : State) (fn c : Nat) : State :=
  let v := s.rd F.CMD_TRIGk_COUNT fn c
  (s.ops.filter fun e => e.2.fn == fn && e.2.phase == .held && e.2.d.trigCtr == c && reached v e.2.d.trigThreshold).foldl
    (fun s e => s.fire e.1) s

/-- A trigger counter set (R158). -/
def State.trigSet (s : State) (fn c v : Nat) : State := (s.wr F.CMD_TRIGk_COUNT v fn c).fireAll fn c

/-- A trigger counter raised (R158). -/
def State.trigBump (s : State) (fn c n : Nat) : State := s.trigSet fn c (wrapAdd 32 (s.rd F.CMD_TRIGk_COUNT fn c) n)

/-! ## Completion queues (R145 to R153, R161) -/

/-- Is a completion queue full: no entry left beyond those reserved and those not consumed? (R151) -/
def Cq.full (q : Cq) : Bool := decide (2 ^ q.log2 ≤ wrapSub 32 q.written q.consumer + q.reserved)

/-- The 32 bytes of a completion record (R145). -/
def Cpl.bytes (c : Cpl) (phase : Bool) : List Byte :=
  leBytes 1 c.status ++ leBytes 1 (c.kind % 16 + 128 * b2n phase) ++ leBytes 2 c.wq ++ leBytes 4 c.length ++ leBytes 8 c.userCtx
    ++ leBytes 8 c.data ++ leBytes 4 c.peer ++ leBytes 2 c.postIdx ++ leBytes 2 c.detail

/-- An operation is over: its record is written or suppressed. Others no longer wait for it; a counted one that ended `OK`
raises its queue's completion counter (05 *Trigger counters*). -/
def State.opGone (s : State) (id : Nat) : State :=
  match Tbl.get s.ops id with
  | none => s
  | some o =>
    let ok := match o.ended with
      | some c => c.status == stOk
      | none => false
    let s := { s with ops := Tbl.mapVals (Tbl.del s.ops id) fun _ p => { p with after := p.after.filter fun k => k != id } }
    let s := s.when o.sampled fun s => s.later (.sample o)
    match Tbl.get s.wqs (o.fn, o.wq) with
    | some q => if ok && o.d.adv advCounted && q.countEn then s.trigBump o.fn q.counter 1 else s
    | none => s

/-- A completion queue's message sent if its moderation allows (R161). -/
def State.cqIrq (s : State) (fn n : Nat) : State :=
  match Tbl.get s.cqs (fn, n) with
  | none => s
  | some q =>
    if q.irqEn && q.armed && q.since != 0 && (decide (max q.modCount 1 ≤ q.since) || (q.modTime != 0 && decide (q.firstAt + us q.modTime ≤ s.now))) then
      (({ s with cqs := Tbl.set s.cqs (fn, n) { q with armed := false, since := 0 } } : State).msix fn q.vector).tally .cmd 10
    else s

/-- A completion queue enters `ERROR`: its records are discarded, its work queues enter `ERROR`, and an event is sent
(R153). -/
def State.cqError (s : State) (fn n : Nat) : State :=
  match Tbl.get s.cqs (fn, n) with
  | none => s
  | some q =>
    if q.state = .error then s
    else
      let s := { s with cqs := Tbl.set s.cqs (fn, n) { q with state := .error, held := [], reserved := 0 } }
      let s := q.held.foldl (fun s c => match c.op with
        | some id => s.opGone id
        | none => s) s
      let s := s.wqs.foldl (fun s e => if e.1.1 = fn ∧ e.2.cq = n then s.wqError fn e.1.2 dtCqError else s) s
      s.asyncEvent fn { type := 4, value := n }

/-- The next waiting record that can be written: a drain's record needs an unreserved entry and lets reserved ones past (R151, R160). -/
def Cq.writable (q : Cq) : Option Cpl := if q.full then q.held.find? fun c => c.res else q.held.head?

/-- Waiting completion records written in order; the first argument bounds them (R125, R148, R151, R152). -/
def State.cqWrite (s : State) (fuel fn n : Nat) : State :=
  match fuel with
  | 0 => s
  | k + 1 =>
    match Tbl.get s.cqs (fn, n) with
    | none => s
    | some q =>
      match q.state, q.writable with
      | .active, some c =>
          let rest := q.held.erase c
          let size := 2 ^ q.log2
          let a := q.base + 32 * (q.written % size)
          let (s, r) := s.xlat (.record fn 1 n) fn q.as a 32 false true
          match r with
          | .wait => s
          | .fault kind level iova =>
            let s := { s with cqs := Tbl.set s.cqs (fn, n) { q with state := .suspended } }
            s.faultRecord fn { kind := kind, source := 5, level := level, write := true, master := 0x19, as := q.as, iova := iova, context := n }
          | .ok ps _ =>
            let s := s.dropGrants (.record fn 1 n)
            if s.busGone fn then
              (s.berr .cmd 4 { access := accHostWrite, addr := a, master := some 0x19 }).cqError fn n
            else
              let s := s.writePieces 9 fn ps (c.bytes (q.written / size % 2 == 0))
              let q' := { q with held := rest, written := wrapAdd 32 q.written 1, since := q.since + 1,
                                 firstAt := if q.since = 0 then s.now else q.firstAt,
                                 reserved := if c.res then q.reserved - 1 else q.reserved }
              let s := ({ s with cqs := Tbl.set s.cqs (fn, n) q' } : State).tally .cmd 7
              let s := match c.op with
                | some id => s.opGone id
                | none => s
              (s.cqIrq fn n).cqWrite k fn n
      | _, _ => s

/-- A record handed to a completion queue (R145, R152, R153). -/
def State.cqPut (s : State) (fn n : Nat) (c : Cpl) : State :=
  match Tbl.get s.cqs (fn, n) with
  | none =>
    match c.op with
    | some id => s.opGone id
    | none => s
  | some q =>
    if q.state = .error then
      match c.op with
      | some id => s.opGone id
      | none => s
    else
      let s := { s with cqs := Tbl.set s.cqs (fn, n) { q with held := q.held ++ [c] } }
      s.cqWrite (q.held.length + 1) fn n

/-- Waiting records of a completion queue tried again. -/
def State.cqKick (s : State) (fn n : Nat) : State := s.cqWrite 4096 fn n

/-- One entry of a completion queue reserved (R151). -/
def State.cqReserve (s : State) (fn n : Nat) : State :=
  match Tbl.get s.cqs (fn, n) with
  | none => s
  | some q => { s with cqs := Tbl.set s.cqs (fn, n) { q with reserved := q.reserved + 1 } }

/-- A reservation released without a record: an `OK` that `SILENT` suppresses (R146, R151). -/
def State.cqUnreserve (s : State) (fn n : Nat) : State :=
  match Tbl.get s.cqs (fn, n) with
  | none => s
  | some q => { s with cqs := Tbl.set s.cqs (fn, n) { q with reserved := q.reserved - 1 } }

/-! ## The end of operations -/

/-- Is the record of an operation ordered with the others of its pathway? (R147; receives and convoys have no pathway) -/
def Op.ordered (o : Op) : Bool :=
  !o.d.adv advTriggered && !o.recv && o.d.verb != 0x00 && o.d.verb != 0x06 && o.d.verb != 0x0A && o.d.verb != 0x07

/-- The pathway of an operation, as far as one queue can tell (R147, R199). -/
def Op.lane (o : Op) : Nat × Nat := (o.d.targetEpa, o.d.tc)

/-- The record of an operation that is over goes to its completion queue, or is suppressed (R146). -/
def State.closeOp (s : State) (id : Nat) (o : Op) (c : Cpl) : State :=
  let s := s.modOp id fun o => { o with phase := .closing }
  match Tbl.get s.wqs (o.fn, o.wq) with
  | none => s.opGone id
  | some q => if c.status = stOk && o.d.adv advSilent then (s.cqUnreserve o.fn q.cq).opGone id else s.cqPut o.fn q.cq c

/-- The records of a queue's operations that are over, in the order that R147 gives. -/
def State.closeAll (s : State) (fn wq : Nat) : State :=
  (s.ops.foldl (fun (p : State × List (Nat × Nat)) e =>
    let o := e.2
    if o.fn ≠ fn || o.wq ≠ wq || o.phase = .closing then p
    else
      match o.ended with
      | none => if o.ordered then (p.1, p.2 ++ [o.lane]) else p
      | some c => if o.ordered && p.2.contains o.lane then p else (p.1.closeOp e.1 o c, p.2)) (s, [])).1

/-- The record of an operation, from its descriptor (R145). -/
def Op.cpl (o : Op) (id status detail length data : Nat) : Cpl :=
  { status := status, kind := b2n o.recv, wq := o.wq, length := length, userCtx := o.d.userCtx, data := data,
    peer := if o.recv then o.src else o.d.targetEpa, postIdx := o.d.postIdx, detail := detail, op := some id }

/-- The first operation of a queue, in order, that is a `NOP` or a `FENCE` whose turn has come (R178, R188, R189). -/
def State.nextLocal (s : State) (fn wq : Nat) : Option (Nat × Op) :=
  let mine := s.ops.filter fun e => e.2.fn == fn && e.2.wq == wq && e.2.phase != .held && e.2.ended.isNone
  let busy := mine.any fun e => e.2.phase == .begun
  match mine.find? fun e => e.2.phase == .queued with
  | none => none
  | some e =>
    if !busy && e.2.after == [] && (e.2.d.verb = 0x00 || e.2.d.verb = 0x0A) && !e.2.recv then some e else none

/-- Operations of a queue that need no fabric begin and end as their turn comes; the first argument bounds them. -/
def State.kickLocal (s : State) (fuel fn wq : Nat) : State :=
  match fuel with
  | 0 => s
  | k + 1 =>
    match Tbl.get s.wqs (fn, wq), s.nextLocal fn wq with
    | some q, some e =>
      if q.state = .suspended || s.busHeld fn then s
      else
        let s := s.modOp e.1 fun o => { o with ended := some (e.2.cpl e.1 stOk 0 0 0) }
        (s.closeAll fn wq).kickLocal k fn wq
    | _, _ => s

/-- An operation ends with a status, a detail, a length and data (R145, R147). -/
def State.finish (s : State) (id status detail length data : Nat) : State :=
  match Tbl.get s.ops id with
  | none => s
  | some o =>
    if o.ended.isSome then s
    else
      let s := s.modOp id fun o => { o with ended := some (o.cpl id status detail length data) }
      ((s.closeAll o.fn o.wq).kickLocal s.ops.length o.fn o.wq)

/-! ## Descriptors (R142) -/

/-- A descriptor from its bytes: 64, or 256 of a long one (R142). -/
def parseDescr (b : List Byte) : Sys2Proof.Descr :=
  let w (o n : Nat) : Nat := leNat ((b.drop o).take n)
  let b1 := w 1 1
  { verb := w 0 1, noun := b1 % 8, tc := b1 / 8 % 4, long := bitOf b1 5, adverbs := w 2 2, postIdx := w 4 2,
    trigCtr := w 6 2 % 512, userCtx := w 8 8, targetEpa := w 16 4 % 2 ^ 21, key := w 20 4, remote := w 24 8,
    localAddr := w 32 8, length := w 40 4, trigThreshold := w 44 4, operand0 := w 48 8, operand1 := w 56 8,
    inline := b.drop 64,
    rsvZero := b1 / 64 == 0 && w 6 2 / 512 == 0 && w 16 4 / 2 ^ 21 == 0 && w 2 2 / 128 == 0 }

/-- Descriptors in the cache for a function (05 *The descriptor cache*). -/
def State.cachedDescs (s : State) (fn : Nat) : Nat :=
  s.wqs.foldl (fun n e => if e.1.1 = fn then n + e.2.cache.length else n) 0

/-- The first position of a queue whose descriptor is neither admitted nor cached; the cache is in ring order. -/
def Wq.fetchPos (q : Wq) : Nat :=
  q.cache.foldl (fun p (c : Cached) => if c.pos = p then wrapAdd 32 p (Descr.slots c.d) else p) q.cons

/-- A descriptor put into the cache of a queue, in ring order. -/
def Wq.put (q : Wq) (c : Cached) : Wq :=
  let early (x : Cached) : Bool := decide (wrapSub 32 x.pos q.cons < wrapSub 32 c.pos q.cons)
  { q with cache := q.cache.filter early ++ [c] ++ q.cache.filter fun x => !early x && x.pos != c.pos }

/-- Is a descriptor-cache entry free for a queue (05 *The descriptor cache*)? -/
def State.cacheRoom (s : State) (fn : Nat) (q : Wq) : Bool :=
  decide (q.cache.length < min 8 (s.rd F.CMD_CTL_PREFETCH)) && decide (s.cachedDescs fn < 4096)

/-- The next covered descriptor of a queue fetched, where the cache has room (R103, R126, R137). A fault suspends the queue
(R141). -/
def State.fetchNext (s : State) (fn n : Nat) : State :=
  match Tbl.get s.wqs (fn, n) with
  | none => s
  | some q =>
    let pos := q.fetchPos
    let room := s.cacheRoom fn q || pos = q.cons
    let go := (q.state == .active && !q.hold) || q.state == .draining
    let short := decide (wrapSub 32 q.prod pos < (if q.part = [] then 1 else 4))
    if q.fetching.isSome || !go || !room || short || (s.hf fn).resetH then s
    else
      let off := if q.part = [] then 0 else 64
      let len := if q.part = [] then 64 else 192
      let a := q.base + 64 * (pos % 2 ^ q.log2) + off
      let (s, r) := s.xlat (.desc fn n) fn q.as a len true false
      match r with
      | .wait => s.modWq fn n fun q => { q with fetchWait := true }
      | .fault kind level iova =>
        let s := s.faultRecord fn { kind := kind, source := 4, level := level, master := 0x18, as := q.as, iova := iova, context := n }
        if q.state = .draining then
          (s.modWq fn n fun q => Wq.put { q with fetchWait := false, part := [] } { pos := pos, d := { verb := 0xFF, postIdx := pos % 65536 } })
        else s.modWq fn n fun q => { q with state := .suspended, fetchFault := true, fetchWait := false }
      | .ok ps se =>
        if se && pos ≠ q.cons then s
        else
          let (s, id) := (s.dropGrants (.desc fn n)).hostReadV fn ps len (.desc fn n) (some a) none q.as
          let s := s.tally .cmd 3
          s.modWq fn n fun q => { q with fetching := some id, fetchWait := false }

end Sys2Proof.Machine
end

