-- ==== Sys2Proof/Machine/Routing.lean ====
section
/-! DEFINITION. Machine/Routing.lean: the road book: composing routes, choosing candidates, return routes, path faults and
quarantine (11). -/

namespace Sys2Proof.Machine

/-- State of a port: 0 `DOWN`, 1 `TRAIN`, 2 `ALIGN`, 3 `UP`, 4 `DRAIN`, 5 `FENCED` (R440). -/
def State.portState (s : State) (p : Nat) : Nat := s.rd F.LNK_STAT_STATE p

/-- Class of a port (R361). -/
def State.portClass (s : State) (p : Nat) : Nat := bitsOf (s.rd F.RTB_PORT_CLASSk_CLASS 0 (p / 32)) (2 * (p % 32)) 2

/-- The return trail of a packet received with `n` milestones consumed, arriving on a port (R360): its milestones. -/
def trailBack (r : Route) (n port : Nat) : List Milestone :=
  (List.range n).map fun j =>
    if j = 0 then { port := port, vc := 0, cls := 0 : Milestone }
    else { port := (r.ms.getD (n - j) { port := 0, vc := 0, cls := 0 }).port, vc := 0, cls := 0 }

/-- The route of an answer along the return trail (R360). -/
def State.answerRoute (s : State) (r : Route) (n port : Nat) : Route :=
  { hops := n, nofault := true, trail := true, srcDid := s.did, dstDid := r.srcDid, ms := trailBack r n port }

/-! ## Composition (R361 to R370) -/

/-- The VC rule (R361), with the class check of milestone 0 at the source (R362). -/
def State.vcRule (s : State) (base : Nat) (prev : Option Milestone) : List Milestone → Bool
  | [] => true
  | h :: rest =>
    (decide (base ≤ h.vc) && decide (h.vc ≤ base + 3)) &&
    (match prev with
      | none => !s.on F.RTB_CTL_CLASS_CHECK || h.cls == s.portClass h.port
      | some p => decide (p.vc ≤ h.vc) &&
          !(s.on F.RTB_CTL_GLOBAL_EN && h.cls == s.rd F.RTB_CTL_GLOBAL_CLASS && h.vc == p.vc) &&
          !(h.vc == p.vc && decide (h.cls ≤ p.cls))) &&
    s.vcRule base (some h) rest

/-- Base of a bank of the road book in on-package memory (R364). -/
def State.bankBase (s : State) (bank : Nat) : Nat := s.planBase 3 + bank * (s.planSize 3 / 2)

/-- A little-endian word of the active bank. -/
def State.bookWord (s : State) (off n : Nat) : Nat := s.word (s.bankBase (s.rd F.RTB_BOOK_STAT_ACTIVE_BANK) + off) n

/-- The milestone of 12 bits (R356). -/
def milestone (v : Nat) : Milestone := { port := bitsOf v 5 7, vc := bitsOf v 2 3, cls := bitsOf v 0 2 }

/-- The first `n` milestones of a road-book entry (R368, R369). -/
def bookMs (e n : Nat) : List Milestone := (List.range n).map fun i => milestone (bitsOf e (12 * i) 12)

/-- What composing answers (R370): the milestones, or that the candidate does not exist, or is refused. -/
inductive Comp where
  | none
  | refused
  | route (ms : List Milestone) (weight : Nat)
deriving DecidableEq, Repr

/-- The VC base of a traffic class (R361). -/
def vcBase (tc : Nat) : Nat := if tc ≤ 1 then 0 else 4

/-- The check that ends a composition (R361, R370). -/
def State.checked (s : State) (tc weight : Nat) (path : List Milestone) : Comp :=
  let ms := path.map fun h => { h with vc := h.vc + vcBase tc }
  if ms.length < 1 || 10 < ms.length || !s.vcRule (vcBase tc) none ms then .refused else .route ms weight

/-- A group leg or intra-group leg of the leg mode: weight, entry member, milestones; no milestones for a reserved value, which
refuses the candidate whatever its weight (R369, R370). -/
def leg (e : Nat) : Option (Nat × Nat × Option (List Milestone)) :=
  let hops := bitsOf e 48 4
  let weight := bitsOf e 58 4
  if e / 2 ^ 62 ≠ 0 then some (weight, bitsOf e 52 6, Option.none)
  else if weight = 0 then Option.none
  else some (weight, bitsOf e 52 6, if hops = 0 || 4 < hops then Option.none else some (bookMs e hops))

/-- Where the words lie that composing a candidate reads: bank offset and length (R368 to R370). -/
def State.bookReads (s : State) (d c : Nat) : List (Nat × Nat) :=
  if s.on F.RTB_CTL_MODE then [(d * 256 + 16 * c, 16)]
  else
    let m := s.bookWord (4 * d) 4
    let group := bitsOf m 0 13
    let member := bitsOf m 13 6
    if !bitOf m 19 || m / 2 ^ 20 ≠ 0 then [(4 * d, 4)]
    else if group = s.rd F.RTB_LEG_CFG_OWN_GROUP then [(4 * d, 4), (0x210000 + 256 * member + 16 * c, 16)]
    else
      let at_ := 0x100000 + 256 * group + 16 * c
      let g := s.bookWord at_ 16
      if bitsOf g 58 4 = 0 || g / 2 ^ 62 ≠ 0 then [(4 * d, 4), (at_, 16)]
      else [(4 * d, 4), (at_, 16), (0x214000 + 256 * bitsOf g 52 6 + 4 * member, 4)]

/-- The poisoned word that composing a candidate would read first (R384 index 2, R511). -/
def State.bookPoison (s : State) (d c : Nat) : Option Nat :=
  let base := s.bankBase (s.rd F.RTB_BOOK_STAT_ACTIVE_BANK)
  ((s.bookReads d c).find? fun x => !s.clean (base + x.1) x.2).map fun x => base + x.1

/-- Can the road book be read for a destination (R375, R384 index 2, R503, R539)? -/
def State.bookReadable (s : State) (d : Nat) : Bool :=
  !s.bookLost.contains d && !s.memFenced && !s.memDenied .rtb (s.bankBase (s.rd F.RTB_BOOK_STAT_ACTIVE_BANK))

/-- `compose` of R370. -/
def State.compose (s : State) (d tc c : Nat) : Comp :=
  if d = s.did then .route [] 0
  else if !s.bookReadable d || (s.bookPoison d c).isSome then .none
  else if s.on F.RTB_CTL_MODE then
    let e := s.bookWord (d * 256 + 16 * c) 16
    let hops := bitsOf e 120 4
    let weight := bitsOf e 124 4
    if weight = 0 then .none
    else if hops = 0 || 10 < hops then .refused
    else s.checked tc weight (bookMs e hops)
  else
    let m := s.bookWord (4 * d) 4
    let group := bitsOf m 0 13
    let member := bitsOf m 13 6
    if m / 2 ^ 20 ≠ 0 then .refused
    else if !bitOf m 19 then .none
    else if group = s.rd F.RTB_LEG_CFG_OWN_GROUP then
      match leg (s.bookWord (0x210000 + 256 * member + 16 * c) 16) with
      | Option.none => .none
      | some (_, _, Option.none) => .refused
      | some (w, _, some path) => s.checked tc w path
    else
      match leg (s.bookWord (0x100000 + 256 * group + 16 * c) 16) with
      | Option.none => .none
      | some (_, _, Option.none) => .refused
      | some (w, entry, some path) =>
        let f := s.bookWord (0x214000 + 256 * entry + 4 * member) 4
        let n := bitsOf f 24 2
        if n = 3 || f / 2 ^ 26 ≠ 0 then .refused
        else
          let last := (path.getLast?.map Milestone.vc).getD 0
          s.checked tc w (path ++ (bookMs f n).map fun h => { h with vc := last + h.vc })

/-! ## Estimates (R371, R372) -/

/-- The estimate key of a destination. -/
def State.estKey (s : State) (d : Nat) : Nat × Nat :=
  if s.on F.RTB_CTL_MODE then (2, d)
  else
    let m := s.bookWord (4 * d) 4
    if bitsOf m 0 13 = s.rd F.RTB_LEG_CFG_OWN_GROUP then (1, bitsOf m 13 6) else (0, bitsOf m 0 13)

/-- The estimate of a candidate, or the prior where it has no history (`fresh`, R372). -/
def State.estimate (s : State) (d c : Nat) : Nat :=
  match Tbl.get s.ests (s.estKey d, c) with
  | some e => if s.now < e.stamp + us (s.rd F.RTB_EST_AGE_US) then e.value else s.rd F.RTB_EST_PRIOR
  | none => s.rd F.RTB_EST_PRIOR

/-- An estimate recorded at the present device time, with its list in the road-book cache; without the list there is nowhere to
hold it (R371). -/
def State.setEst (s : State) (d c v : Nat) : State :=
  if s.bookCache.contains (s.estKey d) then { s with ests := Tbl.set s.ests (s.estKey d, c) { value := v, stamp := s.now } } else s

/-- A list with its estimates leaves the road-book cache (R371). -/
def State.evictList (s : State) (k : Nat × Nat) : State :=
  { s with bookCache := s.bookCache.erase k, ests := Tbl.keep s.ests fun x _ => x.1 != k }

/-- Is the candidate list of a destination in the road-book cache? -/
def State.listHeld (s : State) (d : Nat) : Bool := s.bookCache.contains (s.estKey d)

/-- The fetch of a list begins, if fewer than 64 are outstanding (R367, *Road-book timing*). -/
def State.fetchList (s : State) (k : Nat × Nat) : State :=
  if Tbl.has s.listFetch k || decide (64 ≤ s.listFetch.length) then s
  else
    let s := s.memDeny .rtb (s.bankBase (s.rd F.RTB_BOOK_STAT_ACTIVE_BANK)) 256
    { s with listFetch := Tbl.set s.listFetch k (s.now + if s.on F.RTB_CTL_MODE then 120 else 240) }

/-- A packet toward a destination misses in the road-book cache: its list is fetched (R367). -/
def State.missList (s : State) (d : Nat) : State :=
  let k := s.estKey d
  if s.bookCache.contains k || Tbl.has s.listFetch k || decide (64 ≤ s.listFetch.length) then s
  else ((s.bump F.RTB_CACHE_MISSES).tally .rtb 1).fetchList k

/-- A list that was fetched is held: 4 MiB, that is 16,384 lists of 256 B; which list leaves a full cache is a free value (R371; log
entry 54). -/
def State.holdList (s : State) (k : Nat × Nat) : State :=
  let s := if s.bookCache.length < 16384 then s else
    match s.bookCache[s.freeVal % s.bookCache.length]? with
    | some old => s.drawn.evictList old
    | none => s
  { s with bookCache := s.bookCache ++ [k], listFetch := Tbl.del s.listFetch k }

/-- Low four bits of the road-book generation. -/
def State.bgen (s : State) : Nat := s.rd F.RTB_BOOK_STAT_GEN % 16

/-- `on_sample` (R372); the report names the generation its copy carried. -/
def State.onSample (s : State) (d c bgen rtt base : Nat) (marked : Bool) : State :=
  if bgen ≠ s.bgen then s
  else
    let x := if base < rtt then (rtt - base) / orWhenZero (s.rd F.RTB_EST_UNIT_NS) 1 else 0
    let x := min (if marked then x + s.rd F.RTB_EST_MARK_PENALTY else x) 255
    let v := s.estimate d c
    let g := orWhenZero (s.rd F.RTB_EST_GAIN) 1
    s.setEst d c (if v ≤ x then v + (x - v) * g / 8 else v - (v - x) * g / 8)

/-- `on_failed` (R372). -/
def State.onFailed (s : State) (d c bgen : Nat) : State := if bgen ≠ s.bgen then s else (s.setEst d c 255).tally .rtb 5

/-! ## Choosing a candidate (R371 to R375) -/

/-- Does a route begin with a quarantined prefix? (R380) -/
def State.quarantined (s : State) (ms : List Milestone) : Bool :=
  s.quars.any fun q => decide (s.now < q.until_) && q.ports == (ms.map Milestone.port).take q.ports.length

/-- A composed candidate: index, weight, milestones. -/
structure Cand where
  idx : Nat
  weight : Nat
  ms : List Milestone
deriving DecidableEq, Repr

/-- A composition refused (R362). -/
def State.refuseCand (s : State) (d c : Nat) : State :=
  let s := { s with excluded := if s.excluded.contains (d, c) then s.excluded else s.excluded ++ [(d, c)] }
  ((s.bump F.RTB_CNT_REFUSED).tally .rtb 9).berr .rtb 3 { access := accInternal, addr := d * 16 + c }

/-- A poisoned word met in the road book: the destination has no route until the next accepted commit (R375, R384 index 2). -/
def State.loseDest (s : State) (d a : Nat) : State :=
  ({ s with bookLost := s.bookLost ++ [d] } : State).berr .rtb 2 { access := accMemRead, addr := a }

/-- The candidates of a destination that are not excluded, composed in turn from index `c` on; a refused one is recorded and
excluded (R362, R370); an unrecoverable read leaves the destination without candidates (R375). -/
def State.survey (s : State) (d tc : Nat) : List Nat → State × List Cand
  | [] => (s, [])
  | c :: rest =>
    if s.excluded.contains (d, c) then s.survey d tc rest
    else if s.bookReadable d && d != s.did && (s.bookPoison d c).isSome then (s.loseDest d ((s.bookPoison d c).getD 0), [])
    else
      match s.compose d tc c with
      | .none => s.survey d tc rest
      | .refused => (s.refuseCand d c).survey d tc rest
      | .route ms w =>
        let (s, l) := s.survey d tc rest
        (s, if s.bookReadable d then { idx := c, weight := w, ms := ms } :: l else [])

/-- Is a composed candidate usable (R371)? -/
def State.usable (s : State) (c : Cand) : Bool :=
  (match c.ms with
    | m :: _ => s.portState m.port == 3
    | [] => false) && !s.quarantined c.ms

/-- The candidate that a number below the total weight falls on. -/
def pick (l : List Cand) (n : Nat) : Option Cand :=
  match l with
  | [] => none
  | c :: r => if n < c.weight then some c else pick r (n - c.weight)

/-- `draw` (R373): each candidate with its share of the weight; the draw is a free value (log entry 4). -/
def State.draw (s : State) (l : List Cand) : State × Option Cand :=
  (s.drawn, pick l (s.freeVal % max 1 (l.map Cand.weight).sum))

/-- `score` (R373); `short` is the smallest number of hops among the composed candidates. -/
def State.score (s : State) (d short : Nat) (c : Cand) : Nat :=
  s.estimate d c.idx + (if short < c.ms.length then s.rd F.RTB_EST_DETOUR_BIAS else 0)

/-- `select` over the usable candidates (R373). -/
def State.choose (s : State) (d short : Nat) (l : List Cand) (prev : Option Nat) : State × Option Cand :=
  let u := match prev with
    | some p => if 1 < l.length then l.filter fun c => c.idx != p else l
    | none => l
  match s.draw u with
  | (s, none) => (s, none)
  | (s, some a) =>
    if u.length ≤ 1 then (s, some a)
    else
      match s.draw (u.filter fun c => c.idx != a.idx) with
      | (s, none) => (s, some a)
      | (s, some b) => if s.score d short b < s.score d short a then (s.tally .rtb 4, some b) else (s, some a)

/-- What choosing a route answers (R375): a candidate and its milestones; the packet must wait; or no route, with a detail. -/
inductive Choice where
  | take (cand : Nat) (ms : List Milestone)
  | wait
  | lost (detail : Nat)
deriving DecidableEq, Repr

/-- `NO_ROUTE` and `ROUTE_REFUSED` (R382). -/
def dtNoRoute : Nat := 0x0600
def dtRouteRefused : Nat := 0x0601

/-- Is a destination without candidates because each that composes is excluded (R375)? -/
def State.allRefused (s : State) (d : Nat) : Bool := s.bookReadable d && s.excluded.any fun e => e.1 == d

/-- A candidate chosen toward a destination whose list is held: `keep` is used if it is usable (R374), `prev` is avoided (R373). -/
def State.select (s : State) (d tc : Nat) (keep prev : Option Nat) : State × Choice :=
  let (s, all) := s.survey d tc (List.range 16)
  let usable := all.filter s.usable
  let short := all.foldl (fun m c => min m c.ms.length) 10
  match usable.find? fun c => some c.idx == keep with
  | some c => (s, .take c.idx c.ms)
  | none =>
    match s.choose d short usable prev with
    | (s, some c) => ((s.tally .rtb 0).when (decide (short < c.ms.length)) fun s => s.tally .rtb 3, .take c.idx c.ms)
    | (s, none) =>
      if all ≠ [] then (s, .wait)
      else if s.allRefused d then (s, .lost dtRouteRefused)
      else (s, .lost dtNoRoute)

/-! ## Path faults (R376 to R381) -/

/-- Path-fault reasons (R376). -/
def pfLinkDown : Nat := 1
def pfNoPort : Nat := 2
def pfFenced : Nat := 3
def pfVcOrder : Nat := 4
def pfClass : Nat := 5

/-- The device time at which the first of some quarantines ends. -/
def firstEnd : List Quar → Nat
  | [] => 0
  | q :: rest => rest.foldl (fun m (x : Quar) => min m x.until_) q.until_

/-- Quarantines whose time has passed end, and waiting packets are offered again (R375, R381). -/
def State.quarOver (s : State) : State :=
  if s.quars.any fun x => decide (x.until_ ≤ s.now) then ({ s with quars := s.quars.filter fun x => decide (s.now < x.until_) } : State).later .offer
  else s

/-- A prefix quarantined; a full table loses the entry that ends soonest (R380). -/
def State.quarantine (s : State) (ports : List Nat) : State :=
  let t := us (s.rd F.RTB_QUAR_CTL_TIME_US)
  if t = 0 then s
  else
    let s := s.quarOver.tally .rtb 7
    let q : Quar := { ports := ports, until_ := s.now + t }
    if s.quars.any fun x => x.ports == ports then
      { s with quars := s.quars.map fun x => if x.ports == ports then q else x }
    else if s.quars.length < 1024 then { s with quars := s.quars ++ [q] }
    else
      let first := firstEnd s.quars
      let s := { s with quars := (match s.quars.find? fun (x : Quar) => x.until_ == first with
        | some x => s.quars.erase x
        | none => s.quars) ++ [q] }
      (s.bump F.RTB_QUAR_STAT_OVERFLOW).berr .rtb 4

/-- A path-fault notice examined at the source (R379, R380): `arrived` is the arrival port and the `HOPS` of its own route;
none for a drop of this device's own packet at milestone 0 (R376). -/
def State.pathFault (s : State) (h : FaultHdr) (arrived : Option (Nat × Nat)) : State :=
  let ms : List Milestone := match s.compose h.dDstDid 0 h.dCand with
    | .route ms _ => ms
    | _ => []
  let at_ : Milestone := ms.getD h.hop { port := 128, vc := 0, cls := 0 }
  let own : Bool := match arrived with
    | none => true
    | some (port, hops) => decide (hops = h.hop) && (decide (h.hop = 0) || some port == ms.head?.map Milestone.port)
  if h.dBgen = s.bgen ∧ ms.length = h.dHops ∧ h.hop < h.dHops ∧ at_.port = h.deadPort ∧ own = true then
    ((s.bump F.RTB_FAULTS_ACCEPTED).tally .rtb 6).quarantine ((ms.map Milestone.port).take (h.hop + 1))
  else s.bump F.RTB_FAULTS_STALE

/-- Quarantines whose time has passed end, and waiting packets are offered again (R381). -/
def quarantineExpire (s : State) : State :=
  if s.quars = [] then s else (s.reach (firstEnd s.quars)).quarOver

/-- Every quarantine ends (R381). -/
def State.quarClear (s : State) : State := ({ s with quars := [] } : State).later .offer

end Sys2Proof.Machine
end

