-- ==== Sys2Proof/Machine/Symbols.lean ====
section
/-! DEFINITION. Machine/Symbols.lean: how the lanes carry codewords: scrambling, the spread of symbols over lanes, and modulation (14 R451), and the
presets of a lane's transmitter and receiver (14 R453). A codeword that a port sends is emitted lane by lane; the start of the scrambler and the
parity symbols are log entry 52. -/

namespace Sys2Proof.Machine

/-- One bit through the self-synchronising scrambler x^58 + x^39 + 1: the last 58 bits sent, newest first, and the bit (R451). -/
def scrambleBit (st : List Bool) (b : Bool) : Bool := xor b (xor (st.getD 38 false) (st.getD 57 false))

/-- Bits scrambled in the order they are sent; answers what is sent, and the scrambler's bits after it (R451). -/
def scramble : List Bool → List Bool → List Bool × List Bool
  | st, [] => ([], st)
  | st, b :: bs =>
    let y := scrambleBit st b
    let (ys, st') := scramble ((y :: st).take 58) bs
    (y :: ys, st')

/-- Bits descrambled in the order they are received: the same taps, fed with what was received (R451). -/
def descramble : List Bool → List Bool → List Bool × List Bool
  | st, [] => ([], st)
  | st, y :: ys =>
    let b := scrambleBit st y
    let (bs, st') := descramble ((y :: st).take 58) ys
    (b :: bs, st')

/-- Port lane that carries symbol `i` of a codeword on a port of `w` lanes (R451). -/
def symbolLane (w i : Nat) : Nat := i % w

/-- Symbols of a codeword that a lane carries: 272 in mode L, 544 in mode S (R421, R451). -/
def symbolsOf (w n lane : Nat) : List Nat := (List.range n).filter fun i => symbolLane w i == lane

/-- The ten bits of a symbol in the order they are sent: most significant first (R451). -/
def symbolBits (v : Nat) : List Bool := (List.range 10).map fun i => v.testBit (9 - i)

/-- Gray-coded PAM4 level of two bits, the first sent first (R451). -/
def grayLevel (a b : Bool) : Nat :=
  match a, b with
  | false, false => 0
  | false, true => 1
  | true, true => 2
  | true, false => 3

/-- Levels that a lane sends for bits: a pair a level with PAM4, a bit a level with NRZ (R450, R451). -/
def levels (nrz : Bool) : List Bool → List Nat
  | [] => []
  | [b] => [if nrz then b.toNat else grayLevel b false]
  | a :: b :: rest => if nrz then a.toNat :: levels nrz (b :: rest) else grayLevel a b :: levels nrz rest

/-- A tap's value from its field of `LAN_TX_FFEl`: two's complement (14 *LAN fields*). -/
def tapOf (v : Nat) : Int := if v % 256 < 128 then (v % 256 : Nat) else ((v % 256 : Nat) : Int) - 256

/-- Feed-forward taps of a transmit preset: pre-cursor 2, pre-cursor 1, main and post-cursor 1, in 1/64 of full swing; `own` are those of
`LAN_TX_FFEl` (R453). -/
def txTaps (preset : Nat) (own : List Int) : List Int :=
  match preset with
  | 1 => [0, -4, 60, 0]
  | 2 => [0, -6, 54, -4]
  | 3 => [2, -8, 50, -4]
  | 4 => [2, -10, 46, -6]
  | 5 => [0, 0, 56, -8]
  | 6 => [2, -12, 42, -8]
  | 15 => own
  | _ => [0, 0, 64, 0]

/-- Starting point of a receiver: 0 short, 1 medium, 2 long; 3 acts as 1 (R453). -/
def rxStart (preset : Nat) : Nat := if preset = 3 then 1 else preset

/-- Do the magnitudes of four taps sum to no more than 64 (14 *LAN fields*)? -/
def tapsOk (t : List Int) : Bool := decide ((t.map Int.natAbs).sum ≤ 64)

end Sys2Proof.Machine
end

