-- ==== Sys2Proof/Machine/Wire.lean ====
section
/-! DEFINITION. Machine/Wire.lean: the bytes that links carry: packets, flits, control blocks, item headers and alignment markers (R6; 07 R230
to R234; 09 R321; 11 R355, R378; 13 R422, R423, R439; 14 R452; 15 R485; 19 R578). -/

namespace Sys2Proof.Machine

/-! ## Packets -/

/-- The bytes of `v`, `n` of them, most significant first (R6: on the wire). -/
def beBytes (n v : Nat) : List Byte := (leBytes n v).reverse

/-- The milestone field of a route header (R355, R356). -/
def milestoneBits (ms : List Milestone) : Nat :=
  (List.range 10).foldl (fun n i =>
    let m := ms.getD i { port := 0, vc := 0, cls := 0 }
    n * 4096 + m.port * 32 + m.vc * 4 + m.cls) 0

/-- The 28 bytes of a route header (R355). -/
def Route.wire (r : Route) : List Byte :=
  beBytes 1 (r.rver * 16 + r.hopPtr) ++ beBytes 1 (r.hops * 16 + b2n r.nofault * 8 + b2n r.trail * 4) ++ beBytes 1 r.cong
    ++ beBytes 1 (r.cand * 16 + r.bgen) ++ beBytes 3 r.srcDid ++ beBytes 3 r.dstDid ++ beBytes 15 (milestoneBits r.ms)
    ++ beBytes 3 0

/-- The bytes of a transport header (R6, R232 to R234, R321, R378): 80 of a data packet, 72 of an acknowledgement, 64 of a notice, 56 of a
convoy packet, 32 of a path fault. Reserved bits are 0 here: a received packet whose reserved bits are not has `rsvZero` off. -/
def Body.header : Body → List Byte
  | .data h _ =>
    beBytes 1 (h.ver * 16 + (if h.resp then 2 else 1)) ++ beBytes 1 (h.tc * 64 + h.noun * 8) ++ beBytes 1 h.verb
      ++ beBytes 1 (b2n h.retx * 128 + b2n h.last * 64 + b2n h.ordered * 32 + b2n h.signal * 16 + b2n h.cont * 8 + b2n h.lqp * 4)
      ++ beBytes 3 h.srcEpa ++ beBytes 3 h.dstEpa ++ beBytes 2 h.tref ++ beBytes 2 h.keyEpoch ++ beBytes 2 h.payloadLen
      ++ beBytes 4 h.seq ++ beBytes 4 h.base ++ beBytes 8 h.srcEpoch ++ beBytes 4 h.segIndex ++ beBytes 4 h.msgLen
      ++ beBytes 4 h.key ++ beBytes 4 h.opTag ++ beBytes 8 h.remote ++ beBytes 4 h.aux ++ beBytes 4 h.dstLqp ++ beBytes 8 h.time
      ++ beBytes 8 h.pktCtr
  | .ack h =>
    beBytes 1 (h.ver * 16 + 3) ++ beBytes 1 (h.tc * 64 + b2n h.hasStatus * 32 + b2n h.dup * 16) ++ beBytes 1 h.status
      ++ beBytes 1 0 ++ beBytes 3 h.srcEpa ++ beBytes 3 h.dstEpa ++ beBytes 2 h.tref ++ beBytes 2 h.keyEpoch ++ beBytes 2 h.detail
      ++ beBytes 4 h.cum ++ beBytes 4 h.statusSeq ++ beBytes 8 h.echoEpoch ++ beBytes 8 h.bitmap ++ beBytes 1 h.echoCong
      ++ beBytes 1 h.echoMarked ++ beBytes 6 0 ++ beBytes 8 h.tsEcho ++ beBytes 8 h.time ++ beBytes 8 h.pktCtr
  | .notice h =>
    beBytes 1 (h.ver * 16 + 4) ++ beBytes 1 (h.tc * 64) ++ beBytes 1 h.ntype ++ beBytes 1 0 ++ beBytes 3 h.srcEpa
      ++ beBytes 3 h.dstEpa ++ beBytes 2 h.tref ++ beBytes 2 h.keyEpoch ++ beBytes 2 h.reason ++ beBytes 4 h.refSeq
      ++ beBytes 4 h.opTag ++ beBytes 8 h.echoEpoch ++ beBytes 8 h.offset ++ beBytes 8 h.tsEcho ++ beBytes 8 h.time ++ beBytes 8 h.pktCtr
  | .convoy h _ =>
    beBytes 1 (h.ver * 16 + 5) ++ beBytes 1 (h.ckind * 16 + b2n h.alt * 8 + b2n h.missed * 4) ++ beBytes 2 h.slot
      ++ beBytes 2 h.round ++ beBytes 2 h.wbase ++ beBytes 1 (h.dtype * 16 + h.operation)
      ++ beBytes 1 (b2n h.hasAcc * 64 + h.mode * 16 + h.operator) ++ beBytes 2 h.tref ++ beBytes 2 h.keyEpoch ++ beBytes 2 h.payloadLen
      ++ beBytes 2 h.inLen ++ beBytes 2 h.index ++ beBytes 4 h.srcDid ++ beBytes 4 h.count
      ++ beBytes 4 (h.missingDid + h.missingPort * 2 ^ 18 + b2n h.missingValid * 2 ^ 25) ++ beBytes 2 h.detail ++ beBytes 6 0
      ++ beBytes 8 h.time ++ beBytes 8 h.pktCtr
  | .pathFault h =>
    beBytes 1 (h.ver * 16 + 6) ++ beBytes 1 h.reason ++ beBytes 1 (h.dHops * 16 + h.hop) ++ beBytes 1 (h.dCand * 16 + h.dBgen)
      ++ beBytes 3 h.reporter ++ beBytes 1 h.deadPort ++ beBytes 3 h.dDstDid ++ beBytes 1 h.dVc ++ beBytes 4 h.heldUs
      ++ beBytes 8 h.time ++ beBytes 8 0
  | .other t => beBytes 1 (16 + t) ++ List.replicate 31 0

/-- The payload of a transport packet (R230). -/
def Body.payload : Body → List Byte
  | .data _ d => d
  | .convoy _ d => d
  | _ => []

/-- The bytes of a packet on the wire: route header, transport header, payload and tag (R230, R355). -/
def Pkt.wire (p : Pkt) : List Byte := Route.wire p.route ++ Body.header p.body ++ Body.payload p.body ++ beBytes 16 p.tag

/-- Is byte `i` of a transport header encrypted in a sealed tenancy? (R485) -/
def Body.hidden (b : Body) (i : Nat) : Bool :=
  match b with
  | .data .. => decide (16 ≤ i ∧ i < 64)
  | .convoy .. => decide (24 ≤ i ∧ i < 40)
  | _ => false

/-- The bytes of a packet as a link carries them: what its tenancy encrypts is as the cipher leaves it (R230, R485; log entry 6). -/
def Pkt.onLink (p : Pkt) : List Byte :=
  let h := Body.header p.body
  let n := (Body.payload p.body).length
  Route.wire p.route
    ++ (List.range h.length).map (fun i => if Body.hidden p.body i then Config.cipherByte p.body p.tag i else h.getD i 0)
    ++ (List.range n).map (fun i => Config.cipherByte p.body p.tag (h.length + i)) ++ beBytes 16 p.tag

/-- The number whose bytes these are, most significant first. -/
def beNat (b : List Byte) : Nat := b.foldl (fun n x => n * 256 + x.toNat) 0

/-- The number in bytes `i` to `i + n - 1`. -/
def wireField (b : List Byte) (i n : Nat) : Nat := beNat ((b.drop i).take n)

/-! ## Control blocks (R439, R578) -/

/-- The 16 bytes of a control block. -/
def Ctl.bytes : Ctl → List Byte
  | .none => List.replicate 16 0
  | .init fec seen width port did tTx resid =>
    beBytes 1 1 ++ beBytes 1 (fec + 4 * b2n seen) ++ beBytes 1 width ++ beBytes 1 port ++ beBytes 3 did ++ beBytes 1 0 ++ beBytes 4 tTx
      ++ beBytes 4 resid
  | .credit a b adv hA dA hB dB =>
    beBytes 1 2 ++ beBytes 1 (a + 16 * b) ++ beBytes 1 (b2n adv) ++ beBytes 1 0 ++ beBytes 2 hA ++ beBytes 2 dA ++ beBytes 2 hB
      ++ beBytes 2 dB ++ beBytes 4 0
  | .audit k at_ fH fD rH rD =>
    beBytes 1 3 ++ beBytes 1 k ++ beBytes 2 at_ ++ beBytes 2 fH ++ beBytes 2 fD ++ beBytes 2 rH ++ beBytes 2 rD ++ beBytes 4 0
  | .vcbOnOff x g => beBytes 1 4 ++ beBytes 1 (b2n x) ++ beBytes 2 g ++ beBytes 12 0
  | .time num echo ev resid tTx => beBytes 1 5 ++ beBytes 1 num ++ beBytes 1 echo ++ beBytes 1 (b2n ev) ++ beBytes 4 resid ++ beBytes 8 tTx
  | .timeInfo prio did steps st pps seq est =>
    beBytes 1 6 ++ beBytes 1 prio ++ beBytes 3 did ++ beBytes 1 steps ++ beBytes 1 (st + 4 * b2n pps) ++ beBytes 2 seq ++ beBytes 4 est
      ++ beBytes 3 0
  | .drain => beBytes 1 7 ++ beBytes 15 0

/-- The block that a `CTYPE` names, with its fields as the bytes spell them; none for a reserved `CTYPE`. -/
def ctlFields (b : List Byte) : Option Ctl :=
  let f (i n lo w : Nat) : Nat := bitsOf (wireField b i n) lo w
  let on (i k : Nat) : Bool := bitOf (wireField b i 1) k
  match wireField b 0 1 with
  | 0 => some .none
  | 1 => some (.init (f 1 1 0 2) (on 1 2) (f 2 1 0 5) (f 3 1 0 7) (f 4 3 0 18) (f 8 4 0 32) (f 12 4 0 32))
  | 2 => some (.credit (f 1 1 0 4) (f 1 1 4 4) (on 2 0) (f 4 2 0 16) (f 6 2 0 16) (f 8 2 0 16) (f 10 2 0 16))
  | 3 => some (.audit (f 1 1 0 4) (f 2 2 0 12) (f 4 2 0 16) (f 6 2 0 16) (f 8 2 0 16) (f 10 2 0 16))
  | 4 => some (.vcbOnOff (on 1 0) (f 2 2 0 9))
  | 5 => some (.time (f 1 1 0 8) (f 2 1 0 8) (on 3 0) (f 4 4 0 32) (f 8 8 0 64))
  | 6 => some (.timeInfo (f 1 1 0 8) (f 2 3 0 18) (f 5 1 0 8) (f 6 1 0 2) (on 6 2) (f 7 2 0 16) (f 9 4 0 32))
  | 7 => some .drain
  | _ => none

/-- The control block that 16 bytes spell; none where its `CTYPE` is reserved or a reserved field is not 0 (R439). -/
def ctlOf (b : List Byte) : Option Ctl := (ctlFields b).filter fun c => Ctl.bytes c == b

/-! ## Items (R423, R424) -/

/-- What an item header says. -/
inductive ItemHdr where
  | pad
  | packet (vc pool len : Nat)
  | malformed
deriving DecidableEq, Repr

/-- The four bytes of a `PACKET` item's header. -/
def itemBytes (vc pool len : Nat) : List Byte := beBytes 1 (16 + vc) ++ beBytes 1 pool ++ beBytes 2 len

/-- The item that a header begins (R424). -/
def itemOf (h : List Byte) : ItemHdr :=
  let t := wireField h 0 1
  let vc := t % 16
  let pool := wireField h 1 1
  let len := wireField h 2 2
  if t / 16 = 0 then .pad
  else if 1 < t / 16 || 8 < vc || 1 < pool || len < 76 || 4220 < len || (vc = 8 && pool = 1) then .malformed
  else .packet vc pool len

/-- Bytes of a piece of the item stream. -/
def Piece.len : Piece → Nat
  | .item _ => 4
  | .part _ _ n => n
  | .zeros n => n

/-- The bytes themselves. -/
def Piece.bytes : Piece → List Byte
  | .item h => h
  | .part p off n => ((Pkt.onLink p).drop off).take n
  | .zeros n => List.replicate n 0

/-! ## Flits (R422) -/

/-- Bytes 0 to 315 of a flit, which its `CRC` covers. -/
def Flit.body (f : Flit) : List Byte :=
  let head := beBytes 1 (f.fver * 16 + b2n f.seqd * 8 + b2n f.ackValid * 4 + b2n f.nak * 2 + b2n f.poison)
    ++ beBytes 1 (f.ctl.length * 64 + f.rsv.1) ++ beBytes 2 (f.rsv.2.1 * 4096 + f.seq) ++ beBytes 2 (f.rsv.2.2.1 * 4096 + f.ackSeq)
    ++ beBytes 2 (f.rsv.2.2.2 * 512 + f.first)
  (head ++ f.ctl.flatten ++ f.data.flatMap Piece.bytes ++ List.replicate 316 0).take 316

/-- Does the `CRC` of a flit check? -/
def Flit.crcOk (f : Flit) : Bool := crc32 (Flit.body f) == f.crc

/-- A flit with its `CRC` built. -/
def Flit.signed (f : Flit) : Flit := { f with crc := crc32 (Flit.body f) }

/-- Room for the item stream in the data area (R422). -/
def Flit.room (f : Flit) : Nat := 308 - 16 * f.ctl.length

/-- The bits of a flit in the order they are sent: byte 0 first, the most significant bit of each byte first (R6). -/
def Flit.bits (f : Flit) : List Bool :=
  (Flit.body f ++ beBytes 4 f.crc).flatMap fun b => (List.range 8).map fun i => b.toNat.testBit (7 - i)

/-! ## Alignment markers (R452, R457) -/

/-- `SYNC` of an alignment marker. -/
def markerSync : List Byte := [0x4D, 0xA7, 0x2C, 0x91, 0xE3, 0x5B]

/-- The 15 bytes of a marker: port lane, readiness of the sender's receiver, in a training frame or not, port slot. -/
def markerBytes (plane : Nat) (ready training : Bool) (port : Nat) : List Byte :=
  let b := plane + 4 * b2n ready + 8 * b2n training
  markerSync ++ beBytes 1 b ++ beBytes 1 port ++ markerSync.map (fun x => ~~~x) ++ beBytes 1 (b ^^^ port)

/-- What a marker carries. -/
structure Marker where
  plane : Nat
  ready : Bool
  training : Bool
  port : Nat
deriving DecidableEq, Repr

/-- The marker that 15 bytes spell, where `SYNC`, `NSYNC` and `CHECK` are correct (R457). -/
def markerOf (b : List Byte) : Option Marker :=
  if b.length = 15 ∧ b.take 6 = markerSync ∧ (b.drop 8).take 6 = markerSync.map (fun x => ~~~x)
      ∧ wireField b 14 1 = (wireField b 6 1 ^^^ wireField b 7 1) then
    some { plane := wireField b 6 1 % 4, ready := bitOf (wireField b 6 1) 2, training := bitOf (wireField b 6 1) 3, port := wireField b 7 1 % 128 }
  else none

end Sys2Proof.Machine
end

