-- ==== Sys2Proof/Machine/Port.lean ====
section
/-! DEFINITION. Machine/Port.lean: ports and their lanes: what they hold, what their lanes send, and the flits that a port
sends (13 R421 to R423, R427, R429, R431, R440; 14 R446 to R463). -/

namespace Sys2Proof.Machine

/-- What a port holds. -/
def State.port (s : State) (p : Nat) : PortSt := Tbl.getD s.ports p {}

/-- A port changed. -/
def State.modPort (s : State) (p : Nat) (f : PortSt → PortSt) : State := { s with ports := Tbl.set s.ports p (f (s.port p)) }

/-- What a lane holds. -/
def State.lane (s : State) (l : Nat) : LaneSt := Tbl.getD s.lanes l {}

/-- A lane changed. -/
def State.modLane (s : State) (l : Nat) (f : LaneSt → LaneSt) : State := { s with lanes := Tbl.set s.lanes l (f (s.lane l)) }

/-- The group lanes of port lanes 0, 1, ... of a port slot; none where no port takes the slot (R447, R448). -/
def State.portLanes (s : State) (p : Nat) : Option (List Nat) :=
  let g := p / 4
  let k := p % 4
  let order (l : List Nat) : List Nat := if s.on F.LAN_CFG_REVERSE g then l.reverse else l
  match s.rd F.LAN_CFG_SPLIT g with
  | 0 => if k = s.rd F.LAN_CFG_SLOT_A g then some (order [0, 1, 2, 3]) else none
  | 1 => if k = s.rd F.LAN_CFG_SLOT_A g then some (order [0, 1])
         else if k = s.rd F.LAN_CFG_SLOT_B g then some (order [2, 3]) else none
  | _ => some [k]

/-- Is a port slot a configured port? (R448) -/
def State.configured (s : State) (p : Nat) : Bool := (s.portLanes p).isSome

/-- The port that a lane of a group belongs to, and its port lane. -/
def State.portOfLane (s : State) (g l : Nat) : Option (Nat × Nat) :=
  (List.range 4).findSome? fun k =>
    match s.portLanes (4 * g + k) with
    | none => none
    | some ls => if ls.contains l then some (4 * g + k, ls.idxOf l) else none

/-- State of a lane (R454). -/
def State.laneState (s : State) (g l : Nat) : Nat := s.rd F.LAN_LANE_STATl_STATE g l

/-- Is a lane fenced: its own fence, or its group's page? (R463, R502) -/
def State.laneFenced (s : State) (g l : Nat) : Bool := s.on F.LAN_LANE_CTLl_FENCE g l || s.fenced (Block.lan.page + g)

/-- Is a lane kept squelched? (R454) -/
def State.laneOff (s : State) (g l : Nat) : Bool := s.laneFenced g l || s.on F.LAN_LANE_CTLl_TX_OFF g l

/-! ## What the lanes send (R421, R427, R451 to R454, R458, R460, R461) -/

/-- What a lane's transmitter sends now: in its states of bring-up training frames, or in `ALIGN`, `UP` and `DRAIN` of its port its share of
the codewords; in `TEST` what generator and loopback give (R452, R454, R460). -/
def State.laneTx (s : State) (g l : Nat) : LaneTx :=
  match s.laneState g l with
  | 0 | 1 | 7 => .idle
  | 6 =>
    match s.rd F.LAN_TESTl_LOOP g l with
    | 2 => .idle
    | 3 => .received
    | _ => if s.on F.LAN_TESTl_GEN g l then .pattern (s.rd F.LAN_TESTl_GEN g l) else .idle
  | _ =>
    match s.portOfLane g l with
    | none => .idle
    | some (p, i) =>
      if 2 ≤ s.portState p && s.portState p ≤ 4 then .codewords
      else .training (markerBytes i (s.lane (4 * g + l)).passed true p) (if s.rd F.LAN_CFG_RATE g = 3 then 31 else 13)

/-- A change of what a lane sends is given to the outside. -/
def State.showTx (s : State) (g l : Nat) : State :=
  let tx := s.laneTx g l
  if (s.lane (4 * g + l)).sends = tx then s
  else (s.modLane (4 * g + l) fun k => { k with sends := tx }).emit (.lane (4 * g + l) tx)

/-- The same for every lane of a port. -/
def State.showLanes (s : State) (p : Nat) : State := ((s.portLanes p).getD []).foldl (fun s l => s.showTx (p / 4) l) s

/-- The lanes of a port's set by number, in port-lane order. -/
def State.setLanes (s : State) (p : Nat) : List Nat :=
  let ls := (s.portLanes p).getD []
  (s.port p).set.map fun i => 4 * (p / 4) + ls.getD i 0

/-- Which of `n` symbols that a lane sends next are inverted, and the lane afterwards (R461): the next ones of a single or burst; with
`MODE` 3 every 2^`RATE_LOG2`-th. -/
def State.injects (s : State) (l n : Nat) : List Nat × LaneSt :=
  let k := s.lane l
  if s.rd F.LAN_INJECTl_MODE (l / 4) (l % 4) = 3 then
    let every := 2 ^ max 10 (s.rd F.LAN_INJECTl_RATE_LOG2 (l / 4) (l % 4))
    ((List.range n).filter fun i => (k.injectPhase + i + 1) % every == 0, { k with injectPhase := (k.injectPhase + n) % every })
  else (List.range (min n k.inject), { k with inject := k.inject - n })

/-- A lane sends symbols: the chosen ones with all ten bits inverted and counted (R461), each symbol most significant bit first, in levels
(R450, R451). -/
def State.laneSend (s : State) (l : Nat) (syms : List Nat) : State × List Nat :=
  let (hit, k) := s.injects l syms.length
  let s := (s.modLane l fun _ => k).when (hit != []) fun s => s.bump F.LAN_INJECTl_INJECTED hit.length (l / 4) (l % 4)
  let sent := (List.range syms.length).map fun i => if hit.contains i then syms.getD i 0 ^^^ 0x3FF else syms.getD i 0
  (s, levels (s.rd F.LAN_CFG_RATE (l / 4) == 3) (sent.flatMap symbolBits))

/-- The lanes of a port send their shares. -/
def State.sendShares (s : State) (p : Nat) (share : Nat → List Nat) : State :=
  let ls := s.setLanes p
  let (s, r) := (List.range ls.length).foldl (fun (x : State × List (Nat × List Nat)) i =>
    let (s, lv) := x.1.laneSend (ls.getD i 0) (share i)
    (s, x.2 ++ [(ls.getD i 0, lv)])) (s, [])
  s.emit (.codeword p r)

/-- The symbols whose bits these are, ten bits each (R451). -/
def symbolsFrom : Nat → List Bool → List Nat
  | 0, _ => []
  | n + 1, b => (b.take 10).foldl (fun v x => 2 * v + x.toNat) 0 :: symbolsFrom n (b.drop 10)

/-- A codeword of a port: its data bits after scrambling, then zeros, then parity (R421, R427, R451). After every 1,048,576 codewords an
alignment codeword takes the place of one: a marker on each lane, then zeros (R458). -/
def State.sendCodeword (s : State) (p : Nat) (bits : List Bool) : State :=
  let mode := s.rd F.LNK_STAT_FEC_ACTIVE p
  let n := if mode = 0 then 257 else 514
  let data := symbolsFrom n (bits ++ List.replicate 20 false)
  let all := data ++ Config.fecParity mode data
  let w := (s.port p).set.length
  let s := s.sendShares p fun i => (symbolsOf w (if mode = 0 then 272 else 544) i).map fun k => all.getD k 0
  let s := s.modPort p fun q => { q with sinceAlign := q.sinceAlign + 1 }
  if (s.port p).sinceAlign < 1048576 then s
  else
    let per := (if mode = 0 then 272 else 544) / max 1 w
    (s.modPort p fun q => { q with sinceAlign := 0 }).sendShares p fun i =>
      let m := (markerBytes ((s.port p).set.getD i 0) true false p).flatMap fun b => (List.range 8).map fun k => b.toNat.testBit (7 - k)
      symbolsFrom 12 m ++ List.replicate (per - 12) 0

/-- A flit sent: acknowledgement and `CRC` built afresh (R422, R429, R431), its bits scrambled, one flit to a codeword in mode `L`, two in
mode `S` (R421, R451). -/
def State.sendFlit (s : State) (p : Nat) (f : Flit) : State :=
  let q := s.port p
  let f := Flit.signed { f with ackValid := q.gotSeq || f.nak, ackSeq := if q.gotSeq || f.nak then q.last else 0 }
  let s := s.emit (.flit p f)
  let (bits, scr) := scramble q.scrambler (Flit.bits f)
  let s := s.modPort p fun q => { q with scrambler := scr }
  if s.rd F.LNK_STAT_FEC_ACTIVE p = 0 then s.sendCodeword p bits
  else
    match q.txHalf with
    | none => s.modPort p fun q => { q with txHalf := some bits }
    | some a => (s.modPort p fun q => { q with txHalf := none }).sendCodeword p (a ++ bits)

/-- Control blocks sent in null flits, at most three in one (R422, R439; log entry 8); a port in `DRAIN` sends `DRAIN` in each (R440). -/
def State.sendNull (s : State) (p : Nat) (blocks : List Ctl) : State :=
  let per := if s.portState p = 4 then 2 else 3
  let n := max 1 (ceilDiv blocks.length per)
  (List.range n).foldl (fun s i =>
    let c := (blocks.drop (per * i)).take per
    let c := if s.portState p = 4 && !c.contains .drain then c ++ [.drain] else c
    s.sendFlit p { ctl := c.map Ctl.bytes, data := [.zeros (308 - 16 * c.length)] }) s

/-- A null flit that asks for a replay (R429). -/
def State.sendNak (s : State) (p : Nat) : State :=
  s.sendFlit p { nak := true, ctl := if s.portState p = 4 then [Ctl.bytes .drain] else [],
                 data := [.zeros (if s.portState p = 4 then 292 else 308)] }

/-! ## Lanes and ports set -/

/-- A lane set to a state; the summaries follow (14 *LAN fields*). -/
def State.setLane (s : State) (g l st : Nat) : State :=
  let s := s.wr F.LAN_LANE_STATl_STATE st g l
  let m := s.rd F.LAN_STAT_READY g
  let s := s.wr F.LAN_STAT_READY (if st = 5 then setBit m l else clearBit m l) g
  let s := if st = 5 || st = 6 then s else s.wr F.LAN_EYEl_VALID 0 g l
  let s := if st = 2 then (s.wr F.LAN_LANE_STATl_SIGNAL 0 g l).modLane (4 * g + l) fun k => { k with passed := false, detectAt := s.now, quietAt := s.now, peerPort := none }
    else s
  s.showTx g l

/-- Must the port stand in `FENCED`: its page, its junction, or every lane of it fenced? (R440) A slot that is no
port stays in `DOWN` (R448). -/
def State.portFenced (s : State) (p : Nat) : Bool :=
  match s.portLanes p with
  | none => false
  | some ls => s.fenced (Block.lnk.page + p) || s.fenced (Block.xbr.page + p / 8) || ls.all fun l => s.laneFenced (p / 4) l

/-- The lanes of a port that are in its set show so (`LAN_STAT.IN_SET`). -/
def State.showSet (s : State) (p : Nat) (set : List Nat) : State :=
  match s.portLanes p with
  | none => s
  | some ls =>
    (List.range ls.length).foldl (fun s i =>
      let l := ls.getD i 0
      let m := s.rd F.LAN_STAT_IN_SET (p / 4)
      s.wr F.LAN_STAT_IN_SET (if set.contains i then setBit m l else clearBit m l) (p / 4)) s

/-- A port's state set. -/
def State.setPort (s : State) (p st : Nat) : State := (s.wr F.LNK_STAT_STATE st p).modPort p fun q => { q with since := s.now }

/-- Tenths of the 0.1 Mb/s: the raw rate of a port in units of 10 kb/s (R421, R450). -/
def State.rawRate (s : State) (p : Nat) : Nat :=
  let line := match s.rd F.LAN_CFG_RATE (p / 4) with
    | 0 => 21250000
    | 1 => 10625000
    | 2 => 5312500
    | _ => 2578125
  line * max 1 (s.rd F.LNK_STAT_WIDTH p)

/-- Flits that fit in some time, rounded up: `rtt` ns over `g` flit times (R421, R438). -/
def State.flitsIn (s : State) (p rtt g : Nat) : Nat := ceilDiv (rtt * s.rawRate p) (272000000 * max 1 g)

end Sys2Proof.Machine
end

