-- ==== Sys2Proof/Machine/Trace.lean ====
section
/-! DEFINITION. Machine/Trace.lean: per-packet trace records (17 R531 to R533). -/

namespace Sys2Proof.Machine

/-- Does a filter select a packet, apart from its rate (R531)? Ports: 0x80 stands for the local path. -/
def State.traceMatch (s : State) (f j rtype : Nat) (p : Pkt) (inPort inVc outPort : Nat) (dropped : Bool) : Bool :=
  s.on F.PMU_TF_CTLf_EN 0 f && (rtype == 1 || s.on F.PMU_TF_CTLf_LOCAL 0 f) && bitOf (s.rd F.PMU_TF_CTLf_JUNCTIONS 0 f) j
    && (decide (8 < inVc) || bitOf (s.rd F.PMU_TF_CTLf_VC_MASK 0 f) inVc) && bitOf (s.rd F.PMU_TF_CTLf_PTYPE_MASK 0 f) (Body.ptype p.body)
    && (s.on F.PMU_TF_PORTf_IN_ANY 0 f || s.rd F.PMU_TF_PORTf_IN_PORT 0 f == inPort)
    && (s.on F.PMU_TF_PORTf_OUT_ANY 0 f || s.rd F.PMU_TF_PORTf_OUT_PORT 0 f == outPort)
    && decide (s.rd F.PMU_TF_PORTf_CONG_MIN 0 f ≤ p.route.cong)
    && ((p.route.dstDid ^^^ s.rd F.PMU_TF_DSTf_DID 0 f) &&& s.rd F.PMU_TF_DSTf_MASK 0 f) == 0
    && ((p.route.srcDid ^^^ s.rd F.PMU_TF_SRCf_DID 0 f) &&& s.rd F.PMU_TF_SRCf_MASK 0 f) == 0
    && (!s.on F.PMU_TF_CTLf_DROPS_ONLY 0 f || dropped)

/-- The lowest filter that selects a packet; a rate below 1 is a free draw of the filter's generator (R531; log entry 4). -/
def State.traceSelect (s : State) (j rtype : Nat) (p : Pkt) (inPort inVc outPort : Nat) (dropped : Bool) : List Nat → State × Option Nat
  | [] => (s, none)
  | f :: rest =>
    if !s.traceMatch f j rtype p inPort inVc outPort dropped then s.traceSelect j rtype p inPort inVc outPort dropped rest
    else
      let rate := min 16 (s.rd F.PMU_TF_CTLf_LOG2_RATE 0 f)
      if rate = 0 then (s, some f)
      else if s.freeVal % 2 ^ rate = 0 then (s.drawn, some f)
      else s.drawn.traceSelect j rtype p inPort inVc outPort dropped rest

/-- Size of the trace ring in records (R533). -/
def State.traceSize (s : State) : Nat := s.planSize 2 / 64

/-- The trace record of a packet, if a filter selects it (R531 to R533): junction, record type, packet as it arrived, input and
output port and VC, drop cause, `CONG` after marking, time of arrival. With `PMU` fenced the crossing discards it (R12). -/
def State.trace (s : State) (j rtype : Nat) (p : Pkt) (inp out : Nat × Nat) (cause cong arrival : Nat) (poison : Bool := false) : State :=
  if !s.on F.PMU_TR_CTL_EN || s.halted || (!s.fenced Block.pmu.page && s.countStopped Block.pmu.page) then s
  else
    let dropped := cause != 0 || poison
    match s.traceSelect j rtype p inp.1 inp.2 out.1 dropped (List.range 8) with
    | (s, none) => s
    | (s, some f) =>
      if s.fenced Block.pmu.page then s.bump F.FCL_DROP_CROSSING
      else
      let head := s.rd F.PMU_TR_HEAD_HEAD
      let size := s.traceSize
      let s := s.tally .xbr 14 1 j
      if size = 0 || s.memFenced || (!s.on F.PMU_TR_CTL_WRAP && decide (size ≤ wrapSub 32 head (s.rd F.PMU_TR_TAIL_TAIL))) then
        (((s.bump F.PMU_TR_STAT_DROPPED).tally .xbr 15 1 j).tally .pmu 1).berr .pmu 2
      else
        let len := (Pkt.wire p).length
        let rec_ := leBytes 1 (rtype + 16 * f) ++ leBytes 1 (b2n (cause != 0) + 2 * b2n poison) ++ leBytes 1 cause ++ leBytes 1 j
          ++ leBytes 1 inp.1 ++ leBytes 1 out.1 ++ leBytes 1 (inp.2 + 16 * out.2) ++ leBytes 1 cong ++ Route.wire p.route
          ++ (Body.header p.body).take 12 ++ leBytes 8 arrival ++ leBytes 4 (min (s.now - arrival) (2 ^ 32 - 1)) ++ leBytes 2 len
          ++ leBytes 2 head
        ((s.memWrite .pmu (s.planBase 2 + 64 * (head % size)) rec_).roll F.PMU_TR_HEAD_HEAD).tally .pmu 0

end Sys2Proof.Machine
end

