-- ==== Sys2Proof/Machine/Router.lean ====
section
/-! DEFINITION. Machine/Router.lean: injection, transit, ejection, output arbitration, congestion marking and drops at the
junctions (11 R357 to R363, R376, R377; 12 R385 to R394), and the sequenced flits that an output sends (13 R423, R425, R428, R434). -/

namespace Sys2Proof.Machine

/-- Length of a packet, from the first byte of its route header to the last of its tag (R230, R385). -/
def pktLen (p : Pkt) : Nat :=
  44 + match p.body with
    | .data _ d => 80 + d.length
    | .ack _ => 72
    | .notice _ => 64
    | .convoy _ d => 56 + d.length
    | .pathFault _ => 32
    | .other _ => 32

/-- Data units of a length (R385). -/
def unitsOf (len : Nat) : Nat := ceilDiv len 32

/-- Does a packet travel on VCB: acknowledgements, notices and path faults? (R226, R360) -/
def onVcb (p : Pkt) : Bool :=
  match p.body with
  | .ack _ | .notice _ | .pathFault _ => true
  | _ => false

/-! ## Input buffers (R385, R433, R438) -/

/-- Header slots and data units of a pool that packets hold (VCB: pool 9). -/
def PortSt.used (q : PortSt) (k : Nat) : Nat × Nat :=
  let b := q.buf.foldl (fun n b => if b.pool = k then (n.1 + 1, n.2 + unitsOf b.len) else n) (0, 0)
  match q.part with
  | some x => if x.pool = k && !x.shown && !x.dropped then (b.1 + 1, b.2 + unitsOf x.len) else b
  | none => b

/-- Size of a pool: header slots and data units (R385). -/
def PortSt.size (q : PortSt) (k : Nat) : Nat × Nat :=
  if k = 8 then (512 - (q.rsv.map Prod.snd).sum, 4096 - (q.rsv.map Prod.fst).sum)
  else
    let r := q.rsv.getD (if k = 9 then 8 else k) (0, 0)
    (r.2, r.1)

/-- Free header slots and data units of a pool. -/
def PortSt.free (q : PortSt) (k : Nat) : Nat × Nat := ((q.size k).1 - (q.used k).1, (q.size k).2 - (q.used k).2)

/-- The `VCB_ONOFF` state brought in line with the free space of VCB (R438). -/
def State.checkXoff (s : State) (p : Nat) : State :=
  let q := s.port p
  let f := q.free 9
  let hyst := s.rd F.LNK_VCB_CTL_HYST p
  if s.portState p ≠ 3 && s.portState p ≠ 4 then s
  else if !q.xoff && (decide (f.2 < q.xoffD) || decide (f.1 < q.xoffH)) then
    (s.modPort p fun q => { q with xoff := true }).sendNull p [.vcbOnOff true q.gap]
  else if q.xoff && decide (q.xoffD + hyst ≤ f.2) && decide (q.xoffH + 1 ≤ f.1) then
    (s.modPort p fun q => { q with xoff := false }).sendNull p [.vcbOnOff false q.gap]
  else s

/-- The space of one packet given back to its pool: counted, to be returned to the sender (R433). -/
def State.giveBack (s : State) (p pool len : Nat) : State :=
  if pool = 9 then s.checkXoff p
  else s.modPort p fun q =>
    let r := q.retd.getD pool (0, 0)
    { q with
      retd := q.retd.set pool (wrapAdd 16 r.1 1, wrapAdd 16 r.2 (unitsOf len))
      changed := if q.changed.any fun c => c.1 == pool then q.changed else q.changed ++ [(pool, s.now)] }

/-- The first packet of an input buffer that a test finds, taken out. -/
def takeFirst (t : BufPkt → Bool) : List BufPkt → Option (BufPkt × List BufPkt)
  | [] => none
  | b :: r => if t b then some (b, r) else (takeFirst t r).map fun x => (x.1, b :: x.2)

/-- The reservations of a junction: VC0 to VC7, then VCB (R386). -/
def State.reserved (s : State) (j : Nat) : List (Nat × Nat) :=
  ((List.range 8).map fun v => (s.rd F.XBR_RSV_VCv_DATA_MIN j v, s.rd F.XBR_RSV_VCv_HDR_MIN j v))
    ++ [(s.rd F.XBR_RSV_VCB_DATA_MIN j, s.rd F.XBR_RSV_VCB_HDR_MIN j)]

/-- The division that a port in `TRAIN` waits to apply is applied once its input buffer is empty; the pending bit stays where a later one is
committed (R387, R441). -/
def State.applyRsv (s : State) (p : Nat) : State :=
  let q := s.port p
  let j := p / 8
  match q.rsvNext with
  | none => s
  | some r =>
    if s.portState p ≠ 1 || q.buf != [] then s
    else
      let s := s.modPort p fun q => { q with rsv := r, rsvNext := none }
      if r = s.reserved j then s.clrBit F.XBR_STAT_RSV_PENDING (p % 8) j else s.orBits F.XBR_STAT_RSV_PENDING (2 ^ (p % 8)) j

/-- A packet removed from an input buffer (source below 128), or from the injection path of junction `src - 128`. What is still to come of one
that is being received is discarded as it comes. -/
def State.dropBuf (s : State) (src : Nat) (b : BufPkt) : State :=
  if src < 128 then
    let s := s.modPort src fun q => { q with
      buf := q.buf.erase b, part := if b.live.isSome then q.part.map fun x => { x with dropped := true } else q.part }
    (s.giveBack src b.pool b.len).applyRsv src
  else { s with inject := Tbl.set s.inject (src - 128) ((Tbl.getD s.inject (src - 128) []).erase b) }

/-- The junction at which a packet waits. -/
def srcJunction (src : Nat) : Nat := if src < 128 then src / 8 else src - 128

/-! ## Waiting for an output (R391) -/

/-- Every packet that waits for an output port and has not started on it: where it is, and the packet. -/
def State.waiting (s : State) (o : Nat) : List (Nat × BufPkt) :=
  let mine (b : BufPkt) : Bool := match b.out with
    | some (p, _, _) => p == o && b.going.isNone
    | none => false
  s.ports.flatMap (fun e => (e.2.buf.filter mine).map fun b => (e.1, b))
    ++ s.inject.flatMap (fun e => (e.2.filter mine).map fun b => (128 + e.1, b))

/-- The VC on which a waiting packet will leave. -/
def BufPkt.outVc (b : BufPkt) : Nat := match b.out with
  | some (_, v, _) => v
  | none => 9

/-- The backlog of a port, in 256 B units (R391). -/
def State.backlog (s : State) (o : Nat) : Nat :=
  ((s.waiting o).foldl (fun n e => if e.2.outVc = 8 then n else n + e.2.len) 0) / 256

/-- The highest backlog of a port kept (R414). -/
def State.noteBacklog (s : State) (o : Nat) : State := s.high F.XBR_OUTQ_HWMi_BACKLOG_HWM (s.backlog o) (o / 8) (o % 8)

/-- Bytes in the injection path of a junction. -/
def State.injectBytes (s : State) (j : Nat) : Nat := ((Tbl.getD s.inject j []).map BufPkt.len).sum

/-- Bytes in the ejection buffer of a junction. -/
def State.ejectBytes (s : State) (j : Nat) : Nat := ((Tbl.getD s.eject j []).map fun r => pktLen r.pkt).sum

/-! ## Ejection and discards -/

/-- A packet enters the ejection buffer of a junction, with its arrival port (R357, R393). -/
def State.ejectTo (s : State) (j : Nat) (p : Pkt) (port vc : Nat) : State :=
  let r : RxPkt := { pkt := p, port := port, vc := vc, at_ := s.now }
  let s := { s with eject := Tbl.set s.eject j (Tbl.getD s.eject j [] ++ [r]) }
  let s := s.high F.XBR_EJECT_OCC_HWM (ceilDiv (s.ejectBytes j) 256) j
  (s.tally .xbr 3 1 j).trace j 3 p (port, vc) (0x80, 9) 0 p.route.cong s.now

/-- A packet discarded for its route header (R358, R359, R394). -/
def State.misrouted (s : State) (j : Nat) (b : BufPkt) (port : Nat) : State :=
  let s := ((s.bump F.XBR_DROP_MISROUTED 1 j).tally .xbr 10 1 j).berr .xbr 4 (rxErr b.pkt port b.vc) j
  s.trace j 1 b.pkt (port, b.vc) (0, 0) 0x10 b.pkt.route.cong b.at_

/-- A VCB packet discarded (R392). -/
def State.vcbDiscard (s : State) (j : Nat) (b : BufPkt) (port : Nat) : State :=
  let s := ((s.bump F.XBR_DROP_VCB_DISCARD 1 j).tally .xbr 10 1 j).berr .xbr 5 (rxErr b.pkt port b.vc) j
  s.trace j (if port = 0x80 then 2 else 1) b.pkt (port, b.vc) ((b.out.map Prod.fst).getD 0, 8) 0x11 b.pkt.route.cong b.at_

/-! ## Drops with a path fault (R376 to R378) -/

/-- Path-fault notices that wait for VCB at a junction (R377). -/
def State.faultsWaiting (s : State) (j : Nat) : Nat :=
  ((Tbl.getD s.inject j []).filter fun b => match b.pkt.body with
    | .pathFault _ => true
    | _ => false).length

/-- The header of the notice for a dropped packet (R378): milestone `k` could not be followed. -/
def State.faultHdr (s : State) (r : Route) (k reason held : Nat) : FaultHdr :=
  let m := r.ms.getD k { port := 0, vc := 0, cls := 0 }
  { reason := reason, dHops := r.hops, hop := k, dCand := r.cand, dBgen := r.bgen, reporter := s.did, deadPort := m.port,
    dDstDid := r.dstDid, dVc := m.vc, heldUs := min held (2 ^ 32 - 1), time := s.now }

/-- A VCB packet put on the injection path of the junction that serves a port (R360, R392). -/
def State.injectVcb (s : State) (port : Nat) (p : Pkt) : State :=
  let j := port / 8
  let b : BufPkt := { pkt := p, len := pktLen p, vc := 9, at_ := s.now, out := some (port, 8, 0), since := s.now }
  if 128 ≤ port || s.portState port ≠ 3 then s.vcbDiscard (j % 16) b 0x80
  else
    let s := { s with inject := Tbl.set s.inject j (Tbl.getD s.inject j [] ++ [b]) }
    s.high F.XBR_INJECT_OCC_HWM (ceilDiv (s.injectBytes j) 256) j

/-- A packet dropped with a path fault (R376, R394, R443): where it was, its arrival port (0x80: injected here), the milestone that
could not be followed, the reason and the time it was held in µs. -/
def State.dropFault (s : State) (src : Nat) (b : BufPkt) (k reason held : Nat) : State :=
  let j := srcJunction src
  let r := b.pkt.route
  let m := r.ms.getD k { port := 0, vc := 0, cls := 0 }
  let s := (s.bump F.XBR_DROP2_FAULT_DROPS 1 j).tally .xbr 11 1 j
  let s := s.when (reason == pfLinkDown || reason == pfFenced) fun s =>
    (s.bump F.LNK_HOLD_FLUSHED 1 m.port).berr .lnk 8 { access := accPktTx, addr := Pkt.locator b.pkt m.port m.vc } m.port
  let s := s.trace j (if src < 128 then 1 else 2) b.pkt (if src < 128 then src else 0x80, b.vc) (m.port, m.vc) reason r.cong b.at_
  let h := s.faultHdr r k reason held
  if r.nofault then s
  else if 128 ≤ src then s.pathFault h none
  else if 64 ≤ s.faultsWaiting j then
    ((s.bump F.XBR_DROP_FAULT_LOST 1 j).tally .xbr 10 1 j).berr .xbr 7 (rxErr b.pkt src b.vc) j
  else s.injectVcb src { route := s.answerRoute r k src, body := .pathFault h, tag := 0 }

/-- Why an output port cannot take a packet now, if it cannot hold it either (R376, R443). -/
def State.deadOutput (s : State) (o : Nat) : Option Nat :=
  if !s.configured o then some pfNoPort
  else if s.portState o = 5 || s.portFenced o then some pfFenced
  else if s.portState o = 3 then none
  else
    match (s.port o).graceEnd with
    | some t => if s.now < t then none else some pfLinkDown
    | none => some pfLinkDown

/-! ## Injection (R357) -/

/-- The lowest-numbered junction that is not fenced (R357, R506). -/
def State.firstJunction (s : State) : Option Nat := (List.range 16).find? fun j => !s.fenced (Block.xbr.page + j)

/-- A packet of this device sent on the route it carries (R357): ejected at once, put on the injection path of the junction
of milestone 0, or dropped. -/
def State.send (s : State) (p : Pkt) : State :=
  match p.route.ms with
  | [] =>
    match s.firstJunction with
    | some j => s.ejectTo j p 0x80 9
    | none => s
  | m :: _ =>
    if onVcb p then s.injectVcb m.port p
    else
      let j := m.port / 8
      let b : BufPkt := { pkt := p, len := pktLen p, vc := 9, at_ := s.now, out := some (m.port, m.vc, 0), since := s.now }
      let s := s.tally .xbr 2 1 j
      match s.deadOutput m.port with
      | some reason => s.dropFault (128 + j) b 0 reason 0
      | none =>
        let s := { s with inject := Tbl.set s.inject j (Tbl.getD s.inject j [] ++ [b]) }
        (s.high F.XBR_INJECT_OCC_HWM (ceilDiv (s.injectBytes j) 256) j).noteBacklog m.port

/-- Is the injection path of a port's junction full: no room for a packet of the largest size? (R405; 12 *XBR fields*) -/
def State.injectFull (s : State) (port : Nat) : Bool := decide (65536 < s.injectBytes (port / 8) + 4220)

/-! ## Transit (R357, R358, R359, R363) -/

/-- The transit check (R363): the path-fault reason, if the packet fails. -/
def State.transitCheck (s : State) (b : BufPkt) : Option Nat :=
  let r := b.pkt.route
  let z : Milestone := { port := 0, vc := 0, cls := 0 }
  let h := r.ms.getD r.hopPtr z
  if !s.on F.RTB_CTL_TRANSIT_CHECK || r.trail || b.vc = 8 then none
  else
    let p := r.ms.getD (r.hopPtr - 1) z
    let falls := r.hopPtr != 0 && (decide (h.vc < p.vc) ||
      (s.on F.RTB_CTL_GLOBAL_EN && h.cls == s.rd F.RTB_CTL_GLOBAL_CLASS && h.vc == p.vc) ||
      (h.vc == p.vc && decide (h.cls ≤ p.cls)))
    if falls then some pfVcOrder
    else if s.on F.RTB_CTL_CLASS_CHECK && h.cls != s.portClass h.port then some pfClass
    else none

/-- A junction deals with the next packet of a port's buffer that it has not dealt with: once its route header has arrived (R388), to be
ejected only whole (R357 to R359, R363). -/
def transitForward (port vc : Nat) (s : State) : State :=
  let j := port / 8
  match takeFirst (fun b => b.vc == vc && b.out == none) (s.port port).buf with
  | none => s
  | some (b, _) =>
    if s.halted || s.fenced (Block.xbr.page + j) then s
    else
      let r := b.pkt.route
      let bad := decide (r.rver ≠ 1) || decide (10 < r.hops) || decide (r.hops < r.hopPtr) || !r.rsvZero || decide (r.ms.length ≠ r.hops)
      if bad then (s.dropBuf port b).misrouted j b port
      else if r.hopPtr = r.hops then
        if r.dstDid ≠ 0x3FFFF && r.dstDid ≠ s.did then (s.dropBuf port b).misrouted j b port
        else if b.live.isSome || 65536 < s.ejectBytes j + b.len then s
        else (s.dropBuf port b).ejectTo j b.pkt port vc
      else
        let h := r.ms.getD r.hopPtr { port := 0, vc := 0, cls := 0 }
        if vc = 8 then
          if !s.configured h.port || s.portState h.port ≠ 3 then (s.dropBuf port b).vcbDiscard j b port
          else s.modPort port fun q => { q with buf := q.buf.replace b { b with out := some (h.port, 8, r.hopPtr), since := s.now } }
        else
          match s.transitCheck b with
          | some reason => (s.dropBuf port b).dropFault port b r.hopPtr reason 0
          | none =>
            match s.deadOutput h.port with
            | some reason => (s.dropBuf port b).dropFault port b r.hopPtr reason 0
            | none =>
              (s.modPort port fun q => { q with buf := q.buf.replace b { b with out := some (h.port, h.vc, r.hopPtr), since := s.now } }).noteBacklog h.port

/-! ## Output arbitration (R388 to R391, R428, R434) -/

/-- Room of a pool at the sender: header slots and data units (R435). -/
def Pool.avail (k : Pool) : Nat × Nat := (k.advH - wrapSub 16 k.chgH k.retH, k.advD - wrapSub 16 k.chgD k.retD)

/-- The pool that a packet is charged to, if one has room for it (R434); VCB is not charged (pool 9). -/
def PortSt.poolFor (q : PortSt) (vc len : Nat) : Option Nat :=
  let fits (k : Nat) : Bool :=
    let a := (q.pools.getD k {}).avail
    decide (1 ≤ a.1) && decide (unitsOf len ≤ a.2)
  if vc = 8 then some 9 else if fits vc then some vc else if fits 8 then some 8 else none

/-- May a new sequenced flit be sent: fewer unacknowledged than the window (R428)? -/
def State.window (s : State) (o : Nat) : Bool :=
  let q := s.port o
  decide (wrapSub 12 q.next q.una < min 2047 (64 * s.rd F.LNK_STAT_WIDTH o))

/-- May a packet start on an output now? With room in the flit being filled it starts there (R388, R423, R428, R438). -/
def State.mayStart (s : State) (o : Nat) (b : BufPkt) : Bool :=
  let q := s.port o
  (q.fillLen != 0 || s.window o) && (q.poolFor b.outVc b.len).isSome &&
    (b.outVc != 8 || (!s.on F.LNK_STAT_PEER_XOFF o && decide (q.vcbFrom ≤ s.now)))

/-- The packets that may be granted on a VC of an output: the first of each input and arrival VC (R390), with credit. -/
def State.grantable (s : State) (o vc : Nat) : List (Nat × BufPkt) :=
  let all := (s.waiting o).filter fun e => e.2.outVc == vc
  let heads := all.foldl (fun (l : List (Nat × BufPkt)) e => if l.any fun x => x.1 == e.1 && x.2.vc == e.2.vc then l else l ++ [e]) []
  heads.filter fun e => s.mayStart o e.2

/-- The earliest of some packets; ties go to the lowest input, the injection paths last (R389). -/
def earliest : List (Nat × BufPkt) → Option (Nat × BufPkt)
  | [] => none
  | e :: r =>
    match earliest r with
    | none => some e
    | some x => if x.2.at_ < e.2.at_ || (x.2.at_ == e.2.at_ && min x.1 128 < min e.1 128) then some x else some e

/-- The next VC after the one served last, in round-robin order over a set, that has a packet ready. -/
def State.nextVc (s : State) (o lo last : Nat) : Option (Nat × Nat × BufPkt) :=
  (List.range 4).findSome? fun k =>
    let v := lo + (last - lo + 1 + k) % 4
    (earliest (s.grantable o v)).map fun e => (v, e.1, e.2)

/-- Deficit round robin between the express and the general set (R389): the set of the grant, and the port's deficits. -/
def drr (fuel : Nat) (quE quG : Nat) (lenE lenG : Option Nat) (q : PortSt) : PortSt × Option Bool :=
  match fuel with
  | 0 => (q, none)
  | n + 1 =>
    let q := { q with defE := if lenE.isNone then 0 else q.defE, defG := if lenG.isNone then 0 else q.defG }
    match (if q.express then lenE else lenG) with
    | some len =>
      if len ≤ (if q.express then q.defE else q.defG) then
        (if q.express then { q with defE := q.defE - len } else { q with defG := q.defG - len }, some q.express)
      else if q.express then drr n quE quG lenE lenG { q with express := false, defG := if lenG.isNone then 0 else q.defG + quG }
      else drr n quE quG lenE lenG { q with express := true, defE := if lenE.isNone then 0 else q.defE + quE }
    | none =>
      if q.express then drr n quE quG lenE lenG { q with express := false, defG := if lenG.isNone then 0 else q.defG + quG }
      else drr n quE quG lenE lenG { q with express := true, defE := if lenE.isNone then 0 else q.defE + quE }

/-- The congestion level of a backlog (R391). -/
def State.level (s : State) (j w : Nat) : Nat :=
  let lo := s.rd F.XBR_MARK_LO j
  let hi := s.rd F.XBR_MARK_HI j
  if w < lo then 0 else if hi ≤ w then 255 else 1 + 254 * (w - lo) / (hi - lo)

/-- A packet as it leaves (R357, R391): the consumed milestone names the input port, unless the packet was injected here. -/
def leaving (p : Pkt) (src k cong : Nat) : Pkt :=
  let ms := if src < 128 then
      p.route.ms.set k { p.route.ms.getD k { port := 0, vc := 0, cls := 0 } with port := src }
    else p.route.ms
  { p with route := { p.route with hopPtr := k + 1, cong := max p.route.cong cong, ms := ms } }

/-! ### The item stream (R423, R425, R428, R431) -/

/-- The sequenced flit that an output fills is sent, held for a replay, and the charges up to it noted (R428, R437). -/
def State.sendFilled (s : State) (o : Nat) : State :=
  let q := s.port o
  let f : Flit := { seqd := true, poison := q.fillBad, seq := q.next, first := q.fillFirst, data := q.fill }
  let s := s.modPort o fun q => { q with
    fill := [], fillLen := 0, fillFirst := 0x1FF, fillBad := false, next := wrapAdd 12 q.next 1, replayBuf := q.replayBuf ++ [f],
    chgAt := ((q.next, q.pools.map fun x => (x.chgH, x.chgD)) :: q.chgAt).take 4096 }
  s.sendFlit o f

/-- The rest of the data area filled with a `PAD` item, and the flit sent (R423). -/
def State.padFlit (s : State) (o : Nat) : State :=
  let q := s.port o
  if q.fillLen = 0 then s
  else
    (s.modPort o fun q => { q with
      fill := q.fill ++ [.item (List.replicate 4 0), .zeros (304 - q.fillLen)], fillLen := 308,
      fillFirst := if q.fillFirst = 0x1FF then q.fillLen else q.fillFirst }).sendFilled o

/-- The packet in its source's buffer that an output is sending. -/
def State.goingPkt (s : State) (o : Nat) (x : TxPkt) : Option BufPkt :=
  (if x.src < 128 then (s.port x.src).buf else Tbl.getD s.inject (x.src - 128) []).find? fun b => b.going == some o

/-- Bytes of stream that a packet takes: item header, packet and zeros up to a 4-byte boundary (R423). -/
def streamLen (len : Nat) : Nat := 4 + 4 * ceilDiv len 4

/-- Bytes of its stream that may be placed now: of a packet that is being received, what has come (R388, R425). -/
def State.placeable (s : State) (o : Nat) (x : TxPkt) : Nat :=
  match x.real, (s.goingPkt o x).bind BufPkt.live with
  | none, some got => 4 + got
  | _, _ => streamLen x.len

/-- Bytes `a` to `a + m - 1` of a packet's stream (R423, R425). -/
def TxPkt.pieces (x : TxPkt) (a m : Nat) : List Piece :=
  let real := x.real.getD x.len
  let head := if a = 0 then [Piece.item (itemBytes x.vc (if x.pool = 8 then 1 else 0) x.len)] else []
  let lo := max a 4 - 4
  let hi := a + m - 4
  let n := min hi real - lo
  head ++ (if n = 0 then [] else [.part x.pkt lo n]) ++ (if hi - lo = n then [] else [.zeros (hi - lo - n)])

/-- The packet that an output sends goes into sequenced flits, as far as its bytes have come and the window lets (R423, R425, R428): after its
last byte it leaves its buffer, and a poisoned one ends its flit with padding. -/
def State.pump (o : Nat) : Nat → State → State
  | 0, s => s
  | fuel + 1, s =>
    let q := s.port o
    match q.tx with
    | none => s
    | some x =>
      if x.placed = streamLen x.len then
        let s := match s.goingPkt o x with
          | some b => s.dropBuf x.src b
          | none => s
        let s := s.modPort o fun q => { q with tx := none }
        if (s.port o).fillBad then s.padFlit o else s
      else
        let n := s.placeable o x - x.placed
        if n = 0 || (q.fillLen = 0 && !s.window o) then s
        else
          let m := min n (308 - q.fillLen)
          let ends := decide (4 + x.len ≤ x.placed + m)
          let s := s.modPort o fun q => { q with
            tx := some { x with placed := x.placed + m }, fill := q.fill ++ x.pieces x.placed m, fillLen := q.fillLen + m,
            fillFirst := if x.placed = 0 && q.fillFirst = 0x1FF then q.fillLen else q.fillFirst,
            fillBad := (q.fillBad && !ends) || (ends && (x.poison || x.real.isSome)) }
          (if q.fillLen + m = 308 then s.sendFilled o else s).pump o fuel

/-- As far as it goes now. -/
def State.pumpOut (s : State) (o : Nat) : State := s.pump o 40

/-- The bytes of the packet that an output sends can never arrive: it is completed with zeros and poisoned (R425). -/
def State.starve (s : State) (o got : Nat) : State :=
  (s.modPort o fun q => { q with tx := q.tx.map fun x => { x with real := some got } }).pumpOut o

/-- A buffer error has lost a packet: if it has started on an output, what is left of it is zeros there (R425). -/
def State.starveOut (s : State) (b : BufPkt) : State :=
  match b.going with
  | some o => s.starve o (((s.port o).tx.map TxPkt.placed).getD 4 - 4)
  | none => s

/-- Everything in the input buffers and the injection path of a junction is lost (R418, R506): a packet that has started on an output is completed
there, poisoned. -/
def State.loseSources (s : State) (j : Nat) : State :=
  let ports := (List.range 8).map fun k => 8 * j + k
  let started := (ports.flatMap fun p => (s.port p).buf.filterMap BufPkt.going) ++ (Tbl.getD s.inject j []).filterMap BufPkt.going
  let s := ports.foldl (fun s p => s.modPort p fun q => { q with buf := [], part := q.part.map fun x => { x with dropped := true } }) s
  started.foldl (fun s o => s.starve o (((s.port o).tx.map TxPkt.placed).getD 4 - 4)) { s with inject := Tbl.del s.inject j }

/-- A packet granted an output starts on its link: marked, charged and put into sequenced flits (R388, R391, R423, R434). -/
def State.grant (s : State) (o src : Nat) (b : BufPkt) : State :=
  let vc := b.outVc
  let k := (b.out.map fun x => x.2.2).getD 0
  let j := o / 8
  let w := s.backlog o
  let lvl := if vc = 8 then 0 else s.level j w
  let s := if vc = 8 then s else s.wr F.XBR_OUTQi_LEVEL lvl j (o % 8)
  let p := leaving b.pkt src k lvl
  let q := s.port o
  let pool := (q.poolFor vc b.len).getD 9
  let pools := if pool = 9 then q.pools else
    let x := q.pools.getD pool {}
    q.pools.set pool { x with chgH := wrapAdd 16 x.chgH 1, chgD := wrapAdd 16 x.chgD (unitsOf b.len) }
  let b' := { b with going := some o }
  let s := if src < 128 then s.modPort src fun q => { q with buf := q.buf.replace b b' }
    else { s with inject := Tbl.set s.inject (src - 128) ((Tbl.getD s.inject (src - 128) []).replace b b') }
  let s := s.modPort o fun q => { q with
    pools := pools, tx := some { src := src, pkt := p, vc := vc, pool := pool, len := b.len },
    vcbFrom := if vc = 8 then s.now + ceilDiv ((max 1 (s.rd F.LNK_STAT_VCB_GAP o) - 1) * 272000000) (s.rawRate o) else q.vcbFrom }
  let s := s.trace (srcJunction src) (if src < 128 then 1 else 2) b.pkt (if src < 128 then src else 0x80, b.vc) (o, vc) 0 p.route.cong b.at_
  let s := ((s.tally .lnk 0 1 o).tally .lnk 1 b.len o).when (src < 128 && srcJunction src != j) fun s => s.tally .xbr 4 1 (srcJunction src)
  let s := s.when (vc == 8) fun s => s.tally .xbr 5 1 j
  let s := s.when (decide (b.pkt.route.cong < p.route.cong)) fun s => s.tally .xbr 6 1 j
  s.pumpOut o

/-- Nothing can be granted: the flit being filled goes out padded, or a null flit does (R421, R423; log entry 8). -/
def State.fillLink (s : State) (o : Nat) : State := if (s.port o).fillLen = 0 then s.sendNull o [] else s.padFlit o

/-- A junction grants an output at a packet boundary (R389). While a packet is being sent its next bytes go out, or null flits where they are
missing (R425); in `DRAIN` no packet starts (R440). -/
def outputArbitrate (o : Nat) (s : State) : State :=
  if s.halted || (s.portState o ≠ 3 && s.portState o ≠ 4) then s
  else if (s.port o).tx.isSome then
    let t := s.pumpOut o
    if (t.port o).tx == (s.port o).tx then s.sendNull o [] else t
  else if s.portState o = 4 then s.fillLink o
  else
    let j := o / 8
    let q := s.port o
    let vcb := earliest (s.grantable o 8)
    let ex := s.nextVc o 4 q.rrE
    let ge := s.nextVc o 0 q.rrG
    let burst := orWhenZero (s.rd F.XBR_ARB_VCB_BURST j) 1
    match vcb, (ex.isSome || ge.isSome) && decide (burst ≤ q.vcbRun) with
    | some (src, b), false => (s.modPort o fun q => { q with vcbRun := q.vcbRun + 1 }).grant o src b
    | _, _ =>
      let (q, r) := drr 512 (256 * s.rd F.XBR_ARB_EXP_QUANTUM j) (256 * s.rd F.XBR_ARB_GEN_QUANTUM j)
        (ex.map fun e => e.2.2.len) (ge.map fun e => e.2.2.len) { q with vcbRun := 0 }
      match r with
      | some true =>
        match ex with
        | some (v, src, b) => (s.modPort o fun _ => { q with rrE := v }).grant o src b
        | none => s
      | some false =>
        match ge with
        | some (v, src, b) => (s.modPort o fun _ => { q with rrG := v }).grant o src b
        | none => s
      | none => s.fillLink o

/-! ## Bounded waits (R392, R393) -/

/-- The VCB packet that has waited longest for an output is discarded at its limit (R392). -/
def vcbWaitExpire (o : Nat) (s : State) : State :=
  match earliest ((s.waiting o).filter fun e => e.2.outVc == 8) with
  | none => s
  | some (src, b) =>
    let j := srcJunction src
    let s := s.reach (b.since + us (orWhenZero (s.rd F.XBR_CTL_VCB_WAIT_US j) 1))
    (s.dropBuf src b).vcbDiscard j b (if src < 128 then src else 0x80)

/-- The oldest packet of an ejection buffer is discarded at its limit (R393). -/
def ejectWaitExpire (j : Nat) (s : State) : State :=
  match Tbl.getD s.eject j [] with
  | [] => s
  | r :: rest =>
    let s := s.reach (r.at_ + us (orWhenZero (s.rd F.XBR_CTL_EJECT_WAIT_US j) 1))
    let s := { s with eject := Tbl.set s.eject j rest }
    let s := ((s.bump F.XBR_DROP_EJECT_DISCARD 1 j).tally .xbr 10 1 j).berr .xbr 6 (rxErr r.pkt r.port r.vc) j
    s.trace j 3 r.pkt (r.port, r.vc) (0x80, 9) 0x12 r.pkt.route.cong r.at_

/-- The grace period of a port ends: every packet that waits for it is dropped (R443). -/
def linkGraceExpire (o : Nat) (s : State) : State :=
  match (s.port o).graceEnd with
  | none => s
  | some t =>
    if s.portState o = 3 then s
    else
      let s := s.reach t
      let left := (s.port o).leftAt
      (s.waiting o).foldl (fun s e =>
        let s := s.dropBuf e.1 e.2
        let k := (e.2.out.map fun x => x.2.2).getD 0
        if e.2.outVc = 8 then s.vcbDiscard (srcJunction e.1) e.2 (if e.1 < 128 then e.1 else 0x80)
        else s.dropFault e.1 e.2 k pfLinkDown ((s.now - max left e.2.since) / 1000)) s

/-- Packets that wait for a fenced output are dropped at once (R376, R443). -/
def State.dropFenced (s : State) (o : Nat) : State :=
  (s.waiting o).foldl (fun s e =>
    let s := s.dropBuf e.1 e.2
    if e.2.outVc = 8 then s.vcbDiscard (srcJunction e.1) e.2 (if e.1 < 128 then e.1 else 0x80)
    else s.dropFault e.1 e.2 ((e.2.out.map fun x => x.2.2).getD 0) pfFenced 0) s

/-- VCB packets that wait for a port that is not `UP` are discarded (R392). -/
def State.dropVcb (s : State) (o : Nat) : State :=
  ((s.waiting o).filter fun e => e.2.outVc == 8).foldl (fun s e =>
    (s.dropBuf e.1 e.2).vcbDiscard (srcJunction e.1) e.2 (if e.1 < 128 then e.1 else 0x80)) s

end Sys2Proof.Machine
end

