-- ==== Sys2Proof/Machine/Seal.lean ====
section
/-! DEFINITION. Machine/Seal.lean: sealing and opening packets, freshness, and notices (15 R471, R472, R481 to R487; 07
R219). Packets are held in clear; the tag stands for both their protection and their secrecy (log entry 6). -/

namespace Sys2Proof.Machine

/-- Verbs (R143). -/
def vbNop : Nat := 0x00
def vbPut : Nat := 0x01
def vbGet : Nat := 0x02
def vbSend : Nat := 0x03
def vbAtomic : Nat := 0x04
def vbFetch : Nat := 0x05
def vbFlush : Nat := 0x06
def vbConvoy : Nat := 0x07
def vbLock : Nat := 0x08
def vbUnlock : Nat := 0x09
def vbFence : Nat := 0x0A

/-- Stands for the management channel where a tenancy slot is named (R472). -/
def mgmtSlot : Nat := 0x1000

/-- Is device time locked to the fabric (`SEC_STAT.TIME_LOCKED`)? -/
def State.timeLocked (s : State) : Bool := s.on F.SEC_STAT_TIME_LOCKED

/-- The freshness window in ns (R486). -/
def State.freshNs (s : State) : Nat := us (s.rd F.SEC_FRESH_WINDOW_US)

/-- Epoch and key that a slot seals under (R481, R482). -/
def TenSlot.sealing (t : TenSlot) : Nat × Nat := if t.rolled then (t.nextEpoch, t.nextKey) else (t.curEpoch, t.curKey)

/-- A packet body with its tenancy, epoch, time and counter. -/
def Body.stamp (b : Body) (tref epoch time ctr : Nat) : Body :=
  match b with
  | .data h d => .data { h with tref := tref, keyEpoch := epoch, time := time, pktCtr := ctr } d
  | .ack h => .ack { h with tref := tref, keyEpoch := epoch, time := time, pktCtr := ctr }
  | .notice h => .notice { h with tref := tref, keyEpoch := epoch, time := time, pktCtr := ctr }
  | .convoy h d => .convoy { h with tref := tref, keyEpoch := epoch, time := time, pktCtr := ctr } d
  | b => b

/-- Sender's DID, tenancy reference, epoch, time and counter of a packet body (R483). -/
def Body.seal (b : Body) : Nat × Nat × Nat × Nat × Nat :=
  match b with
  | .data h _ => (epaDid h.srcEpa, h.tref, h.keyEpoch, h.time, h.pktCtr)
  | .ack h => (epaDid h.srcEpa, h.tref, h.keyEpoch, h.time, h.pktCtr)
  | .notice h => (epaDid h.srcEpa, h.tref, h.keyEpoch, h.time, h.pktCtr)
  | .convoy h _ => (h.srcDid, h.tref, h.keyEpoch, h.time, h.pktCtr)
  | _ => (0, 0, 0, 0, 0)

/-- The IV of a packet (R483). -/
def ivOf (did epoch ctr : Nat) : Nat := did * 2 ^ 78 + epoch * 2 ^ 64 + ctr

/-- A packet body sealed under a slot, with its tag (R472, R483 to R485); none where the slot holds no key. -/
def State.sealBody (s : State) (slot : Nat) (b : Body) : State × Option (Body × Nat) :=
  if slot = mgmtSlot then (s, some (Body.stamp b 0xFFFF 0 s.now 0, 0))
  else
    match Tbl.get s.slots slot with
    | none => (s, none)
    | some t =>
      if t.keyLost then (s, none)
      else
        let (epoch, key) := t.sealing
        let ctr := max (Tbl.getD s.pktCtrs (slot, epoch) 0 + 1) (8 * s.now) % 2 ^ 64
        let b := Body.stamp b t.tnum epoch s.now ctr
        let tag := if t.mode = 2 then 0 else Config.gcmTag key (ivOf (Body.seal b).1 epoch ctr) t.mode b
        ((({ s with pktCtrs := Tbl.set s.pktCtrs (slot, epoch) ctr } : State).tally .sec 0).tally .sec 2
          (pktLen { route := {}, body := b, tag := 0 }), some (b, tag))

/-- What verification finds (R486). -/
inductive Verdict where
  | accept (slot : Nat)
  | notLocked | unknownTenancy | staleEpoch | notFresh | tagFail
deriving DecidableEq, Repr

/-- The selectors that a packet runs between. -/
def Body.selectors (b : Body) : Nat × Nat :=
  match b with
  | .data h _ => (epaSel h.srcEpa, epaSel h.dstEpa)
  | .ack h => (epaSel h.srcEpa, epaSel h.dstEpa)
  | .notice h => (epaSel h.srcEpa, epaSel h.dstEpa)
  | _ => (8, 8)

/-- `verify` of R486. -/
def State.verify (s : State) (p : Pkt) : Verdict :=
  let (did, tref, epoch, time, ctr) := Body.seal p.body
  if !s.timeLocked then .notLocked
  else
    match p.body with
    | .pathFault _ => .accept 0
    | _ =>
      if tref = 0xFFFF then (if Body.selectors p.body = (5, 5) then .accept mgmtSlot else .unknownTenancy)
      else
        match s.slots.find? fun e => e.2.tnum == tref with
        | none => .unknownTenancy
        | some (slot, t) =>
          if t.keyLost then .unknownTenancy
          else
            let key := if epoch = t.curEpoch then some t.curKey
              else if t.nextValid && epoch == t.nextEpoch then some t.nextKey else none
            match key with
            | none => .staleEpoch
            | some k =>
              if time + s.freshNs < s.now || s.now + us (s.rd F.SEC_FRESH_FUTURE_US) < time then .notFresh
              else if t.mode = 2 then .accept slot
              else if p.tag = Config.gcmTag k (ivOf did epoch ctr) t.mode p.body then .accept slot
              else .tagFail

/-! ## Notices (R219, R360) -/

/-- Notice types (R219). -/
def ntBusy : Nat := 1
def ntFault : Nat := 2
def ntAbsent : Nat := 3
def ntNotReady : Nat := 4

/-- Notice reasons (R219, R412). -/
def nrParking : Nat := 0x01
def nrStoreFull : Nat := 0x02
def nrHoldFull : Nat := 0x03
def nrWalkParking : Nat := 0x04
def nrEqFull : Nat := 0x05
def nrStopped : Nat := 0x06
def nrPlacement : Nat := 0x07
/-- `ATOMIC_QUEUE_FULL` (R353). -/
def nrAtomicFull : Nat := 0x0A
def nrContext : Nat := 0x08
def nrTollgate : Nat := 0x0B
def nrXlt : Nat := 0x10
def nrSourceBus : Nat := 0x11
def nrIde : Nat := 0x12
def nrNoEndpoint : Nat := 0x20
def nrHeld : Nat := 0x21

/-- Does the AEAD pool refuse a requester (R400, R491)? -/
def State.poolRefuses (s : State) (r : Nat) : Bool := s.reqFenced Block.sec.page r

/-- A packet sent back along the return trail of one received, sealed under the tenancy of that packet (R360, R472). -/
def State.answer (s : State) (rx : RxPkt) (b : Body) : State :=
  if s.poolRefuses 4 then s.later (.refusedReq Block.sec.page 0 4 none)
  else
  match s.sealBody rx.slot b with
  | (s, none) => s
  | (s, some (b, tag)) => s.send { route := s.answerRoute rx.pkt.route rx.pkt.route.hops rx.port, body := b, tag := tag }

/-- A received packet refused with a notice (R219, R234). -/
def State.notice (s : State) (rx : RxPkt) (ntype reason : Nat) (offset : Nat := 0) : State :=
  match rx.pkt.body with
  | .data h _ =>
    let n : NoticeHdr :=
      { tc := h.tc, ntype := ntype, srcEpa := h.dstEpa, dstEpa := h.srcEpa, reason := reason, refSeq := h.seq,
        opTag := h.opTag, echoEpoch := h.srcEpoch, offset := offset, tsEcho := h.time,
        lqp := if h.lqp then h.dstLqp + 1 else 0 }
    (s.tally .pwy 11).answer rx (.notice n)
  | _ => s

end Sys2Proof.Machine
end

