-- ==== Sys2Proof/Machine/Pathway.lean ====
section
/-! DEFINITION. Machine/Pathway.lean: pathways: creation and recall, sending and copies, settling, receiving, acknowledgements,
the congestion window, and how long a pathway is remembered (07). What a settled or delivered packet means to its owner is
carried out by `settle` (`Todo`). -/

namespace Sys2Proof.Machine

/-- `NO_RESPONSE`, `CONTEXT_LOST`, `TARGET_BUSY`, `RECEIVER_NOT_READY`, `TARGET_BUS_ERROR`, `NO_KEY`, `LQP_ERROR`, `LQP_FLUSH` (R176, R218,
15 *Security detail codes*). -/
def dtTargetBusy : Nat := 0x0200
def dtReceiverNotReady : Nat := 0x0201
def dtNoResponse : Nat := 0x0202
def dtContextLost : Nat := 0x0203
def dtLqpError : Nat := 0x0204
def dtLqpFlush : Nat := 0x0205
def dtTargetBus : Nat := 0x0107

/-! ## Entries (R199 to R203) -/

/-- A pathway changed. -/
def State.modPw (s : State) (k : PwKey) (f : Pathway → Pathway) : State :=
  match Tbl.get s.pws k with
  | none => s
  | some p => { s with pws := Tbl.set s.pws k (f p) }

/-- The send state of a pathway. -/
def State.snd (s : State) (k : PwKey) : Option Snd :=
  match Tbl.get s.pws k with
  | none => none
  | some p => p.snd

/-- The receive state of a pathway. -/
def State.rcv (s : State) (k : PwKey) : Option Rcv :=
  match Tbl.get s.pws k with
  | none => none
  | some p => p.rcv

/-- A send state changed. -/
def State.modSnd (s : State) (k : PwKey) (f : Snd → Snd) : State :=
  s.modPw k fun p => { p with snd := p.snd.map f, lastUse := s.now }

/-- A send state changed, with what may cut its window; a cut is counted (R228, R229). -/
def State.modWindow (s : State) (k : PwKey) (f : Snd → Snd) : State :=
  let cuts (s : State) : Option Nat := (Tbl.get s.pws k).bind fun p => p.snd.map Snd.lastCut
  let t := s.modSnd k f
  if cuts t = cuts s then t else t.tally .pwy 17

/-- A receive state changed. -/
def State.modRcv (s : State) (k : PwKey) (f : Rcv → Rcv) : State :=
  s.modPw k fun p => { p with rcv := p.rcv.map f, lastUse := s.now }

/-- Entries that the store holds: every entry not forgotten (R202). -/
def State.stored (s : State) : Nat := Tbl.count s.pws fun k _ => k.lqp == 0

/-- Entries in the pathway cache. -/
def State.cachedPws (s : State) : Nat := Tbl.count s.pws fun k p => k.lqp == 0 && p.state == .cached

/-- Is the store full? Its capacity follows the memory plan (R202). -/
def State.storeFull (s : State) : Bool := decide (s.planSize 4 / 64 ≤ s.stored)

/-- Where the pathway store holds an entry: in the order in which the model lists them (log entry 18). -/
def State.storeAt (s : State) (k : PwKey) : Nat :=
  s.planBase 4 + 64 * ((s.pws.filter fun e => e.1.lqp == 0).map Prod.fst).idxOf k

/-- An entry goes to the store (R201); where the store refuses the write, the context is lost (R246, R400). -/
def State.spill (s : State) (k : PwKey) : State :=
  if s.memDenied .pwy (s.storeAt k) then s.later (.contextLost k)
  else (s.modPw k fun p => { p with state := .stored }).tally .pwy 3

/-- The least recently used entry leaves a full cache of 65,536 (R201). -/
def State.evict (s : State) : State :=
  if s.cachedPws < 65536 then s
  else
    let lru := s.pws.foldl (fun b e => if e.1.lqp = 0 ∧ e.2.state = .cached then (match b with
      | none => some (e.1, e.2.lastUse)
      | some x => if e.2.lastUse < x.2 then some (e.1, e.2.lastUse) else some x) else b) none
    match lru with
    | none => s
    | some (k, _) => s.spill k

/-- A new entry in the cache; it gives its local endpoint an epoch if it has none (R201, R207). -/
def State.createPw (s : State) (k : PwKey) : State :=
  let s := s.evict
  let sel := epaSel k.loc
  let s := if Tbl.has s.epochs sel then s else { s with epochs := Tbl.set s.epochs sel s.now }
  ({ s with pws := s.pws ++ [(k, { lastUse := s.now })] } : State).tally .pwy 2

/-- The epoch of a local endpoint (R207). -/
def State.epochOf (s : State) (loc : Nat) : Nat := Tbl.getD s.epochs (epaSel loc) 0

/-- LQP contexts in the cache (`PWY_LQP_STAT.CACHED`). -/
def State.cachedLqps (s : State) : Nat := Tbl.count s.lqps fun _ q => q.cached

/-- A compatibility queue pair changed. -/
def State.modLqp (s : State) (n : Nat) (f : Lqp → Lqp) : State :=
  match Tbl.get s.lqps n with
  | none => s
  | some q => { s with lqps := Tbl.set s.lqps n (f q) }

/-- A compatibility queue pair's context access faulted or failed (R244 index 6). -/
def State.lqpFault (s : State) (n addr : Nat) (write : Bool := false) : State :=
  (s.berr .pwy 6 { access := if write then accHostWrite else accHostRead, addr := addr }).later (.lqpError n)

/-- The oldest cached LQP context written back to host memory when the cache of 4,096 is full, in the device's private format,
a free value (R242). -/
def State.lqpEvict (s : State) : State :=
  if s.cachedLqps < 4096 then s
  else
    match s.lqps.find? fun e => e.2.cached with
    | none => s
    | some (n, q) =>
      match s.xlat (.lqp n) q.fn q.as q.ctx 256 false true with
      | (s, .ok ps _) =>
        let b := leBytes 256 s.freeVal
        if s.busGone q.fn then ((s.dropGrants (.lqp n)).modLqp n fun q => { q with cached := false }).lqpFault n q.ctx true
        else ((((s.dropGrants (.lqp n)).drawn).writePieces 14 q.fn ps b).modLqp n fun q => { q with cached := false })
      | (s, .fault kind level io) =>
        let s := s.faultRecord q.fn { kind := kind, source := 5, level := level, write := true, master := 0x1B, as := q.as, iova := io, context := n }
        (s.modLqp n fun q => { q with cached := false }).lqpFault n io true
      | (s, .wait) => s

/-- An LQP context that is not in the cache read from host memory (R242). -/
def State.lqpFetch (s : State) (n : Nat) : State :=
  match Tbl.get s.lqps n with
  | none => s
  | some q =>
    if q.cached || q.fetching.isSome then s
    else
      match s.xlat (.lqp n) q.fn q.as q.ctx 256 true false with
      | (s, .wait) => s
      | (s, .fault kind level io) =>
        (s.faultRecord q.fn { kind := kind, source := 5, level := level, master := 0x1B, as := q.as, iova := io, context := n }).lqpFault n io
      | (s, .ok ps _) =>
        let (s, id) := (s.dropGrants (.lqp n)).hostReadV q.fn ps 256 (.lqp n) (some q.ctx) none q.as
        ((s.modLqp n fun q => { q with fetching := some id }).bump F.PWY_LQP_STAT_FETCHES).tally .pwy 20

/-- The pathway of a local operation made ready; `false`: the operation waits (R201 to R203, R242, R246). -/
def State.needPw (s : State) (k : PwKey) : State × Bool :=
  let s := s.tally .pwy 0
  match Tbl.get s.pws k with
  | none =>
    if !s.timeLocked || s.storeFull || k.lqp != 0 then (s, false)
    else ((s.tally .pwy 1).createPw k, true)
  | some p =>
    if p.closedAt.isSome then (s, false)
    else
      match p.state with
      | .cached =>
        if k.lqp = 0 then (s, true)
        else
          match Tbl.get s.lqps (k.lqp - 1) with
          | some q => if q.cached then (s, true) else (s.lqpFetch (k.lqp - 1), false)
          | none => (s, false)
      | .stored => ((s.modPw k fun p => { p with state := .recalling }).tally .pwy 1, false)
      | .recalling => (s, false)

/-- A new send state (R204, R228). -/
def State.newSnd (s : State) : Snd :=
  { cwnd := 256 * (if s.on F.PWY_CC_CTL_EN then s.rd F.PWY_CC_WIN_INIT else s.rd F.PWY_CC_WIN_MAX), lastAct := s.now, periodStart := s.now }

/-- The send state of a ready pathway, made if it is absent. -/
def State.needSnd (s : State) (k : PwKey) : State :=
  s.modPw k fun p => { p with snd := some (p.snd.getD s.newSnd), lastUse := s.now }

/-! ## In-flight records (R200, R204 to R206) -/

/-- Unsettled packets of a pathway, oldest first. -/
def State.flying (s : State) (k : PwKey) : List (Nat × InFlight) :=
  (s.inflight.filter fun e => e.1.1 == k).map fun e => (e.1.2, e.2)

/-- Payload of a packet. -/
def payloadOf (p : Pkt) : List Byte :=
  match p.body with
  | .data _ d => d
  | _ => []

/-- The charge of a packet (R205). -/
def chargeOf (p : Pkt) : Nat := (payloadOf p).length + 80

/-- Does `a` come before `b` among 32-bit sequence numbers? (R204) -/
def before (a b : Nat) : Bool := decide (1 ≤ wrapSub 32 b a) && decide (wrapSub 32 b a < 2 ^ 31)

/-- Length of a counting period in ns (R204). -/
def State.periodNs (s : State) : Nat := us (s.rd F.PWY_TIMERS_GIVEUP) + s.freshNs

/-- The pathway of an operation (R199, R238). -/
def State.opKey (s : State) (o : Op) : PwKey :=
  { loc := s.epa o.fn, rem := o.d.targetEpa, tc := o.d.tc, lqp := ((Tbl.get s.wqs (o.fn, o.wq)).map Wq.lqp).getD 0 }

/-- Length of the next response segment of a request being served. -/
def Serve.segLen (g : Serve) : Nat :=
  match g.rx.pkt.body with
  | .data h _ => min 4096 (h.msgLen - 4096 * g.seg)
  | _ => 0

/-- Charges of the segments of a pathway that are chosen and not transmitted (R205). -/
def State.chosenCharges (s : State) (k : PwKey) : List Nat :=
  (s.wqs.flatMap fun e => e.2.sends.filterMap fun x => match Tbl.get s.ops x.op with
    | some o => if s.opKey o = k then some (x.len + 80) else none
    | none => none)
  ++ s.gets.filterMap fun e => if e.2.chosen && e.2.key == k then some (e.2.segLen + 80) else none

/-- Segments of the device that are chosen and not transmitted: each will need an in-flight record (R205). -/
def State.chosenCount (s : State) : Nat :=
  (s.wqs.map fun e => e.2.sends.length).sum + Tbl.count s.gets fun _ g => g.chosen

/-- Has a send state room for a packet of some charge, with `c` the charges of its segments chosen before and `n` the records
that segments chosen before will take (R204, R205)? -/
def State.windowRoom (s : State) (k : PwKey) (charge : Nat) (c : List Nat) (n : Nat) : Bool :=
  match s.snd k with
  | none => true
  | some w =>
    let b := ((s.flying k).map fun e => chargeOf e.2.pkt).sum + c.sum
    decide (wrapSub 32 w.next w.una + c.length < 64) && (decide (b + charge ≤ w.cwnd) || b == 0)
      && decide (s.inflight.length + n < 65536) && decide (w.periodCount + c.length < 2 ^ 29)

/-- May a send state choose a new packet of some charge (R204, R205)? -/
def State.mayTransmit (s : State) (k : PwKey) (charge : Nat) : Bool := s.windowRoom k charge (s.chosenCharges k) s.chosenCount

/-- May a chosen segment be transmitted now that its payload is here: the window and the records may have shrunk meanwhile (R205)? -/
def State.maySend (s : State) (k : PwKey) (charge : Nat) : Bool := s.windowRoom k charge [] 0

/-- `UNA` moved to the lowest unsettled number, or to `NEXT` (R212). -/
def State.moveUna (s : State) (k : PwKey) : State :=
  let f := s.flying k
  s.modSnd k fun w =>
    let d := f.foldl (fun m e => min m (wrapSub 32 e.1 w.una)) (wrapSub 32 w.next w.una)
    { w with una := wrapAdd 32 w.una d }

/-- The retransmit timeout in ns (R213). -/
def State.rto (s : State) (k : PwKey) : Nat :=
  match (s.snd k).bind Snd.srtt with
  | none => 100 * s.rd F.PWY_RTO_INIT
  | some (m, v) => max (100 * s.rd F.PWY_RTO_MIN) (min (us (s.rd F.PWY_RTO_MAX)) (m + 4 * v))

/-- The timer of a transmission after `n` retransmissions (R213). -/
def State.timeout (s : State) (k : PwKey) (n : Nat) : Nat := s.now + min (us (s.rd F.PWY_RTO_MAX)) (s.rto k * 2 ^ min n 32)

/-- A record changed. -/
def State.modRec (s : State) (k : PwKey) (seq : Nat) (f : InFlight → InFlight) : State :=
  match Tbl.get s.inflight (k, seq) with
  | none => s
  | some r => { s with inflight := Tbl.set s.inflight (k, seq) (f r) }

/-- Every unsettled packet of an owner abandoned (R216); a compatibility queue pair skips no numbers (R238). -/
def State.abandon (s : State) (o : Owner) : State :=
  let ks := ((s.inflight.filter fun e => e.2.owner == o && e.1.1.lqp == 0).map fun e => e.1.1).dedup
  let s := { s with inflight := Tbl.keep s.inflight fun _ r => r.owner != o }
  ks.foldl (fun s k => s.moveUna k) s

/-- An owner's packets abandoned, and its operation failed (R216). -/
def State.failOwner (s : State) (o : Owner) (status detail : Nat) : State := (s.abandon o).later (.failed o status detail)

/-! ## Transmission (R206, R214, R374, R375, R483) -/

/-- `NO_KEY` (15 *Security detail codes*). -/
def dtNoKey : Nat := 0x0701

/-- The candidate that the selection mode keeps for a packet (R374). -/
def State.keptCand (s : State) (k : PwKey) (o : Owner) : Option Nat :=
  let c := match bitsOf (s.rd F.RTB_SEL_MODE_TC) (2 * k.tc) 2 with
    | 0 => (Tbl.get s.pws k).bind Pathway.sticky
    | 1 => match o with
      | .op id => (Tbl.get s.ops id).bind Op.cand
      | .serve id => (Tbl.get s.gets id).bind Serve.cand
      | _ => none
    | _ => none
  match c with
  | some (x, g) => if g = s.bgen then some x else none
  | none => none

/-- The candidate taken kept as the selection mode says (R374). -/
def State.keepCand (s : State) (k : PwKey) (o : Owner) (c : Nat) : State :=
  match bitsOf (s.rd F.RTB_SEL_MODE_TC) (2 * k.tc) 2 with
  | 0 => s.modPw k fun p => { p with sticky := some (c, s.bgen) }
  | 1 =>
    match o with
    | .op id => s.modOp id fun p => { p with cand := some (c, s.bgen) }
    | .serve id =>
      match Tbl.get s.gets id with
      | some g => { s with gets := Tbl.set s.gets id { g with cand := some (c, s.bgen) } }
      | none => s
    | _ => s
  | _ => s

/-- A copy of a packet sealed and sent on a route (R206, R214); where the AEAD pool refuses the pipe, the segment is not sent (R400; `TXE` index 1). -/
def State.sendCopy (s : State) (k : PwKey) (seq : Nat) (r : InFlight) (cand : Option Nat) (ms : List Milestone) : State :=
  if s.poolRefuses (s.txPipe r.owner k) then
    (s.later (.refusedReq Block.sec.page 0 (s.txPipe r.owner k) none)).failOwner r.owner stAborted dtPayloadCorrupted
  else
  let una := ((s.snd k).map Snd.una).getD 0
  let body := match r.pkt.body with
    | .data h d => .data { h with seq := seq, base := una, retx := r.copies != 0, srcEpoch := s.epochOf k.loc } d
    | b => b
  match s.sealBody r.slot body with
  | (s, none) => s.failOwner r.owner stTenancy dtNoKey
  | (s, some (body, tag)) =>
    let route : Route :=
      { hops := ms.length, cand := cand.getD 0, bgen := s.bgen, srcDid := s.did, dstDid := epaDid k.rem, ms := ms }
    let pkt : Pkt := { route := route, body := body, tag := tag }
    let s := s.modRec k seq fun _ =>
      { r with pkt := pkt, last := s.now, cand := cand, bgen := s.bgen, timer := s.timeout k r.copies, waiting := false, fetching := false, reading := none }
    let s := s.modSnd k fun w => { w with lastAct := s.now }
    let s := match r.owner with
      | .op id => s.modOp id fun o => o.stamp fun m =>
          if r.copies = 0 then { m with inject := some (m.inject.getD s.now), lastInject := some s.now } else { m with retx := m.retx + 1 }
      | _ => s
    let pipe := s.txPipe r.owner k
    let len := (payloadOf pkt).length
    let s := (s.tally .txe (if r.copies = 0 then 12 else 13) 1 pipe).tally .txe 14 len pipe
    let s := s.tally .txe (if r.copies = 0 then 1 else 2) (Config.issueCycles len) pipe
    s.send pkt

/-- A packet that misses in the road-book cache waits in `RTB` while its list is fetched (R367, *Road-book timing*). -/
def State.waitList (s : State) (k : PwKey) (seq : Nat) (o : Owner) : State :=
  let s := match o with
    | .op id => s.modOp id fun o => o.stamp fun m => { m with rtbMiss := true }
    | _ => s
  (s.modRec k seq fun r => { r with fetching := true }).missList (epaDid k.rem)

/-- A packet, or a copy of it, routed and sent, before its give-up deadline (R216); it waits in `RTB` for its list or for a usable
candidate, or its operation fails, where there is no route (R367, R374, R375). -/
def State.launch (s : State) (k : PwKey) (seq : Nat) (prev : Option Nat) : State :=
  match Tbl.get s.inflight (k, seq) with
  | none => s
  | some r =>
    let d := epaDid k.rem
    if r.giveup ≤ s.now then s
    else if d = s.did then s.sendCopy k seq r none []
    else if !s.listHeld d then s.waitList k seq r.owner
    else
      match s.select d k.tc (if prev.isSome then none else s.keptCand k r.owner) prev with
      | (s, .take c ms) => (s.keepCand k r.owner c).sendCopy k seq r (some c) ms
      | (s, .wait) =>
        let s := s.modRec k seq fun r => { r with waiting := true, fetching := false }
        if r.waiting then s else (s.bump F.RTB_CNT_WAITED).tally .rtb 8
      | (s, .lost detail) => s.failOwner r.owner stPathLost detail

/-- A new packet of a pathway: numbered, recorded and sent (R204, R205); the pathway has a send state. -/
def State.transmit (s : State) (k : PwKey) (slot : Nat) (o : Owner) (src : PaySrc) (h : DataHdr) (d : List Byte) : State :=
  match s.snd k with
  | none => s
  | some w =>
    let h := { h with payloadLen := d.length, srcEpa := k.loc, dstEpa := k.rem, tc := k.tc, lqp := k.lqp != 0,
                      dstLqp := if k.lqp = 0 then 0 else ((Tbl.get s.lqps (k.lqp - 1)).map Lqp.remLqp).getD 0 }
    let r : InFlight :=
      { owner := o, pkt := { route := {}, body := .data h d, tag := 0 }, slot := slot, src := src, first := s.now, last := s.now,
        timer := s.now, giveup := s.now + us (s.rd F.PWY_TIMERS_GIVEUP) }
    let s := { s with inflight := s.inflight ++ [((k, w.next), r)] }
    let s := s.modSnd k fun w => { w with next := wrapAdd 32 w.next 1, lastAct := s.now, periodCount := w.periodCount + 1 }
    (s.high F.PWY_HWM_INFLIGHT_HWM s.inflight.length).launch k w.next none

/-- The source, the context and the initiator that the fault record of a copy's payload read names: the work queue of an operation, and of
the `SEND` whose rendezvous data a response carries (R215, R270); the region of a `GET` response (R112). -/
def State.retxSource (s : State) (o : Owner) : Nat × Nat × Nat :=
  let wqOf (id : Nat) : Nat := ((Tbl.get s.ops id).map Op.wq).getD 0
  match o with
  | .op id => (0, wqOf id, 0)
  | .serve g =>
    match Tbl.get s.gets g with
    | some x => if x.kind = 2 then (0, wqOf x.rx.hdr.key, 0) else (2, x.rx.hdr.key, x.rx.hdr.srcEpa)
    | none => (0, 0, 0)
  | _ => (0, 0, 0)

/-- The payload of a copy cannot be read: an operation ends, and what a response still owes is refused with a notice (R72, R215). -/
def State.respLost (s : State) (k : PwKey) (seq : Nat) (r : InFlight) : State :=
  match r.owner, r.pkt.body with
  | .serve id, .data h _ =>
    (({ s with inflight := Tbl.del s.inflight (k, seq) } : State).moveUna k).later (.respLost id (4096 * h.segIndex))
  | o, _ => s.failOwner o stAborted dtPayloadBus

/-- The payload of a copy read again from the buffer, then the copy is sent (R214, R215). -/
def State.recopyRead (s : State) (k : PwKey) (seq : Nat) : State :=
  match Tbl.get s.inflight (k, seq) with
  | none => s
  | some r =>
    if r.reading.isSome then s
    else
      let len := (payloadOf r.pkt).length
      match r.src with
      | .fixed => s.launch k seq r.cand
      | .commons a =>
        let u : MemUser := .rxe (PwKey.pipe k)
        if !s.memOk u a len then (s.memDeny u a len).respLost k seq r
        else
          ((s.memBursts u a len false).modRec k seq fun r => match r.pkt.body with
            | .data h _ => { r with pkt := { r.pkt with body := .data h (s.bytes a len) } }
            | _ => r).launch k seq r.cand
      | .host fn as iova =>
        match s.xlat (.retx k seq) fn as iova len true false with
        | (s, .wait) => s.modRec k seq fun r => { r with timer := s.timeout k r.copies }
        | (s, .fault kind level io) =>
          let (source, context, remote) := s.retxSource r.owner
          let s := (s.dropGrants (.retx k seq)).faultRecord fn
            { kind := kind, source := source, level := level, master := 0x10 + s.txPipe r.owner k, as := as, iova := io, context := context, remote := remote } (source == 2)
          let s := s.tally .txe 3 (Config.issueCycles len) (s.txPipe r.owner k)
          s.modRec k seq fun r => { r with refusal := some (0, kind), copies := r.copies - 1, timer := s.timeout k (r.copies - 1) }
        | (s, .ok ps _) =>
          let (s, id) := (s.dropGrants (.retx k seq)).hostReadV fn ps len (.retx k seq) (some iova) (some (s.txPipe r.owner k)) as
          let s := s.modRec k seq fun r => { r with reading := some id, timer := s.timeout k r.copies }
          match r.pkt.body with
          | .data h _ => s.prewalk fn as (iova + len - 1) (h.msgLen - 4096 * h.segIndex - len) true false
          | _ => s

/-- Is a pathway a compatibility queue pair in `ERROR`? Its operations are over, and nothing of theirs is sent again (R240). -/
def State.lqpFailed (s : State) (k : PwKey) : Bool :=
  k.lqp != 0 && (match Tbl.get s.lqps (k.lqp - 1) with
    | some q => q.error
    | none => true)

/-- A copy of a packet: one more retransmission counted, unless the payload of one is being read (R214); a copy whose read faults is
none (R213, R215). -/
def State.recopy (s : State) (k : PwKey) (seq : Nat) : State :=
  match Tbl.get s.inflight (k, seq) with
  | none => s
  | some r =>
    if r.reading.isSome || s.walkWaits (.retx k seq) || s.lqpFailed k || r.giveup ≤ s.now then s
    else (s.modRec k seq fun r => { r with copies := r.copies + 1 }).recopyRead k seq

/-- Packets that pass a test are offered to `RTB` again. -/
def State.offerIf (s : State) (t : InFlight → Bool) : State :=
  (s.inflight.filter fun e => t e.2).foldl (fun s e => s.launch e.1.1 e.1.2 e.2.cand) s

/-- Packets that wait in `RTB` are offered again (R367, R375). -/
def State.offerAll (s : State) : State := s.offerIf fun r => r.waiting || r.fetching

/-! ## Settling (R200, R212, R213, R228, R229) -/

/-- A record settled. -/
def State.settleRec (s : State) (k : PwKey) (seq : Nat) (how : Settled) : State :=
  match Tbl.get s.inflight (k, seq) with
  | none => s
  | some r => ({ s with inflight := Tbl.del s.inflight (k, seq) } : State).later (.settled k r.owner r how)

/-- A round-trip sample (R213; RFC 6298 with gains 1/8 and 1/4). -/
def Snd.sample (w : Snd) (r : Nat) : Snd :=
  match w.srtt with
  | none => { w with srtt := some (r, r / 2) }
  | some (m, v) =>
    let d := if m < r then r - m else m - r
    { w with srtt := some ((7 * m + r) / 8, (3 * v + d) / 4) }

/-- `cc_on_ack` (R228). -/
def State.ccOnAck (s : State) (w : Snd) (rtt sentAt acked : Nat) (marked : Bool) : Snd :=
  let lo := 256 * s.rd F.PWY_CC_WIN_MIN
  let hi := 256 * s.rd F.PWY_CC_WIN_MAX
  if !s.on F.PWY_CC_CTL_EN then { w with cwnd := hi }
  else
    let w := if rtt < w.baseRtt || w.baseSet = 0 || decide (w.baseSet + ms 16 ≤ s.now) then { w with baseRtt := rtt, baseSet := s.now } else w
    let cut := decide (w.lastCut < sentAt)
    let w := if marked && cut then { w with cwnd := w.cwnd * s.rd F.PWY_CC_CTL_MD_MARK / 256, lastCut := s.now }
      else if !marked && cut && decide (w.baseRtt + s.rd F.PWY_CC_CTL_DELAY_TARGET < rtt) then
        { w with cwnd := w.cwnd * s.rd F.PWY_CC_CTL_MD_DELAY / 256, lastCut := s.now }
      else if !marked then { w with cwnd := w.cwnd + 256 * s.rd F.PWY_CC_CTL_AI * acked / max 1 w.cwnd }
      else w
    { w with cwnd := max lo (min hi w.cwnd) }

/-- The pathway that an acknowledgement or a notice belongs to (R199, R238). -/
def State.replyKey (s : State) (loc rem tc lqp : Nat) : PwKey :=
  if lqp = 0 then { loc := loc, rem := rem, tc := tc, lqp := 0 }
  else
    match s.lqps.find? fun e => e.2.rem == rem && e.2.remLqp + 1 == lqp && s.epa e.2.fn == loc with
    | some (n, _) => { loc := loc, rem := rem, tc := tc, lqp := n + 1 }
    | none => { loc := loc, rem := rem, tc := tc, lqp := 2 ^ 18 + 1 }

/-- `on_ack` (R212). -/
def State.onPwAck (s : State) (k : PwKey) (a : AckHdr) : State :=
  match s.snd k with
  | none => s
  | some w =>
    let s := s.modSnd k fun w => { w with lastAct := s.now }
    if a.echoEpoch ≠ s.epochOf k.loc || decide (wrapSub 32 w.next w.una < wrapSub 32 a.cum w.una) then s
    else
      let hit (q : Nat) : Bool := before q a.cum || (decide (1 ≤ wrapSub 32 q a.cum) && decide (wrapSub 32 q a.cum ≤ 63) && bitOf a.bitmap (wrapSub 32 q a.cum - 1))
      let done_ := (s.flying k).filter fun e => hit e.1
      let refused := (s.flying k).filter fun e => a.hasStatus && e.1 == a.statusSeq && !hit e.1
      let acked := ((done_ ++ refused).map fun e => chargeOf e.2.pkt).sum
      let rtt := s.now - a.tsEcho
      let marked := a.echoMarked != 0
      let s := done_.foldl (fun s e => s.settleRec k e.1 .ok) s
      let s := refused.foldl (fun s e => s.settleRec k e.1 (.refused a.status a.detail)) s
      let s := s.moveUna k
      let una := ((s.snd k).map Snd.una).getD 0
      let next := ((s.snd k).map Snd.next).getD 0
      let s := if a.hasStatus && una != w.una && una != next then s.recopy k una else s
      let s := s.modWindow k fun w => { s.ccOnAck (w.sample rtt) rtt a.tsEcho acked marked with lastAct := s.now }
      let s := s.when marked fun s => s.tally .pwy 16
      let base := ((s.snd k).map Snd.baseRtt).getD 0
      (done_ ++ refused).foldl (fun s e =>
        match e.2.cand with
        | some c => if e.2.last = a.tsEcho then s.onSample (epaDid k.rem) c e.2.bgen rtt base marked else s
        | none => s) s

/-- The last refusal that a `GET` or a pull met is a busy-retry or not-ready notice, so that no fault is its last refusal (R182). -/
def Op.waitsAgain (o : Op) : Op := if (o.d.verb = vbGet && !o.recv) || (o.recv && o.pull) then { o with localFault := 0, refusal := none } else o

/-- A notice (R219): the refusal recorded, the packet settled, or the operation told. -/
def State.onNotice (s : State) (k : PwKey) (n : NoticeHdr) : State :=
  match s.snd k with
  | none => s
  | some _ =>
    if n.echoEpoch ≠ s.epochOf k.loc || n.ntype = 0 || 4 < n.ntype then s
    else
      let s := s.modSnd k id
      if n.ntype = ntAbsent then (s.settleRec k n.refSeq .absent).moveUna k
      else
        let s := s.modRec k n.refSeq fun r => { r with refusal := some (n.ntype, n.reason) }
        if n.ntype = ntFault then s.later (.faultNotice k n.opTag n.reason n.offset)
        else
          match (Tbl.get s.inflight (k, n.refSeq)).map InFlight.owner with
          | some (.op id) => s.modOp id Op.waitsAgain
          | some (.pull id) => s.modOp id Op.waitsAgain
          | _ => s

/-! ## Timers of the sender (R204, R213 to R216) -/

/-- A packet's timer expires (R214, R228, R229). -/
def retransmitTimer (k : PwKey) (seq : Nat) (s : State) : State :=
  match Tbl.get s.inflight (k, seq), Tbl.get s.pws k with
  | some r, some p =>
    if r.waiting || r.fetching || r.reading.isSome || s.walkWaits (.retx k seq) then s
    else
      let s := s.reach r.timer
      if r.giveup ≤ s.now then s
      else if p.state ≠ .cached then s.modPw k fun p => { p with state := .recalling }
      else
        let s := s.tally .pwy 14
        let s := s.modWindow k fun w => if s.on F.PWY_CC_CTL_EN && decide (w.lastCut < r.last) then
            { w with cwnd := max (256 * s.rd F.PWY_CC_WIN_MIN) (w.cwnd / 2), lastCut := s.now } else w
        let s := match r.cand with
          | some c => s.onFailed (epaDid k.rem) c r.bgen
          | none => s
        s.recopy k seq
  | _, _ => s

/-- Status and detail at the give-up deadline (R216). DESIGN CHOICE: a `FLUSH` ends with them too, though R179 lists fewer for it (log entry 58). -/
def giveUpStatus (refusal : Option (Nat × Nat)) (quarantined : Bool) : Nat × Nat :=
  match refusal with
  | none => if quarantined then (stPathLost, 0) else (stTimeout, dtNoResponse)
  | some (0, kind) => (faultStatus kind, 0)
  | some (1, _) => (stNotReady, dtTargetBusy)
  | some (4, _) => (stNotReady, dtReceiverNotReady)
  | some (_, reason) => (stRemoteXlt, if reason = nrSourceBus then dtTargetBus else 0)

/-- A packet reaches its give-up deadline (R216). -/
def giveupDeadline (k : PwKey) (seq : Nat) (s : State) : State :=
  match Tbl.get s.inflight (k, seq) with
  | none => s
  | some r =>
    let s := (s.reach r.giveup).tally .pwy 15
    let (s, all) := s.survey (epaDid k.rem) k.tc (List.range 16)
    let gone := r.waiting || (epaDid k.rem != s.did && all != [] && all.all fun c => s.quarantined c.ms)
    let (st, dt) := giveUpStatus r.refusal gone
    let s := (s.failOwner r.owner st dt).when r.owner.marked fun s => s.berr .atm 5
    if k.lqp = 0 then s else s.later (.lqpError (k.lqp - 1))

/-- A counting period ends (R204). -/
def seqPeriodRoll (k : PwKey) (s : State) : State :=
  match s.snd k with
  | none => s
  | some w =>
    let s := s.reach (w.periodStart + s.periodNs)
    s.modPw k fun p => { p with snd := p.snd.map fun w => { w with periodStart := s.now, periodCount := 0 } }

/-! ## Receiving (R208 to R211, R227, R235) -/

/-- An acknowledgement sent for a pathway, caused by a packet (R210, R211, R227); `st` refuses a sequence number. -/
def State.sendAck (s : State) (k : PwKey) (rx : RxPkt) (dup : Bool) (st : Option (Nat × Nat × Nat)) : State :=
  match s.rcv k with
  | none => s
  | some w =>
    let a : AckHdr :=
      { tc := k.tc, srcEpa := k.loc, dstEpa := k.rem, dup := dup, hasStatus := st.isSome, status := (st.map Prod.fst).getD 0,
        detail := (st.map fun x => x.2.1).getD 0, statusSeq := (st.map fun x => x.2.2).getD 0, cum := w.expect,
        bitmap := w.map / 2 % 2 ^ 63, echoEpoch := w.peerEpoch, echoCong := w.cong, echoMarked := min 255 w.marked,
        tsEcho := rx.hdr.time, lqp := if rx.hdr.lqp then rx.hdr.dstLqp + 1 else 0 }
    let s := s.modRcv k fun w => { w with unacked := 0, marked := 0, cong := 0, cause := none }
    (s.tally .pwy 9).answer rx (.ack a)

/-- `EXPECT` moved past every accepted number. -/
def Rcv.slide (w : Rcv) : Nat → Rcv
  | 0 => w
  | n + 1 => if bitOf w.map 0 then Rcv.slide { w with expect := wrapAdd 32 w.expect 1, map := w.map / 2 } n else w

/-- `advance` of R208: `EXPECT` moved to a packet's `BASE`. -/
def Rcv.advance (w : Rcv) (base : Nat) : Rcv :=
  let d := wrapSub 32 base w.expect
  Rcv.slide { w with expect := base, map := w.map / 2 ^ min d 64, held := w.held.filter fun r => !before r.hdr.seq base } 64

/-- Must a packet wait for its turn (R209)? -/
def needsOrder (h : DataHdr) : Bool :=
  h.ordered || (h.signal && h.last) || (h.verb == 0x03 && h.segIndex == 0 && !h.resp) || h.lqp

/-- Packets in the ordered-hold buffer. -/
def State.heldPkts (s : State) : Nat :=
  s.pws.foldl (fun n e => n + (match e.2.rcv with
    | some w => w.held.length
    | none => 0)) 0

/-- A packet handed to its consumer (R208). -/
def State.deliver (s : State) (k : PwKey) (rx : RxPkt) : State :=
  (s.modRcv k fun w => { w with pend := w.pend ++ [rx.hdr.seq] }).later (.deliver k rx)

/-- Held packets whose turn has come are delivered (R208, R209). -/
def State.releaseHeld (s : State) (k : PwKey) : State :=
  match s.rcv k with
  | none => s
  | some w =>
    match w.held.find? fun r => r.hdr.seq == w.expect with
    | none => s
    | some r => (s.modRcv k fun w => { w with held := w.held.erase r }).deliver k r

/-- The acknowledgement policy for a packet accepted at distance `d` (R210). -/
def State.ackPolicy (s : State) (k : PwKey) (rx : RxPkt) (d : Nat) : State :=
  let m := decide (s.rd F.PWY_CC_CTL_MARK_LEVEL ≤ rx.pkt.route.cong)
  let s := s.modRcv k fun w => { w with
    marked := w.marked + b2n m, cong := max w.cong rx.pkt.route.cong, unacked := w.unacked + 1, cause := some rx,
    firstUnacked := if w.unacked = 0 then s.now else w.firstUnacked }
  let n := ((s.rcv k).map Rcv.unacked).getD 0
  let lim := max 1 (min 64 (s.rd F.PWY_CTL_ACK_COALESCE))
  if d ≠ 0 || rx.hdr.last || m || decide (lim ≤ n) then s.sendAck k rx false none else s

/-- `outcome` of R208. -/
def State.outcome (s : State) (k : PwKey) (rx : RxPkt) (o : Outcome) : State :=
  let seq := rx.hdr.seq
  let s := s.modRcv k fun w => { w with pend := w.pend.filter fun q => q != seq }
  match o with
  | .placed =>
    match s.rcv k with
    | none => s
    | some w =>
      let d := wrapSub 32 seq w.expect
      let s := if d < 64 then s.modRcv k fun w => Rcv.slide { w with map := setBit w.map d } 64 else s
      (s.ackPolicy k rx d).releaseHeld k
  | .refused st dt => s.sendAck k rx false (some (st, dt, seq))
  | .notice t r => s.notice rx t r

/-- A transport packet that is discarded (R208, R235). -/
def State.badTransport (s : State) (rx : RxPkt) : State := s.berr .pwy 7 (rxErr rx.pkt rx.port rx.vc)

/-- Closed messages of a pathway are known only while its receive state lives (R285). -/
def State.forgetMsgs (s : State) (k : PwKey) : State := { s with closedMsgs := s.closedMsgs.filter fun e => e.1 != k }

/-- A packet has arrived for a receive state, though it waits for a recall (R220). -/
def State.noteArrival (s : State) (k : PwKey) : State :=
  s.modPw k fun p => { p with rcv := p.rcv.map fun w => { w with lastAct := s.now } }

/-- `receive` of R208, for a pathway entry that is cached; a packet that `EXPECT` reaches as `BASE` moves it is delivered (R209). -/
def State.receiveAt (s : State) (k : PwKey) (rx : RxPkt) : State :=
  let h := rx.hdr
  let fresh := match s.rcv k with
    | none => true
    | some w => k.lqp == 0 && decide (w.peerEpoch < h.srcEpoch)
  let old := match s.rcv k with
    | none => false
    | some w => k.lqp == 0 && decide (h.srcEpoch < w.peerEpoch)
  if old then (s.noteArrival k).tally .pwy 19
  else
    let s := if fresh then (s.forgetMsgs k).modPw k fun p => { p with rcv := some { expect := h.base, peerEpoch := h.srcEpoch }, lastUse := s.now } else s
    let s := s.modRcv k fun w =>
      let w := if k.lqp == 0 && before w.expect h.base then w.advance h.base else w
      { w with lastAct := s.now, peerEpoch := if k.lqp = 0 then w.peerEpoch else h.srcEpoch }
    let s := s.releaseHeld k
    match s.rcv k with
    | none => s
    | some w =>
      let d := wrapSub 32 h.seq w.expect
      if 2 ^ 31 ≤ d || (d < 64 && bitOf w.map d) then (s.tally .pwy 13).sendAck k rx true none
      else if 64 ≤ d then s.badTransport rx
      else if w.pend.contains h.seq || w.held.any (fun r => r.hdr.seq == h.seq) then s
      else if needsOrder h && d != 0 then
        if 256 ≤ s.heldPkts then s.notice rx ntBusy nrHoldFull
        else (s.modRcv k fun w => { w with held := w.held ++ [rx] }).high F.PWY_HWM_HELD_HWM (s.heldPkts + 1)
      else s.deliver k rx

/-- The pathway of a received data packet (R199, R238). -/
def rxKey (h : DataHdr) : PwKey := { loc := h.dstEpa, rem := h.srcEpa, tc := h.tc, lqp := if h.lqp then h.dstLqp + 1 else 0 }

/-- A verified acknowledgement or notice taken by the pathway engine (R212, R219, R225, R226): `park` where its entry is stored. -/
def State.takeReply (s : State) (rx : RxPkt) : State :=
  let k := match rx.pkt.body with
    | .ack a => s.replyKey a.dstEpa a.srcEpa a.tc a.lqp
    | .notice n => s.replyKey n.dstEpa n.srcEpa n.tc n.lqp
    | _ => { loc := 0, rem := 0, tc := 0, lqp := 0 }
  let away := match Tbl.get s.lqps (k.lqp - 1) with
    | some q => k.lqp != 0 && !q.cached
    | none => false
  let bad := match rx.pkt.body with
    | .ack a => a.ver != 1 || !a.rsvZero
    | .notice n => n.ver != 1 || !n.rsvZero
    | _ => false
  match bad, Tbl.get s.pws k with
  | true, _ => s.badTransport rx
  | false, none => s
  | false, some p =>
    if p.state ≠ .cached || away then
      if 512 ≤ s.parked.length then s.tally .pwy 7
      else
        let s := { s with parked := s.parked ++ [rx] }
        let s := s.high F.PWY_HWM_PARKED_HWM s.parked.length
        if away then s.lqpFetch (k.lqp - 1) else s.modPw k fun p => { p with state := .recalling }
    else
      match rx.pkt.body with
      | .ack a => (s.tally .pwy 10).onPwAck k a
      | .notice n => (s.tally .pwy 12).onNotice k n
      | _ => s

/-- The refusal of a packet that names a queue pair which is absent, in `ERROR`, or another function's (R238). -/
def State.lqpRefusal (s : State) (rx : RxPkt) : State :=
  let h := rx.hdr
  let cum := ((s.rcv (rxKey h)).map Rcv.expect).getD h.base
  s.answer rx (.ack { tc := h.tc, srcEpa := h.dstEpa, dstEpa := h.srcEpa, hasStatus := true, status := stRemoteAccess, detail := dtLqpError, statusSeq := h.seq, cum := cum, echoEpoch := h.srcEpoch, tsEcho := h.time, lqp := h.dstLqp + 1 })

/-- The forget time in force (R223). -/
def State.forgetNs (s : State) : Nat :=
  match s.forgetOld with
  | some (old, t) => if s.now < t then us (max old (s.rd F.PWY_TIMERS_FORGET)) else us (s.rd F.PWY_TIMERS_FORGET)
  | none => us (s.rd F.PWY_TIMERS_FORGET)

/-- Is a pathway closed to arriving packets, for `FORGET` after an uncorrectable error (R246)? -/
def State.closed (s : State) (k : PwKey) : Bool :=
  match (Tbl.get s.pws k).bind Pathway.closedAt with
  | some t => decide (s.now < t + s.forgetNs)
  | none => false

/-- A data packet taken by the pathway engine (R202, R208, R225, R235, R238, R246). -/
def State.takeData (s : State) (rx : RxPkt) : State :=
  let h := rx.hdr
  let k := rxKey h
  let d := payloadOf rx.pkt
  if h.ver ≠ 1 || !h.rsvZero || 4096 < h.payloadLen || h.payloadLen ≠ d.length then s.badTransport rx
  else
    let s := s.tally .pwy 0
    if h.lqp then
      match Tbl.get s.lqps h.dstLqp with
      | none => s.lqpRefusal rx
      | some q =>
        if q.error || s.epa q.fn ≠ h.dstEpa then s.lqpRefusal rx
        else if s.closed k then s.notice rx ntBusy nrContext
        else if !q.cached then
          if 512 ≤ s.parked.length then (s.bump F.PWY_REFUSE_PARK_FULL).notice rx ntBusy nrParking
          else
            let s := { s with parked := s.parked ++ [rx] }
            (s.high F.PWY_HWM_PARKED_HWM s.parked.length).lqpFetch h.dstLqp
        else s.receiveAt k rx
    else
      match Tbl.get s.pws k with
      | none =>
        if s.storeFull then ((s.bump F.PWY_REFUSE_STORE_FULL).berr .pwy 5).notice rx ntBusy nrStoreFull
        else ((s.tally .pwy 1).createPw k).receiveAt k rx
      | some p =>
        if s.closed k then s.notice rx ntBusy nrContext
        else if p.state = .cached then s.receiveAt k rx
        else if 512 ≤ s.parked.length then (((s.noteArrival k).bump F.PWY_REFUSE_PARK_FULL).tally .pwy 7).notice rx ntBusy nrParking
        else
          let s := { s.noteArrival k with parked := s.parked ++ [rx] }
          (s.modPw k fun p => { p with state := .recalling }).high F.PWY_HWM_PARKED_HWM s.parked.length

/-- The acknowledgement delay passes (R210). -/
def ackDelayTimer (k : PwKey) (s : State) : State :=
  match s.rcv k with
  | none => s
  | some w =>
    match w.cause with
    | none => s
    | some rx => (s.reach (w.firstUnacked + s.rd F.PWY_CTL_ACK_DELAY_NS)).sendAck k rx false none

/-! ## Spilling, recall, forgetting (R201, R220, R221, R223, R225) -/

/-- A cached pathway has been idle (R201). -/
def idleSpill (k : PwKey) (s : State) : State :=
  match Tbl.get s.pws k with
  | none => s
  | some p =>
    if p.state ≠ .cached || k.lqp ≠ 0 then s
    else
      let s := s.reach (p.lastUse + us (orWhenZero (s.rd F.PWY_CTL_IDLE_SPILL_US) 1))
      s.spill k

/-- The pathway that a parked packet waits for. -/
def State.parkedKey (s : State) (rx : RxPkt) : PwKey :=
  match rx.pkt.body with
  | .data h _ => rxKey h
  | .ack a => s.replyKey a.dstEpa a.srcEpa a.tc a.lqp
  | .notice n => s.replyKey n.dstEpa n.srcEpa n.tc n.lqp
  | _ => { loc := 0, rem := 0, tc := 0, lqp := 0 }

/-- Parked packets of a pathway processed in arrival order (R225). -/
def State.unpark (s : State) (k : PwKey) : State :=
  let mine := s.parked.filter fun r => s.parkedKey r == k
  let s := { s with parked := s.parked.filter fun r => s.parkedKey r != k }
  mine.foldl (fun s r => match r.pkt.body with
    | .data _ _ => s.takeData r
    | _ => s.takeReply r) s

/-- An entry whose directions are both forgotten becomes absent (R201, R221). -/
def State.dropIfForgotten (s : State) (k : PwKey) : State :=
  match Tbl.get s.pws k with
  | some p => if p.snd.isNone && p.rcv.isNone && p.closedAt.isNone && p.state != .recalling then ({ s with pws := Tbl.del s.pws k } : State).tally .pwy 5 else s
  | none => s

/-- Is an entry being fetched from the store? Nothing of it is forgotten then (R201, R225). -/
def State.recalling (s : State) (k : PwKey) : Bool := (Tbl.get s.pws k).any fun p => p.state == .recalling

/-- A receive state is forgotten (R220). -/
def forgetReceiveState (k : PwKey) (s : State) : State :=
  match s.rcv k with
  | none => s
  | some w =>
    if k.lqp ≠ 0 || w.held != [] || s.recalling k then s
    else
      let s := s.reach (w.lastAct + s.forgetNs)
      ((s.forgetMsgs k).modPw k fun p => { p with rcv := none }).dropIfForgotten k

/-- Operations, and responses not yet sent, that wait for a pathway (R221). -/
def State.awaits (s : State) (k : PwKey) : Bool :=
  (s.resps.any fun r => match r with
    | .pkt x _ _ _ _ _ => x == k
    | .serve id => (Tbl.get s.gets id).any fun g => g.key == k) || s.ops.any fun e => s.epa e.2.fn == k.loc && e.2.d.targetEpa == k.rem && e.2.d.tc == k.tc && e.2.phase != .closing && !e.2.recv

/-- A send state is forgotten (R221). -/
def forgetSendState (k : PwKey) (s : State) : State :=
  match s.snd k with
  | none => s
  | some w =>
    if k.lqp ≠ 0 || w.una != w.next || s.chosenCharges k != [] || s.awaits k || s.recalling k then s
    else
      let s := s.reach (w.lastAct + s.forgetNs + s.freshNs + ms 65)
      (s.modPw k fun p => { p with snd := none, sticky := none }).dropIfForgotten k

/-- A lower forget time takes effect (R223). -/
def forgetChangeEffective (s : State) : State :=
  match s.forgetOld with
  | none => s
  | some (_, t) => { s.reach t with forgetOld := none }

/-- The read of an LQP context ends (R242, R244 index 6). -/
def lqpContextFetchDone (n : Nat) (s : State) : State :=
  match Tbl.get s.lqps n with
  | none => s
  | some q =>
    match q.fetching with
    | none => s
    | some id =>
      match s.takeRead id with
      | (s, some (_, .ok _)) =>
        let s := s.lqpEvict.modLqp n fun q => { q with cached := true, fetching := none }
        s.unpark { loc := s.epa q.fn, rem := q.rem, tc := q.tc, lqp := n + 1 }
      | (s, some (r, .failed)) => (s.modLqp n fun q => { q with fetching := none, cached := true }).lqpFault n r.failedAt
      | (s, none) => s

/-! ## Errors of pathway state (R245, R246) -/

/-- Owners with packets in flight that pass a test, failed with `CONTEXT_LOST`. -/
def State.loseOwners (s : State) (t : PwKey → Bool) : State :=
  let os := ((s.inflight.filter fun e => t e.1.1).map fun e => e.2.owner).dedup
  os.foldl (fun s o => s.failOwner o stTimeout dtContextLost) s

/-- An uncorrectable error closes a pathway (R246). -/
def pwyContextUncorrected (k : PwKey) (s : State) : State :=
  match Tbl.get s.pws k with
  | none => s
  | some _ =>
    let s := ((s.berr .pwy 1).loseOwners fun x => x == k).forgetMsgs k
    s.modPw k fun p => { p with snd := none, rcv := none, sticky := none, closedAt := some s.now }

/-- Timers of a pathway's packets that expired while it was being fetched take effect (R201, R214). -/
def State.lateTimers (s : State) (k : PwKey) : State :=
  ((s.flying k).filter fun e => decide (e.2.timer ≤ s.now)).foldl (fun s e => retransmitTimer k e.1 s) s

/-- A stored pathway is fetched back (R201, R225). -/
def recallComplete (k : PwKey) (s : State) : State :=
  match Tbl.get s.pws k with
  | none => s
  | some p =>
    if p.state ≠ .recalling then s
    else if s.memFenced || s.memDenied .pwy (s.storeAt k) then ((pwyContextUncorrected k s).modPw k fun p => { p with state := .cached }).unpark k
    else (((((s.evict.modPw k fun p => { p with state := .cached, lastUse := s.now }).tally .pwy 4)).unpark k).lateTimers k).dropIfForgotten k

/-- The closure of a pathway ends; a receive state that has been rebuilt since `FORGET` passed stays (R246). -/
def contextLostExpire (k : PwKey) (s : State) : State :=
  match (Tbl.get s.pws k).bind Pathway.closedAt with
  | none => s
  | some t =>
    let s := s.reach (t + s.forgetNs + s.freshNs + ms 65)
    (s.modPw k fun p => { p with closedAt := none }).dropIfForgotten k

/-- An endpoint closed for its hold (R90); `fn` below 4 shows it in its window. -/
def State.holdEndpoint (s : State) (sel : Nat) : State :=
  let s := { s with holds := Tbl.set s.holds sel (s.now + max s.forgetNs s.freshNs) }
  if sel < 4 then s.wr F.HIF_FN_STAT_EP_HOLD 1 sel else s

/-- Every pathway forgotten, every endpoint with a new epoch and held (R246, R610). -/
def State.forgetAll (s : State) : State :=
  let s := s.loseOwners fun _ => true
  let s := { s with pws := s.pws.filter fun e => e.1.lqp != 0, parked := [], walkPark := [], epochs := [], closedMsgs := s.closedMsgs.filter fun e => e.1.lqp != 0 }
  (List.range 6).foldl (fun s sel => s.holdEndpoint sel) s

/-- An uncorrectable error in a pathway's key (R246). -/
def pwyKeyUncorrected (s : State) : State := (s.berr .pwy 2).forgetAll

end Sys2Proof.Machine
end

