-- ==== Sys2Proof/Machine/Remote.lean ====
section
/-! DEFINITION. Machine/Remote.lean: remote memory access: the checks at the target, placing, violations, flushes, the serving of
`GET`, and how operations complete at the initiator (06). -/

namespace Sys2Proof.Machine

/-- Nouns (R143). -/
def nnRegion : Nat := 0
def nnCommons : Nat := 1
def nnList : Nat := 2
def nnConvoy : Nat := 3
def nnLock : Nat := 4

/-- Remote-access detail codes (R176). -/
def dtKeyInvalid : Nat := 0x0100
def dtKeyStale : Nat := 0x0101
def dtRights : Nat := 0x0102
def dtBounds : Nat := 0x0103
def dtSignalRefused : Nat := 0x0104
def dtAtomicAlign : Nat := 0x0105
def dtTenancyMismatch : Nat := 0x0106
def dtFlushReadFailed : Nat := 0x0108

/-- Rights of a region, as bits (R166). -/
def rgRead : Nat := 0
def rgWrite : Nat := 1
def rgAtomic : Nat := 2
def rgSignal : Nat := 3

/-! ## Tenancy membership, endpoints -/

/-- Is a function a member of a tenancy slot? (R472) -/
def State.member (s : State) (slot fn : Nat) : Bool :=
  match Tbl.get s.slots slot with
  | none => false
  | some t => bitOf t.members fn

/-- Size of the commons (R23). -/
def State.commonsSize (s : State) : Nat := s.planSize 8

/-- Base of the commons in on-package memory. -/
def State.commonsBase (s : State) : Nat := s.planBase 8

/-- Is an endpoint selector held (R90, R504)? -/
def State.held (s : State) (sel : Nat) : Bool :=
  if sel < 4 then s.on F.HIF_FN_STAT_EP_HOLD sel else decide (s.now < Tbl.getD s.holds sel 0)

/-- Why a packet for an endpoint of this device is refused before anything else: notice type and reason (R23, R25, R29, R79,
R84, R90). `NO_ENDPOINT` while reset H is in progress, and `FUNCTION_STOPPED` before the notice of R84 where both apply, are the model's (log entries 40
and 41, DESIGN CHOICE). -/
def State.endpointRefusal (s : State) (dst : Nat) : Option (Nat × Nat) :=
  let sel := epaSel dst
  if epaDid dst ≠ s.did || !s.hasDid || 6 ≤ sel then some (ntAbsent, nrNoEndpoint)
  else if sel = 5 then (if s.held 5 then some (ntAbsent, nrHeld) else none)
  else if s.routerOnly then some (ntAbsent, nrNoEndpoint)
  else if sel = 4 then
    if s.commonsSize = 0 then some (ntAbsent, nrNoEndpoint) else if s.held 4 then some (ntAbsent, nrHeld) else none
  else if (s.hf sel).resetH || (s.hf sel).fencedAway then some (ntAbsent, nrNoEndpoint)
  else if s.held sel then some (ntAbsent, nrHeld)
  else if !s.linkUp sel || s.on F.HIF_FN_STAT_DSTATE sel || !s.on F.HIF_FN_STAT_BME sel then some (ntBusy, nrStopped)
  else if s.on F.HIF_IDE_STAT_HALTED sel then some (ntFault, nrIde)
  else none

/-! ## The checks of R173 -/

/-- What a key names at a target: the owning function, whether it is a host region, its address space, base, length, rights,
tenancy slot and event queue. -/
structure Target where
  fn : Nat
  host : Bool
  gen : Nat
  as : Nat
  base : Nat
  len : Nat
  rights : Nat
  slot : Nat
  eq : Nat
  eqEn : Bool
  closing : Bool
deriving DecidableEq, Repr

/-- The live entry that the index of a key names in the table of an endpoint (R164, R170). -/
def State.target (s : State) (dst key : Nat) : Option Target :=
  let sel := epaSel dst
  let idx := key / 256
  if sel < 4 then
    match Tbl.get s.regions (sel, idx) with
    | none => none
    | some r => some { fn := sel, host := true, gen := r.gen, as := r.as, base := r.base, len := r.len, rights := r.rights,
                       slot := r.slot, eq := r.eq, eqEn := r.eqEn, closing := r.closing }
  else if sel = 4 ∧ 1 ≤ idx ∧ idx ≤ 1023 ∧ s.on F.RXE_CREG_ATTRi_VALID 0 idx then
    some { fn := s.rd F.RXE_CREG_ATTRi_OWNER_FN 0 idx, host := false, gen := s.rd F.RXE_CREG_ATTRi_GEN 0 idx, as := 0,
           base := s.rd F.RXE_CREG_BASEi_BASE 0 idx * 4096, len := s.rd F.RXE_CREG_LENi_LEN 0 idx * 4096,
           rights := s.rd F.RXE_CREG_ATTRi_RIGHTS 0 idx, slot := s.rd F.RXE_CREG_ATTRi_TENANCY 0 idx,
           eq := s.rd F.RXE_CREG_ATTRi_EQ 0 idx, eqEn := s.on F.RXE_CREG_ATTRi_EQ_EN 0 idx, closing := false }
  else none

/-- Is a named event queue of a target in use? -/
def State.targetEq (s : State) (t : Target) : Bool := t.eqEn && Tbl.has s.eqs (t.fn, t.eq)

/-- Checks 1 to 7 of R173, for a packet that needs a right over `len` bytes at an offset, aligned to `align` (1: not checked);
the first that fails gives the status and detail. -/
def State.regionCheck (s : State) (rx : RxPkt) (right off len align : Nat) : Option (Nat × Nat) :=
  let h := rx.hdr
  match s.target h.dstEpa h.key with
  | none => some (stRemoteAccess, dtKeyInvalid)
  | some t =>
    if t.closing && !rx.passed then some (stRemoteAccess, dtKeyInvalid)
    else if h.key % 256 ≠ t.gen then some (stRemoteAccess, dtKeyStale)
    else if rx.slot ≠ t.slot || !s.member t.slot t.fn then some (stTenancy, dtTenancyMismatch)
    else if !bitOf t.rights right then some (stRemoteAccess, dtRights)
    else if t.len < off + len then some (stRemoteAccess, dtBounds)
    else if h.signal && !(bitOf t.rights rgSignal && s.targetEq t) then some (stRemoteAccess, dtSignalRefused)
    else if (t.base + off) % align ≠ 0 then some (stRemoteAccess, dtAtomicAlign)
    else none

/-! ## Violations (R195, R196) -/

/-- Bytes that a refused packet would have read or written (R195). -/
def violationBytes (h : DataHdr) : Nat :=
  if h.verb = vbPut then h.payloadLen
  else if h.verb = vbSend then (if h.payloadLen = 0 then h.msgLen else h.payloadLen)
  else if h.verb = vbGet then h.msgLen
  else if h.verb = vbAtomic ∨ h.verb = vbFetch then atomicWidth h.msgLen
  else if h.verb = vbLock ∨ h.verb = vbUnlock then 16 else 0

/-- An `ACCESS_VIOLATION` event unless one like it was written lately: function, event queue (none: the asynchronous one),
initiator, key, offset, verb, slot, bytes and detail (R195, R196). -/
def State.violationEvent (s : State) (fn : Nat) (eq : Option Nat) (rx : RxPkt) (key off dt : Nat) : State :=
  let h := rx.hdr
  let win := us (s.rd F.RXE_CTL_VIOL_COALESCE_US)
  if win ≠ 0 && s.violations.any (fun v => v.1 == h.srcEpa && v.2.1 == key && v.2.2.1 == dt && decide (s.now < v.2.2.2 + win)) then
    s.bump F.RXE_VIOL_SUPPRESSED
  else
    let keep := s.violations.filter fun v => !(v.1 == h.srcEpa && v.2.1 == key && v.2.2.1 == dt)
    let slot := if rx.slot < 4096 then rx.slot else 0xFFF
    let e : Evt := { type := 2, subtype := dt, value := key, offset := off, peer := h.srcEpa,
                     data := h.verb + slot * 2 ^ 8 + violationBytes h * 2 ^ 32 }
    let dest := match eq with
      | some n => some n
      | none => s.asyncEq fn
    let s := s.when (dest.any fun n => s.eqTakes fn n) fun s => { s with violations := (h.srcEpa, key, dt, s.now) :: keep }
    match eq with
    | some n => if Tbl.has s.eqs (fn, n) then s.event fn n e else s.bump F.CMD_ASYNC_LOST 1 fn
    | none => s.asyncEvent fn e

/-- Does a function hold the fabric-manager role? (R57) -/
def State.fmHolder (s : State) : Option Nat := if s.rd F.DEV_FM_ROLE_HOLDER < 4 then some (s.rd F.DEV_FM_ROLE_HOLDER) else none

/-- A packet refused by checks 1 to 7: counted, with its event (R172, R175, R196). DESIGN CHOICE: where the event queue that a commons region names
does not exist, the event is lost as R172 gives (log entry 59). -/
def State.violation (s : State) (rx : RxPkt) (dt : Nat) : State :=
  let h := rx.hdr
  let s := (s.bump F.RXE_VIOL_REFUSED).tally .rxe 2 1 ((h.dstEpa + h.srcEpa + h.tc) % 4)
  match s.target h.dstEpa h.key with
  | none =>
    if epaSel h.dstEpa < 4 then s.violationEvent (epaSel h.dstEpa) none rx h.key h.remote dt
    else
      match s.fmHolder with
      | some f => s.violationEvent f none rx h.key h.remote dt
      | none => s
  | some t =>
    if dt = dtKeyStale || dt = dtKeyInvalid || !t.eqEn then s.violationEvent t.fn none rx h.key h.remote dt
    else if t.host && !Tbl.has s.eqs (t.fn, t.eq) then s.violationEvent t.fn none rx h.key h.remote dt
    else s.violationEvent t.fn (some t.eq) rx h.key h.remote dt

/-! ## Placing (R118, R119, R330) -/

/-- A placing write on a host port, remembered for flush reads (R185). -/
def State.placeWrite (s : State) (req fn : Nat) (ps : List (Nat × Nat × Nat)) (d : List Byte) : State :=
  let mps := (s.hf fn).mps
  let reqs := ps.flatMap fun p => (pieces (p.2.2 + 1) p.1 0 p.2.2 mps).map fun q => (p.1 + q.1, q.2)
  let s := s.writePieces req fn ps d
  match reqs.getLast? with
  | none => s
  | some (a, n) => s.modHf fn fun h => { h with lastWrite := some (a, a + n - 1) }

/-- Packets parked for a walk in a receive pipe. -/
def State.walkParked (s : State) (p : Nat) : Nat := (s.walkPark.filter fun e => PwKey.pipe e.1 == p).length

/-- Does a range of host addresses overlap the 8-byte word of an atomic in progress? (R330) -/
def State.wordBusy (s : State) (fn a n : Nat) : Bool :=
  s.atomics.any fun e => e.2.fn == fn && decide (e.2.addr / 8 * 8 < a + n) && decide (a < e.2.addr / 8 * 8 + 8)

/-- What became of an attempt to place a packet. -/
inductive Placed where
  /-- translated: the pieces to write -/
  | ready (ps : List (Nat × Nat × Nat))
  /-- parked: it is delivered again later -/
  | parked
  /-- refused with a notice; the fault kind (0: none) -/
  | refused (ntype reason kind : Nat)
deriving DecidableEq, Repr

/-- A packet translated for its placing writes, or parked, or refused (R118, R119, R330), with a notice also where its endpoint has stopped while it
was parked, so that no packet is acknowledged whose writes are not issued (R14, R79, R211): function, address space, IOVA, length,
rights, what its fault record says, and the bytes of the operation's range that follow, for a pre-walk (R104). -/
def State.placeXlat (s : State) (k : PwKey) (rx : RxPkt) (fn as iova len : Nat) (rd wr : Bool) (source context : Nat) (left : Nat := 0) : State × Placed :=
  if len = 0 then (s, .ready [])
  else
    let w : Waiter := if source = 3 then .atomic k rx.hdr.seq else .place k rx.hdr.seq
    match s.xlat w fn as iova len rd wr with
    | (s, .wait) =>
      if 128 ≤ s.walkParked (PwKey.pipe k) then (s, .refused ntBusy nrWalkParking 0)
      else
        let s := { s with walkPark := s.walkPark ++ [(k, { rx with passed := true })] }
        (s.high F.RXE_HWMp_WALK_PARKED_HWM (s.walkParked (PwKey.pipe k)) 0 (PwKey.pipe k), .parked)
    | (s, .fault kind level io) =>
      let s := (s.dropGrants w).faultRecord fn { kind := kind, source := source, level := level, write := wr, master := if source = 3 then 0x1F else 0x14 + PwKey.pipe k, as := as, iova := io, context := context, remote := rx.hdr.srcEpa } true
      (s, .refused ntFault nrXlt kind)
    | (s, .ok ps _) =>
      let req := if source = 3 then 12 else 4 + PwKey.pipe k
      match (if rx.passed then s.endpointRefusal rx.hdr.dstEpa else none) with
      | some (t, r) => (s.dropGrants w, .refused t r 0)
      | none =>
      if s.reqFenced (Block.hif.page + fn) req then
        ((s.dropGrants w).later (.refusedReq (Block.hif.page + fn) 0 req none), .refused ntBusy (if source = 3 then nrAtomicFull else nrPlacement) 0)
      else if ps.any fun p => s.wordBusy fn p.1 p.2.2 then ({ s with wordWait := s.wordWait ++ [(k, { rx with passed := true })] }, .parked)
      else ((s.dropGrants w).prewalk fn as (iova + len - 1) left rd wr, .ready ps)

/-- `SIGNAL` written behind the packet's writes into the entry reserved for it (R194, R195). -/
def State.signalEvent (s : State) (fn eq : Nat) (h : DataHdr) : State :=
  (s.event fn eq { type := 1, subtype := h.verb, value := h.aux, offset := h.remote - 4096 * h.segIndex, peer := h.srcEpa, data := h.key + h.msgLen * 2 ^ 32, res := true }).tally .rxe 6

/-- A write of a block into the commons, complete when the `MEM` controllers say so (R21, R186). -/
def State.commonsWrite (s : State) (a : Nat) (d : List Byte) (u : MemUser) : State :=
  if d = [] then s else { s.memWrite u a d with memBusy := true }

/-- A notice outcome, counted. -/
def State.noticed (s : State) (rx : RxPkt) (t r : Nat) : State × Option Outcome :=
  (s.tally .rxe 3 1 ((rx.hdr.dstEpa + rx.hdr.srcEpa + rx.hdr.tc) % 4), some (.notice t r))

/-- A refusal by checks 1 to 7. -/
def State.refusedBy (s : State) (rx : RxPkt) (st dt : Nat) : State × Option Outcome := (s.violation rx dt, some (.refused st dt))

/-- The event entry that a signalling packet needs, reserved; `none`: no room (R156, check 9). -/
def State.needSignal (s : State) (signal : Bool) (t : Target) : Option State :=
  if signal then s.reserveSignal t.fn t.eq else some s

/-- A `PUT` packet at its target (R173, R174, R193, R194). -/
def State.onPut (s : State) (k : PwKey) (rx : RxPkt) : State × Option Outcome :=
  let h := rx.hdr
  let d := payloadOf rx.pkt
  match s.regionCheck rx rgWrite h.remote d.length 1 with
  | some (st, dt) => s.refusedBy rx st dt
  | none =>
    match s.target h.dstEpa h.key with
    | none => (s, none)
    | some t =>
      let pipe := PwKey.pipe k
      let count (s : State) : State := (s.tally .rxe 0 1 pipe).tally .rxe 1 d.length pipe
      if t.host then
        match s.placeXlat k rx t.fn t.as (t.base + h.remote) d.length false true 1 h.key (h.msgLen - 4096 * h.segIndex - d.length) with
        | (s, .parked) => (s, none)
        | (s, .refused nt nr _) => s.noticed rx nt nr
        | (s, .ready ps) =>
          match s.needSignal h.signal t with
          | none => s.noticed rx ntBusy nrEqFull
          | some s =>
            let s := count (s.placeWrite (4 + pipe) t.fn ps d)
            (if h.signal then s.signalEvent t.fn t.eq h else s, some .placed)
      else
        let a := s.commonsBase + t.base + h.remote
        if d ≠ [] && s.memBarred (.rxe pipe) a d.length true then (s.memDeny (.rxe pipe) a d.length true).noticed rx ntBusy nrPlacement
        else
        match s.needSignal h.signal t with
        | none => s.noticed rx ntBusy nrEqFull
        | some s =>
          let s := count (s.commonsWrite a d (.rxe pipe))
          (if h.signal then s.signalEvent t.fn t.eq h else s, some .placed)

/-! ## Serving a GET (R180) -/

/-- A request to be served, put behind the others of its pipe (R180, R403). -/
def State.addServe (s : State) (g : Serve) : State :=
  let id := s.nextGet
  { s with gets := s.gets ++ [(id, g)], nextGet := id + 1, resps := s.resps ++ [.serve id] }

/-- A `GET` request or continuation at its target (R173, R180). -/
def State.onGet (s : State) (k : PwKey) (rx : RxPkt) : State × Option Outcome :=
  let h := rx.hdr
  match s.regionCheck rx rgRead h.remote h.msgLen 1 with
  | some (st, dt) => s.refusedBy rx st dt
  | none =>
    match s.target h.dstEpa h.key with
    | none => (s, none)
    | some t =>
      let s := s.tally .rxe 7 1 (PwKey.pipe k)
      if h.msgLen = 0 then (s, some .placed)
      else
        (s.addServe { key := k, rx := rx, kind := if t.host then 0 else 1, fn := t.fn, as := t.as,
                      base := (if t.host then t.base else s.commonsBase + t.base) + h.remote }, some .placed)

/-! ## Flushes (R184 to R187, R612) -/

/-- Flush requests of a function that wait for their read. -/
def State.flushesOf (s : State) (fn : Nat) : List FlushReq := Tbl.getD s.flushes fn []

/-- Flush requests awaiting their read, of a receive pipe. -/
def State.flushPending (s : State) (p : Nat) : Nat :=
  (s.flushes.map fun e => (e.2.filter fun f => PwKey.pipe f.key == p).length).sum

/-- A flush read issued for the requests that wait, unless one is outstanding (R185). -/
def State.flushRead (s : State) (fn : Nat) : State :=
  let q := s.flushesOf fn
  if q = [] || q.any (fun f => f.sent) then s
  else
    match (s.hf fn).lastWrite with
    | none => q.foldl (fun s f => s.outcome f.key f.rx .placed) { s with flushes := Tbl.del s.flushes fn }
    | some (a, last) =>
      let (addr, len) := if s.on F.RXE_CTL_FLUSH_ZERO_LEN then (a, 0) else (last / 4 * 4, 4)
      let r : HostRead := { fn := fn, len := len, use := .flush fn, host := addr, unsent := [(addr, 0, len)] }
      let s := { s with flushes := Tbl.set s.flushes fn (q.map fun (f : FlushReq) => { f with sent := true }),
                        reads := s.reads ++ [(s.nextRead, r)], nextRead := s.nextRead + 1 }
      (s.issueReads fn).tally .rxe 4

/-- A flush request at its target (R185, R186, R612). -/
def State.onFlush (s : State) (k : PwKey) (rx : RxPkt) : State × Option Outcome :=
  let sel := epaSel rx.hdr.dstEpa
  if sel < 4 then
    if !s.member rx.slot sel then (s, some (.refused stTenancy dtTenancyMismatch))
    else if (s.hf sel).lastWrite.isNone then (s, some .placed)
    else
      let s := { s with flushes := Tbl.set s.flushes sel (s.flushesOf sel ++ [({ key := k, rx := rx } : FlushReq)]) }
      ((s.high F.RXE_HWMp_FLUSH_HWM (s.flushPending (PwKey.pipe k)) 0 (PwKey.pipe k)).flushRead sel, none)
  else if s.memBusy then ({ s with memFlushes := s.memFlushes ++ [{ key := k, rx := rx }] }, none)
  else (s, some .placed)

/-- A flush read ends: the requests it covers are acknowledged or refused (R185, R187). -/
def flushReadComplete (fn : Nat) (s : State) : State :=
  match s.reads.find? fun e => e.2.use == .flush fn && e.2.result.isSome with
  | none => s
  | some e =>
    let s := (s.takeRead e.1).1
    let q := s.flushesOf fn
    let s := { s with flushes := Tbl.set s.flushes fn (q.filter fun f => !f.sent) }
    let failed := e.2.result = some .failed
    let s := s.when failed fun s => s.berr .rxe 4 { access := accHostRead, addr := e.2.failedAt, master := some (0x14 + fn % 4) }
    let s := (q.filter fun f => f.sent).foldl (fun s f =>
      s.outcome f.key f.rx (if failed then .refused stAborted dtFlushReadFailed else .placed)) s
    s.flushRead fn

/-- The writes into the commons are complete (R171, R186). -/
def memWriteComplete (s : State) : State :=
  let q := s.memFlushes
  q.foldl (fun s f => s.outcome f.key f.rx .placed) { s with memBusy := false, memFlushes := [] }

/-! ## Operations at the initiator (R175, R179 to R182) -/

/-- Has an owner packets in flight, or packets whose settling has still to be told it? -/
def State.ownerFlying (s : State) (o : Owner) : Bool :=
  s.inflight.any (fun e => e.2.owner == o) || s.resps.any (fun r => match r with
    | .pkt _ _ x _ _ _ => x == o
    | _ => false) || s.todo.any fun t => match t with
    | .settled _ x _ _ => x == o
    | _ => false

/-- Has an operation packets in flight? -/
def State.opFlying (s : State) (id : Nat) : Bool := s.ownerFlying (.op id)

/-- Has an operation segments chosen and not transmitted? -/
def State.opSending (s : State) (id : Nat) : Bool := s.wqs.any fun e => e.2.sends.any fun x => x.op == id

/-- Segments discarded unsent, each with its queue: the issue cycles of those whose bytes had been asked for are wasted (R530). -/
def State.wasted (s : State) (xs : List (Nat × Send)) : State :=
  (xs.filter fun x => x.2.read.isSome || x.2.data.isSome).foldl (fun s x => s.tally .txe 3 (Config.issueCycles x.2.len) (x.1 % 4)) s

/-- The chosen segments of an operation that will not be transmitted forgotten. -/
def State.dropSends (s : State) (id : Nat) : State :=
  let gone := s.wqs.flatMap fun e => (e.2.sends.filter fun x => x.op == id).map fun x => (e.1.2, x)
  let s := gone.foldl (fun s x => s.dropGrants (.payload x.2.op x.2.seg)) s
  ({ s with wqs := Tbl.mapVals s.wqs fun _ q => { q with sends := q.sends.filter fun x => x.op != id } } : State).wasted gone

/-- The held-lock table after a `LOCK` or an `UNLOCK` ended (R351). -/
def State.heldAfter (s : State) (o : Op) (id st dt : Nat) : List HeldLock :=
  if o.recv then s.heldLocks
  else if o.d.verb = vbLock then
    if st = stOk || st = stLockBroken then s.heldLocks.map fun h => if h.op = some id then { h with op := none } else h
    else s.heldLocks.filter fun h => h.op != some id
  else if o.d.verb = vbUnlock && (st = stOk || dt = 0x0500) then
    s.heldLocks.filter fun h => !(h.fn == o.fn && h.epa == o.d.targetEpa && h.key == o.d.key && h.remote == o.d.remote && h.op.isNone)
  else s.heldLocks

/-- An operation ends; a compatibility queue pair whose send queue it is on follows it into `ERROR` unless it ended `OK`
(R237). -/
def State.endOp (s : State) (id st dt len data : Nat) : State :=
  match Tbl.get s.ops id with
  | none => s
  | some o =>
    if o.ended.isSome then s
    else
      let n := ((Tbl.get s.wqs (o.fn, o.wq)).map Wq.lqp).getD 0
      let s := ({ s with heldLocks := s.heldAfter o id st dt } : State).dropSends id
      let s := s.finish id st dt len data
      if st ≠ stOk && n ≠ 0 && !o.recv then s.later (.lqpError (n - 1)) else s

/-- The deadline of a `GET` or of a pull restarted (R182, R271). -/
def State.restart (s : State) : Nat := s.now + us (s.rd F.PWY_TIMERS_GIVEUP)

/-- An operation whose packets have settled, completed if nothing else is awaited (R175, R179, R272, R333, R347). -/
def State.checkOp (s : State) (id : Nat) : State :=
  match Tbl.get s.ops id with
  | none => s
  | some o =>
    if o.ended.isSome || o.recv || s.opSending id || s.opFlying id then s
    else
      match o.fail with
      | some (st, dt) => s.endOp id st dt o.bytes 0
      | none =>
        if o.phase ≠ .sent then s
        else if o.d.verb = vbPut then s.endOp id stOk 0 o.bytes 0
        else if o.d.verb = vbSend then 
          if !o.pull then s.endOp id stOk 0 o.d.length 0
          else if o.deadline.isNone && o.pulled.isNone && s.on F.MTC_CTL_RDV_WAIT_MS then
            s.modOp id fun o => { o with deadline := some (s.now + ms (s.rd F.MTC_CTL_RDV_WAIT_MS)) }
          else s
        else if o.d.verb = vbAtomic || o.d.verb = vbUnlock || o.d.verb = vbFlush then s.endOp id stOk 0 0 0
        else if o.d.verb = vbFetch then
          match o.value with
          | some v => s.endOp id stOk 0 0 v
          | none => s.modOp id fun o => { o with acked := true, deadline := some s.restart }
        else if o.d.verb = vbLock then
          match o.value with
          | some v => s.endOp id (if o.broken then stLockBroken else stOk) 0 0 v
          | none => s.modOp id fun o => { o with acked := true }
        else s

/-- A packet of an operation settled (R175, R219, R240). -/
def State.opSettled (s : State) (id : Nat) (r : InFlight) (how : Settled) : State :=
  match Tbl.get s.ops id with
  | none => s
  | some o =>
    let s := match how with
      | .ok => s.modOp id fun o => { o with bytes := if o.d.verb = vbPut || o.d.verb = vbSend then o.bytes + (payloadOf r.pkt).length else o.bytes, acked := true }
      | .refused st dt => s.modOp id fun o => { o with fail := some (o.fail.getD (st, dt)), stop := true }
      | .absent => s.modOp id fun o => { o with fail := some (o.fail.getD (stAbsent, 0)), stop := true }
    let s := s.modOp id fun o => o.stamp fun m => { m with settled := some s.now }
    let s := match how with
      | .ok => s
      | _ => s.dropSends id
    let lost := match how with
      | .refused _ dt => dt == dtLqpError
      | _ => false
    let n := ((Tbl.get s.wqs (o.fn, o.wq)).map Wq.lqp).getD 0
    (s.when (lost && n != 0) fun s => s.later (.lqpError (n - 1) (some id))).checkOp id

/-- Status of a `GET` or of a pull at its deadline (R182, R271). -/
def Op.getDead (o : Op) (st dt : Nat) : Nat × Nat :=
  if o.localFault ≠ 0 then (faultStatus o.localFault, 0)
  else if st = stRemoteXlt then (st, dt)
  else
    match o.refusal with
    | some (_, reason) => (stRemoteXlt, if reason = nrSourceBus then dtTargetBus else 0)
    | none => if st = stPathLost || dt = dtContextLost || st = stTenancy then (st, dt) else (stTimeout, dtNoResponse)

/-- The packets of an operation were given up: it fails (R182, R216). -/
def State.opFailed (s : State) (id st dt : Nat) : State :=
  match Tbl.get s.ops id with
  | none => s
  | some o =>
    if o.fail = some (stAborted, dtDrained) then s.endOp id stAborted dtDrained o.bytes 0
    else if dt = dtContextLost then s.endOp id st dt o.bytes 0
    else if o.d.verb = vbGet && !o.recv then
      if (match o.deadline with
          | some t => decide (s.now < t)
          | none => false) then s
      else
        let (st, dt) := o.getDead st dt
        s.endOp id st dt o.bytes 0
    else
      let (st, dt) := o.fail.getD (st, dt)
      s.endOp id st dt o.bytes 0

/-- A request sent at once where its pathway lets it, else by the response entity of its pipe (R180, R268, R348). -/
def State.sendRequest (s : State) (k : PwKey) (slot : Nat) (o : Owner) (h : DataHdr) (d : List Byte) : State :=
  match s.needPw k with
  | (s, true) =>
    let s := s.needSnd k
    if s.mayTransmit k (d.length + 80) then s.transmit k slot o .fixed h d
    else { s with resps := s.resps ++ [.pkt k slot o .fixed h d] }
  | (s, false) => { s with resps := s.resps ++ [.pkt k slot o .fixed h d] }

/-- The request of a `GET` or of a pull, from an offset of the operation on (R180, R268). -/
def Op.request (o : Op) (id off total : Nat) : DataHdr :=
  if o.recv then
    let tag := match o.msg with
      | some (_, t, _) => t
      | none => 0
    { verb := vbGet, noun := nnList, key := tag, opTag := id, remote := off, msgLen := total - off, cont := off != 0, aux := off, last := true }
  else
    { verb := vbGet, noun := o.d.noun, key := o.d.key, opTag := id, remote := o.d.remote + off, msgLen := total - off, cont := off != 0,
      aux := off, ordered := o.d.adv advOrdered, last := true }

/-- The pathway of the data that an operation waits for. -/
def State.dataKey (s : State) (o : Op) : PwKey :=
  match o.msg with
  | some (k, _, _) => if o.recv then k else s.opKey o
  | none => s.opKey o

/-- Bytes that a `GET` or a pull asks for. -/
def Op.wanted (o : Op) : Nat :=
  match o.msg with
  | some (_, _, n) => if o.recv then min n o.d.length else o.d.length
  | none => o.d.length

/-- A target-fault notice for a `GET` or a pull (R180). -/
def State.onFaultNotice (s : State) (k : PwKey) (tag reason offset : Nat) : State :=
  match Tbl.get s.ops tag with
  | none => s
  | some o =>
    if o.ended.isSome || !((o.d.verb = vbGet && !o.recv) || (o.recv && o.pull)) || s.dataKey o ≠ k then s
    else s.modOp tag fun o => { o with refusal := some (ntFault, reason), localFault := 0, contAt := some (s.now + s.rto k, offset) }

/-- The continuation timer of an operation expires (R180). -/
def continuationTimer (id : Nat) (s : State) : State :=
  match Tbl.get s.ops id with
  | none => s
  | some o =>
    match o.contAt with
    | none => s
    | some (t, off) =>
      let s := (s.reach t).modOp id fun o => { o with contAt := none }
      if o.ended.isSome || o.wanted ≤ off then s
      else s.sendRequest (s.dataKey o) o.slot (if o.recv then .pull id else .op id)
        { o.request id off o.wanted with cont := true } []

/-- The address space that an operation's local buffer lies in. -/
def State.opAs (s : State) (o : Op) : Nat := ((Tbl.get s.wqs (o.fn, o.wq)).map Wq.as).getD 0

/-- Response data placed in the buffer of a `GET` (R179 to R182). -/
def State.onGetData (s : State) (k : PwKey) (rx : RxPkt) : State × Option Outcome :=
  let h := rx.hdr
  match Tbl.get s.ops h.opTag with
  | none => (s, some .placed)
  | some o =>
    let off := h.remote - o.d.remote
    let d := payloadOf rx.pkt
    if o.ended.isSome || o.recv || o.d.verb ≠ vbGet || s.opKey o ≠ k || o.stop || h.remote < o.d.remote || o.d.length < off + d.length then
      (s, some .placed)
    else
      match s.placeXlat k rx o.fn (s.opAs o) (o.d.localAddr + off) d.length false true 1 (o.wq + 2 ^ 31) (o.d.length - off - d.length) with
      | (s, .parked) => (s, none)
      | (s, .refused nt nr kind) =>
        (s.modOp h.opTag fun o => if kind = 0 then o else { o with localFault := kind, refusal := none }).noticed rx nt nr
      | (s, .ready ps) =>
        let pipe := PwKey.pipe k
        let s := ((s.placeWrite (4 + pipe) o.fn ps d).tally .rxe 0 1 pipe).tally .rxe 1 d.length pipe
        let s := s.modOp h.opTag fun o =>
          if o.got.contains (off / 4096) then o
          else { o with got := (off / 4096) :: o.got, bytes := o.bytes + d.length, deadline := some s.restart }
        match Tbl.get s.ops h.opTag with
        | none => (s, some .placed)
        | some o => (if o.bytes = o.d.length then s.endOp h.opTag stOk 0 o.bytes 0 else s, some .placed)

/-- The prior value of a `FETCH_ATOMIC` arrives (R183, R333). -/
def State.onFetchData (s : State) (k : PwKey) (rx : RxPkt) : State :=
  let h := rx.hdr
  match Tbl.get s.ops h.opTag with
  | none => s
  | some o =>
    if o.ended.isSome || o.d.verb ≠ vbFetch || o.recv || s.opKey o ≠ k || o.stop then s
    else (s.modOp h.opTag fun o => { o with value := some (leNat ((payloadOf rx.pkt).take 8)) }).checkOp h.opTag

/-- The response of a `FETCH_ATOMIC` has not come (R333). -/
def fetchResponseTimeout (id : Nat) (s : State) : State :=
  match Tbl.get s.ops id with
  | none => s
  | some o =>
    match o.deadline with
    | some t => if o.d.verb = vbFetch && !o.recv && o.acked && o.value.isNone && o.ended.isNone then (s.reach t).endOp id stTimeout dtNoResponse 0 0 else s
    | none => s

end Sys2Proof.Machine
end

