-- ==== Sys2Proof/Machine/Atomic.lean ====
section
/-! DEFINITION. Machine/Atomic.lean: remote atomics, hardware semaphores and fabric queued locks (10). -/

namespace Sys2Proof.Machine

/-- Lock detail codes (R353). -/
def dtLockNotHeld : Nat := 0x0500
def dtLockRecursive : Nat := 0x0501
def dtLockBadProxy : Nat := 0x0502
def dtLockWaitTimeout : Nat := 0x0503
def dtLockLost : Nat := 0x0504

/-- `LOCK_TABLE_FULL` (R353) and `ENGINE_FENCED` (R505). -/
def nrLockFull : Nat := 0x09
def nrEngineFenced : Nat := 0x0C
/-- `ENGINE_FENCED` as a completion detail (R505). -/
def dtEngineFenced : Nat := 0x0800

/-- A notice sent by `ATM`, counted. -/
def State.atmBusy (s : State) (rx : RxPkt) (reason : Nat) : State × Option Outcome := (s.tally .atm 11).noticed rx ntBusy reason

/-! ## Remote atomics (R326 to R334) -/

/-- Entries of the atomic queue in use (R334). -/
def State.atomicsUsed (s : State) : Nat :=
  s.atomics.length + (s.wordWait.filter fun e => e.2.hdr.verb == vbAtomic || e.2.hdr.verb == vbFetch).length

/-- The response of a `FETCH_ATOMIC`, put into the response entity (R333, R403). -/
def State.fetchReply (s : State) (k : PwKey) (rx : RxPkt) (old : Nat) : State :=
  let h := rx.hdr
  if h.verb ≠ vbFetch then s
  else
    { s.numbered with resps := s.resps ++ [.pkt k rx.slot (.reply s.nextMsg) .fixed
        { resp := true, verb := vbFetch, noun := h.noun, key := h.key, opTag := h.opTag, remote := h.remote, msgLen := h.msgLen, last := true }
        (leBytes 8 old)] }

/-- An event entry reserved for a signal released (R332). -/
def State.releaseSignal (s : State) (e : Option (Nat × Nat)) : State :=
  match e with
  | none => s
  | some k =>
    match Tbl.get s.eqs k with
    | none => s
    | some q => ({ s with eqs := Tbl.set s.eqs k { q with reserved := q.reserved - 1 } } : State).eqLost k.1 k.2

/-- An atomic at its target (R173, R328 to R334). -/
def State.onAtomic (s : State) (k : PwKey) (rx : RxPkt) : State × Option Outcome :=
  let h := rx.hdr
  let w := atomicWidth h.msgLen
  let d := payloadOf rx.pkt
  let o0 := leNat (d.take 8)
  let o1 := leNat ((d.drop 8).take 8)
  if s.fenced Block.atm.page then s.atmBusy rx nrEngineFenced
  else
    match s.regionCheck rx rgAtomic h.remote w w with
    | some (st, dt) => s.refusedBy rx st dt
    | none =>
      match s.target h.dstEpa h.key with
      | none => (s, none)
      | some t =>
        if 1024 ≤ s.atomicsUsed then (s.bump F.ATM_REFUSE_ATOMIC_QUEUE_FULL).atmBusy rx nrAtomicFull
        else if t.host then
          match s.placeXlat k rx t.fn t.as (t.base + h.remote) w true true 3 h.key with
          | (s, .parked) => (s.high F.ATM_HWM_ATOMICS_HWM s.atomicsUsed, none)
          | (s, .refused nt nr _) => s.noticed rx nt nr
          | (s, .ready ps) =>
            match s.needSignal h.signal t with
            | none => s.noticed rx ntBusy nrEqFull
            | some s =>
              let id := s.nextAtomic
              let addr := ((ps.head?).map fun p => p.1).getD 0
              let job : AtomJob := { key := k, rx := rx, fn := t.fn, as := t.as, iova := t.base + h.remote, addr := addr, width := w, sig := if h.signal then some (t.fn, t.eq) else none }
              let s := { s with atomics := s.atomics ++ [(id, job)], nextAtomic := id + 1 }
              let s := (s.hostReadV t.fn ps w (.atomic id) (some (t.base + h.remote)) none t.as).1
              ((s.high F.ATM_HWM_ATOMICS_HWM s.atomicsUsed).tally .atm 1, none)
        else
          let a := s.commonsBase + t.base + h.remote
          if !s.memOk .atm a w || s.memBarred .atm a w true then (s.memDeny .atm a w true).noticed rx ntFault nrSourceBus
          else
            match s.needSignal h.signal t with
            | none => s.noticed rx ntBusy nrEqFull
            | some s =>
              let old := s.word a w
              let new := atomicNew h.msgLen old o0 o1
              let s := ((s.memBursts .atm a w false).tally .atm 0).high F.ATM_HWM_ATOMICS_HWM 1
              let s := if new = old then s else s.commonsWrite a (leBytes w new) .atm
              let s := if h.signal then s.signalEvent t.fn t.eq h else s
              (s.fetchReply k rx old, some .placed)

/-- What waited for an atomic's word goes on: packets are delivered again, copies and convoy results tried again (R330). -/
def State.retryWords (s : State) : State :=
  let s := s.wordWait.foldl (fun (s : State) e => s.later (.deliver e.1 e.2)) { s with wordWait := [] }
  s.later .words

/-- Is a finished read one of an atomic whose function's host-bus traffic is held (R79)? -/
def State.atomicHeld (s : State) (rd : Nat) : Bool :=
  match (Tbl.get s.reads rd).bind HostRead.atomicOf with
  | some id => ((Tbl.get s.atomics id).map fun j => s.busHeld j.fn).getD false
  | none => false

/-- The host read of an atomic ends (R331, R332); while the function's host-bus traffic is held, the write and what follows it wait (R79, R183). -/
def atomicReadComplete (rd : Nat) (s : State) : State :=
  if s.atomicHeld rd then s
  else
  match s.takeRead rd with
  | (s', some (r, res)) =>
    match r.use with
    | .atomic id =>
      match Tbl.get s'.atomics id with
      | none => s'
      | some j =>
        let s := { s' with atomics := Tbl.del s'.atomics id }
        let h := j.rx.hdr
        match res with
        | .failed =>
          let s := (s.releaseSignal j.sig).berr .atm 4 { access := accAtomic, addr := r.iova.getD j.addr, master := some 0x1F, remote := h.srcEpa }
          (s.outcome j.key j.rx (.notice ntFault nrSourceBus)).retryWords
        | .ok b =>
          let d := payloadOf j.rx.pkt
          let old := leNat b
          let new := atomicNew h.msgLen old (leNat (d.take 8)) (leNat ((d.drop 8).take 8))
          let s := if new = old then s else s.placeWrite 12 j.fn [(j.addr, 0, j.width)] (leBytes j.width new)
          let s := match j.sig with
            | some (fn, eq) => s.signalEvent fn eq h
            | none => s
          ((s.fetchReply j.key j.rx old).outcome j.key j.rx .placed).retryWords
    | _ => s
  | (_, none) => s

/-- The atomics of a function whose write waited for its host-bus traffic (R79, R183). -/
def State.atomicWrites (s : State) (fn : Nat) : State :=
  (s.reads.filter fun e => e.2.fn == fn && e.2.atomicOf.isSome && e.2.result.isSome).foldl (fun s e => atomicReadComplete e.1 s) s

/-! ## Semaphores (R335 to R340) -/

/-- Waiters of a semaphore. -/
def State.semWaits (s : State) (k : Nat) : List SemWait := Tbl.getD s.semQ k []

/-- Waiters of a semaphore replaced; the status register follows (`ATM_SEM_STATk.WAITING`). -/
def State.setSem (s : State) (k : Nat) (q : List SemWait) : State :=
  let bits := (q.filter fun w => !w.held).foldl (fun b w => setBit b w.master) 0
  ({ s with semQ := if q = [] then Tbl.del s.semQ k else Tbl.set s.semQ k q } : State).wr F.ATM_SEM_STATk_WAITING bits 0 k

/-- What an acquire read returns (10, *ATM fields*). -/
def State.semValue (s : State) (k m : Nat) (granted broken again timed : Bool) : Nat :=
  let others := ((s.semWaits k).filter fun w => !w.held && w.master != m).length
  b2n granted + 2 * b2n broken + 4 * b2n again + 8 * b2n timed
    + (if granted then 0xFF else s.rd F.ATM_SEM_STATk_HOLDER 0 k) * 2 ^ 8 + others * 2 ^ 16 + s.rd F.ATM_SEM_STATk_GRANTS 0 k * 2 ^ 32

/-- Stalled acquire reads answered, each at its address and of its size (R32). -/
def State.semReply (s : State) (m : Nat) (reads : List (Nat × Nat)) (v : Nat) : State :=
  reads.foldl (fun s r => s.emit (.readReply m r.1 (partOf r.1 r.2 v))) s

/-- A semaphore taken by a master: counted, with its latched flag delivered (R340). -/
def State.semTake (s : State) (k m : Nat) : State :=
  let s := ((s.wr F.ATM_SEM_STATk_HELD 1 0 k).wr F.ATM_SEM_STATk_HOLDER m 0 k).roll F.ATM_SEM_STATk_GRANTS 1 0 k
  s.wr F.ATM_SEM_STATk_BROKEN 0 0 k

/-- A semaphore passes to its earliest waiter, or becomes free (R338 to R340). -/
def State.semPass (s : State) (k : Nat) (broken : Bool) : State :=
  let broken := broken || s.on F.ATM_SEM_STATk_BROKEN 0 k
  match s.semWaits k with
  | [] =>
    let s := (s.wr F.ATM_SEM_STATk_HELD 0 0 k).wr F.ATM_SEM_STATk_HOLDER 0xFF 0 k
    s.wr F.ATM_SEM_STATk_BROKEN (b2n broken) 0 k
  | w :: rest =>
    let s := s.when broken fun s => (s.bump F.ATM_BROKEN_SEM).tally .atm 10
    let s := s.semTake k w.master
    if w.reads = [] then s.setSem k ({ w with held := true, broken := broken } :: rest)
    else
      let s := s.setSem k rest
      s.semReply w.master w.reads (s.semValue k w.master true broken false false)

/-- A read of `ATM_SEM_ACQk` (`wait`) or of `ATM_SEM_TRYk` through a window, at an address in it and of a size: one attempt, of which a 32-bit read
shows a half (R32, R335 to R338). -/
def semRead (wait : Bool) (m fn k off size : Nat) (s : State) : State :=
  if !mayWindow m fn || s.fenced Block.atm.page then s.emit (.readReply m off 0)
  else
    let s := s.tally .atm 4
    let q := s.semWaits k
    let mine := q.find? fun w => w.master == m
    let reply (s : State) (v : Nat) : State := s.emit (.readReply m off (partOf off size v))
    match mine with
    | some w =>
      if w.held then
        let s := s.setSem k (q.filter fun x => x.master != m)
        reply s (s.semValue k m true w.broken false false)
      else if wait then
        s.setSem k (q.map fun x => if x.master = m then { x with reads := x.reads ++ [(off, size)], since := if x.reads = [] then s.now else x.since, keep := none } else x)
      else reply s (s.semValue k m false false false false)
    | none =>
      if s.on F.ATM_SEM_STATk_HELD 0 k && s.rd F.ATM_SEM_STATk_HOLDER 0 k == m then reply s (s.semValue k m true false true false)
      else if !s.on F.ATM_SEM_STATk_HELD 0 k && q = [] then
        let broken := s.on F.ATM_SEM_STATk_BROKEN 0 k
        let s := (s.when broken fun s => (s.bump F.ATM_BROKEN_SEM).tally .atm 10).semTake k m
        reply s (s.semValue k m true broken false false)
      else if wait then ((s.tally .atm 5).setSem k (q ++ [{ master := m, reads := [(off, size)], since := s.now }]))
      else reply s (s.semValue k m false false false false)

/-- The stalled acquire reads of a master time out (R337, R338). -/
def semAcquireTimeout (m k : Nat) (s : State) : State :=
  let q := s.semWaits k
  match q.find? fun w => w.master == m with
  | none => s
  | some w =>
    if w.reads = [] then s
    else
      let s := (s.reach (w.since + us 10)).tally .atm 6
      let s := s.semReply m w.reads (s.semValue k m false false false true)
      let keep := s.rd F.ATM_CTL_SEM_KEEP_US
      if keep = 0 then s.setSem k (q.filter fun x => x.master != m)
      else s.setSem k (q.map fun x => if x.master = m then { x with reads := [], keep := some (s.now + us keep) } else x)

/-- The keep time of a master ends (R338). -/
def semKeepExpire (m k : Nat) (s : State) : State :=
  let q := s.semWaits k
  match q.find? fun w => w.master == m with
  | none => s
  | some w =>
    match w.keep with
    | none => s
    | some t =>
      let s := (s.reach t).setSem k (q.filter fun x => x.master != m)
      if w.held then s.semPass k false else s

/-- A write of `ATM_SEM_RELk.REL` through a window (R339). -/
def semRelease (m fn k : Nat) (s : State) : State :=
  let off := F.ATM_SEM_RELk_REL.addr fn k
  if !mayWindow m fn then s
  else if s.on F.ATM_SEM_STATk_HELD 0 k && s.rd F.ATM_SEM_STATk_HOLDER 0 k == m then
    (s.setSem k ((s.semWaits k).filter fun w => w.master != m)).semPass k false
  else s.berr .atm 3 { access := accRegWrite, addr := off, master := some m }

/-- A write of `ATM_SEM_FORCE` (R340). -/
def semForce (m k : Nat) (s : State) : State :=
  if !s.mayWrite m then s.refuse m Block.atm.page (F.ATM_SEM_FORCE_GO.addr 0 0) true
  else if s.on F.ATM_SEM_STATk_HELD 0 k then
    (s.setSem k ((s.semWaits k).filter fun w => !w.held)).semPass k true
  else s

/-- A master is lost: its waits are withdrawn and its semaphores pass with the broken flag (R340). -/
def State.semLose (s : State) (m : Nat) : State :=
  (List.range 256).foldl (fun s k =>
    let q := s.semWaits k
    let s := if q.any (fun w => w.master == m) then s.setSem k (q.filter fun w => w.master != m) else s
    if s.on F.ATM_SEM_STATk_HELD 0 k && s.rd F.ATM_SEM_STATk_HOLDER 0 k == m then s.semPass k true else s) s

/-! ## Locks at their device (R341 to R346, R349, R350) -/

/-- Waiters of every lock (`ATM_STAT.WAITERS`). -/
def State.lockWaiters (s : State) : Nat := (s.locks.map fun e => e.2.waiters.length).sum

/-- The copy of a lock's state in its object (R341). -/
def State.writeLock (s : State) (off : Nat) (l : Lock) : State :=
  let w0 := ((l.holder.map LockWait.epa).getD 0) + b2n l.broken * 2 ^ 29 + b2n (l.waiters != []) * 2 ^ 30 + b2n l.holder.isSome * 2 ^ 31
  s.commonsWrite (s.commonsBase + off) (leBytes 4 w0 ++ leBytes 4 l.waiters.length ++ leBytes 8 l.grants) .atm

/-- A lock's state kept: the entry goes when the lock is free and no one waits, and the object is written (R341). -/
def State.putLock (s : State) (off : Nat) (l : Lock) : State :=
  let s := s.writeLock off l
  let s := if l.holder.isNone && l.waiters = [] then { s with locks := Tbl.del s.locks off } else { s with locks := Tbl.set s.locks off l }
  (s.high F.ATM_HWM_LOCKS_HWM s.locks.length).high F.ATM_HWM_WAITERS_HWM s.lockWaiters

/-- The header of a message about a lock. -/
def lockHdr (resp : Bool) (verb key remote tag : Nat) : DataHdr :=
  { resp := resp, verb := verb, noun := nnLock, key := key, remote := remote, opTag := tag, msgLen := 0, last := true }

/-- A lock granted: the object written, then the grant sent (R341, R344, R345). -/
def State.lockGrant (s : State) (off : Nat) (l : Lock) (w : LockWait) (broken : Bool) : State :=
  let n := wrapAdd 64 l.grants 1
  let s := s.when broken fun s => (s.bump F.ATM_BROKEN_LOCK).tally .atm 10
  let s := (s.putLock off { l with holder := some w, grants := n, broken := false, leaseEnd := none }).tally .atm 8
  { s with resps := s.resps ++ [.pkt w.key w.slot (.grant off n) .fixed (lockHdr true vbLock w.rkey w.remote w.tag) (leBytes 8 n ++ leBytes 1 (b2n broken) ++ leBytes 7 0)] }

/-- A lock passes on from its holder (R345, R346). -/
def State.lockPass (s : State) (off : Nat) (broken : Bool) : State :=
  match Tbl.get s.locks off with
  | none => s
  | some l =>
    let broken := broken || l.broken
    match l.waiters with
    | [] => s.putLock off { l with holder := none, broken := broken, leaseEnd := none }
    | w :: rest => s.lockGrant off { l with waiters := rest } w broken

/-- The entry of a lock, or one made from its object (R342); none: the object cannot be read (R511). -/
def State.lockEntry (s : State) (off : Nat) : Option Lock :=
  match Tbl.get s.locks off with
  | some l => some l
  | none =>
    let a := s.commonsBase + off
    if !s.memOk .atm a 16 then none
    else
      let w := s.word a 4
      some { grants := s.word (a + 8) 8, broken := bitOf w 29 || bitOf w 31 }

/-- A `LOCK` at the lock device (R345). -/
def State.onLock (s : State) (k : PwKey) (rx : RxPkt) : State × Option Outcome :=
  let h := rx.hdr
  if s.fenced Block.atm.page then s.atmBusy rx nrEngineFenced
  else
    match s.regionCheck rx rgAtomic h.remote 16 16, s.target h.dstEpa h.key with
    | some (st, dt), _ => s.refusedBy rx st dt
    | none, none => (s, none)
    | none, some t =>
      if t.host then s.refusedBy rx stRemoteAccess dtKeyInvalid
      else
        let off := t.base + h.remote
        let s := s.tally .atm 7
        match s.lockEntry off with
        | none => (s.memDeny .atm (s.commonsBase + off) 16).noticed rx ntFault nrSourceBus
        | some l =>
          let w : LockWait := { epa := h.srcEpa, key := k, slot := rx.slot, tag := h.opTag, lease := leNat (((payloadOf rx.pkt).drop 8).take 4), rkey := h.key, remote := h.remote }
          if ((l.holder.map LockWait.epa) == some h.srcEpa) || l.waiters.any (fun x => x.epa == h.srcEpa) then
            (s, some (.refused stRemoteAccess dtLockRecursive))
          else if !Tbl.has s.locks off && decide (16384 ≤ s.locks.length) then (s.bump F.ATM_REFUSE_LOCK_TABLE_FULL).atmBusy rx nrLockFull
          else if l.holder.isNone then (s.lockGrant off l w l.broken, some .placed)
          else if 65536 ≤ s.lockWaiters then (s.bump F.ATM_REFUSE_LOCK_TABLE_FULL).atmBusy rx nrLockFull
          else ((s.putLock off { l with waiters := l.waiters ++ [w] }).tally .atm 9, some .placed)

/-- An endpoint's wait on a lock removed, and its hold released if asked (R346). -/
def State.lockLeave (s : State) (off epa : Nat) (abandon : Bool) : State :=
  match Tbl.get s.locks off with
  | none => s
  | some l =>
    let s := if l.waiters.any (fun w => w.epa == epa) then s.putLock off { l with waiters := l.waiters.filter fun w => w.epa != epa } else s
    if abandon && (l.holder.map LockWait.epa) == some epa then s.lockPass off true else s

/-- An `UNLOCK` at the lock device (R345, R346). -/
def State.onUnlock (s : State) (rx : RxPkt) : State × Option Outcome :=
  let h := rx.hdr
  if s.fenced Block.atm.page then s.atmBusy rx nrEngineFenced
  else
    match s.regionCheck rx rgAtomic h.remote 16 16, s.target h.dstEpa h.key with
    | some (st, dt), _ => s.refusedBy rx st dt
    | none, none => (s, none)
    | none, some t =>
      if t.host then s.refusedBy rx stRemoteAccess dtKeyInvalid
      else
        let off := t.base + h.remote
        let d := payloadOf rx.pkt
        let for_ := leNat (d.take 4) % 2 ^ 21
        let flags := leNat ((d.drop 4).take 1)
        let withdraw := bitOf flags 0
        let abandon := bitOf flags 1
        if for_ = 0 && !withdraw && !abandon then
          if ((Tbl.get s.locks off).bind fun l => l.holder.map LockWait.epa) == some h.srcEpa then (s.lockPass off false, some .placed)
          else (s, some (.refused stRemoteAccess dtLockNotHeld))
        else
          let e := if for_ = 0 then h.srcEpa else for_
          if (e = h.srcEpa && withdraw && !abandon) || (epaSel h.srcEpa = 5 && epaDid h.srcEpa = epaDid e) then
            (if withdraw || abandon then s.lockLeave off e abandon else s, some .placed)
          else (s, some (.refused stRemoteAccess dtLockBadProxy))

/-- A grant settled (R349, R350). -/
def State.grantSettled (s : State) (off n : Nat) (how : Settled) : State :=
  match Tbl.get s.locks off with
  | none => s
  | some l =>
    if l.grants ≠ n then s
    else
      match l.holder, how with
      | some _, .absent => s.lockPass off false
      | some w, _ =>
        if w.lease = 0 then s else { s with locks := Tbl.set s.locks off { l with leaseEnd := some (s.now + ms w.lease) } }
      | none, _ => s

/-- A grant reached its give-up deadline (R349). -/
def State.grantFailed (s : State) (off n : Nat) : State :=
  match Tbl.get s.locks off with
  | none => s
  | some l => if l.grants = n && l.holder.isSome then s.lockPass off true else s

/-- The lease of a lock's holder ends (R350). -/
def lockLeaseExpire (off : Nat) (s : State) : State :=
  match (Tbl.get s.locks off).bind Lock.leaseEnd with
  | none => s
  | some t => (s.reach t).lockPass off true

/-- A write of `ATM_LOCK_FORCE` (R350). -/
def lockForce (m off : Nat) (s : State) : State :=
  if !s.mayWrite m then s.refuse m Block.atm.page (F.ATM_LOCK_FORCE_GO.addr 0 0) true
  else
    match Tbl.get s.locks off with
    | none => s
    | some l => if l.holder.isSome then s.lockPass off true else s

/-! ## Locks at the requester (R347, R348, R351) -/

/-- An `UNLOCK` sent on an endpoint's behalf: pathway, slot, key, remote offset, the endpoint it is for, its flags (R346). -/
def State.sendUnlock (s : State) (k : PwKey) (slot key remote for_ flags : Nat) : State :=
  s.numbered.sendRequest k slot (.unlock s.nextMsg (flags != 0)) (lockHdr false vbUnlock key remote (2 ^ 32 - 1)) (leBytes 4 for_ ++ leBytes 1 flags ++ leBytes 11 0)

/-- A grant, or the refusal of one (no payload, log entry 9), arrives (R347, R348, R354). -/
def State.onGrant (s : State) (k : PwKey) (rx : RxPkt) : State :=
  let h := rx.hdr
  let d := payloadOf rx.pkt
  let live := match Tbl.get s.ops h.opTag with
    | some o => if o.ended.isNone && o.d.verb = vbLock && !o.recv && s.opKey o = k && o.value.isNone && !o.stop then some o else none
    | none => none
  match live with
  | some _ =>
    if d = [] then s.endOp h.opTag stAborted dtLockLost 0 0
    else (s.modOp h.opTag fun o => { o with value := some (leNat (d.take 8)), broken := bitOf (leNat ((d.drop 8).take 1)) 0 }).checkOp h.opTag
  | none =>
    if d = [] then s
    else s.later (.unlock k rx.slot h.key h.remote)

/-- A `LOCK` withdrawn from its lock device (R347, R160). -/
def State.withdrawLock (s : State) (o : Op) : State := s.sendUnlock (s.opKey o) o.slot o.d.key o.d.remote 0 1

/-- The wait limit of a `LOCK` passes (R347). -/
def lockWaitTimeout (id : Nat) (s : State) : State :=
  match Tbl.get s.ops id with
  | none => s
  | some o =>
    let lim := o.d.operand0 % 2 ^ 32
    if o.d.verb ≠ vbLock || o.recv || o.ended.isSome || o.value.isSome || lim = 0 || o.phase ≠ .sent then s
    else
      let s := (s.reach (o.startAt + us lim)).withdrawLock o
      s.endOp id stTimeout dtLockWaitTimeout 0 0

/-- Every lock that a function holds or waits on, of one slot or of all, abandoned for it (R351). -/
def State.abandonLocks (s : State) (fn : Nat) (slot : Option Nat) : State :=
  let hit (h : HeldLock) : Bool := h.fn == fn && (slot.isNone || slot == some h.slot)
  let mine := s.heldLocks.filter hit
  let s := { s with heldLocks := s.heldLocks.filter fun h => !hit h }
  mine.foldl (fun s h => s.sendUnlock { loc := s.epa 5, rem := h.epa, tc := 3, lqp := 0 } h.slot h.key h.remote (s.epa fn) 2) s

end Sys2Proof.Machine
end

