-- ==== Sys2Proof/Machine/Match.lean ====
section
/-! DEFINITION. Machine/Match.lean: message matching: lists, arrivals, postings, copies, pulls, overflow buffers (08). -/

namespace Sys2Proof.Machine

/-- Matching detail codes (R276). -/
def dtListInvalid : Nat := 0x0300
def dtEagerLong : Nat := 0x0301
def dtRdvWithdrawn : Nat := 0x0302
def dtRdvCancelled : Nat := 0x0303
def dtRdvNoPull : Nat := 0x0304
def dtMsgAbandoned : Nat := 0x0305
def dtProbeNoMatch : Nat := 0x0306
def dtEntryLost : Nat := 0x0307

/-- Matching notice reasons (R281). -/
def nrUnexpFull : Nat := 0x30
def nrPoolFull : Nat := 0x31
def nrRecordsFull : Nat := 0x32
def nrQuota : Nat := 0x33
def nrListNotReady : Nat := 0x34

/-! ## Capacities (08, *Exhaustion*) -/

/-- Entries of each side of the match store. -/
def State.storeCap (s : State) : Nat := s.planSize 5 / 128

/-- Pool blocks. -/
def State.poolCap (s : State) : Nat := s.planSize 6 / 4096

/-- Pool blocks in use: by a function, or by all (`fn` 4). -/
def State.blocksUsed (s : State) (fn : Nat) : Nat :=
  (s.unexp.map fun u => if u.fn = fn ∨ fn = 4 then u.blocks else 0).sum
    + (s.recs.map fun e => if e.2.fn = fn ∨ fn = 4 then e.2.parts.length else 0).sum
    + (s.copies.map fun e => if fn = 4 ∨ e.2.fn = fn then e.2.blocks else 0).sum

/-- Unexpected headers of a function. -/
def State.unexpOf (s : State) (fn : Nat) : Nat := (s.unexp.filter fun u => u.fn == fn).length

/-- Free unexpected-header entries of the device. -/
def State.freeHeaders (s : State) : Nat := s.storeCap - s.unexp.length

/-- Has a function reached its header quota? -/
def State.hdrQuota (s : State) (fn : Nat) : Bool :=
  s.on F.MTC_QUOTA_Fn_HDR_MAX 0 fn && decide (s.rd F.MTC_QUOTA_Fn_HDR_MAX 0 fn ≤ s.unexpOf fn)

/-- Can a function take `n` more pool blocks? (R264) -/
def State.poolRoom (s : State) (fn n : Nat) : Bool :=
  n == 0 || (decide (s.blocksUsed 4 + n ≤ s.poolCap)
    && (!s.on F.MTC_QUOTA_Fn_POOL_MAX 0 fn || decide (s.blocksUsed fn + n ≤ s.rd F.MTC_QUOTA_Fn_POOL_MAX 0 fn)))

/-- Are accesses of a list's matching unit to the unexpected-payload pool refused (R400)? -/
def State.poolDenied (s : State) (list : Nat) : Bool := s.memDenied (.mtc list) (s.planBase 6)

/-- Payload lost in the pool (R288 index 3). -/
def State.poolError (s : State) (list : Nat) : State := s.berr .mtc 3 { master := some (0x1D + list % 2) }

/-- Has a function reached its pool quota? -/
def State.poolQuota (s : State) (fn : Nat) : Bool :=
  s.on F.MTC_QUOTA_Fn_POOL_MAX 0 fn && decide (s.rd F.MTC_QUOTA_Fn_POOL_MAX 0 fn ≤ s.blocksUsed fn)

/-- High-water marks of the match store and of the pool. -/
def State.mtcHigh (s : State) : State :=
  let s := (s.high F.MTC_HWM_POSTED_HWM s.posted.length).high F.MTC_HWM_UNEXP_HWM s.unexp.length
  (s.high F.MTC_HWM2_BLOCKS_HWM (s.blocksUsed 4)).high F.MTC_HWM2_RECORDS_HWM s.recs.length

/-! ## Lists and their events (R248, R251, R282) -/

/-- An event of a match list (R251). -/
def State.listEvent (s : State) (fn list : Nat) (e : Evt) : State :=
  match Tbl.get s.lists (fn, list) with
  | none => s.asyncEvent fn e
  | some l =>
    if !l.eqEn then s.asyncEvent fn e
    else if Tbl.has s.eqs (fn, l.eq) then s.event fn l.eq e
    else s.bump F.CMD_ASYNC_LOST 1 fn

/-- A list enters `NOT_READY` (R248). -/
def State.listNotReady (s : State) (fn list reason src : Nat) : State :=
  match Tbl.get s.lists (fn, list) with
  | none => s
  | some l =>
    if !l.ready then s
    else
      let s := { s with lists := Tbl.set s.lists (fn, list) { l with ready := false } }
      let s := s.listEvent fn list { type := 0x10, subtype := reason, value := list, data := s.freeHeaders, peer := src }
      s.berr .mtc 6 { master := some (0x1D + list % 2) }

/-- A list returns to `READY` when there is room again (R248). -/
def listReady (fn list : Nat) (s : State) : State :=
  match Tbl.get s.lists (fn, list) with
  | none => s
  | some l =>
    if l.ready || s.freeHeaders < s.rd F.MTC_CTL_RESUME_FREE * 1024 || s.hdrQuota fn || s.poolQuota fn then s
    else
      let s := { s with lists := Tbl.set s.lists (fn, list) { l with ready := true } }
      s.listEvent fn list { type := 0x11, value := list, data := s.freeHeaders }

/-- A not-ready notice (R281). -/
def State.notReady (s : State) (rx : RxPkt) (reason : Nat) : State × Option Outcome :=
  ((s.bump F.MTC_REFUSE_NOT_READY).tally .mtc 11 1 (rx.hdr.key % 2)).noticed rx ntNotReady reason

/-- An overflow buffer is released (R279). -/
def State.releaseOvf (s : State) (fn list src : Nat) (o : Option Ovf) : State :=
  match o with
  | none => s
  | some b => s.listEvent fn list { type := 0x13, value := list, offset := b.iova, data := b.value, peer := src }

/-! ## The key (R255) -/

/-- Does a posted receive take any source? -/
def anySrc (d : Descr) : Bool := bitOf d.noun 0

/-- Is a message eligible for a posted receive? -/
def eligible (d : Descr) (ctx src bits : Nat) : Bool :=
  d.trigCtr == ctx && (anySrc d || d.targetEpa == src) && ((bits ^^^ d.remote) &&& (2 ^ 64 - 1 - d.operand0)) == 0

/-- Is a receive's queue the receive queue of a compatibility queue pair? -/
def State.lqpRecv (s : State) (o : Op) : Bool :=
  match Tbl.get s.wqs (o.fn, o.wq) with
  | some q => q.lqp != 0
  | none => false

/-- The first posted receive that takes a message of a list (R258); posting sequence is list order. -/
def State.findPosted (s : State) (fn list ctx src bits : Nat) : Option Posted :=
  s.posted.find? fun p => p.fn == fn && p.list == list && (match Tbl.get s.ops p.op with
    | some o => !s.lqpRecv o && eligible o.d ctx src bits
    | none => false)

/-- The first unexpected header that a receive takes (R258). -/
def State.findUnexp (s : State) (fn list : Nat) (d : Descr) : Option Unexp :=
  s.unexp.find? fun u => u.fn == fn && u.list == list && eligible d u.ctx u.src u.bits

/-! ## Receives (R266, R273, R274) -/

/-- Bytes that a receive takes of its message. -/
def Op.takes (o : Op) : Nat :=
  match o.msg with
  | some (_, _, n) => min n o.d.length
  | none => 0

/-- The matching unit of a receive: that of its queue's list (R9). -/
def State.unitOf (s : State) (o : Op) : Nat := ((Tbl.get s.wqs (o.fn, o.wq)).map fun q => q.list % 2).getD 0

/-- A receive over: the record of a rendezvous message that it pulled is free (R262). -/
def State.endRecv (s : State) (id st dt len data : Nat) : State :=
  ({ s with recs := Tbl.keep s.recs fun _ r => !(r.rdv && r.op == some id) } : State).endOp id st dt len data

/-- A bound receive completes when every byte it takes is placed (R266, R274). -/
def State.checkRecv (s : State) (id : Nat) : State :=
  match Tbl.get s.ops id with
  | none => s
  | some o =>
    match o.msg with
    | none => s
    | some (_, _, n) =>
      if o.ended.isSome || o.bytes < o.takes then s
      else if o.d.length < n then (s.tally .mtc 13 1 (s.unitOf o)).endRecv id stTruncated 0 o.bytes o.bits
      else s.endRecv id stOk 0 o.bytes o.bits

/-- A receive fails. -/
def State.failRecv (s : State) (id st dt : Nat) : State :=
  match Tbl.get s.ops id with
  | none => s
  | some o => s.endRecv id st dt o.bytes o.bits

/-- Bytes of a segment that a receive takes. -/
def Op.trim (o : Op) (off : Nat) (d : List Byte) : List Byte := d.take (o.takes - off)

/-! ## Pulls (R268, R271) -/

/-- A pull sent for a bound rendezvous header (R268). -/
def State.sendPull (s : State) (id slot : Nat) : State :=
  match Tbl.get s.ops id with
  | none => s
  | some o =>
    let s := s.modOp id fun o => { o with pull := true, slot := slot, phase := .sent, deadline := some s.restart }
    ((s.tally .mtc 10 1 (s.unitOf o)).sendRequest (s.dataKey o) slot (.pull id) (({ o with pull := true } : Op).request id 0 o.wanted) []).checkRecv id

/-- A cancel pull for an unexpected rendezvous header (R249, R268). -/
def State.cancelPull (s : State) (u : Unexp) (fn list : Nat) : State :=
  s.numbered.sendRequest u.key u.slot (.cancelPull s.nextMsg fn list) { verb := vbGet, noun := nnList, key := u.tag, opTag := 2 ^ 32 - 1, remote := 2 ^ 64 - 1, last := true } []

/-- A pull settled (R176, R276, R287); a drained receive waited for it (R286). -/
def State.pullSettled (s : State) (id : Nat) (how : Settled) : State :=
  match (Tbl.get s.ops id).bind Op.fail with
  | some (st, dt) => s.failRecv id st dt
  | none =>
  match how with
  | .ok => s.modOp id fun o => { o with acked := true }
  | .refused st dt =>
    let lqp := ((Tbl.get s.ops id).map fun o => (s.dataKey o).lqp).getD 0
    let s := if lqp ≠ 0 && dt = dtLqpError then s.later (.lqpError (lqp - 1)) else s
    if dt = dtRdvWithdrawn then s.failRecv id stAborted dt else s.failRecv id st dt
  | .absent => s.failRecv id stAbsent 0

/-- A pull was given up (R271). -/
def State.pullFailed (s : State) (id st dt : Nat) : State :=
  match Tbl.get s.ops id with
  | none => s
  | some o =>
    if o.fail.isNone && dt = dtContextLost then s.failRecv id st dt
    else if (match o.deadline with
        | some t => decide (s.now < t) && dt != dtContextLost
        | none => false) then s
    else
      let (st, dt) := o.fail.getD (o.getDead st dt)
      s.failRecv id st dt

/-- Data of a pull placed in the receive's buffer (R271). -/
def State.onPullData (s : State) (k : PwKey) (rx : RxPkt) : State × Option Outcome :=
  let h := rx.hdr
  let d := payloadOf rx.pkt
  match Tbl.get s.ops h.opTag with
  | none => (s, some .placed)
  | some o =>
    if o.ended.isSome || !o.recv || !o.pull || s.dataKey o ≠ k || o.stop || o.wanted < h.remote + d.length then (s, some .placed)
    else
      match s.placeXlat k rx o.fn (s.opAs o) (o.d.localAddr + h.remote) d.length false true 1 (o.wq + 2 ^ 31) (o.wanted - h.remote - d.length) with
      | (s, .parked) => (s, none)
      | (s, .refused nt nr kind) =>
        (s.modOp h.opTag fun o => { o with localFault := if kind = 0 then o.localFault else kind }).noticed rx nt nr
      | (s, .ready ps) =>
        let pipe := PwKey.pipe k
        let s := ((s.placeWrite (4 + pipe) o.fn ps d).tally .rxe 0 1 pipe).tally .rxe 1 d.length pipe
        let s := s.modOp h.opTag fun o =>
          if o.got.contains (h.remote / 4096) then o
          else { o with got := (h.remote / 4096) :: o.got, bytes := o.bytes + d.length, deadline := some s.restart, localFault := 0, refusal := none }
        (s.checkRecv h.opTag, some .placed)

/-! ## Copies (R265, R284) -/

/-- Is a message whole: every segment accepted? (R262) -/
def MRec.whole (r : MRec) : Bool := decide (max 1 (ceilDiv r.len 4096) ≤ r.got.length)

/-- A copy over: its blocks are free, its overflow buffer is released (R279), and the record of a message that is whole is free (R262). -/
def State.copyDone (s : State) (id : Nat) (c : Copy) : State :=
  let s := { s with copies := Tbl.del s.copies id, recs := Tbl.keep s.recs fun _ r => !(r.op == some c.op && r.whole && !r.rdv) }
  (s.dropGrants (.copy id)).releaseOvf c.fn c.list c.src c.ovf

/-- A copy met a fault: one record, and it is tried again every 10 µs (R284). -/
def State.copyFault (s : State) (id : Nat) (c : Copy) (fn as kind level iova : Nat) (wr : Bool) : State :=
  let s := s.faultRecord fn { kind := kind, source := 6, level := level, write := wr, master := 0x1D + c.list % 2, as := as, iova := iova, context := c.list, remote := c.src } true
  let t0 := match c.fault with
    | some (t, _) => t
    | none => s.now
  { s with copies := Tbl.set s.copies id { c with fault := some (t0, kind), retryAt := s.now + us 10 } }

/-- A copy goes on, unless its write overlaps the word of an atomic (R330) or its requester is fenced (R400): every held part written in the receive's address space, then the overflow buffer read (R265). The first
argument bounds its steps. -/
def State.copyRun (s : State) (fuel id : Nat) : State :=
  match fuel with
  | 0 => s
  | n + 1 =>
    match Tbl.get s.copies id with
    | none => s
    | some c =>
      match Tbl.get s.ops c.op with
      | none => s.copyDone id c
      | some o =>
        if o.ended.isSome then s.copyDone id c
        else if c.lost then (s.copyDone id c).failRecv c.op stAborted dtPayloadCorrupted
        else
          match c.parts with
          | (seg, d) :: rest =>
            let d' := o.trim (4096 * seg) d
            let as := s.opAs o
            let (s, r) := if d' = [] then (s, .ok [] false) else s.xlat (.copy id) o.fn as (o.d.localAddr + 4096 * seg) d'.length false true
            match r with
            | .wait => s
            | .fault kind level iova => s.copyFault id c o.fn as kind level iova true
            | .ok ps _ =>
              if d' ≠ [] && s.reqFenced (Block.hif.page + o.fn) 11 then
                ((s.later (.refusedReq (Block.hif.page + o.fn) 0 11 (some (0x1D + c.list % 2)))).copyDone id c).failRecv c.op stAborted dtPayloadCorrupted
              else if ps.any fun p => s.wordBusy o.fn p.1 p.2.2 then { s with copies := Tbl.set s.copies id { c with onWord := true } }
              else
              let s := s.dropGrants (.copy id)
              let s := if d' = [] then s else (s.placeWrite 11 o.fn ps d').tally .mtc 9 d'.length (c.list % 2)
              let s := s.modOp c.op fun o => { o with bytes := o.bytes + d'.length }
              ({ s with copies := Tbl.set s.copies id { c with parts := rest, fault := none, onWord := false } } : State).copyRun n id
          | [] =>
            match c.segs, c.ovf with
            | (seg, len) :: _, some b =>
              if c.reading.isSome then s
              else
                let as := s.rd F.MTC_OVF_CTL_AS o.fn
                let (s, r) := s.xlat (.copy id) o.fn as (b.iova + 4096 * seg) len true false
                match r with
                | .wait => s
                | .fault kind level iova => s.copyFault id c o.fn as kind level iova false
                | .ok ps _ =>
                  let (s, rd) := (s.dropGrants (.copy id)).hostReadV o.fn ps len (.copy id) (some (b.iova + 4096 * seg)) none as
                  { s with copies := Tbl.set s.copies id { c with reading := some rd, fault := none } }
            | _, _ => (s.copyDone id c).checkRecv c.op

/-- The read of an overflow buffer ends (R265, R288). -/
def State.copyRead (s : State) (id addr : Nat) (r : BusResult) : State :=
  match Tbl.get s.copies id with
  | none => s
  | some c =>
    match r, c.segs with
    | .ok b, (seg, _) :: rest =>
      ({ s with copies := Tbl.set s.copies id { c with reading := none, parts := [(seg, b)], segs := rest } } : State).copyRun 64 id
    | .failed, _ =>
      (((s.berr .mtc 5 { access := accHostRead, addr := addr, master := some (0x1D + c.list % 2) }).wr F.MTC_OVF_CTL_EN 0 c.fn).copyDone id c).failRecv c.op stAborted dtPayloadCorrupted
    | _, [] => s

/-- A faulted copy is tried again, or its receive completes with the fault (R284). -/
def matchCopyRetry (id : Nat) (s : State) : State :=
  match Tbl.get s.copies id with
  | none => s
  | some c =>
    match c.fault with
    | none => s
    | some (t0, kind) =>
      let s := s.reach c.retryAt
      if t0 + us (s.rd F.PWY_TIMERS_GIVEUP) ≤ s.now then (s.copyDone id c).failRecv c.op (faultStatus kind) 0
      else s.copyRun 64 id

/-- A copy started for a receive from what is held of its message. -/
def State.startCopy (s : State) (c : Copy) : State :=
  let id := s.nextCopy
  let bad := (s.memFenced || s.poolDenied c.list) && c.parts != []
  let c := if bad then { c with lost := true } else c
  let s := s.when bad fun s => s.poolError c.list
  ({ s with copies := s.copies ++ [(id, c)], nextCopy := id + 1 } : State).copyRun 64 id

/-! ## Binding (R258, R259, R265, R268) -/

/-- A receive bound to a message. -/
def State.bindOp (s : State) (id : Nat) (k : PwKey) (tag len src bits : Nat) : State :=
  let s := { s with posted := s.posted.filter fun p => p.op != id }
  s.modOp id fun o => { o with msg := some (k, tag, len), src := src, bits := bits, phase := .begun }

/-- Is a message's record that of a stored header? A header of an earlier message of the same name has none (R262, R263). -/
def MRec.holds (r : MRec) (u : Unexp) : Bool := r.stored && r.op.isNone && r.fn == u.fn && r.list == u.list && r.useq == u.seq

/-- A receive takes an unexpected header: a pull, or a copy of what is held (R258, R265, R268). -/
def State.bindUnexp (s : State) (id : Nat) (u : Unexp) : State :=
  let s := { s with unexp := s.unexp.filter fun x => !(x.fn == u.fn && x.list == u.list && x.seq == u.seq) }
  let s := (s.bindOp id u.key u.tag u.len u.src u.bits).tally .mtc 3 1 (u.list % 2)
  if u.rdv then s.sendPull id u.slot
  else
    let s := match Tbl.get s.recs (u.key, u.tag) with
      | some r => if r.holds u then { s with recs := Tbl.set s.recs (u.key, u.tag) { r with op := some id, stored := false } } else s
      | none => s
    s.startCopy { op := id, list := u.list, fn := u.fn, src := u.src, parts := u.parts, blocks := u.blocks, ovf := u.ovf, segs := u.segs, lost := u.lost }

/-- A segment noted on a message's record; the record goes when the message is whole, and its early segments are copied (R262). -/
def State.gotSeg (s : State) (k : PwKey) (tag seg : Nat) : State :=
  match Tbl.get s.recs (k, tag) with
  | none => s
  | some r =>
    let r := { r with got := if r.got.contains seg then r.got else seg :: r.got, lastAt := s.now, fault := 0 }
    let copying := s.copies.any fun e => r.op == some e.2.op
    if r.whole && !copying then { s with recs := Tbl.del s.recs (k, tag) } else { s with recs := Tbl.set s.recs (k, tag) r }

/-- An eager segment placed into a bound receive, or discarded where the receive is over or full (R263, R268, R283). -/
def State.placeSeg (s : State) (k : PwKey) (rx : RxPkt) (id : Nat) : State × Option Outcome :=
  let h := rx.hdr
  let d := payloadOf rx.pkt
  match Tbl.get s.ops id with
  | none => (s.gotSeg k h.opTag h.segIndex, some .placed)
  | some o =>
    let d' := o.trim (4096 * h.segIndex) d
    if o.ended.isSome then (s.gotSeg k h.opTag h.segIndex, some .placed)
    else
      match s.placeXlat k rx o.fn (s.opAs o) (o.d.localAddr + 4096 * h.segIndex) d'.length false true 1 (o.wq + 2 ^ 31)
          (o.takes - 4096 * h.segIndex - d'.length) with
      | (s, .parked) => (s, none)
      | (s, .refused nt nr kind) =>
        let s := match Tbl.get s.recs (k, h.opTag) with
          | some r => { s with recs := Tbl.set s.recs (k, h.opTag) { r with fault := if kind = 0 then r.fault else kind, lastAt := s.now } }
          | none => s
        s.noticed rx nt nr
      | (s, .ready ps) =>
        let pipe := PwKey.pipe k
        let s := if d' = [] then s else ((s.placeWrite (4 + pipe) o.fn ps d').tally .rxe 0 1 pipe).tally .rxe 1 d'.length pipe
        let s := s.modOp id fun o => { o with bytes := o.bytes + d'.length }
        ((s.gotSeg k h.opTag h.segIndex).checkRecv id, some .placed)

/-- A record made for a message, if there is room (R258, R262). -/
def State.newRec (s : State) (k : PwKey) (tag : Nat) (r : MRec) : State :=
  ({ s with recs := Tbl.set s.recs (k, tag) r } : State).mtcHigh

/-! ## Storing (R264, R277, R278) -/

/-- Is an overflow buffer at hand? -/
def State.ovfReady (s : State) (fn : Nat) : Option Ovf :=
  if s.on F.MTC_OVF_CTL_EN fn then (Tbl.getD s.ovfs fn []).head? else none

/-- Entries of the overflow ring: other values of `LOG2_SIZE` act as 4. -/
def State.ovfSize (s : State) (fn : Nat) : Nat :=
  let l := s.rd F.MTC_OVF_CTL_LOG2_SIZE fn
  2 ^ (if 4 ≤ l ∧ l ≤ 12 then l else 4)

/-- Has a function supplied an entry of its ring that is not read yet? (R277) -/
def State.ovfSupplied (s : State) (fn : Nat) : Bool :=
  s.on F.MTC_OVF_CTL_EN fn &&
    wrapAdd 32 (s.rd F.MTC_OVF_HEAD_HEAD fn) (Tbl.getD s.ovfs fn []).length != s.rd F.MTC_OVF_TAIL_TAIL fn

/-- Is an entry of a function's ring being read? -/
def State.ovfReading (s : State) (fn : Nat) : Bool :=
  (s.walks.any fun e => e.2.waiters.any fun x => x.1 == .ovf fn) || s.reads.any fun e => match e.2.use with
    | .ovf f _ => f == fn
    | _ => false

/-- The next supplied entry of a function's ring read ahead. Where its read faults, the packets that wait for it are refused, as those
whose overflow write faults are (R284; log entry 33). DESIGN CHOICE: its fault record has source 6, the matching unit as master, and no context or remote
endpoint (R112; log entry 59). -/
def State.ovfFetch (s : State) (fn : Nat) : State :=
  let pos := wrapAdd 32 (s.rd F.MTC_OVF_HEAD_HEAD fn) (Tbl.getD s.ovfs fn []).length
  if !s.on F.MTC_OVF_CTL_EN fn || pos = s.rd F.MTC_OVF_TAIL_TAIL fn || s.reads.any (fun e => match e.2.use with
      | .ovf f _ => f == fn
      | _ => false) then s
  else
    let as := s.rd F.MTC_OVF_CTL_AS fn
    let a := s.rd F.MTC_OVF_BASE_BASE fn * 4096 + 16 * (pos % s.ovfSize fn)
    match s.xlat (.ovf fn) fn as a 16 true false with
    | (s, .wait) => s
    | (s, .fault kind level iova) =>
      let s := (s.dropGrants (.ovf fn)).faultRecord fn { kind := kind, source := 6, level := level, master := 0x1D + fn % 2, as := as, iova := iova, context := 0 } true
      let mine := s.ovfWait.filter fun e => e.1 == fn
      mine.foldl (fun s e => s.outcome e.2.1 e.2.2 (.notice ntFault nrXlt)) { s with ovfWait := s.ovfWait.filter fun e => e.1 != fn }
    | (s, .ok ps _) => ((s.dropGrants (.ovf fn)).hostReadV fn ps 16 (.ovf fn pos) (some a) none as).1

/-- An overflow buffer taken for a message (R277, R278). -/
def State.takeOvf (s : State) (fn list src : Nat) (b : Ovf) : State :=
  let s := { s with ovfs := Tbl.set s.ovfs fn ((Tbl.getD s.ovfs fn []).drop 1) }
  let s := ((s.roll F.MTC_OVF_HEAD_HEAD 1 fn).bump F.MTC_REFUSE_SPILLED).tally .mtc 12 1 (list % 2)
  s.listEvent fn list { type := 0x12, value := list, offset := b.iova, data := b.value, peer := src }

/-- A message stored as unexpected; its list exists, and its record `r` may hold early segments (R264, R278). -/
def State.store (s : State) (k : PwKey) (rx : RxPkt) (l : MList) (fn list : Nat) (r : MRec) (rdv : Bool) : State × Option Outcome :=
  let h := rx.hdr
  let d := payloadOf rx.pkt
  let refuse (s : State) (reason : Nat) : State × Option Outcome := (s.listNotReady fn list reason h.srcEpa).notReady rx reason
  if !l.ready then s.notReady rx nrListNotReady
  else if s.freeHeaders = 0 then refuse s nrUnexpFull
  else if s.hdrQuota fn then refuse s nrQuota
  else
    let need := if rdv then 0 else ceilDiv h.msgLen 4096
    let u : Unexp := { fn := fn, list := list, seq := l.useq, key := k, tag := h.opTag, ctx := h.key / 65536, bits := h.remote, src := h.srcEpa, len := h.msgLen, rdv := rdv, slot := rx.slot, blocks := need, parts := r.parts, lost := r.lost }
    let keep (s : State) (u : Unexp) : State × Option Outcome :=
      let s := { s with unexp := s.unexp ++ [u], lists := Tbl.set s.lists (fn, list) { l with useq := l.useq + 1 } }
      let s := if rdv then { s with recs := Tbl.del s.recs (k, h.opTag) }
        else (s.newRec k h.opTag { r with fn := fn, list := list, len := h.msgLen, stored := true, useq := u.seq, parts := [], lastAt := s.now }).gotSeg k h.opTag 0
      ((s.mtcHigh).tally .mtc 4 1 (list % 2), some .placed)
    if s.poolRoom fn (need - r.parts.length) then
      let bad := s.poolDenied list && d != []
      keep (s.when bad fun s => s.poolError list) { u with parts := if d = [] then u.parts else u.parts ++ [(0, d)], lost := u.lost || bad }
    else
      match s.ovfReady fn with
      | none =>
        if !s.ovfSupplied fn then refuse s nrPoolFull
        else
          let s := s.ovfFetch fn
          if s.ovfReading fn then ({ s with ovfWait := s.ovfWait ++ [(fn, k, { rx with passed := true })] }, none)
          else s.noticed rx ntFault nrXlt
      | some b =>
        match s.placeXlat k rx fn (s.rd F.MTC_OVF_CTL_AS fn) b.iova d.length false true 6 list (h.msgLen - d.length) with
        | (s, .parked) => (s, none)
        | (s, .refused nt nr _) => s.noticed rx nt nr
        | (s, .ready ps) =>
          let s := (if d = [] then s else s.placeWrite (4 + PwKey.pipe k) fn ps d).takeOvf fn list h.srcEpa b
          keep s { u with blocks := r.parts.length, ovf := some b, segs := if d = [] then [] else [(0, d.length)] }

/-- The unexpected header of a message. -/
def State.unexpOfMsg (s : State) (k : PwKey) (tag : Nat) : Option Unexp :=
  match Tbl.get s.recs (k, tag) with
  | none => none
  | some r => s.unexp.find? fun u => u.key == k && u.tag == tag && r.holds u

/-- An unexpected header changed: those of a list have numbers of their own (R256). -/
def State.modUnexp (s : State) (u : Unexp) (f : Unexp → Unexp) : State :=
  { s with unexp := s.unexp.map fun x => if x.fn == u.fn && x.list == u.list && x.seq == u.seq then f x else x }

/-- A segment of a stored message put into the space reserved for it (R263). -/
def State.storeSeg (s : State) (k : PwKey) (rx : RxPkt) : State × Option Outcome :=
  let h := rx.hdr
  let d := payloadOf rx.pkt
  match s.unexpOfMsg k h.opTag with
  | none => (s.gotSeg k h.opTag h.segIndex, some .placed)
  | some u =>
    match u.ovf with
    | none =>
      let bad := s.poolDenied u.list && d != []
      (((s.when bad fun s => s.poolError u.list).modUnexp u fun u => { u with parts := u.parts ++ [(h.segIndex, d)], lost := u.lost || bad }).gotSeg
        k h.opTag h.segIndex, some .placed)
    | some b =>
      match s.placeXlat k rx u.fn (s.rd F.MTC_OVF_CTL_AS u.fn) (b.iova + 4096 * h.segIndex) d.length false true 6 u.list (h.msgLen - 4096 * h.segIndex - d.length) with
      | (s, .parked) => (s, none)
      | (s, .refused nt nr _) => s.noticed rx nt nr
      | (s, .ready ps) =>
        let s := s.placeWrite (4 + PwKey.pipe k) u.fn ps d
        ((s.modUnexp u fun u => { u with segs := u.segs ++ [(h.segIndex, d.length)] }).gotSeg k h.opTag h.segIndex, some .placed)

/-- A refusal of a `SEND` packet with its violation event (R276). -/
def State.sendRefused (s : State) (rx : RxPkt) (fn : Nat) (l : Option MList) (st dt : Nat) : State × Option Outcome :=
  let eq := match l with
    | some l => if l.eqEn then some l.eq else none
    | none => none
  (s.violationEvent fn eq rx rx.hdr.key rx.hdr.remote dt, some (.refused st dt))

/-- The first packet of a message meets a receive: bound (R258, R263). -/
def State.bindFirst (s : State) (k : PwKey) (rx : RxPkt) (fn list id : Nat) (r : Option MRec) (rdv : Bool) : State × Option Outcome :=
  let h := rx.hdr
  let s := s.bindOp id k h.opTag h.msgLen h.srcEpa h.remote
  if rdv then ((s.newRec k h.opTag { fn := fn, list := list, len := h.msgLen, op := some id, rdv := true, got := [0], lastAt := s.now }).sendPull id rx.slot, some .placed)
  else
    let old : MRec := r.getD { fn := fn, list := list, len := h.msgLen }
    let s := s.newRec k h.opTag { old with op := some id, parts := [], lastAt := s.now, len := h.msgLen }
    let s := if old.parts = [] then s else s.startCopy { op := id, list := list, fn := fn, src := h.srcEpa, parts := old.parts, blocks := old.parts.length, lost := old.lost }
    s.placeSeg k rx id

/-- A `SEND` packet of a compatibility queue pair (R237, R239): the next posted receive of its receive queue takes it. -/
def State.onLqpSend (s : State) (k : PwKey) (rx : RxPkt) : State × Option Outcome :=
  let h := rx.hdr
  let rdv := h.payloadLen = 0 && h.msgLen != 0
  match Tbl.get s.recs (k, h.opTag) with
  | some r =>
    match r.op with
    | some id => s.placeSeg k rx id
    | none => (s.gotSeg k h.opTag h.segIndex, some .placed)
  | none =>
    if 65536 ≤ s.recs.length then s.notReady rx nrRecordsFull
    else
    match Tbl.get s.lqps (k.lqp - 1) with
    | none => (s, some (.refused stRemoteAccess dtLqpError))
    | some q =>
      let mine := s.posted.find? fun p => p.fn == q.fn && (match Tbl.get s.ops p.op with
        | some o => o.wq == q.recvWq
        | none => false)
      match mine with
      | none => s.notReady rx nrUnexpFull
      | some p =>
        match Tbl.get s.ops p.op with
        | none => (s, some (.refused stRemoteAccess dtLqpError))
        | some o =>
          if !q.recvEn then s.notReady rx nrUnexpFull
          else if o.d.length < h.msgLen then
            (((s.bindOp p.op k h.opTag h.msgLen h.srcEpa h.remote).failRecv p.op stTruncated 0).later (.lqpError (k.lqp - 1)), some (.refused stRemoteAccess dtLqpError))
          else s.bindFirst k rx q.fn p.list p.op none rdv

/-- A packet of a message has arrived, whatever becomes of it: the time after which its record is closed starts again (R285). -/
def State.touchRec (s : State) (k : PwKey) (tag : Nat) : State :=
  match Tbl.get s.recs (k, tag) with
  | some r => { s with recs := Tbl.set s.recs (k, tag) { r with lastAt := s.now } }
  | none => s

/-- A `SEND` packet at its target (R258, R260 to R264). -/
def State.onSend (s : State) (k : PwKey) (rx : RxPkt) : State × Option Outcome :=
  let h := rx.hdr
  let d := payloadOf rx.pkt
  let fn := epaSel h.dstEpa
  let list := h.key % 4096
  let s := s.touchRec k h.opTag
  if s.fenced Block.mtc.page then s.noticed rx ntBusy nrEngineFenced
  else if s.closedMsgs.contains (k, h.opTag) then (s, some .placed)
  else if k.lqp ≠ 0 then s.onLqpSend k rx
  else
    let r := Tbl.get s.recs (k, h.opTag)
    let undecided := match r with
      | some r => r.op.isNone && !r.stored
      | none => true
    let s := if d = [] then s else s.tally .mtc 8 d.length (list % 2)
    let foreign := match Tbl.get s.lists (fn, list) with
      | some l => rx.slot != l.slot || !s.member l.slot fn
      | none => false
    if h.segIndex ≠ 0 || !undecided then
      if foreign then s.sendRefused rx fn (Tbl.get s.lists (fn, list)) stTenancy dtTenancyMismatch
      else
      match r with
      | some r =>
        match r.op with
        | some id => s.placeSeg k rx id
        | none =>
          if r.stored then s.storeSeg k rx
          else if !s.poolRoom fn 1 then s.notReady rx nrPoolFull
          else
            let s := s.newRec k h.opTag { r with parts := r.parts ++ [(h.segIndex, d)] }
            (s.gotSeg k h.opTag h.segIndex, some .placed)
      | none =>
        if 65536 ≤ s.recs.length then s.notReady rx nrRecordsFull
        else if !s.poolRoom fn 1 then s.notReady rx nrPoolFull
        else (s.newRec k h.opTag { fn := fn, list := list, len := h.msgLen, got := [h.segIndex], parts := [(h.segIndex, d)], lastAt := s.now }, some .placed)
    else
      let s := s.tally .mtc 0 1 (list % 2)
      let rdv := h.payloadLen = 0 && h.msgLen != 0
      match Tbl.get s.lists (fn, list) with
      | none => s.sendRefused rx fn none stRemoteAccess dtListInvalid
      | some l =>
        if l.closing then s.sendRefused rx fn (some l) stRemoteAccess dtListInvalid
        else if !rdv && decide (16384 < h.msgLen) then s.sendRefused rx fn (some l) stRemoteAccess dtEagerLong
        else if foreign then s.sendRefused rx fn (some l) stTenancy dtTenancyMismatch
        else if r.isNone && decide (65536 ≤ s.recs.length) then s.notReady rx nrRecordsFull
        else
          match s.findPosted fn list (h.key / 65536) h.srcEpa h.remote with
          | some p => (s.tally .mtc 2 1 (list % 2)).bindFirst k rx fn list p.op r rdv
          | none => s.store k rx l fn list (r.getD { fn := fn, list := list, len := h.msgLen }) rdv

/-! ## Posting (R253, R258, R275) -/

/-- An admitted receive searches the unexpected headers, and binds one or is stored (R258). -/
def State.onPost (s : State) (id fn list : Nat) : State :=
  match Tbl.get s.ops id, Tbl.get s.lists (fn, list) with
  | some o, some l =>
    let s := s.tally .mtc 1 1 (list % 2)
    let u := if s.lqpRecv o then none else s.findUnexp fn list o.d
    match u with
    | some u => s.bindUnexp id u
    | none =>
      if s.memDenied (.mtc list) (s.planBase 5) then (s.memDeny (.mtc list) (s.planBase 5) 64 true).failRecv id stAborted dtEntryLost
      else
      let s := { s with posted := s.posted ++ [({ fn := fn, list := list, seq := l.pseq, op := id } : Posted)], lists := Tbl.set s.lists (fn, list) { l with pseq := l.pseq + 1 } }
      s.mtcHigh
  | _, _ => s

/-- An admitted probe reports the earliest eligible unexpected header (R275). -/
def State.onProbe (s : State) (id fn list : Nat) : State :=
  match Tbl.get s.ops id with
  | none => s
  | some o =>
    let s := s.tally .mtc 14 1 (list % 2)
    match s.findUnexp fn list o.d with
    | none => s.endOp id stAborted dtProbeNoMatch 0 0
    | some u => (s.modOp id fun o => { o with src := u.src }).endOp id stOk 0 u.len u.bits

/-! ## Serving pulls (R269, R270, R272) -/

/-- A pull, a continuation or a cancel pull at the sender (R269, R272). -/
def State.onPull (s : State) (k : PwKey) (rx : RxPkt) : State × Option Outcome :=
  let h := rx.hdr
  let no (s : State) : State × Option Outcome := (s, some (.refused stRemoteAccess dtRdvWithdrawn))
  if s.fenced Block.mtc.page then s.noticed rx ntBusy nrEngineFenced
  else
    match Tbl.get s.ops h.key with
    | none => no s
    | some o =>
      if o.ended.isSome || o.recv || o.d.verb ≠ vbSend || !o.pull || o.phase ≠ .sent || o.stop || s.opKey o ≠ k || o.slot ≠ rx.slot then no s
      else if h.remote = 2 ^ 64 - 1 && h.msgLen = 0 then (s.endOp h.key stAborted dtRdvCancelled 0 0, some .placed)
      else if o.d.length < h.remote + h.msgLen then no s
      else if h.msgLen = 0 then ((s.modOp h.key fun o => { o with pulled := some 0 }).endOp h.key stOk 0 0 0, some .placed)
      else
        let s := s.modOp h.key fun o => { o with pulled := some (h.remote + h.msgLen), deadline := none, localFault := 0, refusal := none }
        (s.addServe { key := k, rx := rx, kind := 2, fn := o.fn, as := s.opAs o, base := o.d.localAddr + h.remote }, some .placed)

/-- A served request forgotten, with what waits of its responses and what is translated for them (R272). -/
def State.delServe (s : State) (id : Nat) : State :=
  let s := match Tbl.get s.gets id with
    | some g => s.dropGrants (.serve id g.seg)
    | none => s
  { s with gets := Tbl.del s.gets id, resps := s.resps.filter fun r => r != .serve id && !(match r with
      | .pkt _ _ o _ _ _ => o == .serve id
      | _ => false) }

/-- Every service of a rendezvous `SEND` dropped, with its responses (R272). -/
def State.dropServes (s : State) (op : Nat) : State :=
  let ids := (s.gets.filter fun e => e.2.kind == 2 && e.2.rx.hdr.key == op).map Prod.fst
  ids.foldl (fun s id => (s.delServe id).abandon (.serve id)) s

/-- A request served to its end is forgotten; a rendezvous `SEND` completes with its pull (R272). -/
def State.checkServe (s : State) (id : Nat) : State :=
  match Tbl.get s.gets id with
  | none => s
  | some g =>
    if !g.sent || s.ownerFlying (.serve id) then s
    else
      let s := s.delServe id
      if g.kind ≠ 2 then s
      else
        let op := g.rx.hdr.key
        if s.gets.any fun e => e.2.kind == 2 && e.2.rx.hdr.key == op then s
        else
          match Tbl.get s.ops op with
          | some o =>
            match o.pulled with
            | some n => if o.localFault = 0 && o.refusal.isNone then s.endOp op stOk 0 n 0 else s
            | none => s
          | none => s

/-- A response of a served request settled: a refused one ends a rendezvous `SEND` with its status (R179, R272), and the queue pair of
one refused for its error enters `ERROR` (R237). -/
def State.serveSettled (s : State) (id : Nat) (how : Settled) : State :=
  match Tbl.get s.gets id with
  | none => s
  | some g =>
    match how with
    | .ok => s.checkServe id
    | .refused st dt =>
      let s := if g.key.lqp ≠ 0 && dt = dtLqpError then s.later (.lqpError (g.key.lqp - 1)) else s
      if g.kind = 2 then (s.dropServes g.rx.hdr.key).endOp g.rx.hdr.key st dt 0 0 else s.checkServe id
    | .absent =>
      if g.kind = 2 then (s.dropServes g.rx.hdr.key).endOp g.rx.hdr.key stAbsent 0 0 0
      else s.delServe id

/-- The responses of a served request were given up (R182, R272). -/
def State.serveFailed (s : State) (id st dt : Nat) : State :=
  match Tbl.get s.gets id with
  | none => s
  | some g =>
    if g.kind = 2 then (s.dropServes g.rx.hdr.key).endOp g.rx.hdr.key st dt 0 0
    else s.delServe id

/-- The source read of a served request failed: the rest is refused with a notice (R180, R270). -/
def State.serveFaultAt (s : State) (id : Nat) (g : Serve) (off kind level iova : Nat) (bus : Bool) : State :=
  let h := g.rx.hdr
  let pull := g.kind == 2
  let s := if bus then s
    else
      let wq := ((Tbl.get s.ops h.key).map Op.wq).getD 0
      s.faultRecord g.fn { kind := kind, source := if pull then 0 else 2, level := level, master := 0x10 + PwKey.pipe g.key, as := g.as, iova := iova, context := if pull then wq else h.key, remote := if pull then 0 else h.srcEpa } (!pull)
  let s := s.notice g.rx ntFault (if bus then nrSourceBus else nrXlt) off
  let s := { s with resps := s.resps.filter fun r => r != .serve id }
  let s := if pull then s.modOp h.key fun o => { o with localFault := if bus then 0 else kind, refusal := if bus then some (ntFault, nrSourceBus) else none, deadline := some (s.now + us (s.rd F.PWY_TIMERS_GIVEUP) + s.freshNs) } else s
  match Tbl.get s.gets id with
  | none => s
  | some g => ({ s with gets := Tbl.set s.gets id { g with sent := true, reading := none } } : State).checkServe id

/-- The source read of the next response segment failed (R180, R270). -/
def State.serveFault (s : State) (id : Nat) (g : Serve) (kind level iova : Nat) (bus : Bool) : State :=
  s.serveFaultAt id g (g.rx.hdr.aux + 4096 * g.seg) kind level iova bus

/-- A response cannot be read again: the rest of the request is refused from its offset on (R72, R215). -/
def State.respGone (s : State) (id off : Nat) : State :=
  match Tbl.get s.gets id with
  | none => s
  | some g => s.serveFaultAt id g off 0 0 0 true

/-- No continuation came for a rendezvous source that was refused (R270). -/
def rdvContinuationExpire (id : Nat) (s : State) : State :=
  match Tbl.get s.ops id with
  | none => s
  | some o =>
    match o.deadline with
    | none => s
    | some t =>
      if o.ended.isSome || o.recv || o.d.verb ≠ vbSend || o.pulled.isNone then s
      else if o.localFault ≠ 0 then (s.reach t).endOp id (faultStatus o.localFault) 0 0 0
      else (s.reach t).endOp id stRemoteXlt 0 0 0

/-- No pull came for a rendezvous `SEND` (R267). -/
def rdvWaitExpire (id : Nat) (s : State) : State :=
  match Tbl.get s.ops id with
  | none => s
  | some o =>
    match o.deadline with
    | none => s
    | some t =>
      if o.ended.isSome || o.recv || o.d.verb ≠ vbSend || o.pulled.isSome then s else (s.reach t).endOp id stTimeout dtRdvNoPull 0 0

/-! ## Abandonment (R285) -/

/-- A message whose packets stopped arriving is closed (R285). -/
def msgAbandon (k : PwKey) (tag : Nat) (s : State) : State :=
  match Tbl.get s.recs (k, tag) with
  | none => s
  | some r =>
    if r.rdv || r.whole then s
    else
    let u := s.unexpOfMsg k tag
    let s := s.reach (r.lastAt + us (s.rd F.PWY_TIMERS_GIVEUP) + s.freshNs)
    let s := { s with recs := Tbl.del s.recs (k, tag), closedMsgs := s.closedMsgs ++ [(k, tag)] }
    match r.op with
    | some id => if r.fault ≠ 0 then s.failRecv id (faultStatus r.fault) 0 else s.failRecv id stAborted dtMsgAbandoned
    | none =>
      match u with
      | none => s
      | some u =>
        ({ s with unexp := s.unexp.filter fun x => !(x.fn == u.fn && x.list == u.list && x.seq == u.seq) } : State).releaseOvf u.fn u.list u.src u.ovf

/-! ## The overflow ring (R277) -/

/-- The read of a ring entry ends (R277, R288): packets that waited for it are delivered again. -/
def State.ovfRead (s : State) (fn addr : Nat) (r : BusResult) : State :=
  let mine := s.ovfWait.filter fun e => e.1 == fn
  let s := mine.foldl (fun s e => s.later (.deliver e.2.1 e.2.2)) { s with ovfWait := s.ovfWait.filter fun e => e.1 != fn }
  match r with
  | .failed => (s.berr .mtc 5 { access := accHostRead, addr := addr, master := some (0x1D + fn % 2) }).wr F.MTC_OVF_CTL_EN 0 fn
  | .ok b =>
    let e : Ovf := { iova := leNat (b.take 8), value := leNat (b.drop 8) }
    ({ s with ovfs := Tbl.set s.ovfs fn (Tbl.getD s.ovfs fn [] ++ [e]) } : State).ovfFetch fn

/-- A write of `MTC_OVF_TAIL` (R54, R134, R277). -/
def ovfTailWrite (m fn tail : Nat) (s : State) : State :=
  if !mayWindow m fn then s
  else
    let v := tail % 2 ^ 32
    let c := s.rd F.MTC_OVF_HEAD_HEAD fn
    let p := s.rd F.MTC_OVF_TAIL_TAIL fn
    let n := s.ovfSize fn
    if wrapSub 32 v c ≤ n ∧ wrapSub 32 v p ≤ n - wrapSub 32 p c then (s.wr F.MTC_OVF_TAIL_TAIL v fn).ovfFetch fn
    else s.berr .cmd 3 { access := accRegWrite, addr := F.MTC_OVF_TAIL_TAIL.addr fn 0, master := some m }

end Sys2Proof.Machine
end

