-- ==== Sys2Proof/Machine/Convoy.lean ====
section
/-! DEFINITION. Machine/Convoy.lean: convoys: contributions, combining, rounds, results, restart and break (09). -/

namespace Sys2Proof.Machine

/-- Convoy detail codes (R324). -/
def dtTreesFailed : Nat := 0x0400
def dtRoundMismatch : Nat := 0x0401
def dtCountMismatch : Nat := 0x0402
def dtWaitTimeout : Nat := 0x0403
def dtContributorLost : Nat := 0x0404
def dtContribFault : Nat := 0x0405
def dtStageTooSmall : Nat := 0x0406
def dtStageLost : Nat := 0x0407
def dtBadOperation : Nat := 0x0408
def dtSlotChanged : Nat := 0x0409
def dtOrphaned : Nat := 0x040A
def dtNoSlot : Nat := 0x040B
def dtNotContributor : Nat := 0x040C
def dtOutOfWindow : Nat := 0x040D
def dtDuplicate : Nat := 0x040E

/-! ## How values are combined (R303, R304) -/

/-- Elements of a datatype; none for a reserved one (09, *Datatypes*). -/
def cvElem (t : Nat) : Option Elem :=
  match t with
  | 0 => some (.int 32 true) | 1 => some (.int 64 true) | 2 => some (.int 32 false) | 3 => some (.int 64 false)
  | 4 => some (.fp fmtFp64) | 5 => some (.fp fmtFp32) | 6 => some (.fp fmtFp16) | 7 => some (.fp fmtBf16)
  | 8 => some (.fp fmtE4m3) | 9 => some (.fp fmtE5m2) | _ => none

/-- Bytes of an element. -/
def cvSize (t : Nat) : Nat := ((cvElem t).map Elem.width).getD 8 / 8

/-- One combining step (09, *Operators*). -/
def cvStep (e : Elem) (op a b : Nat) : Nat :=
  match op with
  | 0 => e.add a b
  | 1 => e.min a b
  | 2 => e.max a b
  | 3 => a &&& b
  | 4 => a ||| b
  | _ => a ^^^ b

/-- Little-endian words of `w` bytes; the first argument bounds them. -/
def wordsOf (fuel w : Nat) (b : List Byte) : List Nat :=
  match fuel with
  | 0 => []
  | n + 1 => if b = [] then [] else leNat (b.take w) :: wordsOf n w (b.drop w)

/-- A long accumulator (R304). -/
structure Acc where
  nan : Bool := false
  pos : Bool := false
  neg : Bool := false
  value : Int := 0
deriving DecidableEq, Repr

/-- Bytes of an accumulator (R304). -/
def accSize (f : Fmt) : Nat := if f = fmtFp64 then 276 else 40

/-- The accumulator of one element. -/
def Acc.one (f : Fmt) (v : Nat) : Acc :=
  if f.isNan v then { nan := true }
  else if f.isInf v then (if f.neg v then { neg := true } else { pos := true })
  else { value := f.value v }

/-- Accumulators added exactly. -/
def Acc.add (a b : Acc) : Acc :=
  { nan := a.nan || b.nan, pos := a.pos || b.pos, neg := a.neg || b.neg, value := a.value + b.value }

/-- The bytes of an accumulator (R304). -/
def Acc.bytes (f : Fmt) (a : Acc) : List Byte :=
  leBytes 1 (b2n a.nan + 2 * b2n a.pos + 4 * b2n a.neg) ++ leBytes (accSize f - 1) (ofSigned (8 * (accSize f - 1)) a.value)

/-- The accumulator that a word spells. -/
def Acc.ofWord (f : Fmt) (w : Nat) : Acc :=
  { nan := bitOf w 0, pos := bitOf w 1, neg := bitOf w 2, value := toSigned (8 * (accSize f - 1)) (w / 256) }

/-- The element that an accumulator becomes at the root (R304). -/
def Acc.element (f : Fmt) (a : Acc) : Nat :=
  if a.nan || (a.pos && a.neg) then f.nan
  else if a.pos then f.top
  else if a.neg then 2 ^ (f.width - 1) + f.top
  else f.round a.value false

/-- Format of an exact sum. -/
def CvParams.fmt (p : CvParams) : Fmt := if p.dtype = 4 then fmtFp64 else fmtFp32

/-- Does a round combine elements (`REDUCE` or `ALLREDUCE`)? -/
def CvParams.reduces (p : CvParams) : Bool := p.operation == 2 || p.operation == 3

/-- Does a round carry accumulators up? -/
def CvParams.exact (p : CvParams) : Bool := p.reduces && p.mode == 2

/-- A contribution in the form that goes up the tree. -/
def CvParams.lift (p : CvParams) (d : List Byte) : List Byte :=
  if p.exact then (wordsOf d.length (cvSize p.dtype) d).flatMap fun v => (Acc.one p.fmt v).bytes p.fmt else d

/-- Two inputs combined (R303, R304; the source's data for a broadcast). -/
def CvParams.merge (p : CvParams) (a b : List Byte) : List Byte :=
  if p.exact then
    let w := accSize p.fmt
    ((wordsOf a.length w a).zip (wordsOf b.length w b)).flatMap fun x =>
      ((Acc.ofWord p.fmt x.1).add (Acc.ofWord p.fmt x.2)).bytes p.fmt
  else if p.reduces then
    let w := cvSize p.dtype
    match cvElem p.dtype with
    | none => a
    | some e => ((wordsOf a.length w a).zip (wordsOf b.length w b)).flatMap fun x => leBytes w (cvStep e p.operator x.1 x.2)
  else if a = [] then b else a

/-- Inputs folded from the left. -/
def CvParams.fold (p : CvParams) : List (List Byte) → List Byte
  | [] => []
  | a :: r => r.foldl p.merge a

/-- An element as it may leave the device: no NaN pattern of an input is passed on (R303; 09, *How values are combined*). -/
def Elem.quiet (e : Elem) (v : Nat) : Nat :=
  match e with
  | .int _ _ => v
  | .fp f => if f.isNan v then f.nan else v

/-- The result at the root: accumulators rounded once (R304); a NaN is the canonical one, also of an input that met no other
(R303). -/
def CvParams.final (p : CvParams) (d : List Byte) : List Byte :=
  let w := cvSize p.dtype
  if p.exact then (wordsOf d.length (accSize p.fmt) d).flatMap fun v => leBytes w ((Acc.ofWord p.fmt v).element p.fmt)
  else if p.reduces then
    match cvElem p.dtype with
    | none => d
    | some e => (wordsOf d.length w d).flatMap fun v => leBytes w (e.quiet v)
  else d

/-- Bytes that an input of a round has on its way up: a broadcast's may be absent. -/
def CvParams.fits (p : CvParams) (n : Nat) : Bool :=
  if p.operation = 0 then n == 0
  else if p.operation = 1 then n == 0 || n == p.inLen
  else if p.exact then n == p.inLen / cvSize p.dtype * accSize p.fmt
  else n == p.inLen

/-- Bytes of the result that goes down a tree (09, *Convoy packet kinds*). -/
def CvParams.outLen (p : CvParams) : Nat := if p.operation = 0 then 0 else p.inLen

/-! ## The fields of a descriptor (R296, R297) -/

/-- The convoy slot that a descriptor names. -/
def cvSlotOf (d : Descr) : Nat := d.key % 4096

/-- The round that a descriptor names. -/
def cvRoundOf (d : Descr) : Nat := bitsOf d.operand0 0 16

/-- What a descriptor's contribution agrees on with the others. -/
def cvParams (d : Descr) : CvParams :=
  { operation := bitsOf d.operand0 16 4, dtype := bitsOf d.operand0 20 4, operator := bitsOf d.operand0 24 4,
    mode := bitsOf d.operand0 28 2, inLen := d.length }

/-- A descriptor's contribution. -/
def cvLocal (fn op : Nat) (d : Descr) : CvLocal :=
  { fn := fn, op := op, source := bitOf d.operand0 30, here := bitOf d.operand0 31, index := bitsOf d.operand0 32 12, result := d.remote }

/-- Is a combination of type, operator and mode permitted (R297)? -/
def CvParams.comboOk (p : CvParams) : Bool :=
  match cvElem p.dtype with
  | none => false
  | some e =>
    let isInt := match e with
      | .int _ _ => true
      | .fp _ => false
    decide (p.operator ≤ 5) && decide (p.mode ≤ 2) && (decide (p.operator ≤ 2) || isInt)
      && (p.mode != 2 || (p.operator == 0 && ((p.dtype == 5 && decide (p.inLen ≤ 408)) || (p.dtype == 4 && decide (p.inLen ≤ 112)))))

/-- Are the fields of a contribution valid, in a convoy of `n` participants (R296, R297)? -/
def cvValid (p : CvParams) (l : CvLocal) (d : Descr) (n : Nat) : Bool :=
  let plain := p.dtype == 0 && p.operator == 0 && p.mode == 0
  let sized := decide (1 ≤ p.inLen) && decide (p.inLen ≤ 4096)
  d.key / 4096 == 0 && d.operand0 / 2 ^ 44 == 0 && d.operand1 == 0 &&
    match p.operation with
    | 0 => p.inLen == 0 && plain && !l.source && !l.here && l.index == 0
    | 1 => sized && plain
    | 2 => sized && p.inLen % cvSize p.dtype == 0 && p.comboOk
    | 3 => sized && p.inLen % cvSize p.dtype == 0 && p.comboOk && !l.source && !l.here
    | 4 => sized && plain && decide (l.index < n) && decide (n ≤ 4096)
    | _ => false

/-! ## Slots, trees and rounds (R289, R305, R306, R308) -/

/-- A valid convoy slot changed. -/
def State.modCv (s : State) (k : Nat) (f : CvSlot → CvSlot) : State :=
  match Tbl.get s.convoys k with
  | none => s
  | some c => { s with convoys := Tbl.set s.convoys k (f c) }

/-- The tree in use. -/
def CvSlot.tree (c : CvSlot) : CvTree := if c.state = 2 then c.cfg.alt else c.cfg.pri

/-- Is the device on the tree in use? -/
def CvSlot.onTree (c : CvSlot) : Bool := c.state != 2 || c.cfg.onAlt

/-- Is the device the root of the tree in use? -/
def CvSlot.root (c : CvSlot) : Bool := c.tree.parent.isNone && c.onTree

/-- Distance of a round from the window base. -/
def CvSlot.dist (c : CvSlot) (r : Nat) : Nat := wrapSub 16 r c.wbase

/-- Is a round in the window, below it, or above it (R306)? -/
def CvSlot.inWindow (c : CvSlot) (r : Nat) : Bool := decide (c.dist r < c.cfg.maxRounds)
def CvSlot.below (c : CvSlot) (r : Nat) : Bool := decide (2 ^ 15 ≤ c.dist r)

/-- Is a round in progress: neither free nor retired? -/
def CvRound.live (x : CvRound) : Bool := x.state != .retired

/-- Has a slot a round in progress? -/
def CvSlot.busy (c : CvSlot) : Bool := c.rounds.any fun e => e.2.live

/-- The lowest of some rounds in window order, or the window base. -/
def CvSlot.lowest (c : CvSlot) (t : CvRound → Bool) : Nat :=
  match (c.rounds.filter fun e => t e.2).map (fun e => c.dist e.1) with
  | [] => c.wbase
  | d :: ds => wrapAdd 16 c.wbase (ds.foldl min d)

/-- Does a round carry inputs without combining them (R309)? -/
def CvRound.gathers (x : CvRound) : Bool :=
  match x.params with
  | some p => p.operation == 4
  | none => false

/-- Rounds not `FREE`, of the device (`COL_STAT.ROUNDS`). -/
def State.cvRounds (s : State) : Nat := (s.convoys.map fun e => e.2.rounds.length).sum

/-- Result parking in use (`COL_STAT.PARKED`). -/
def State.cvParked (s : State) : Nat := (s.cvWrites.filter fun w => w.fault.isSome).length

/-- Staging units that a slot reserves (R308). -/
def CvCfg.units (c : CvCfg) : Nat := c.maxRounds * (c.stage + 1)

/-- `COL_STAGE.RESERVED` (R308). -/
def State.cvReserved (s : State) : Nat := (s.convoys.map fun e => e.2.cfg.units).sum

/-- `COL_STAGE.CAPACITY`: the region without the result parking (R308). -/
def State.cvCapacity (s : State) : Nat := s.planSize 7 / 4096 - 256

/-- Staging units that a round needs at this device (R308). -/
def CvSlot.need (c : CvSlot) (p : CvParams) : Nat :=
  let l := popCount c.cfg.fns 4
  match p.operation with
  | 0 => 0
  | 1 => 2
  | 4 => ceilDiv (c.cfg.participants * p.inLen) 4096
  | _ => if p.mode = 1 then l + c.tree.children.length + 2 else l + 2

/-- A round changed. -/
def State.modRound (s : State) (k r : Nat) (f : CvRound → CvRound) : State :=
  s.modCv k fun c =>
    match Tbl.get c.rounds r with
    | none => c
    | some x => { c with rounds := Tbl.set c.rounds r (f x) }

/-- A round of a slot. -/
def State.cvRound (s : State) (k r : Nat) : Option CvRound := (Tbl.get s.convoys k).bind fun c => Tbl.get c.rounds r

/-- A round opened where it was free; the ports of the tree are looked at (R306, R313, R314). -/
def State.cvOpen (s : State) (k r : Nat) : State :=
  match s.cvRound k r with
  | some _ => s
  | none =>
    let s := s.modCv k fun c => { c with rounds := Tbl.set c.rounds r { openedAt := s.now } }
    ((s.high F.COL_HWM_ROUNDS_HWM s.cvRounds).tally .col 0 1 (k % 2)).later (.cvLinks k)

/-- Can a convoy packet leave by a port: is it `UP`, and its junction not fenced (R311)? -/
def State.cvUpPort (s : State) (p : Nat) : Bool := s.portState p == 3 && !s.portFenced p

/-! ## Packets (R295, R311, R312, R321) -/

/-- A sealed convoy packet on one port. -/
def State.cvSendOn (s : State) (p vc : Nat) (b : Body) (tag : Nat) : State :=
  let m : Milestone := { port := p, vc := vc, cls := s.portClass p }
  (s.tally .xbr 12 1 (p / 8)).send
    { route := { hops := 1, bgen := s.bgen, srcDid := s.did, dstDid := 0x3FFFF, ms := [m] }, body := b, tag := tag }

/-- A convoy packet of a slot, sealed once; its header carries what every packet of the slot does (R295, R321). -/
def State.cvSeal (s : State) (k : Nat) (c : CvSlot) (down : Bool) (h : ConvoyHdr) (d : List Byte) : State × Option (Body × Nat) :=
  s.sealBody c.cfg.slot (.convoy { h with alt := c.state == 2, slot := k, wbase := if down then c.wbase else 0, srcDid := s.did, payloadLen := d.length } d)

/-- Is a port in the group table's mask of a slot's tree in use (R291, R311, R418 index 3)? -/
def State.cvMasked (s : State) (k : Nat) (c : CvSlot) (p : Nat) : Bool :=
  let m := Tbl.getD s.groupTable k (0, 0)
  bitOf (if c.state = 2 then m.2 else m.1) p

/-- A packet replicated on ports; answers the ports it was masked out of (R311). -/
def State.cvDown (s : State) (k : Nat) (ports : List Nat) (down : Bool) (h : ConvoyHdr) (d : List Byte) : State × List Nat :=
  match Tbl.get s.convoys k with
  | none => (s, [])
  | some c =>
    let takes (p : Nat) : Bool := s.cvUpPort p && (!down || s.cvMasked k c p)
    let gone := ports.filter fun p => !takes p
    let go := ports.filter takes
    let s := if gone = [] then s else (s.bump F.COL_DROP_MASKED gone.length).tally .col 9 gone.length (k % 2)
    if go = [] then (s, gone)
    else
      if s.poolRefuses (5 + k % 2) then (s.later (.refusedReq Block.sec.page 0 (5 + k % 2) none), gone)
      else
      match s.cvSeal k c down h d with
      | (s, none) => (s, gone)
      | (s, some (b, tag)) => (go.foldl (fun s p => s.cvSendOn p (if c.tree.parent = some p then 4 else 5) b tag) s, gone)

/-- The header of a packet of a round. -/
def cvHdr (kind r : Nat) (p : Option CvParams) : ConvoyHdr :=
  match p with
  | none => { ckind := kind, round := r }
  | some p => { ckind := kind, round := r, operation := p.operation, dtype := p.dtype, operator := p.operator, mode := p.mode, inLen := p.inLen }

/-- A report in a header. -/
def cvSay (r : Option (Nat × Nat)) (h : ConvoyHdr) : ConvoyHdr :=
  match r with
  | none => h
  | some (did, port) => { h with missingDid := did, missingPort := port, missingValid := true }

/-- The report that a header carries. -/
def cvReported (h : ConvoyHdr) : Option (Nat × Nat) := if h.missingValid then some (h.missingDid, h.missingPort) else none

/-! ## Events, completions, a broken convoy (R301, R317, R318, R323) -/

/-- `DATA` of a convoy event: a report. -/
def reportData (r : Option (Nat × Nat)) : Nat :=
  match r with
  | none => 0
  | some (did, port) => did + port * 2 ^ 18 + 2 ^ 25

/-- A convoy event (R323). -/
def State.cvEvent (s : State) (k : Nat) (c : CvCfg) (type sub off data : Nat) : State :=
  let e : Evt := { type := type, subtype := sub, value := k, offset := off, data := data }
  let s := s.queueEvent { cls := 2, code := type, body := e.bytes false s.now }
  if c.eqEn then (if Tbl.has s.eqs (c.owner, c.eq) then s.event c.owner c.eq e else s.bump F.CMD_ASYNC_LOST 1 c.owner)
  else s.asyncEvent c.owner e

/-- `DATA` of a completion (R301). -/
def cvData (r alt count : Nat) : Nat := r % 2 ^ 16 + alt * 2 ^ 16 + count * 2 ^ 32

/-- Bytes that an operation has written to its result buffer (R301). -/
def State.cvWritten (s : State) (id : Nat) : Nat := ((Tbl.get s.ops id).map Op.bytes).getD 0

/-- `DATA` of the record of an operation: as its round's result left it; before a result, the round alone (R301). -/
def Op.cvData (o : Op) : Nat := o.value.getD (Machine.cvData (cvRoundOf o.d) 0 0)

/-- A local contribution completed with `CONVOY_BROKEN` and a detail (R301, R318, R319); `alt`: its round completed on the
alternate tree. -/
def State.cvFailLocal (s : State) (r detail alt : Nat) (l : CvLocal) : State :=
  s.endOp l.op stBroken detail (s.cvWritten l.op) (cvData r alt 0)

/-- The local contributions of a round in progress that have not ended completed with `CONVOY_BROKEN` and a detail. -/
def State.cvFailLocals (s : State) (r : Nat) (x : CvRound) (detail : Nat) : State :=
  if x.live then x.locals.foldl (fun s l => s.cvFailLocal r detail 0 l) s else s

/-- A slot enters `BROKEN`: `BROKEN` sent on some ports, its rounds ended, its event written (R317, R318). -/
def State.cvBreak (s : State) (k detail : Nat) (ports : List Nat) : State :=
  match Tbl.get s.convoys k with
  | none => s
  | some c =>
    if c.state = 3 then s
    else
      let low := c.lowest CvRound.live
      let s := (s.cvDown k ports true (cvSay c.report { cvHdr 9 low none with detail := detail }) []).1
      let s := (s.bump F.COL_EVENTS_BROKEN).modCv k fun c => { c with state := 3, rounds := [], windowDue := none }
      let s := c.rounds.foldl (fun s e => s.cvFailLocals e.1 e.2 detail) s
      s.cvEvent k c.cfg 0x31 detail low (reportData c.report)

/-- The parent port of the tree in use is not `UP` while a round is in progress (R314). -/
def State.cvOrphan (s : State) (k : Nat) : State :=
  match Tbl.get s.convoys k with
  | none => s
  | some c =>
    let waits := c.state == 1 && c.cfg.altPresent && c.cfg.onAlt && (match c.cfg.alt.parent with
      | some q => s.cvUpPort q
      | none => false)
    if waits || !c.busy then s else s.cvBreak k dtOrphaned c.tree.children

/-- A packet sent to the parent, unless its port is not `UP` (R312). -/
def State.cvUp (s : State) (k : Nat) (h : ConvoyHdr) (d : List Byte) : State :=
  match Tbl.get s.convoys k with
  | none => s
  | some c =>
    match c.tree.parent with
    | none => s
    | some p => if !c.onTree then s else if s.cvUpPort p then (s.cvDown k [p] false h d).1 else s.cvOrphan k

/-- A child port failed, or its packet did not verify: `FAIL` goes up, or the root acts (R313, R315). -/
def State.cvFailPort (s : State) (k : Nat) (report : Option (Nat × Nat)) : State :=
  match Tbl.get s.convoys k with
  | none => s
  | some c => if c.root then s.later (.cvTrigger k c.state report) else s.cvUp k (cvSay report (cvHdr 5 0 none)) []

/-- The ports of a slot's tree in use looked at, while a round is in progress: each child port that is not `UP` gives a `FAIL`
(R313, R314). -/
def State.cvLinks (s : State) (k : Nat) : State :=
  match Tbl.get s.convoys k with
  | none => s
  | some c =>
    if !c.busy || c.state = 3 || !c.onTree then s
    else
      let down := c.tree.children.filter fun p => !s.cvUpPort p
      let s := (if c.root then down.take 1 else down).foldl (fun s p => s.cvFailPort k (some (s.did, p))) s
      match c.tree.parent with
      | some p => if s.cvUpPort p then s else s.cvOrphan k
      | none => s

/-- Every convoy slot that uses a port looked at when it leaves `UP`; an orphan that waits for `RESTART` loses its alternate
parent (R313, R314). -/
def State.cvPortLeft (s : State) (p : Nat) : State :=
  s.convoys.foldl (fun s e =>
    let orphan := match e.2.tree.parent with
      | some q => !s.cvUpPort q
      | none => false
    if e.2.tree.parent = some p ∨ p ∈ e.2.tree.children then s.cvLinks e.1
    else if orphan && e.2.state == 1 && e.2.cfg.alt.parent == some p then s.cvOrphan e.1
    else s) s

/-! ## Result writes (R301, R302) -/

/-- An operation whose round's result has come completes once its writes are done (R301). -/
def State.cvCheckOp (s : State) (id : Nat) : State :=
  match Tbl.get s.ops id with
  | none => s
  | some o => if o.acked && !s.cvWrites.any (fun w => w.op == id) then s.endOp id stOk 0 o.bytes o.cvData else s

/-- A result write tried: written, waiting for a walk, parked, or its operation failed (R302). -/
def State.cvTry (s : State) (w : CvWrite) : State :=
  match Tbl.get s.ops w.op with
  | none => s
  | some o =>
    if o.ended.isSome then s
    else
      match s.xlat (.result w.slot w.round w.fn) w.fn (s.opAs o) w.iova w.data.length false true with
      | (s, .wait) => { s with cvWrites := s.cvWrites ++ [w] }
      | (s, .fault kind level io) =>
        let s := s.faultRecord w.fn { kind := kind, source := 7, level := level, write := true, master := 0x20 + w.slot % 2, as := s.opAs o, iova := io, context := w.slot } true
        let t0 := (w.fault.map Prod.fst).getD s.now
        if w.fault.isNone && decide (256 ≤ s.cvParked) then
          (s.berr .col 6 { access := accHostWrite, addr := io }).endOp w.op (faultStatus kind) 0 o.bytes o.cvData
        else if t0 + us (s.rd F.PWY_TIMERS_GIVEUP) ≤ s.now then s.endOp w.op (faultStatus kind) 0 o.bytes o.cvData
        else
          let s := { s with cvWrites := s.cvWrites ++ [{ w with fault := some (t0, kind), retryAt := s.now + us 10 }] }
          s.high F.COL_HWM_PARKED_HWM s.cvParked
      | (s, .ok ps _) =>
        if s.reqFenced (Block.hif.page + w.fn) 13 then
          ((s.dropGrants (.result w.slot w.round w.fn)).later (.refusedReq (Block.hif.page + w.fn) 0 13 (some (0x20 + w.slot % 2)))).endOp w.op stAborted dtStageLost o.bytes o.cvData
        else if ps.any fun p => s.wordBusy w.fn p.1 p.2.2 then { s with cvWrites := s.cvWrites ++ [{ w with onWord := true }] }
        else
        let s := ((s.dropGrants (.result w.slot w.round w.fn)).placeWrite 13 w.fn ps w.data)
        (s.modOp w.op fun o => { o with bytes := o.bytes + w.data.length }).cvCheckOp w.op

/-- Result writes of a round taken out and tried again: those for one function, or all; parked ones only where asked. -/
def State.cvRetry (s : State) (t : CvWrite → Bool) : State :=
  let mine := s.cvWrites.filter t
  mine.foldl (fun s w => s.cvTry { w with onWord := false }) { s with cvWrites := s.cvWrites.filter fun w => !t w }

/-- A walk for a result write ends. -/
def State.cvResume (s : State) (k r fn : Nat) : State := s.cvRetry fun w => w.slot == k && w.round == r && w.fn == fn && w.fault.isNone

/-- The pages of a write of `d` at an IOVA: one piece for each 4 KiB page. -/
def cvPages (k r fn op iova : Nat) (d : List Byte) : List CvWrite :=
  (pieces (d.length + 1) iova 0 d.length 4096).map fun p =>
    { slot := k, round := r, fn := fn, op := op, iova := iova + p.1, data := (d.drop p.1).take p.2 }

/-- A result written to a contributor's buffer. -/
def State.cvWrite (s : State) (k r fn op iova : Nat) (d : List Byte) : State :=
  (cvPages k r fn op iova d).foldl (fun s w => s.cvTry w) s

/-- The bytes of a result that a local contributor receives (R301): never more than its `LENGTH` (R290). -/
def CvLocal.gets (l : CvLocal) (p : CvParams) (d : List Byte) : List Byte :=
  match p.operation with
  | 1 => if l.source then [] else d.take p.inLen
  | 2 => if l.here then d.take p.inLen else []
  | 3 => d.take p.inLen
  | _ => []

/-- Does a result agree with what an operation contributed (R290, R297, R307)? -/
def Op.cvFits (o : Op) (x : CvRound) (res : CvRes) : Bool :=
  x.params == some (cvParams o.d) && (x.gathers || res.data.length == (cvParams o.d).outLen)

/-- A round's result delivered to one local contributor (R301, R319); one that does not fit its contribution ends it with
`ROUND_MISMATCH` (R290, R307). -/
def State.cvDeliverTo (s : State) (k r : Nat) (c : CvSlot) (x : CvRound) (res : CvRes) (l : CvLocal) : State :=
  let alt := b2n (c.state == 2)
  match res.abort, Tbl.get s.ops l.op with
  | some detail, _ => s.cvFailLocal r detail alt l
  | none, none => s
  | none, some o =>
    if !o.cvFits x res then s.cvFailLocal r dtRoundMismatch alt l
    else
      let s := s.modOp l.op fun o => { o with acked := true, value := some (cvData r alt res.count) }
      (s.cvWrite k r l.fn l.op l.result (l.gets (cvParams o.d) res.data)).cvCheckOp l.op

/-- A round's result delivered to its local contributors, once (R301, R316). -/
def State.cvDeliver (s : State) (k r : Nat) : State :=
  match Tbl.get s.convoys k, s.cvRound k r with
  | some c, some x =>
    match x.res with
    | none => s
    | some res =>
      if x.delivered then s
      else x.locals.foldl (fun s l => s.cvDeliverTo k r c x res l) (s.modRound k r fun x => { x with delivered := true })
  | _, _ => s

/-! ## Down the tree, and back: `RESULT`, `ABORT`, `DONE` (R305, R306, R311, R315) -/

/-- The root's window base moved past its retired rounds (R305); the first argument bounds the moves. -/
def CvSlot.advance (c : CvSlot) : Nat → CvSlot
  | 0 => c
  | n + 1 =>
    match Tbl.get c.rounds c.wbase with
    | some x => if x.state = .retired then ({ c with wbase := wrapAdd 16 c.wbase 1, rounds := Tbl.del c.rounds c.wbase } : CvSlot).advance n else c
    | none => c

/-- A round retires here (R306). -/
def State.cvRetire (s : State) (k r : Nat) : State :=
  let s := (s.modRound k r fun x => { x with state := .retired, timerAt := none }).tally .col 1 1 (k % 2)
  match Tbl.get s.convoys k with
  | none => s
  | some c =>
    if !c.root then s
    else
      let c' := c.advance 64
      if c'.wbase = c.wbase then s
      else s.modCv k fun _ => { c' with windowDue := some (c.windowDue.getD (s.now + us 1)) }

/-- `DONE` sent, or the round retired at the root, once every child that was sent a copy has answered (R306, R311, R315). -/
def State.cvCheckDone (s : State) (k r : Nat) : State :=
  match Tbl.get s.convoys k, s.cvRound k r with
  | some c, some x =>
    if x.state ≠ .down || !(c.tree.children.all fun p => x.masked.contains p || Tbl.has x.dones p) then s
    else
      let own := (c.tree.children.find? fun p => x.masked.contains p).map fun p => (s.did, p)
      let below := c.tree.children.findSome? fun p => (Tbl.get x.dones p).bind id
      let report := match own with
        | some o => some o
        | none => below
      if c.root then
        match report with
        | some _ => s.later (.cvTrigger k c.state report)
        | none => s.cvRetire k r
      else
        let s := s.cvRetire k r
        s.cvUp k (cvSay report { cvHdr 3 r x.params with missed := report.isSome }) []
  | _, _ => s

/-- A round's result or abort goes down: kept, delivered here, replicated; at the root the round timer starts (R301, R305,
R306, R315, R316, R319). -/
def State.cvGoDown (s : State) (k r : Nat) (res : CvRes) : State :=
  let s := s.cvOpen k r
  match Tbl.get s.convoys k, s.cvRound k r with
  | some c, some x =>
    let keep := c.root && x.state == .retired
    let s := s.modRound k r fun x => { x with state := if keep then .retired else .down, res := some res, dones := [], masked := [] }
    let s := s.cvDeliver k r
    let h := { cvHdr (if res.abort.isSome then 8 else 2) r x.params with count := res.count, detail := res.abort.getD 0 }
    let (s, gone) := s.cvDown k c.tree.children true h (if res.abort.isSome then [] else res.data)
    let s := s.when res.abort.isNone fun s => s.tally .col 4 1 (k % 2)
    let s := s.modCv k fun c => { c with windowDue := if res.abort.isNone then none else c.windowDue }
    let s := s.modRound k r fun x => { x with masked := gone, timerAt := if c.root && !keep then some s.now else none }
    s.cvCheckDone k r
  | _, _ => s

/-- The root aborts a round whose result it does not hold (R319): detail, and the device that asked. -/
def State.cvRootAbort (s : State) (k r detail did : Nat) : State :=
  match Tbl.get s.convoys k with
  | none => s
  | some c =>
    let held : Bool := match s.cvRound k r with
      | some x => x.res.isSome || x.state == .down || x.state == .retired
      | none => false
    if held then s
    else
      let s := ((s.bump F.COL_ABORTS_ABORTED).tally .col 8 1 (k % 2)).cvEvent k c.cfg 0x32 detail r did
      s.cvGoDown k r { abort := some detail }

/-! ## Up the tree (R303, R307, R309) -/

/-- Have all inputs of a round come: every local contributor's and every child's (R306)? -/
def CvRound.complete (x : CvRound) (c : CvSlot) : Bool :=
  ((List.range 4).all fun f => !bitOf c.cfg.fns f || x.ins.any fun i => i.src == .fn f) &&
    c.tree.children.all fun p => x.ins.any fun i => i.src == .port p

/-- The inputs of a round in combining order: as they came, or in the fixed order of `ORDERED` (R303). -/
def CvRound.order (x : CvRound) (p : CvParams) : List (List Byte) :=
  if p.mode = 1 && p.reduces then
    ((List.range 4).flatMap fun f => (x.ins.filter fun i => i.src == .fn f).map CvIn.data) ++
      ((List.range 128).flatMap fun q => (x.ins.filter fun i => i.src == .port q).map CvIn.data)
  else x.ins.map CvIn.data

/-- Does a round disagree with R297: no source of a broadcast, or two; or, of a reduce, two `RESULT_HERE` (R307)? `whole`: the
round is complete at the root. -/
def CvRound.clash (x : CvRound) (whole : Bool) : Bool :=
  match x.params with
  | none => false
  | some p =>
    let src := (x.ins.filter fun i => i.data != []).length
    let here := (x.locals.filter fun l => l.here).length
    (p.operation == 1 && (decide (2 ≤ src) || (whole && src == 0))) || (p.operation == 2 && decide (2 ≤ here))

/-- A round goes on: aborted where this device found a cause, gathered, sent up, or answered by the root (R303 to R307, R309,
R312, R319). -/
def State.cvProgress (s : State) (k r : Nat) : State :=
  match Tbl.get s.convoys k, s.cvRound k r with
  | some c, some x =>
    if x.state ≠ .opened || c.state = 3 || !c.onTree then s
    else
      let cause := match x.cause with
        | some z => some z
        | none =>
          if x.clash (c.root && x.complete c) then some (dtRoundMismatch, s.did)
          else if (x.params.map fun p => decide (c.cfg.stage < c.need p)).getD false then some (dtStageTooSmall, s.did)
          else none
      match cause with
      | some (detail, did) =>
        if c.root then s.cvRootAbort k r detail did
        else
          (s.modRound k r fun x => { x with state := .sent, cause := some (detail, did) }).cvUp k
            (cvSay (some (did, 0)) { cvHdr 7 r x.params with detail := detail }) []
      | none =>
        match x.params with
        | none => s
        | some p =>
          if p.operation = 4 then
            if x.floods.length < c.cfg.participants then s
            else
              let s := s.modRound k r fun x => { x with state := .down, res := some { abort := none, count := c.cfg.participants }, timerAt := if c.root then some s.now else none }
              (s.cvDeliver k r).cvCheckDone k r
          else if !x.complete c then s
          else
            let d := p.fold (x.order p)
            let n := (x.ins.map CvIn.count).sum
            if c.root then
              if n ≠ c.cfg.participants then s.cvRootAbort k r dtCountMismatch s.did
              else s.cvGoDown k r { abort := none, data := p.final d, count := n }
            else
              let s := (s.modRound k r fun x => { x with state := .sent }).tally .col 3 1 (k % 2)
              s.cvUp k { cvHdr 1 r x.params with count := n, hasAcc := p.exact } d
  | _, _ => s

/-- This device finds a cause to abort a round (R307, R308, R319); its `PARTIAL` may already be on its way. -/
def State.cvBad (s : State) (k r detail : Nat) : State :=
  let fresh : Bool := match s.cvRound k r with
    | some x => x.state == .sent && x.cause.isNone
    | none => false
  (s.modRound k r fun x => { x with cause := some (x.cause.getD (detail, s.did)), state := if fresh then .opened else x.state }).cvProgress k r

/-- What a round agrees on, taken from a contribution or a packet; `false`: it disagrees (R307). -/
def State.cvAgree (s : State) (k r : Nat) (p : CvParams) : State × Bool :=
  match s.cvRound k r with
  | none => (s, false)
  | some x =>
    match x.params with
    | none => (s.modRound k r fun x => { x with params := some p }, true)
    | some q => (s, p == q)

/-- An input accepted into a round that is open (R303, R307). -/
def State.cvInput (s : State) (k r : Nat) (i : CvIn) : State :=
  match s.cvRound k r with
  | none => s
  | some x =>
    if x.state ≠ .opened || x.ins.any (fun j => j.src == i.src) then s
    else
      ((s.modRound k r fun x => { x with ins := x.ins ++ [i] }).tally .col 5 i.data.length (k % 2)).cvProgress k r

/-! ## Allgather (R309) -/

/-- The inputs that a local contributor's result buffer lacks written to it (R309). -/
def State.cvGatherTo (s : State) (k r : Nat) (x : CvRound) (len : Nat) (l : CvLocal) : State :=
  let todo := x.floods.filter fun e => !l.wrote.contains e.1
  let s := s.modRound k r fun x => { x with locals := x.locals.map fun (m : CvLocal) => if m.op = l.op then { m with wrote := m.wrote ++ todo.map Prod.fst } else m }
  todo.foldl (fun s e => s.cvWrite k r l.fn l.op (l.result + e.1 * len) e.2) s

/-- An allgather input held: written to every local contributor, and the round looked at (R309). -/
def State.cvHold (s : State) (k r index : Nat) (d : List Byte) : State :=
  let s := s.modRound k r fun x => { x with floods := Tbl.set x.floods index d }
  let s := s.tally .col 5 d.length (k % 2)
  match s.cvRound k r with
  | none => s
  | some x => (x.locals.foldl (fun s l => s.cvGatherTo k r x d.length l) s).cvProgress k r

/-- An allgather input sent on every port of the tree in use but one (R309, R311). -/
def State.cvFlood (s : State) (k r : Nat) (p : CvParams) (index : Nat) (d : List Byte) (from_ : Option Nat) : State :=
  match Tbl.get s.convoys k with
  | none => s
  | some c =>
    if !c.onTree then s
    else
      let h := { cvHdr 10 r (some p) with index := index, count := 1 }
      let kids := c.tree.children.filter fun q => some q != from_
      let (s, gone) := s.cvDown k kids true h d
      let s := s.modRound k r fun x => { x with masked := (x.masked ++ gone).dedup }
      match c.tree.parent with
      | some q => if some q = from_ then s else s.cvUp k h d
      | none => s

/-! ## Contributing (R298 to R300) -/

/-- A local contribution staged: an input of its round, or flooded (R299, R307, R309). -/
def State.cvStaged (s : State) (id : Nat) (d : List Byte) : State :=
  match Tbl.get s.ops id with
  | none => s
  | some o =>
    let k := cvSlotOf o.d
    let r := cvRoundOf o.d
    let p := cvParams o.d
    let s := s.modOp id fun o => { o with reading := none, readFault := none }
    let s := s.modRound k r fun x => { x with locals := x.locals.map fun (l : CvLocal) => if l.op = id then { l with ready := true, data := d } else l }
    match s.cvRound k r with
    | none => s
    | some x =>
      match x.locals.find? fun l => l.op == id with
      | none => s
      | some l =>
        if s.memFenced || s.memDenied (.col (k % 2)) (s.planBase 7) then (s.berr .col 1).cvBad k r dtStageLost
        else if x.gathers then
          if x.state ≠ .opened then s
          else if Tbl.has x.floods l.index then s.cvBad k r dtRoundMismatch
          else (s.cvFlood k r p l.index d none).cvHold k r l.index d
        else s.cvInput k r { src := .fn o.fn, count := 1, data := p.lift d }

/-- The read of a contribution failed: tried again every 10 µs until the deadline (R300); kind 0 is a host-bus failure of the
read itself. DESIGN CHOICE: the fault record of that failure has the kind of a walk's host-bus failure (R110, R112; log entry 59). -/
def State.cvReadFault (s : State) (id : Nat) (o : Op) (kind level iova : Nat) : State :=
  let k := cvSlotOf o.d
  let s := s.faultRecord o.fn { kind := if kind = 0 then xkBusError else kind, source := 7, level := level, master := 0x20 + k % 2, as := s.opAs o, iova := iova, context := k } true
  s.modOp id fun o => { o with reading := none, readFault := some ((o.readFault.map Prod.fst).getD s.now, kind), retryAt := s.now + us 10 }

/-- A contribution translated and read (R299). -/
def State.cvFetch (s : State) (id : Nat) : State :=
  match Tbl.get s.ops id with
  | none => s
  | some o =>
    if o.ended.isSome || o.reading.isSome then s
    else
      match s.xlat (.contribution id) o.fn (s.opAs o) o.d.localAddr o.d.length true false with
      | (s, .wait) => s
      | (s, .fault kind level iova) => s.cvReadFault id o kind level iova
      | (s, .ok ps _) =>
        let (s, rd) := (s.dropGrants (.contribution id)).hostReadV o.fn ps o.d.length (.contribution id) (some o.d.localAddr) none (s.opAs o)
        s.modOp id fun o => { o with reading := some rd }

/-- The turn of a queue's operation: it is the first not begun, nothing before it is being sent, and it waits for no other. -/
def State.turn (s : State) (id : Nat) (o : Op) : Bool :=
  let mine := s.ops.filter fun e => e.2.fn == o.fn && e.2.wq == o.wq && e.2.phase != .held && e.2.ended.isNone
  !(mine.any fun e => e.2.phase == .begun) && ((mine.find? fun e => e.2.phase == .queued).map Prod.fst) == some id && o.after == []
    && (match Tbl.get s.wqs (o.fn, o.wq) with
      | some q => q.state == .active || q.state == .draining || q.state == .error
      | none => false)

/-- A `CONVOY` operation begins (R298, R505). -/
def convoyBegin (id : Nat) (s : State) : State :=
  match Tbl.get s.ops id with
  | none => s
  | some o =>
    if o.d.verb ≠ vbConvoy || o.recv || !s.turn id o || s.busHeld o.fn then s
    else
      let k := cvSlotOf o.d
      let r := cvRoundOf o.d
      let p := cvParams o.d
      let l := cvLocal o.fn id o.d
      let data := cvData r 0 0
      let go (s : State) : State := s.modOp id fun o => { o with phase := .sent, round := some r, startAt := s.now }
      if s.fenced Block.col.page then (go s).endOp id stAborted dtEngineFenced 0 data
      else
        match Tbl.get s.convoys k with
        | none => (go s).endOp id stAborted dtNoSlot 0 data
        | some c =>
          if !bitOf c.cfg.fns o.fn then (go s).endOp id stAborted dtNotContributor 0 data
          else if !s.member c.cfg.slot o.fn then (go s).endOp id stTenancy dtTenancyMismatch 0 data
          else if c.state = 3 then (go s).endOp id stBroken dtTreesFailed 0 data
          else if c.below r then (go s).endOp id stAborted dtOutOfWindow 0 data
          else if !c.inWindow r then s
          else if (match s.cvRound k r with
              | some x => x.locals.any fun m => m.fn == o.fn
              | none => false) then (go s).endOp id stAborted dtDuplicate 0 data
          else
            let s := (go s).cvOpen k r
            let s := s.modRound k r fun x => { x with locals := x.locals ++ [l] }
            match s.cvRound k r with
            | none => s
            | some x =>
              match x.res with
              | some res => if x.delivered then s.cvDeliverTo k r c x res l else s
              | none =>
                if !cvValid p l o.d c.cfg.participants then s.cvBad k r dtBadOperation
                else if c.cfg.stage < c.need p then s.cvBad k r dtStageTooSmall
                else
                  match s.cvAgree k r p with
                  | (s, false) => s.cvBad k r dtRoundMismatch
                  | (s, true) =>
                    let s := if p.operation = 4 then (match s.cvRound k r with
                      | some x => s.cvGatherTo k r x p.inLen l
                      | none => s) else s
                    if p.operation = 0 || (p.operation == 1 && !l.source) then s.cvStaged id [] else s.cvFetch id

/-- The read of a contribution ends (R299, R300). -/
def contributionReadDone (rd : Nat) (s : State) : State :=
  match s.takeRead rd with
  | (s', some (r, res)) =>
    match r.use with
    | .contribution id =>
      match Tbl.get s'.ops id with
      | none => s'
      | some o =>
        if o.ended.isSome then s'
        else
          match res with
          | .ok b => s'.cvStaged id b
          | .failed => s'.cvReadFault id o 0 0 o.d.localAddr
    | _ => s
  | (_, none) => s

/-- A contribution whose read failed is read again, or its round is aborted (R300). -/
def contributionRetry (id : Nat) (s : State) : State :=
  match Tbl.get s.ops id with
  | none => s
  | some o =>
    match o.readFault with
    | none => s
    | some (t0, kind) =>
      if o.ended.isSome || o.reading.isSome then s
      else
        let s := s.reach o.retryAt
        if t0 + us (s.rd F.PWY_TIMERS_GIVEUP) ≤ s.now then
          let r := cvRoundOf o.d
          let s := s.endOp id (if kind = 0 then stAborted else faultStatus kind) (if kind = 0 then dtPayloadBus else 0) o.bytes (cvData r 0 0)
          s.cvBad (cvSlotOf o.d) r dtContribFault
        else s.cvFetch id

/-! ## Restart (R315 to R317) -/

/-- One round as a restart leaves it (R316). -/
def CvRound.rebuild (x : CvRound) (n : Nat) : CvRound :=
  if x.gathers && (x.res.isNone || (match x.res with
      | some res => res.abort.isNone
      | none => false)) then
    if n ≤ x.floods.length then { x with state := .down, dones := [], masked := [] }
    else { x with state := .opened, masked := [], dones := [],
                  floods := (x.locals.filter fun l => l.ready).map fun l => (l.index, l.data) }
  else if x.res.isNone then
    { x with state := .opened, masked := [], dones := [], ins := x.ins.filter fun i => match i.src with
      | .fn _ => true
      | .port _ => false }
  else { x with dones := [], masked := [] }

/-- Rounds rebuilt on the alternate tree (R316): retained allgather inputs flooded again, the others looked at; so are the ports
of the tree now in use (R313). -/
def State.cvRebuild (s : State) (k : Nat) : State :=
  let s := s.modCv k fun c => { c with state := 2, rounds := Tbl.mapVals c.rounds fun _ x =>
    if c.tree.parent.isNone && x.state == .retired then x else x.rebuild c.cfg.participants }
  match Tbl.get s.convoys k with
  | none => s
  | some c =>
    let s := c.rounds.foldl (fun s e => match e.2.params with
      | some p => if e.2.gathers then (e.2.locals.filter fun l => l.ready).foldl (fun s l => s.cvFlood k e.1 p l.index l.data none) s else s
      | none => s) s
    (c.rounds.foldl (fun s e => if e.2.gathers && e.2.state == .down then s.cvCheckDone k e.1 else s.cvProgress k e.1) s).later (.cvLinks k)

/-- The root restarts the convoy on its alternate tree, or breaks it (R315, R317); `tree` is the slot's state when the trigger
occurred, for a trigger of the tree left behind is none. -/
def State.cvTrigger (s : State) (k tree : Nat) (report : Option (Nat × Nat)) : State :=
  match Tbl.get s.convoys k with
  | none => s
  | some c =>
    if !c.root || c.state = 3 || c.state ≠ tree then s
    else
      let report := match report with
        | some r => some r
        | none => c.report
      let s := s.modCv k fun c => { c with report := report }
      if c.state = 1 && c.cfg.altPresent then
        let low := c.lowest CvRound.live
        let down := match Tbl.get c.rounds low with
          | some x => x.res.isSome
          | none => false
        let s := (s.bump F.COL_EVENTS_RESTARTS).tally .col 7 1 (k % 2)
        let s := s.cvEvent k c.cfg 0x30 (b2n down) low (reportData report)
        let s := s.modCv k fun c => { c with state := 2 }
        let s := (s.cvDown k c.cfg.alt.children true (cvHdr 6 c.wbase none) []).1
        let s := s.cvRebuild k
        c.rounds.foldl (fun s e => match e.2.res with
          | some res => if e.2.gathers && res.abort.isNone then s else s.cvGoDown k e.1 res
          | none => s) s
      else s.cvBreak k dtTreesFailed c.tree.children

/-! ## Packets received (R294, R305 to R307, R309, R313, R316 to R322) -/

/-- The header of a convoy packet. -/
def RxPkt.cv (r : RxPkt) : ConvoyHdr :=
  match r.pkt.body with
  | .convoy h _ => h
  | _ => {}

/-- The payload of a convoy packet. -/
def RxPkt.cvBody (r : RxPkt) : List Byte :=
  match r.pkt.body with
  | .convoy _ d => d
  | _ => []

/-- Is a packet a convoy packet of a kind? A reserved kind counts with `PARTIAL`. -/
def RxPkt.isCv (r : RxPkt) (kind : Nat) : Bool :=
  match r.pkt.body with
  | .convoy h _ => h.ckind == kind || (kind == 1 && (h.ckind == 0 || decide (10 < h.ckind)))
  | _ => false

/-- The first waiting packet that passes a test, and the others. -/
def takeRx (t : RxPkt → Bool) : List RxPkt → Option (RxPkt × List RxPkt)
  | [] => none
  | r :: rest =>
    if t r then some (r, rest)
    else
      match takeRx t rest with
      | none => none
      | some (x, l) => some (x, r :: l)

/-- The window base that a down-going packet brings (R305); rounds that it passed are free. -/
def CvSlot.rebase (c : CvSlot) (w : Nat) : CvSlot :=
  let c := { c with wbase := w }
  { c with rounds := Tbl.keep c.rounds fun r x => x.live || !c.below r }

/-- A convoy packet taken by `COL` (R294, R306, R313, R316, R322): `f` acts on it once it belongs to the slot's tree in use. -/
def State.cvTake (s : State) (kind : Nat) (f : State → Nat → CvSlot → RxPkt → State) : State :=
  match takeRx (fun r => r.isCv kind) s.rx with
  | none => s
  | some (rx, rest) =>
    let s := { s with rx := rest }
    let h := rx.cv
    if h.ver ≠ 1 || 4096 < h.payloadLen then s.badTransport rx
    else if !h.rsvZero || h.payloadLen ≠ rx.cvBody.length || h.ckind = 0 || 10 < h.ckind then s.berr .col 7 (rxErr rx.pkt rx.port rx.vc)
    else
      match Tbl.get s.convoys h.slot with
      | none => (s.bump F.COL_DROP_NO_SLOT).berr .col 4 (rxErr rx.pkt rx.port rx.vc)
      | some c =>
        let up := c.tree.children.contains rx.port
        let alt := c.state == 1 && h.alt && kind == 6 && c.cfg.onAlt && c.cfg.alt.parent == some rx.port
        if rx.slot ≠ c.cfg.slot then
          let s := s.berr .col 5 (rxErr rx.pkt rx.port rx.vc)
          if up && c.busy then s.cvFailPort h.slot (some (s.did, rx.port)) else s
        else if c.state = 3 || (!alt && (h.alt != (c.state == 2) || !(up || c.tree.parent == some rx.port))) then s
        else
          let down := c.tree.parent == some rx.port || alt
          let s := if down then s.modCv h.slot fun c => c.rebase h.wbase else s
          match Tbl.get s.convoys h.slot with
          | none => s
          | some c => f s h.slot c rx

/-- A packet for a round: only rounds in the window are accepted (R306). -/
def cvInWindow (f : State → Nat → CvSlot → RxPkt → State) (s : State) (k : Nat) (c : CvSlot) (rx : RxPkt) : State :=
  if c.inWindow rx.cv.round then f s k c rx else if c.below rx.cv.round then s else s.bump F.COL_DROP_NO_SLOT

/-- A packet from a child. -/
def cvFromChild (f : State → Nat → CvSlot → RxPkt → State) (s : State) (k : Nat) (c : CvSlot) (rx : RxPkt) : State :=
  if c.tree.children.contains rx.port then f s k c rx else s

/-- A packet from the parent. -/
def cvFromParent (f : State → Nat → CvSlot → RxPkt → State) (s : State) (k : Nat) (c : CvSlot) (rx : RxPkt) : State :=
  if c.tree.parent = some rx.port then f s k c rx else s

/-- What a header says that a round agrees on. -/
def cvParamsOf (h : ConvoyHdr) : CvParams :=
  { operation := h.operation, dtype := h.dtype, operator := h.operator, mode := h.mode, inLen := h.inLen }

/-- A child's `PARTIAL` (R307). -/
def onPartial (s : State) (k : Nat) (_ : CvSlot) (rx : RxPkt) : State :=
  let h := rx.cv
  let s := (s.cvOpen k h.round).tally .col 2 1 (k % 2)
  match s.cvRound k h.round with
  | none => s
  | some x =>
    if x.state ≠ .opened then s
    else
      match s.cvAgree k h.round (cvParamsOf h) with
      | (s, false) => s.cvBad k h.round dtRoundMismatch
      | (s, true) =>
        if !(cvParamsOf h).fits rx.cvBody.length || h.hasAcc != (cvParamsOf h).exact || h.operation = 4 then s.cvBad k h.round dtRoundMismatch
        else s.cvInput k h.round { src := .port rx.port, count := h.count, data := rx.cvBody }

/-- A `RESULT` from the parent (R301, R306, R316); where it disagrees with the round here, the round is aborted from here down
(R290, R307). -/
def onResult (s : State) (k : Nat) (_ : CvSlot) (rx : RxPkt) : State :=
  let h := rx.cv
  let p := cvParamsOf h
  match (s.cvOpen k h.round).cvAgree k h.round p with
  | (s, agrees) =>
    s.cvGoDown k h.round
      (if agrees && p.operation != 4 && rx.cvBody.length == p.outLen then { abort := none, data := rx.cvBody, count := h.count }
        else { abort := some dtRoundMismatch })

/-- An `ABORT` from the parent (R319). -/
def onAbort (s : State) (k : Nat) (_ : CvSlot) (rx : RxPkt) : State := s.cvGoDown k rx.cv.round { abort := some rx.cv.detail }

/-- A child's `DONE` (R306, R311). -/
def onDone (s : State) (k : Nat) (_ : CvSlot) (rx : RxPkt) : State :=
  let h := rx.cv
  let report := if h.missed then some (h.missingDid, h.missingPort) else none
  (s.modRound k h.round fun x => { x with dones := Tbl.set x.dones rx.port report }).cvCheckDone k h.round

/-- A `WINDOW` from the parent, replicated (R305). -/
def onWindow (s : State) (k : Nat) (c : CvSlot) (_ : RxPkt) : State := (s.cvDown k c.tree.children true (cvHdr 4 c.wbase none) []).1

/-- A child's `FAIL` (R313, R315). -/
def onFail (s : State) (k : Nat) (_ : CvSlot) (rx : RxPkt) : State := s.cvFailPort k (cvReported rx.cv)

/-- A `RESTART` (R316). -/
def onRestart (s : State) (k : Nat) (c : CvSlot) (_ : RxPkt) : State :=
  if c.state ≠ 1 then s
  else
    let s := s.modCv k fun c => { c with state := 2 }
    ((s.cvDown k c.cfg.alt.children true (cvHdr 6 c.wbase none) []).1).cvRebuild k

/-- A child's `ABORT_REQ` (R319). -/
def onAbortReq (s : State) (k : Nat) (c : CvSlot) (rx : RxPkt) : State :=
  let h := rx.cv
  if c.root then s.cvRootAbort k h.round h.detail h.missingDid
  else s.cvUp k (cvSay (cvReported h) { cvHdr 7 h.round (some (cvParamsOf h)) with detail := h.detail }) []

/-- A `BROKEN` from the parent, or from a child whose slot state was lost (R318, R325 index 3). -/
def onBroken (s : State) (k : Nat) (c : CvSlot) (rx : RxPkt) : State :=
  (s.modCv k fun c => { c with report := match cvReported rx.cv with
    | some r => some r
    | none => c.report }).cvBreak k rx.cv.detail c.tree.children

/-- Is a `FLOOD` an input of an allgather of this slot, of the length that its header gives (R290, R297)? -/
def CvSlot.floodOk (c : CvSlot) (h : ConvoyHdr) (d : List Byte) : Bool :=
  h.operation == 4 && decide (h.index < c.cfg.participants) && d.length == h.inLen

/-- A `FLOOD` from a neighbour in the tree (R309): an input that came before is a repeat; a second one, or one for an index
contributed here, disagrees (R307). -/
def onFlood (s : State) (k : Nat) (c : CvSlot) (rx : RxPkt) : State :=
  let h := rx.cv
  let s := (s.cvOpen k h.round).tally .col 6 1 (k % 2)
  let s := s.cvFlood k h.round (cvParamsOf h) h.index rx.cvBody (some rx.port)
  match s.cvAgree k h.round (cvParamsOf h) with
  | (s, false) => s.cvBad k h.round dtRoundMismatch
  | (s, true) =>
    match s.cvRound k h.round with
    | none => s
    | some x =>
      if x.state ≠ .opened then s
      else if !c.floodOk h rx.cvBody || x.locals.any (fun l => l.ready && l.index == h.index) then s.cvBad k h.round dtRoundMismatch
      else
        match Tbl.get x.floods h.index with
        | some d => if d = rx.cvBody then s else s.cvBad k h.round dtRoundMismatch
        | none => s.cvHold k h.round h.index rx.cvBody

/-- The convoy rows for packets. -/
def cvPartial (s : State) : State := s.cvTake 1 (cvFromChild (cvInWindow onPartial))
def cvResult (s : State) : State := s.cvTake 2 (cvFromParent (cvInWindow onResult))
def cvDone (s : State) : State := s.cvTake 3 (cvFromChild (cvInWindow onDone))
def cvWindow (s : State) : State := s.cvTake 4 (cvFromParent onWindow)
def cvFail (s : State) : State := s.cvTake 5 (cvFromChild onFail)
def cvRestart (s : State) : State := s.cvTake 6 onRestart
def cvAbortReq (s : State) : State := s.cvTake 7 (cvFromChild (cvInWindow onAbortReq))
def cvAbort (s : State) : State := s.cvTake 8 (cvFromParent (cvInWindow onAbort))
def cvBroken (s : State) : State := s.cvTake 9 onBroken
def cvFlood (s : State) : State := s.cvTake 10 (cvInWindow onFlood)

/-- A convoy packet that did not verify (R313, R325). -/
def State.cvVerifyFailed (s : State) (p : Pkt) (port vc : Nat) : State :=
  match p.body with
  | .convoy h _ =>
    let s := s.berr .col 5 (rxErr p port vc)
    match Tbl.get s.convoys h.slot with
    | none => s
    | some c => if c.busy && c.state ≠ 3 && c.tree.children.contains port then s.cvFailPort h.slot (some (s.did, port)) else s
  | _ => s

/-! ## Timers (R302, R305, R315, R320) -/

/-- The round timer of a round at the root expires (R315). -/
def roundTimer (k r : Nat) (s : State) : State :=
  match Tbl.get s.convoys k, s.cvRound k r with
  | some c, some x =>
    match x.timerAt with
    | none => s
    | some t =>
      if x.state ≠ .down then s
      else ((s.reach (t + us (orWhenZero (s.rd F.COL_CTL_ROUND_TMO_US) 1))).modRound k r fun x => { x with timerAt := none }).later (.cvTrigger k c.state none)
  | _, _ => s

/-- The wait of a round ends, with the details for an abort and for a local end (R320). -/
def State.cvExpire (s : State) (k r req here : Nat) : State :=
  match Tbl.get s.convoys k, s.cvRound k r with
  | some c, some x =>
    let parentUp := match c.tree.parent with
      | none => true
      | some p => s.cvUpPort p
    if x.state = .opened && c.onTree && parentUp then (s.modRound k r fun x => { x with waited := true }).cvBad k r req
    else
      let s := s.cvFailLocals r x here
      (s.modRound k r fun x => { x with waited := true, delivered := true }).cvRetire k r
  | _, _ => s

/-- The wait bound of a round passes (R320). -/
def roundWaitTimeout (k r : Nat) (s : State) : State :=
  match s.cvRound k r with
  | none => s
  | some x =>
    let lim := s.rd F.COL_CTL_WAIT_TMO_MS
    if lim = 0 || x.waited || !x.live then s else (s.reach (x.openedAt + ms lim)).cvExpire k r dtWaitTimeout dtOrphaned

/-- A function was reset: the wait of every round that awaits its contribution ends (R320). -/
def State.cvLost (s : State) (fn : Nat) : State :=
  s.convoys.foldl (fun s e =>
    if !bitOf e.2.cfg.fns fn || e.2.state = 3 then s
    else e.2.rounds.foldl (fun s x =>
      let has := x.2.locals.any fun l => l.fn == fn && l.ready
      if has || x.2.res.isSome || x.2.state = .retired || x.2.cause.isSome then s
      else s.cvExpire e.1 x.1 dtContributorLost dtContributorLost) s) s

/-- A `WINDOW` packet is due (R305). -/
def windowSendTimer (k : Nat) (s : State) : State :=
  match Tbl.get s.convoys k with
  | none => s
  | some c =>
    match c.windowDue with
    | none => s
    | some t =>
      let s := (s.reach t).modCv k fun c => { c with windowDue := none }
      (s.cvDown k c.tree.children true (cvHdr 4 c.wbase none) []).1

/-- Parked result writes of a round are tried again (R302). -/
def resultWriteRetry (k r : Nat) (s : State) : State :=
  match s.cvWrites.find? fun w => w.slot == k && w.round == r && w.fault.isSome with
  | none => s
  | some w => (s.reach w.retryAt).cvRetry fun w => w.slot == k && w.round == r && w.fault.isSome

/-- Staged data of a round lost (R325 index 1; R511): the round is aborted. -/
def State.cvStageLost (s : State) (k r : Nat) : State := s.cvBad k r dtStageLost

/-- `BROKEN` on every port of a tree, to its parent too (R321, R325 index 3). -/
def State.cvSayBroken (s : State) (k : Nat) (t : CvTree) : State :=
  match Tbl.get s.convoys k with
  | none => s
  | some c =>
    let h := cvSay c.report { cvHdr 9 (c.lowest CvRound.live) none with detail := dtTreesFailed }
    let s := (s.cvDown k t.children true h []).1
    match t.parent with
    | some p => (s.cvDown k [p] false h []).1
    | none => s

/-- Slot state lost (R325 index 3): `BROKEN` on every port of both trees, each under its own tree's bit. -/
def State.cvSlotLost (s : State) (k : Nat) : State :=
  match Tbl.get s.convoys k with
  | none => s
  | some c =>
    if c.state = 3 then s
    else
      let s := (s.modCv k fun c => { c with state := 1 }).cvSayBroken k c.cfg.pri
      let s := if c.cfg.onAlt then (s.modCv k fun c => { c with state := 2 }).cvSayBroken k c.cfg.alt else s
      (s.modCv k fun x => { x with state := c.state }).cvBreak k dtTreesFailed []

/-! ## Committing a slot (R291 to R293, R308) -/

/-- Ports of a 128-bit mask. -/
def portsOf (lo hi : Nat) : List Nat := (List.range 128).filter fun p => if p < 64 then bitOf lo p else bitOf hi (p - 64)

/-- The settings that the shadow copies spell, read by `g`. -/
def cvCfgOf (g : Fld → Nat) : CvCfg :=
  { altPresent := g F.COL_SLOT_CFG_ALT_PRESENT != 0, eqEn := g F.COL_SLOT_CFG_EQ_EN != 0, fns := g F.COL_SLOT_CFG_LOCAL,
    maxRounds := g F.COL_SLOT_CFG_MAX_ROUNDS_M1 + 1, stage := g F.COL_SLOT_CFG_STAGE_UNITS, slot := g F.COL_SLOT_CFG_TENANCY,
    owner := g F.COL_SLOT_CFG_OWNER_FN, eq := g F.COL_SLOT_CFG_EQ, participants := g F.COL_SLOT_PART_PARTICIPANTS_M1 + 1,
    pri := { parent := if g F.COL_SLOT_PRI_HAS_PARENT != 0 then some (g F.COL_SLOT_PRI_PARENT) else none, parentField := g F.COL_SLOT_PRI_PARENT,
             children := portsOf (g F.COL_SLOT_PRI_CH0_CHILD_LO) (g F.COL_SLOT_PRI_CH1_CHILD_HI) },
    onAlt := g F.COL_SLOT_ALT_ON_TREE != 0,
    alt := { parent := if g F.COL_SLOT_ALT_HAS_PARENT != 0 then some (g F.COL_SLOT_ALT_PARENT) else none, parentField := g F.COL_SLOT_ALT_PARENT,
             children := portsOf (g F.COL_SLOT_ALT_CH0_CHILD_LO) (g F.COL_SLOT_ALT_CH1_CHILD_HI) } }

/-- The refusal code of a slot commit with `VALID` = 1; 0: accepted (R292; 09, *COL commit refusal codes*). -/
def State.cvCommitCode (s : State) (k : Nat) (n : CvCfg) : Nat :=
  let busy := match Tbl.get s.convoys k with
    | some c => c.state != 3 && c.busy && c.cfg != n
    | none => false
  let own := ((Tbl.get s.convoys k).map fun c => c.cfg.units).getD 0
  let inOwn (t : CvTree) : Bool := match t.parent with
    | some p => t.children.contains p
    | none => false
  let key := match Tbl.get s.slots n.slot with
    | some t => !t.keyLost
    | none => false
  if busy then 1
  else if inOwn n.pri || inOwn n.alt || (n.onAlt && n.pri.parent.isNone != n.alt.parent.isNone) || (!n.altPresent && n.onAlt) then 2
  else if n.altPresent && n.fns != 0 && !n.onAlt then 3
  else if !key then 4
  else if s.cvCapacity < s.cvReserved - own + n.units then 5
  else if n.eqEn && s.fnAbsent n.owner then 6
  else 0

/-- The mask of a list of ports. -/
def maskOf (ps : List Nat) : Nat := ps.foldl setBit 0

/-- An accepted slot commit takes effect (R291, R293): `none` withdraws the slot. -/
def State.cvCommit (s : State) (k : Nat) (n : Option CvCfg) : State :=
  match n with
  | none =>
    let rounds := ((Tbl.get s.convoys k).map CvSlot.rounds).getD []
    let s := rounds.foldl (fun s e => s.cvFailLocals e.1 e.2 dtSlotChanged) s
    { s with convoys := Tbl.del s.convoys k, groupTable := Tbl.del s.groupTable k }
  | some n =>
    let c : CvSlot := match Tbl.get s.convoys k with
      | some c => if c.state = 3 then { cfg := n } else { c with cfg := n, state := if c.state = 2 && !c.busy then 1 else c.state }
      | none => { cfg := n }
    { s with convoys := Tbl.set s.convoys k c, groupTable := Tbl.set s.groupTable k (maskOf n.pri.children, maskOf n.alt.children) }

end Sys2Proof.Machine
end

