-- ==== Sys2Proof/Machine/Admin.lean ====
section
/-! DEFINITION. Machine/Admin.lean: the admin queues and their commands: objects created, changed, queried, drained and destroyed
(05 R124 to R130, R138, R160; 04 R94, R107 to R109; 06 R164, R165; 07 R236 to R241; 08 R247 to R249). -/

namespace Sys2Proof.Machine

/-- Admin statuses (05, *Admin status*). -/
def asOk : Nat := 0
def asBadOpcode : Nat := 1
def asBadParam : Nat := 2
def asExists : Nat := 3
def asNotFound : Nat := 4
def asBusy : Nat := 5
def asNoResource : Nat := 6
def asLimit : Nat := 7
def asDenied : Nat := 8

/-! ## The queues (R127, R128) -/

/-- An admin command from its 64 bytes (R128). -/
def parseAdmin (b : List Byte) : AdminCmd :=
  let w (o n : Nat) : Nat := leNat ((b.drop o).take n)
  { opcode := w 0 1, userCtx := w 8 8, p0 := w 16 8, p1 := w 24 8, p2 := w 32 8, p3 := w 40 8, p4 := w 48 8, p5 := w 56 8,
    rsvZero := w 1 7 == 0 }

/-- Entries of an admin ring: values outside 4 to 12 act as 4. -/
def adminSize (l : Nat) : Nat := 2 ^ (if 4 ≤ l ∧ l ≤ 12 then l else 4)

/-- Has the admin completion queue a free entry: enabled and not full (R128)? -/
def State.acqOpen (s : State) (fn : Nat) : Bool :=
  s.on F.CMD_ACQ_CTL_EN fn &&
    decide (wrapSub 32 (s.rd F.CMD_ACQ_TAIL_TAIL fn) (s.rd F.CMD_ACQ_HEAD_HEAD fn) < adminSize (s.rd F.CMD_ACQ_CTL_LOG2_SIZE fn))

/-- Is the read of an admin command outstanding or its result waiting? -/
def State.adminReading (s : State) (fn : Nat) : Bool := s.reads.any fun e => e.2.use == .admin fn

/-- The next admin command of a function read, unless one is in progress (R127, R128). -/
def State.adminFetch (s : State) (fn : Nat) : State :=
  let head := s.rd F.CMD_AQ_HEAD_HEAD fn
  if !s.on F.CMD_AQ_CTL_EN fn || !s.acqOpen fn || head = s.rd F.CMD_AQ_TAIL_TAIL fn || Tbl.has s.admin fn || s.adminReading fn
      || (s.hf fn).resetH || !s.serves .cmd then s
  else
    (s.hostRead fn (s.rd F.CMD_AQ_BASE_BASE fn * 4096 + 64 * (head % adminSize (s.rd F.CMD_AQ_CTL_LOG2_SIZE fn))) 64 (.admin fn)).1

/-- The read of an admin command failed (R163 index 6). -/
def State.adminReadFailed (s : State) (fn id addr : Nat) : State :=
  let s := (s.takeRead id).1
  (s.wr F.CMD_AQ_CTL_EN 0 fn).berr .cmd 6 { access := accDesc, addr := addr, master := some 0x18 }

/-- The 32 bytes of an admin completion record (R128). -/
def AdminOp.bytes (a : AdminOp) (phase : Bool) : List Byte :=
  leBytes 1 a.status ++ leBytes 1 (128 * b2n phase) ++ leBytes 1 a.cmd.opcode ++ leBytes 1 0 ++ leBytes 4 a.result
    ++ leBytes 8 a.cmd.userCtx ++ leBytes 8 a.data0 ++ leBytes 8 a.data1

/-- The completion record of an admin command written, or the command left waiting for room (R127, R128); the next one is read. -/
def State.adminDone (s : State) (fn : Nat) (a : AdminOp) : State :=
  if !s.acqOpen fn then { s with admin := Tbl.set s.admin fn { a with wait := .room } }
  else
    let i := s.rd F.CMD_ACQ_TAIL_TAIL fn
    let n := adminSize (s.rd F.CMD_ACQ_CTL_LOG2_SIZE fn)
    let at_ := s.rd F.CMD_ACQ_BASE_BASE fn * 4096 + 32 * (i % n)
    let s := (({ s with admin := Tbl.del s.admin fn } : State).roll F.CMD_ACQ_TAIL_TAIL 1 fn).tally .cmd 12
    let s := if s.busGone fn then s.berr .cmd 4 { access := accHostWrite, addr := at_, master := some 0x18 }
      else s.hostWrite 9 fn at_ (a.bytes (i / n % 2 == 0))
    let s := s.when (s.on F.CMD_ACQ_CTL_IRQ_EN fn) fun s => s.msix fn (s.rd F.CMD_ACQ_CTL_VECTOR fn)
    s.adminFetch fn

/-- An admin command that ends at once. -/
def State.adminEnd (s : State) (fn : Nat) (c : AdminCmd) (st : Nat) (result : Nat := 0) (d0 d1 : Nat := 0) : State :=
  s.adminDone fn { cmd := c, wait := .room, status := st, result := result, data0 := d0, data1 := d1 }

/-- An admin command that waits. -/
def State.adminHold (s : State) (fn : Nat) (c : AdminCmd) (w : AdminWait) (result : Nat := 0) : State :=
  { s with admin := Tbl.set s.admin fn { cmd := c, wait := w, since := s.now, result := result } }

/-- An admin command of a row executed: the one read from the queue, if its opcode is the row's or a reserved one (R127, R129). -/
def State.adminRow (s : State) (fn op : Nat) (c : AdminCmd) (f : State → State) : State :=
  match s.reads.find? fun e => e.2.use == .admin fn with
  | none => s
  | some (id, r) =>
    let reserved := c.opcode = 0 || decide (0x15 < c.opcode)
    if Tbl.has s.admin fn || !s.acqOpen fn || !s.on F.CMD_AQ_CTL_EN fn || (c.opcode ≠ op && !reserved) then s
    else
      match r.result with
      | some (.ok b) =>
        if parseAdmin b ≠ c then s
        else
          let s := (s.takeRead id).1.roll F.CMD_AQ_HEAD_HEAD 1 fn
          if reserved then s.adminEnd fn c asBadOpcode else if !c.rsvZero then s.adminEnd fn c asBadParam else f s
      | _ => s

/-- A write of `CMD_AQ_TAIL` (R54, R127, R134). -/
def adminDoorbell (m fn tail : Nat) (s : State) : State :=
  let off := F.CMD_AQ_TAIL_TAIL.addr fn 0
  if !mayWindow m fn then s
  else
    let v := tail % 2 ^ 32
    let c := s.rd F.CMD_AQ_HEAD_HEAD fn
    let p := s.rd F.CMD_AQ_TAIL_TAIL fn
    let n := adminSize (s.rd F.CMD_AQ_CTL_LOG2_SIZE fn)
    let s := s.tally .cmd 0
    if wrapSub 32 v c ≤ n ∧ wrapSub 32 v p ≤ n - wrapSub 32 p c then (s.wr F.CMD_AQ_TAIL_TAIL v fn).adminFetch fn
    else s.berr .cmd 3 { access := accRegWrite, addr := off, master := some m }

/-- The admin completion queue has room again: a waiting command completes, further ones begin (R128). -/
def State.adminRoom (s : State) (fn : Nat) : State :=
  match Tbl.get s.admin fn with
  | some a => if a.wait = .room then s.adminDone fn a else s
  | none => s.adminFetch fn

/-- `CMD_ACQ_CTL.EN` set (R128). -/
def acqEnable (m fn : Nat) (s : State) : State :=
  if !mayWindow m fn then s
  else (s.wr F.CMD_ACQ_CTL_EN 1 fn).adminRoom fn

/-- Is every bit of a parameter outside some fields 0 (R129)? Fields are lowest bit and width. -/
def onlyBits (v : Nat) (fs : List (Nat × Nat)) : Bool := (fs.foldl (fun m f => m - bitsOf v f.1 f.2 * 2 ^ f.1) v) == 0

/-- Are the parameters from `P4` on 0? -/
def AdminCmdNo45 (c : AdminCmd) : Bool := c.p4 == 0 && c.p5 == 0

/-! ## Queues (R129, R138, R155, R407) -/

/-- `CREATE_WQ` (R129, R407, R472). Where several statuses apply to an admin command, the first test that fails gives it: parameters, then what is
in use, then what is missing, then rights (log entry 46, DESIGN CHOICE). -/
def State.doCreateWq (s : State) (fn : Nat) (c : AdminCmd) : State :=
  let n := bitsOf c.p1 0 14
  let log := bitsOf c.p1 16 4 + 6
  let as := bitsOf c.p1 20 12
  let cq := bitsOf c.p1 32 14
  let recv := bitOf c.p1 46
  let list := bitsOf c.p1 48 12
  let slot := bitsOf c.p2 0 12
  let shaped := bitOf c.p3 16 && (bitsOf c.p3 32 16 == 0 || decide (bitsOf c.p3 48 16 < 17))
  if !onlyBits c.p0 [(12, 36)] || !onlyBits c.p1 [(0, 14), (16, 4), (20, 12), (32, 14), (46, 1), (48, 12)]
      || !onlyBits c.p2 [(0, 12), (12, 4), (16, 9), (25, 1)] || !onlyBits c.p3 [(0, 16), (16, 1), (32, 16), (48, 16)]
      || !AdminCmdNo45 c || decide (16 < log) || shaped then s.adminEnd fn c asBadParam
  else if Tbl.has s.wqs (fn, n) then s.adminEnd fn c asExists
  else if !Tbl.has s.spaces (fn, as) || !Tbl.has s.cqs (fn, cq) || (recv && !(match Tbl.get s.lists (fn, list) with
      | some l => !l.closing
      | none => false)) then s.adminEnd fn c asNotFound
  else if !s.member slot fn then s.adminEnd fn c asDenied
  else
    let q : Wq := { base := c.p0, log2 := log, as := as, cq := cq, recv := recv, list := list, slot := slot, tcMask := bitsOf c.p2 12 4,
                    counter := bitsOf c.p2 16 9, countEn := bitOf c.p2 25, sched := c.p3 }
    ({ s.freshEntity fn n with wqs := Tbl.set s.wqs (fn, n) q } : State).adminEnd fn c asOk n

/-- `WQ_INVAL` (R138). DESIGN CHOICE: the bytes of a direct post that has only partly arrived are dropped (log entry 59). -/
def State.doWqInval (s : State) (fn : Nat) (c : AdminCmd) : State :=
  let n := bitsOf c.p0 0 14
  if !onlyBits c.p0 [(0, 14), (16, 1)] || c.p1 ≠ 0 || c.p2 ≠ 0 || c.p3 ≠ 0 || !AdminCmdNo45 c then s.adminEnd fn c asBadParam
  else
    match Tbl.get s.wqs (fn, n) with
    | none => s.adminEnd fn c asNotFound
    | some q =>
      let hold := bitOf c.p0 16
      let s := s.modWq fn n fun q => { q with cache := [], part := [], fetching := none, fetchWait := false, hold := hold, gather := [] }
      (s.adminEnd fn c asOk q.cons).fetchNext fn n

/-- Fields of `P2` that set interrupt moderation (R129). -/
def modBits : List (Nat × Nat) := [(0, 11), (11, 1), (16, 16), (32, 16)]

/-- `CREATE_CQ` (R129). -/
def State.doCreateCq (s : State) (fn : Nat) (c : AdminCmd) : State :=
  let n := bitsOf c.p1 0 14
  let log := bitsOf c.p1 16 5
  let as := bitsOf c.p1 24 12
  if !onlyBits c.p0 [(12, 36)] || !onlyBits c.p1 [(0, 14), (16, 5), (24, 12)] || !onlyBits c.p2 modBits || c.p3 ≠ 0 || !AdminCmdNo45 c
      || decide (log < 6) || decide (22 < log) then s.adminEnd fn c asBadParam
  else if Tbl.has s.cqs (fn, n) then s.adminEnd fn c asExists
  else if !Tbl.has s.spaces (fn, as) then s.adminEnd fn c asNotFound
  else
    let q : Cq := { base := c.p0, log2 := log, as := as, vector := bitsOf c.p2 0 11, irqEn := bitOf c.p2 11, modCount := bitsOf c.p2 16 16,
                    modTime := bitsOf c.p2 32 16 }
    ({ s with cqs := Tbl.set s.cqs (fn, n) q } : State).adminEnd fn c asOk n

/-- `DESTROY_CQ` (R129). -/
def State.doDestroyCq (s : State) (fn : Nat) (c : AdminCmd) : State :=
  let n := bitsOf c.p0 0 14
  if !onlyBits c.p0 [(0, 14)] || c.p1 ≠ 0 || c.p2 ≠ 0 || c.p3 ≠ 0 || !AdminCmdNo45 c then s.adminEnd fn c asBadParam
  else if !Tbl.has s.cqs (fn, n) then s.adminEnd fn c asNotFound
  else if s.wqs.any fun e => e.1.1 == fn && e.2.cq == n then s.adminEnd fn c asBusy
  else ({ s with cqs := Tbl.del s.cqs (fn, n) } : State).adminEnd fn c asOk

/-- `MODIFY_CQ` (R129). -/
def State.doModifyCq (s : State) (fn : Nat) (c : AdminCmd) : State :=
  let n := bitsOf c.p0 0 14
  if !onlyBits c.p0 [(0, 14)] || c.p1 ≠ 0 || !onlyBits c.p2 modBits || c.p3 ≠ 0 || !AdminCmdNo45 c then s.adminEnd fn c asBadParam
  else
    match Tbl.get s.cqs (fn, n) with
    | none => s.adminEnd fn c asNotFound
    | some q =>
      let q := { q with vector := bitsOf c.p2 0 11, irqEn := bitOf c.p2 11, modCount := bitsOf c.p2 16 16, modTime := bitsOf c.p2 32 16 }
      ({ s with cqs := Tbl.set s.cqs (fn, n) q } : State).adminEnd fn c asOk

/-- `CREATE_EQ` (R129, R155). -/
def State.doCreateEq (s : State) (fn : Nat) (c : AdminCmd) : State :=
  let n := bitsOf c.p1 0 10
  let log := bitsOf c.p1 16 5
  let as := bitsOf c.p1 24 12
  if !onlyBits c.p0 [(12, 36)] || !onlyBits c.p1 [(0, 10), (16, 5), (24, 12), (40, 1)] || !onlyBits c.p2 modBits || c.p3 ≠ 0
      || !AdminCmdNo45 c || decide (log < 6) || decide (16 < log) then s.adminEnd fn c asBadParam
  else if Tbl.has s.eqs (fn, n) then s.adminEnd fn c asExists
  else if !Tbl.has s.spaces (fn, as) then s.adminEnd fn c asNotFound
  else
    let q : Eq := { base := c.p0, log2 := log, as := as, vector := bitsOf c.p2 0 11, irqEn := bitOf c.p2 11, modCount := bitsOf c.p2 16 16,
                    modTime := bitsOf c.p2 32 16, async := bitOf c.p1 40, order := s.nextEq }
    ({ s with eqs := Tbl.set s.eqs (fn, n) q, nextEq := s.nextEq + 1 } : State).adminEnd fn c asOk n

/-- Does a valid commons region name an event queue of a function (R129, R172)? -/
def State.cregNames (s : State) (fn n : Nat) : Bool :=
  (List.range' 1 1023).any fun i => s.on F.RXE_CREG_ATTRi_VALID 0 i && s.on F.RXE_CREG_ATTRi_EQ_EN 0 i && s.rd F.RXE_CREG_ATTRi_OWNER_FN 0 i == fn
    && s.rd F.RXE_CREG_ATTRi_EQ 0 i == n

/-- `DESTROY_EQ` (R129, R155). -/
def State.doDestroyEq (s : State) (fn : Nat) (c : AdminCmd) : State :=
  let n := bitsOf c.p0 0 10
  let named := s.regions.any (fun e => e.1.1 == fn && e.2.eqEn && e.2.eq == n) || s.lists.any (fun e => e.1.1 == fn && e.2.eqEn && e.2.eq == n)
    || s.convoys.any (fun e => e.2.cfg.eqEn && e.2.cfg.owner == fn && e.2.cfg.eq == n) || s.cregNames fn n
  if !onlyBits c.p0 [(0, 10)] || c.p1 ≠ 0 || c.p2 ≠ 0 || c.p3 ≠ 0 || !AdminCmdNo45 c then s.adminEnd fn c asBadParam
  else if !Tbl.has s.eqs (fn, n) then s.adminEnd fn c asNotFound
  else if named then s.adminEnd fn c asBusy
  else ({ s with eqs := Tbl.del s.eqs (fn, n) } : State).adminEnd fn c asOk

/-! ## Draining (R160) -/

/-- One operation of a draining queue ended or stopped (R160 steps 2 to 4). -/
def State.drainOp (s : State) (id : Nat) : State :=
  match Tbl.get s.ops id with
  | none => s
  | some o =>
    if o.ended.isSome || o.phase = .closing then s
    else if o.phase = .held then s.endOp id stAborted dtWithdrawn 0 0
    else if o.recv then
      let s := { s with posted := s.posted.filter fun p => p.op != id }
      if o.pull && s.ownerFlying (.pull id) then s.modOp id fun o => { o with stop := true, fail := some (stAborted, dtDrained) }
      else
        let s := { s with resps := s.resps.filter fun r => match r with
          | .pkt _ _ w _ _ _ => w != Owner.pull id
          | _ => true }
        let s := (s.copies.filter fun e => e.2.op == id).foldl (fun s e => s.copyDone e.1 e.2) s
        s.failRecv id stAborted dtDrained
    else if o.phase = .queued then s.endOp id stAborted dtDrained 0 0
    else if o.d.verb = vbConvoy then s.endOp id stAborted dtDrained o.bytes (cvData (cvRoundOf o.d) 0 0)
    else
      let s := (s.dropSends id).modOp id fun o => { o with stop := true, fail := some (stAborted, dtDrained), contAt := none }
      if o.d.verb = vbLock && o.value.isNone then (s.withdrawLock o).checkOp id else s.checkOp id

/-- A drain begins (R160). -/
def State.drainBegin (s : State) (fn n : Nat) (destroy : Bool) : State :=
  let s := s.modWq fn n fun q =>
    let q := { q with state := .draining, destroy := destroy, fetchFault := false, faultOp := none, gather := [] }
    if q.part = [] then q else Wq.put { q with part := [], fetching := none, fetchWait := false } { pos := q.fetchPos, d := parseDescr q.part }
  let ids := (s.ops.filter fun e => e.2.fn == fn && e.2.wq == n).map Prod.fst
  let s := (ids.filter fun id => (Tbl.get s.ops id).any fun o => o.phase == .held).foldl (fun s id => s.drainOp id) s
  let s := (ids.filter fun id => (Tbl.get s.ops id).any fun o => o.phase == .queued && !o.recv).foldl (fun s id => s.drainOp id) s
  ids.foldl (fun s id => s.drainOp id) s

/-- Has a queue operations that are not over? -/
def State.wqBusy (s : State) (fn n : Nat) : Bool := s.ops.any fun e => e.2.fn == fn && e.2.wq == n && e.2.ended.isNone

/-- A covered slot of a draining queue completed without a reservation (R160 step 5); `PEER_EPA` and `LENGTH` of its record are 0 (log entry 47, DESIGN
CHOICE). -/
def State.drainSlot (s : State) (fn n : Nat) (q : Wq) (c : Cached) : State :=
  let detail := match q.errAt with
    | some (pos, dt) => if pos = c.pos then dt else dtDrained
    | none => dtDrained
  let s := s.modWq fn n fun q => { q with cons := wrapAdd 32 c.pos (min (Descr.slots c.d) (wrapSub 32 q.prod c.pos)), cache := q.cache.filter fun x => x.pos != c.pos }
  s.cqPut fn q.cq { status := stAborted, kind := b2n q.recv, wq := n, userCtx := c.d.userCtx, postIdx := c.pos % 65536, detail := detail, res := false }

/-- A drain goes on: once no operation is left, covered slots are fetched and completed (R160); the first argument bounds the
slots. -/
def State.drainStep (s : State) (fuel fn n : Nat) : State :=
  match fuel with
  | 0 => s
  | k + 1 =>
    match Tbl.get s.wqs (fn, n) with
    | none => s
    | some q =>
      if q.state ≠ .draining || s.wqBusy fn n then s
      else
        match q.cache.find? fun c => c.pos == q.cons with
        | some c => (s.drainSlot fn n q c).drainStep k fn n
        | none =>
          if q.cons = q.prod || q.fetching.isSome || q.fetchWait then s
          else
            let s := s.fetchNext fn n
            match Tbl.get s.wqs (fn, n) with
            | some q => if q.cache.any (fun c => c.pos == q.cons) then s.drainStep k fn n else s
            | none => s

/-- Is a drain over: no operation, no slot and no record left? -/
def State.drained (s : State) (fn n : Nat) : Bool :=
  match Tbl.get s.wqs (fn, n) with
  | none => true
  | some q =>
    q.state == .draining && !s.ops.any (fun e => e.2.fn == fn && e.2.wq == n) && q.cons == q.prod && q.fetching.isNone &&
      (match Tbl.get s.cqs (fn, q.cq) with
      | some cq => !cq.held.any fun c => c.wq == n
      | none => true)

/-- `DESTROY_WQ` and `RESET_WQ` (R160). -/
def State.doDrain (s : State) (fn : Nat) (c : AdminCmd) (destroy : Bool) : State :=
  let n := bitsOf c.p0 0 14
  if !onlyBits c.p0 [(0, 14)] || c.p1 ≠ 0 || c.p2 ≠ 0 || c.p3 ≠ 0 || !AdminCmdNo45 c then s.adminEnd fn c asBadParam
  else if !Tbl.has s.wqs (fn, n) then s.adminEnd fn c asNotFound
  else (((s.adminHold fn c (.drain n)).drainBegin fn n destroy).drainStep 65536 fn n)

/-- A drain has written its last record (R141, R160). -/
def wqDrainComplete (fn n : Nat) (s : State) : State :=
  match Tbl.get s.admin fn, Tbl.get s.wqs (fn, n) with
  | some a, some q =>
    if a.wait ≠ .drain n then s
    else
      let s := s.drainStep 65536 fn n
      if !s.drained fn n then s
      else
        let s := if q.destroy then { s with wqs := Tbl.del s.wqs (fn, n) }
          else s.modWq fn n fun q => { q with state := .active, prod := 0, cons := 0, cache := [], part := [], errAt := none }
        s.adminDone fn a
  | _, _ => s

/-! ## Address spaces and regions (R94, R107 to R109, R129, R130, R164, R165) -/

/-- `CREATE_AS` (R94, R129). -/
def State.doCreateAs (s : State) (fn : Nat) (c : AdminCmd) : State :=
  let n := bitsOf c.p1 0 12
  if c.p0 % 4096 ≠ 0 || !onlyBits c.p1 [(0, 12)] || c.p2 ≠ 0 || c.p3 ≠ 0 || !AdminCmdNo45 c then s.adminEnd fn c asBadParam
  else if Tbl.has s.spaces (fn, n) then s.adminEnd fn c asExists
  else ({ s with spaces := Tbl.set s.spaces (fn, n) { root := c.p0 } } : State).adminEnd fn c asOk n

/-- Reads of a function that carry translated addresses and are not answered. -/
def State.xlatReads (s : State) (fn scope as iova npages : Nat) : List Nat :=
  let hit := s.tcache.filter fun l => l.inScope fn scope as iova npages
  (s.reads.filter fun e => e.2.result.isNone && (match e.2.iova with
    | some io => inScope fn scope as iova npages e.2.fn e.2.as io (max e.2.len 1) || hit.any fun l => l.covers e.2.fn e.2.as io (max e.2.len 1)
    | none => false)).map Prod.fst

/-- Atomics of a function whose word is in scope, or lies in a page whose leaf an invalidation sweeps (R107). -/
def State.xlatAtoms (s : State) (fn scope as iova npages : Nat) : List Nat :=
  let hit := s.tcache.filter fun l => l.inScope fn scope as iova npages
  (s.atomics.filter fun e => inScope fn scope as iova npages e.2.fn e.2.as e.2.iova e.2.width
    || hit.any fun l => l.covers e.2.fn e.2.as e.2.iova e.2.width).map Prod.fst

/-- Caches swept, and the accesses that an invalidation waits for noted (R107, R108). -/
def State.invalidate (s : State) (fn : Nat) (c : AdminCmd) (scope as iova n : Nat) : State :=
  let walks := (s.walks.filter fun e => e.2.fn == fn && (scope == 0 || e.2.as == as)).map Prod.fst
  let first := (s.walks.filter fun e => walks.contains e.1).filterMap fun e => (e.2.waiters.head?.map Prod.fst).filter fun w => w != .prewalk
  let held := (s.grants.filter fun g => g.2.inScope fn scope as iova n).map Prod.fst
  let atoms := s.xlatAtoms fn scope as iova n
  let i : Inval := { cmd := c, reads := s.xlatReads fn scope as iova n, walks := walks, accs := first ++ held, atoms := atoms }
  let s := { s.sweep fn scope as iova n with invals := Tbl.set s.invals fn i }
  (s.tally .xlt 12).adminHold fn c .inval

/-- Are the accesses that an invalidation waits for over (R107, R108)? -/
def State.invalOver (s : State) (i : Inval) : Bool :=
  i.reads.all (fun id => match Tbl.get s.reads id with
    | some r => r.result.isSome
    | none => true) && i.walks.all (fun id => !Tbl.has s.walks id) && i.atoms.all (fun id => !Tbl.has s.atomics id)
    && i.accs.all fun w => !s.walkWaits w && !(s.grants.any fun g => g.1 == w)

/-- An invalidation completes (R107 to R109). -/
def xltInvalComplete (fn : Nat) (s : State) : State :=
  match Tbl.get s.admin fn, Tbl.get s.invals fn with
  | some a, some i => if a.wait = .inval && s.invalOver i then ({ s with invals := Tbl.del s.invals fn } : State).adminDone fn a else s
  | _, _ => s

/-- `XLT_INVAL` (R107, R108). -/
def State.doXltInval (s : State) (fn : Nat) (c : AdminCmd) : State :=
  let scope := bitsOf c.p0 0 2
  let as := bitsOf c.p0 16 12
  if !onlyBits c.p0 [(0, 2), (16, 12)] || !onlyBits c.p2 [(0, 32)] || c.p3 ≠ 0 || !AdminCmdNo45 c || scope = 3 then s.adminEnd fn c asBadParam
  else if scope ≠ 0 && !Tbl.has s.spaces (fn, as) then s.adminEnd fn c asNotFound
  else s.invalidate fn c scope as c.p1 c.p2

/-- Is a queue or a region bound to an address space (R129)? -/
def State.asBound (s : State) (fn as : Nat) : Bool :=
  s.wqs.any (fun e => e.1.1 == fn && e.2.as == as) || s.cqs.any (fun e => e.1.1 == fn && e.2.as == as)
    || s.eqs.any (fun e => e.1.1 == fn && e.2.as == as) || s.regions.any fun e => e.1.1 == fn && e.2.as == as

/-- `DESTROY_AS` (R109, R129). -/
def State.doDestroyAs (s : State) (fn : Nat) (c : AdminCmd) : State :=
  let n := bitsOf c.p1 0 12
  if c.p0 ≠ 0 || !onlyBits c.p1 [(0, 12)] || c.p2 ≠ 0 || c.p3 ≠ 0 || !AdminCmdNo45 c then s.adminEnd fn c asBadParam
  else if !Tbl.has s.spaces (fn, n) then s.adminEnd fn c asNotFound
  else if s.asBound fn n then s.adminEnd fn c asBusy
  else ({ s with spaces := Tbl.del s.spaces (fn, n) } : State).invalidate fn c 1 n 0 0

/-- Bytes of a function's live regions. -/
def State.regBytes (s : State) (fn : Nat) : Nat := s.regions.foldl (fun n e => if e.1.1 = fn then n + e.2.len else n) 0

/-- The free index of a function's region table that has been free longest (R165). -/
def State.freeIndex (s : State) (fn : Nat) : Option Nat :=
  match (List.range 16383).find? fun i => !Tbl.has s.regionGen (fn, i + 1) with
  | some i => some (i + 1)
  | none => (s.freed.find? fun e => e.1 == fn).map Prod.snd

/-- `CREATE_REGION` (R31, R95, R164, R165). -/
def State.doCreateRegion (s : State) (fn : Nat) (c : AdminCmd) : State :=
  let as := bitsOf c.p2 0 12
  let slot := bitsOf c.p2 12 12
  let eq := bitsOf c.p2 24 10
  let eqEn := bitOf c.p2 34
  let rights := bitsOf c.p2 36 4
  if decide (2 ^ 48 ≤ c.p0) || c.p1 = 0 || decide (2 ^ 42 < c.p1) || decide (2 ^ 48 < c.p0 + c.p1) || rights = 0
      || !onlyBits c.p2 [(0, 12), (12, 12), (24, 10), (34, 1), (36, 4)] || c.p3 ≠ 0 || !AdminCmdNo45 c then s.adminEnd fn c asBadParam
  else if !Tbl.has s.spaces (fn, as) || (eqEn && !Tbl.has s.eqs (fn, eq)) then s.adminEnd fn c asNotFound
  else if !s.member slot fn then s.adminEnd fn c asDenied
  else if 2 ^ 42 < s.regBytes fn + c.p1 then s.adminEnd fn c asLimit
  else
    match s.freeIndex fn with
    | none => s.adminEnd fn c asNoResource
    | some i =>
      let g := Tbl.getD s.regionGen (fn, i) 0 % 255 + 1
      let r : Region := { gen := g, base := c.p0, len := c.p1, as := as, slot := slot, eq := eq, eqEn := eqEn, rights := rights }
      ({ s with regions := Tbl.set s.regions (fn, i) r, regionGen := Tbl.set s.regionGen (fn, i) g,
                freed := s.freed.filter fun e => e != (fn, i) } : State).adminEnd fn c asOk (i * 256 + g)

/-- Are there packets that passed the checks of a region and are not yet placed (R130, R174)? -/
def State.regionPlacing (s : State) (fn i : Nat) : Bool :=
  let names (rx : RxPkt) : Bool := epaSel rx.hdr.dstEpa == fn && rx.hdr.key / 256 == i
  s.walkPark.any (fun e => names e.2) || s.wordWait.any (fun e => names e.2) || s.atomics.any fun e => names e.2.rx

/-- A region gone (R130, R165). -/
def State.dropRegion (s : State) (fn i : Nat) : State :=
  { s with regions := Tbl.del s.regions (fn, i), freed := s.freed ++ [(fn, i)] }

/-- `DESTROY_REGION` (R130). -/
def State.doDestroyRegion (s : State) (fn : Nat) (c : AdminCmd) : State :=
  let i := bitsOf c.p0 8 24
  if !onlyBits c.p0 [(0, 32)] || c.p1 ≠ 0 || c.p2 ≠ 0 || c.p3 ≠ 0 || !AdminCmdNo45 c then s.adminEnd fn c asBadParam
  else
    match Tbl.get s.regions (fn, i) with
    | none => s.adminEnd fn c asNotFound
    | some r =>
      if r.gen ≠ c.p0 % 256 || r.closing then s.adminEnd fn c asNotFound
      else if s.regionPlacing fn i then
        ({ s with regions := Tbl.set s.regions (fn, i) { r with closing := true } } : State).adminHold fn c (.region fn i)
      else (s.dropRegion fn i).adminEnd fn c asOk

/-! ## Match lists (R247 to R249) -/

/-- `CREATE_LIST` (R247). -/
def State.doCreateList (s : State) (fn : Nat) (c : AdminCmd) : State :=
  let n := bitsOf c.p0 0 12
  let slot := bitsOf c.p1 0 12
  let eq := bitsOf c.p1 12 10
  let eqEn := bitOf c.p1 22
  if !onlyBits c.p0 [(0, 12)] || !onlyBits c.p1 [(0, 12), (12, 10), (22, 1)] || c.p2 ≠ 0 || c.p3 ≠ 0 || !AdminCmdNo45 c then s.adminEnd fn c asBadParam
  else if Tbl.has s.lists (fn, n) then s.adminEnd fn c asExists
  else if eqEn && !Tbl.has s.eqs (fn, eq) then s.adminEnd fn c asNotFound
  else if !s.member slot fn then s.adminEnd fn c asDenied
  else ({ s with lists := Tbl.set s.lists (fn, n) { slot := slot, eq := eq, eqEn := eqEn } } : State).adminEnd fn c asOk n

/-- The unexpected headers of a list discarded: blocks freed, overflow buffers released, and `f` told of each rendezvous header
(R249). -/
def State.dropUnexp (s : State) (fn list : Nat) (f : State → Unexp → State) : State :=
  let mine := s.unexp.filter fun u => u.fn == fn && u.list == list
  let s := { s with unexp := s.unexp.filter fun u => !(u.fn == fn && u.list == list),
                    recs := Tbl.keep s.recs fun _ r => !(r.fn == fn && r.list == list && r.op.isNone) }
  mine.foldl (fun s u =>
    let s := s.releaseOvf fn list u.src u.ovf
    if u.rdv then f s u else s) s

/-- Are cancel pulls of a list not settled (R249)? -/
def State.listCancels (s : State) (fn list : Nat) : Bool :=
  s.inflight.any (fun e => e.2.owner.cancels fn list) || s.resps.any fun r => match r with
    | .pkt _ _ o _ _ _ => o.cancels fn list
    | _ => false

/-- `DESTROY_LIST` (R247, R249). -/
def State.doDestroyList (s : State) (fn : Nat) (c : AdminCmd) : State :=
  let n := bitsOf c.p0 0 12
  if !onlyBits c.p0 [(0, 12)] || c.p1 ≠ 0 || c.p2 ≠ 0 || c.p3 ≠ 0 || !AdminCmdNo45 c then s.adminEnd fn c asBadParam
  else
    match Tbl.get s.lists (fn, n) with
    | none => s.adminEnd fn c asNotFound
    | some l =>
      if s.wqs.any fun e => e.1.1 == fn && e.2.recv && e.2.list == n then s.adminEnd fn c asBusy
      else
        let s := { s with lists := Tbl.set s.lists (fn, n) { l with closing := true } }
        let s := s.dropUnexp fn n fun s u => s.cancelPull u fn n
        if s.listCancels fn n then s.adminHold fn c (.list n)
        else ({ s with lists := Tbl.del s.lists (fn, n) } : State).adminEnd fn c asOk

/-! ## Compatibility queue pairs (R236 to R241) -/

/-- An LQP enters `ERROR`: the operation that caused it ends with its own status, every other one is flushed, and packets parked
for its context are refused (R237, R238, R240). -/
def State.lqpEnterError (s : State) (n : Nat) (cause : Option Nat := none) : State :=
  match Tbl.get s.lqps n with
  | none => s
  | some q =>
    if q.error then s
    else
      let s := s.modLqp n fun q => { q with error := true }
      let send := (s.ops.filter fun e => e.2.fn == q.fn && e.2.wq == q.sendWq && e.2.ended.isNone).map Prod.fst
      let s := send.foldl (fun s id =>
        let o := Tbl.get s.ops id
        let (st, dt) := if cause = some id then (o.bind Op.fail).getD (stFlushed, dtLqpFlush) else (stFlushed, dtLqpFlush)
        s.endOp id st dt ((o.map Op.bytes).getD 0) 0) s
      let recvs := (s.ops.filter fun e => e.2.fn == q.fn && e.2.wq == q.recvWq && e.2.recv && e.2.ended.isNone).map Prod.fst
      let s := recvs.foldl (fun s id => (({ s with posted := s.posted.filter fun p => p.op != id } : State)).failRecv id stFlushed dtLqpFlush) s
      s.unpark { loc := s.epa q.fn, rem := q.rem, tc := q.tc, lqp := n + 1 }

/-- Operations of a queue outstanding. -/
def State.outstandingOps (s : State) (fn n : Nat) : Nat := Tbl.count s.ops fun _ o => o.fn == fn && o.wq == n

/-- `CREATE_LQP` (R236). -/
def State.doCreateLqp (s : State) (fn : Nat) (c : AdminCmd) : State :=
  let n := bitsOf c.p1 0 18
  let as := bitsOf c.p1 20 12
  let rem := bitsOf c.p2 0 21
  let remLqp := bitsOf c.p2 32 18
  let tc := bitsOf c.p2 56 2
  let sw := bitsOf c.p3 0 14
  let rw_ := bitsOf c.p3 16 14
  let sq := Tbl.get s.wqs (fn, sw)
  let rq := Tbl.get s.wqs (fn, rw_)
  let kinds := (sq.any fun q => q.recv || !bitOf q.tcMask tc) || (rq.any fun q => !q.recv)
  let bound := (sq.any fun q => q.lqp != 0) || (rq.any fun q => q.lqp != 0)
  if !onlyBits c.p0 [(8, 40)] || !onlyBits c.p1 [(0, 18), (20, 12)] || !onlyBits c.p2 [(0, 21), (32, 18), (56, 2)]
      || !onlyBits c.p3 [(0, 14), (16, 14), (30, 1)] || c.p5 ≠ 0 || decide (4 ≤ epaSel rem) || kinds then s.adminEnd fn c asBadParam
  else if Tbl.has s.lqps n then s.adminEnd fn c asExists
  else if !Tbl.has s.spaces (fn, as) || sq.isNone || rq.isNone then s.adminEnd fn c asNotFound
  else if s.ops.any fun e => e.2.fn == fn && e.2.wq == sw && e.2.phase == .held then s.adminEnd fn c asNoResource
  else if bound || s.outstandingOps fn sw ≠ 0 || s.outstandingOps fn rw_ ≠ 0 then s.adminEnd fn c asBusy
  else
    let s := s.lqpEvict
    let s := if Tbl.has s.epochs fn then s else { s with epochs := Tbl.set s.epochs fn s.now }
    let q : Lqp := { fn := fn, ctx := c.p0, as := as, rem := rem, remLqp := remLqp, tc := tc, sendWq := sw, recvWq := rw_, recvEn := bitOf c.p3 30 }
    let k : PwKey := { loc := s.epa fn, rem := rem, tc := tc, lqp := n + 1 }
    let w := { s.newSnd with next := bitsOf c.p4 0 32, una := bitsOf c.p4 0 32 }
    let s := { s with lqps := Tbl.set s.lqps n q,
                      pws := Tbl.set s.pws k { snd := some w, rcv := some { expect := bitsOf c.p4 32 32, peerEpoch := 0 }, lastUse := s.now } }
    (((s.modWq fn sw fun q => { q with lqp := n + 1 }).modWq fn rw_ fun q => { q with lqp := n + 1 })).adminEnd fn c asOk n

/-- Has an LQP packets in flight or waiting to be sent? -/
def State.lqpFlying (s : State) (n : Nat) : Bool := s.inflight.any fun e => e.1.1.lqp == n + 1

/-- An LQP unbound and gone (R241). -/
def State.dropLqp (s : State) (n : Nat) : State :=
  { s with lqps := Tbl.del s.lqps n, closedMsgs := s.closedMsgs.filter (fun e => e.1.lqp != n + 1), pws := Tbl.keep s.pws fun k _ => k.lqp != n + 1, inflight := Tbl.keep s.inflight fun k _ => k.1.lqp != n + 1,
           wqs := Tbl.mapVals s.wqs fun _ q => if q.lqp = n + 1 then { q with lqp := 0 } else q,
           resps := s.resps.filter fun r => match r with
             | .pkt k _ _ _ _ _ => k.lqp != n + 1
             | _ => true }

/-- `DESTROY_LQP` (R241). -/
def State.doDestroyLqp (s : State) (fn : Nat) (c : AdminCmd) : State :=
  let n := bitsOf c.p0 0 18
  if !onlyBits c.p0 [(0, 18)] || c.p1 ≠ 0 || c.p2 ≠ 0 || c.p3 ≠ 0 || !AdminCmdNo45 c then s.adminEnd fn c asBadParam
  else
    match Tbl.get s.lqps n with
    | none => s.adminEnd fn c asNotFound
    | some q =>
      if q.fn ≠ fn then s.adminEnd fn c asNotFound
      else
        let s := (s.lqpEnterError n).modLqp n fun q => { q with destroying := true }
        if s.lqpFlying n then s.adminHold fn c (.lqp n) else (s.dropLqp n).adminEnd fn c asOk

/-! ## Queries (R129) -/

/-- The code of a completion or event queue's state. -/
def QState.code : QState → Nat
  | .active => 1 | .suspended => 2 | .error => 3

/-- `QUERY` (R129). -/
def State.doQuery (s : State) (fn : Nat) (c : AdminCmd) : State :=
  let kind := bitsOf c.p0 0 4
  let n := bitsOf c.p0 16 14
  if !onlyBits c.p0 [(0, 4), (16, 14)] || c.p1 ≠ 0 || c.p2 ≠ 0 || c.p3 ≠ 0 || !AdminCmdNo45 c || kind = 0 || decide (4 < kind)
      || (kind = 3 && decide (1024 ≤ n)) || (kind = 4 && decide (4096 ≤ n)) then s.adminEnd fn c asBadParam
  else
    let (d0, d1) := match kind with
      | 1 => match Tbl.get s.wqs (fn, n) with
        | some q => (q.state.code + 8 * b2n q.hold + q.prod * 2 ^ 32, q.cons + s.outstandingOps fn n * 2 ^ 32)
        | none => (0, 0)
      | 2 => match Tbl.get s.cqs (fn, n) with
        | some q => (q.state.code + q.written * 2 ^ 32, q.consumer + q.reserved * 2 ^ 32)
        | none => (0, 0)
      | 3 => match Tbl.get s.eqs (fn, n) with
        | some q => (q.state.code + q.written * 2 ^ 32, q.consumer + q.lostAll * 2 ^ 32)
        | none => (0, 0)
      | _ => match Tbl.get s.spaces (fn, n) with
        | some a => (1, a.root)
        | none => (0, 0)
    s.adminEnd fn c asOk 0 d0 d1

/-! ## Waiting commands -/

/-- Regions lost to a storage error go once the packets that had passed their checks are placed (R198). -/
def State.dropClosed (s : State) : State :=
  s.regions.foldl (fun s e =>
    if e.2.closing && !s.regionPlacing e.1.1 e.1.2 && !s.admin.any (fun a => a.2.wait == .region e.1.1 e.1.2) then s.dropRegion e.1.1 e.1.2 else s) s

/-- A waiting admin command of a function looked at: a drain goes on; a region, a list or a queue pair whose last access or
packet is over goes (R130, R160, R241, R249). -/
def State.adminPoll (s : State) (fn : Nat) : State :=
  match Tbl.get s.admin fn with
  | none => s
  | some a =>
    match a.wait with
    | .drain n => s.drainStep 65536 fn n
    | .region f i => if s.regionPlacing f i then s else (s.dropRegion f i).adminDone fn a
    | .list n =>
      if s.listCancels fn n && decide (s.now < a.since + us (s.rd F.PWY_TIMERS_GIVEUP) + us 10) then s
      else ({ s with lists := Tbl.del s.lists (fn, n) } : State).adminDone fn a
    | .lqp n => if s.lqpFlying n then s else (s.dropLqp n).adminDone fn a
    | .inval => s
    | .ticket => s
    | .room => s

/-- Every waiting admin command looked at. -/
def State.pollAdmin (s : State) : State :=
  let s := s.when (s.invals.any fun e => e.2.used != []) fun s => { s with invals := Tbl.mapVals s.invals fun _ i => { i with used := [] } }
  (s.admin.foldl (fun s e => s.adminPoll e.1) s).dropClosed

end Sys2Proof.Machine
end

