-- ==== Sys2Proof/Machine/RegBank.lean ====
section
/-! DEFINITION. Machine/RegBank.lean: the register bank as a whole: which fields a page holds, and what a reset returns to
its reset value (02 R5, R37, R39, R55). -/

namespace Sys2Proof.Machine

/-- The fields of a block's pages, beyond the header and the arbiter window. -/
def blockFields : Block → List Fld
  | .dev => F.fieldsDEV | .fcl => F.fieldsFCL | .crp => F.fieldsCRP | .tim => F.fieldsTIM | .mgt => F.fieldsMGT
  | .sec => F.fieldsSEC | .pmu => F.fieldsPMU | .hif => F.fieldsHIF | .xlt => F.fieldsXLT | .cmd => F.fieldsCMD
  | .txe => F.fieldsTXE | .rxe => F.fieldsRXE | .pwy => F.fieldsPWY | .mtc => F.fieldsMTC | .col => F.fieldsCOL
  | .atm => F.fieldsATM | .tmg => F.fieldsTMG | .rtb => F.fieldsRTB | .xbr => F.fieldsXBR | .lnk => F.fieldsLNK
  | .lan => F.fieldsLAN | .mem => F.fieldsMEM

/-- Every field of a block's pages. -/
def allFields (b : Block) : List Fld := F.fieldsHDR ++ (if b.arb then F.fieldsARB else []) ++ blockFields b

/-- Instance and index at which a field's register lies at a BAR0 offset, if it does. -/
def Fld.locate (f : Fld) (a : Nat) : Option (Nat × Nat) :=
  let base := f.page * 65536 + f.off
  if a < base then none
  else
    let d := a - base
    let i := if f.insts ≤ 1 ∨ f.inst = 0 then 0 else d / f.inst
    let r := d - i * f.inst
    let j := if f.stride = 0 then 0 else r / f.stride
    if i < f.insts ∧ f.first ≤ j ∧ j < f.first + f.count ∧ j * f.stride = r then some (i, j) else none

/-- The field of an entry of the bank, with its block, instance and index. -/
def fieldAt (key : Nat) : Option (Block × Fld × Nat × Nat) :=
  let a := key / 64 * 8
  match pageBlock (a / 65536) with
  | none => none
  | some (b, _) => (allFields b).findSome? fun f =>
    if f.lo = key % 64 then (Fld.locate f a).map fun p => (b, f, p.1, p.2) else none

/-- Fields that pass a test returned to their reset values, with their shadow copies. -/
def State.clearRegs (s : State) (t : Block → Fld → Nat → Nat → Bool) : State :=
  let keep (e : Nat × Nat) : Bool := match fieldAt e.1 with
    | some (b, f, i, j) => !t b f i j
    | none => true
  { s with regs := s.regs.filter keep, sh.vals := s.sh.vals.filter keep }

/-- Is a field in a per-function window? (02 *Per-function windows*) -/
def Fld.windowed (b : Block) (f : Fld) : Bool := b.fnWin && decide (0x8000 ≤ f.off)

/-- What reset H of a function clears: its windows (R55), and the fields of its `HIF` page that list H (R37). -/
def State.clearH (s : State) (fn : Nat) : State :=
  s.clearRegs fun b f i _ => i == fn && (Fld.windowed b f || (b == .hif && f.clr.contains .h))

/-- What reset B of a page clears: fields that list B, its shadow copies and a commit in progress, its counting windows, and the grants and waits
of its arbiter (R39). -/
def State.clearB (s : State) (p : Nat) : State :=
  let s := s.clearRegs fun _ f i j => decide (Fld.addr f i j / 65536 = p) && f.clr.contains .b
  { s with sh.vals := s.sh.vals.filter fun e => e.1 / 64 * 8 / 65536 != p, sh.commits := Tbl.del s.sh.commits p,
           wins := s.wins.filter (fun e => e.1.1 != p), arbs := s.arbs.filter fun e => e.1.1 != p }

/-- What reset W clears: fields that list W, in every page (R5). -/
def State.clearW (s : State) : State := s.clearRegs fun _ f _ _ => f.clr.contains .w

/-- What reset M clears: fields that list M, and the header fields of the `MGT` page that list W, its counting windows among them (R37). -/
def State.clearM (s : State) : State :=
  State.clearRegs { s with wins := s.wins.filter fun e => e.1.1 != Block.mgt.page } fun b f i j => f.clr.contains .m ||
    (b == .mgt && decide (Fld.addr f i j / 65536 = Block.mgt.page) && decide (f.off < 0x100) && f.clr.contains .w)

end Sys2Proof.Machine
end

