-- ==== Sys2Proof/Machine/Arbiter.lean ====
section
/-! DEFINITION. Machine/Arbiter.lean: the common arbiter (12 R395 to R402; 15 R491). -/

namespace Sys2Proof.Machine

/-- The longest wait in progress at the instances of a page, in arbiter cycles (R414). -/
def State.arbWaiting (s : State) (p : Nat) : Nat :=
  s.arbs.foldl (fun n e => if e.1.1 = p then e.2.waits.foldl (fun n w => max n (arbCycles p (s.now - w.2))) n else n) 0

/-- `ARBITRATE`: the requesters of the mask wait; those that are fenced are refused (R396, R400). -/
def arbitrate (p inst mask : Nat) (s : State) : State :=
  let all := (List.range (arbCount p inst)).filter fun r => bitOf mask r
  let fenced := s.rd F.ARB_FENCED_FENCED p
  let s := (all.filter fun r => bitOf fenced r).foldl (fun s r => s.refusedReq p inst r) s
  (s.arbPick p inst (all.filter fun r => !bitOf fenced r)).1

/-- Is a host read of a requester's walk outstanding? (R122) -/
def State.walkersRead (s : State) (r : Nat) : Bool :=
  s.walks.any fun e => e.2.req == r && (match e.2.read with
    | some id => (s.readResult id).isNone
    | none => false)

/-- Has a requester a walker at work? -/
def State.walkersBusy (s : State) (r : Nat) : Bool := s.walks.any fun e => e.2.req == r && e.2.read.isSome

/-- When the walker of a requester last began to compute: its host read ended (R122). -/
def State.walkersSince (s : State) (r : Nat) : Nat :=
  s.walks.foldl (fun n e => match e.2.read with
    | some id => if e.2.req = r then max n (((Tbl.get s.reads id).map HostRead.doneAt).getD 0) else n
    | none => n) 0

/-- The unfinished unit of a holder discarded (R399): the steps of its walks, which fault; the requests of a host read that it has not
issued, which fails; the packet that its junction verifies. Every other unit is one indivisible part of a command, and none is ever left
unfinished (log entry 10). -/
def State.dropUnit (s : State) (p inst r : Nat) : State :=
  match pageBlock p with
  | some (.xlt, _) => (s.walks.filter fun e => e.2.req == r && e.2.read.isSome).foldl (fun s e => s.later (.walkRefused e.1)) s
  | some (.hif, fn) =>
    { s with reads := Tbl.mapVals s.reads fun _ (x : HostRead) =>
        if x.fn == fn && x.unsent != [] && x.use.requester (x.pipe.getD 0) == r then
          { x with unsent := [], bad := true, result := if x.sent = [] then some .failed else x.result, doneAt := s.now }
        else x }
  | some (.sec, _) => if inst = 1 then { s with eject := Tbl.set s.eject r ((Tbl.getD s.eject r []).drop 1) } else s
  | _ => s

/-- The arbiter watchdog trips (R399): nothing where it is off or nobody holds the instance, or while the walker waits for its host read
(R122). -/
def arbWatchdog (p inst : Nat) (s : State) : State :=
  let a := s.arb p inst
  match a.holder with
  | none => s
  | some r =>
    if !s.on F.ARB_CTL_WDOG_EN p || (p == Block.xlt.page && (s.walkersRead r || !s.walkersBusy r)) then s
    else
      let since := if p = Block.xlt.page then max a.since (s.walkersSince r) else a.since
      let s := s.reach (since + arbNs p (max 1024 (s.rd F.ARB_CTL_WDOG_LIMIT p)))
      let s := s.setArb p inst { a with holder := none }
      let s := s.orBits F.ARB_FENCED_FENCED (2 ^ r) p
      let s := (s.wr F.ARB_WDOG_LAST r p).bump F.ARB_WDOG_TRIPS 1 p
      let s := (s.dropUnit p inst r).when (p == Block.xlt.page) State.refuseWalks
      let (s, m) := s.arbMaster p inst r
      s.err p 31 { addr := inst * 64 + r, master := some m }

/-- A write of `ARB_FENCED` (R400). -/
def arbFencedClear (p mask : Nat) (s : State) : State :=
  let v := s.rd F.ARB_FENCED_FENCED p
  s.wr F.ARB_FENCED_FENCED (v - (v &&& mask)) p

end Sys2Proof.Machine
end

