-- ==== Sys2Proof/Machine/HostCfg.lean ====
section
/-! DEFINITION. Machine/HostCfg.lean: the configuration space of a host function and its Advanced Error Reporting (03 R61 to R64, R71, R77). The
table of commands has no row for a configuration access: `BME_CHANGE` carries them (log entry 36). Register layouts inside a capability, the
capability identifiers and the bit numbers of errors are the PCI Express specification's (log entry 36, PRESUMED). -/

namespace Sys2Proof.Machine

/-- A capability: offset, identifier and version (R63). -/
structure Cap where
  off : Nat
  id : Nat
  ver : Nat := 1
deriving DecidableEq, Repr

/-- The capabilities of the first 256 bytes, in the order that links them (R63). -/
def caps : List Cap := [⟨0x040, 0x01, 1⟩, ⟨0x050, 0x11, 1⟩, ⟨0x070, 0x10, 1⟩]

/-- The extended capabilities, in the order that links them (R63). -/
def extCaps : List Cap :=
  [⟨0x100, 0x0001, 2⟩, ⟨0x148, 0x0003, 1⟩, ⟨0x158, 0x0019, 1⟩, ⟨0x188, 0x0025, 1⟩, ⟨0x198, 0x0026, 1⟩, ⟨0x1C8, 0x002A, 1⟩, ⟨0x1F8, 0x0031, 1⟩,
   ⟨0x218, 0x0027, 1⟩, ⟨0x260, 0x002F, 1⟩, ⟨0x270, 0x0032, 1⟩, ⟨0x290, 0x002E, 2⟩, ⟨0x2C0, 0x0030, 1⟩]

/-- The capability at an offset, and the offset of the one that follows it, 0 for none. -/
def capAt (l : List Cap) (off : Nat) : Option (Cap × Nat) :=
  match l.dropWhile fun c => c.off != off with
  | [] => none
  | c :: rest => some (c, (rest.head?.map Cap.off).getD 0)

/-- Log2 of the size of a BAR, by its number (R64). -/
def barLog2 (bar : Nat) : Nat := if bar < 2 then 26 else if bar < 4 then 30 else 36

/-- The type bits of a BAR: 64-bit, and BAR4 prefetchable (R64). -/
def barType (bar : Nat) : Nat := if bar % 2 = 1 then 0 else if bar = 4 then 0xC else 0x4

/-- The bits of a BAR register that hold an address: those above its size (R64). -/
def barMask (bar : Nat) : Nat := ((2 ^ 64 - 2 ^ barLog2 bar) / (if bar % 2 = 0 then 1 else 2 ^ 32)) % 2 ^ 32

/-! ## Errors that AER reports (R72, R77) -/

/-- Bits of the uncorrectable errors. -/
def aeDlProtocol : Nat := 4
def aePoisoned : Nat := 12
def aeFlowControl : Nat := 13
def aeTimeout : Nat := 14
def aeAbort : Nat := 15
def aeUnexpected : Nat := 16
def aeOverflow : Nat := 17
def aeMalformed : Nat := 18
def aeUnsupported : Nat := 20
def aeInternal : Nat := 22
def aeIde : Nat := 29
def aeMisrouted : Nat := 30
def aePcrc : Nat := 31

/-- Bits of the correctable errors. -/
def acReceiver : Nat := 0
def acBadTlp : Nat := 6
def acBadDllp : Nat := 7
def acRollover : Nat := 8
def acReplayTimer : Nat := 12
def acAdvisory : Nat := 13
def acInternal : Nat := 14
def acHeaderOverflow : Nat := 15

/-- Uncorrectable errors that are fatal by default (R77): Data Link Protocol, Flow Control Protocol, Receiver Overflow, Malformed TLP,
Uncorrectable Internal, IDE Check Failed, Misrouted IDE TLP and PCRC Check Failed. -/
def aerFatal : Nat := 2 ^ 4 + 2 ^ 13 + 2 ^ 17 + 2 ^ 18 + 2 ^ 22 + 2 ^ 29 + 2 ^ 30 + 2 ^ 31

/-- Offsets of the AER registers: status, mask and severity of uncorrectable errors, status and mask of correctable ones, the First Error
Pointer, and the header log. -/
def aerUStat : Nat := 0x104
def aerUMask : Nat := 0x108
def aerUSev : Nat := 0x10C
def aerCStat : Nat := 0x110
def aerCMask : Nat := 0x114
def aerCap : Nat := 0x118
def aerLog : Nat := 0x11C

/-- Reset values of the configuration registers that a host writes (log entry 36, PRESUMED for the masks). -/
def cfgReset (off : Nat) : Nat :=
  if off = aerUMask then 2 ^ aeInternal
  else if off = aerUSev then aerFatal
  else if off = aerCMask then 2 ^ 13 + 2 ^ acInternal + 2 ^ acHeaderOverflow
  else 0

/-- A stored configuration register of a function. -/
def State.cfg (s : State) (fn off : Nat) : Nat := Tbl.getD (s.hf fn).cfg off (cfgReset off)

/-- A stored configuration register of a function set. -/
def State.setCfg (s : State) (fn off v : Nat) : State := s.modHf fn fun h => { h with cfg := Tbl.set h.cfg off v }

/-- An error message to the root complex, where the function may send it: 0 correctable, 1 non-fatal, 2 fatal (R77). -/
def State.errMsg (s : State) (fn sev : Nat) : State := if bitOf (s.cfg fn 0x78) sev then s.emit (.errMsg fn sev) else s

/-- A correctable error of a function recorded in AER (R77). -/
def State.aerCor (s : State) (fn bit : Nat) : State :=
  let s := s.setCfg fn aerCStat (setBit (s.cfg fn aerCStat) bit)
  if bitOf (s.cfg fn aerCMask) bit then s else s.errMsg fn 0

/-- An uncorrectable error of a function recorded in AER: the first one that is not masked sets the First Error Pointer and the single
header log, and a later one overflows the log (R72, R77). `hdr` names the packet: the read it completes. -/
def State.aerUnc (s : State) (fn bit hdr : Nat) : State :=
  let first := s.cfg fn aerCap % 32
  let busy := bitOf (s.cfg fn aerUStat) first && !bitOf (s.cfg fn aerUMask) first
  let s := s.setCfg fn aerUStat (setBit (s.cfg fn aerUStat) bit)
  if bitOf (s.cfg fn aerUMask) bit then s
  else
    let s := if busy then s.aerCor fn acHeaderOverflow else (s.setCfg fn aerCap bit).setCfg fn aerLog hdr
    s.errMsg fn (if bitOf (s.cfg fn aerUSev) bit then 2 else 1)

/-- An unexpected completion: a fatal error where the host has made it one, else an advisory error, which is reported as a correctable one
(R77; log entry 36). -/
def State.aerUnexpected (s : State) (fn hdr : Nat) : State :=
  if bitOf (s.cfg fn aerUSev) aeUnexpected then s.aerUnc fn aeUnexpected hdr
  else
    let first := s.cfg fn aerCap % 32
    let busy := bitOf (s.cfg fn aerUStat) first && !bitOf (s.cfg fn aerUMask) first
    let s := s.setCfg fn aerUStat (setBit (s.cfg fn aerUStat) aeUnexpected)
    let s := if bitOf (s.cfg fn aerCMask) acAdvisory || bitOf (s.cfg fn aerUMask) aeUnexpected then s
      else if busy then s.aerCor fn acHeaderOverflow
      else (s.setCfg fn aerCap aeUnexpected).setCfg fn aerLog hdr
    s.aerCor fn acAdvisory

/-! ## Reads and writes of configuration space -/

/-- Code of a size of 128 bytes and up in Device Control. -/
def sizeCode (n : Nat) : Nat := Nat.log2 (n / 128)

/-- Controls of the link stream and of the selective stream (R81). -/
def ideLinkCtl : Nat := 0x2CC
def ideSelCtl : Nat := 0x2D8

/-- IDE registers that hold what the host writes: the two controls, and the association of requesters and of addresses (R63, R81). -/
def ideStored (off : Nat) : Bool := off == ideLinkCtl || off == ideSelCtl || (decide (0x2E0 ≤ off) && decide (off ≤ 0x2F0))

/-- Status of a stream: Secure or Insecure (R81). -/
def State.ideStreamState (s : State) (fn stream : Nat) : Nat :=
  if s.rd F.HIF_IDE_STAT_STREAM fn = stream && s.on F.HIF_IDE_STAT_SECURE fn then 2 else 0

/-- A write of a stream's control: its enable, the PCRC enable, the traffic class and the stream identifier; one stream is not enabled while the
other is (R81). -/
def State.ideCtlWrite (s : State) (fn off v : Nat) : State :=
  let other := if off = ideLinkCtl then ideSelCtl else ideLinkCtl
  let v := v &&& (2 ^ 0 + 2 ^ 8 + 7 * 2 ^ 19 + 255 * 2 ^ 24)
  s.setCfg fn off (if bitOf (s.cfg fn other) 0 then clearBit v 0 else v)

/-- A double word of a function's configuration space (R62 to R64); a register that the specification does not describe reads as a free
value. -/
def State.cfgRead (s : State) (fn off : Nat) (subsys : Nat) : Nat :=
  let h := s.hf fn
  match capAt caps off with
  | some (c, next) =>
    c.id + next * 2 ^ 8 + (if off = 0x040 then 3 else if off = 0x050 then 2047 + 2 ^ 14 * b2n h.msixFmask + 2 ^ 15 * b2n h.msixEnable else 2) * 2 ^ 16
  | none =>
    match capAt extCaps off with
    | some (c, next) => c.id + c.ver * 2 ^ 16 + next * 2 ^ 20
    | none =>
      if off = 0x000 then 0x1E2D + 0x7128 * 2 ^ 16
      else if off = 0x004 then 4 * b2n (s.on F.HIF_FN_STAT_BME fn) + 2 ^ 20
      else if off = 0x00C ∨ off = 0x030 ∨ off = 0x084 ∨ off = 0x088 ∨ off = 0x0A4 ∨ off = 0x0A8 then 0
      else if off = 0x008 then s.fuses.stepping % 256 + 0x028000 * 2 ^ 8
      else if 0x010 ≤ off ∧ off < 0x028 then s.cfg fn off + barType ((off - 0x010) / 4)
      else if off = 0x02C then 0x1E2D + subsys * 2 ^ 16
      else if off = 0x034 then 0x040
      else if off = 0x03C then 0
      else if off = 0x044 then s.rd F.HIF_FN_STAT_DSTATE fn + 8
      else if off = 0x054 then 0x3FFF0000 + 2
      else if off = 0x058 then 0x3FFF8000 + 2
      else if off = 0x074 then sizeCode 512 + 2 ^ 5 + 2 ^ 15 + 2 ^ 28 + (Config.cfgRegister fn off &&& 0xFC0)
      else if off = 0x07C then 6 + 16 * 2 ^ 4 + 2 * 2 ^ 10 + (Config.cfgRegister fn off &&& 0xFFFFF000)
      else if off = 0x078 then s.cfg fn off + sizeCode h.mps * 2 ^ 5 + sizeCode h.mrrs * 2 ^ 12
      else if off = 0x098 ∨ (aerUStat ≤ off ∧ off ≤ aerLog) ∨ ideStored off then s.cfg fn off
      else if off = 0x2C4 then 2 ^ 0 + 2 ^ 1 + 2 ^ 5 + 2 ^ 6
      else if off = 0x2C8 then 0
      else if off = 0x2D0 then s.ideStreamState fn 1
      else if off = 0x2D4 then 1
      else if off = 0x2DC then s.ideStreamState fn 2
      else if off = 0x14C then s.fuses.serial % 2 ^ 32
      else if off = 0x150 then s.fuses.serial / 2 ^ 32 % 2 ^ 32
      else Config.cfgRegister fn off

/-- A write of a double word of a function's configuration space: the BARs, the error reporting enables of Device Control, the Completion
Timeout of Device Control 2, AER, and the controls and associations of the IDE streams (R64, R71, R77, R81). Nothing else that it holds is written so. -/
def State.cfgWrite (s : State) (fn off v : Nat) : State :=
  let v := v % 2 ^ 32
  if 0x010 ≤ off ∧ off < 0x028 then s.setCfg fn off (v &&& barMask ((off - 0x010) / 4))
  else if off = 0x078 then s.setCfg fn off (v % 16)
  else if off = 0x098 then s.setCfg fn off (v % 32)
  else if off = aerUStat ∨ off = aerCStat then s.setCfg fn off (s.cfg fn off &&& (2 ^ 32 - 1 - v))
  else if off = aerUMask ∨ off = aerUSev ∨ off = aerCMask then s.setCfg fn off v
  else if off = ideLinkCtl ∨ off = ideSelCtl then s.ideCtlWrite fn off v
  else if ideStored off then s.setCfg fn off v
  else s

/-- The shortest completion timeout of a value of Device Control 2: ranges A to D, in nanoseconds; Completion Timeout Disable has no
effect (R71). -/
def cplTimeoutMin (v : Nat) : Nat :=
  match v % 16 with
  | 0x2 => ms 1 | 0x5 => ms 16 | 0x6 => ms 65 | 0x9 => ms 260 | 0xA => ms 1000 | 0xD => ms 4000 | 0xE => ms 17000
  | _ => us 50

/-- The data object types that the mailbox carries (R85). -/
def doeTypes (recovering : Bool) : List (Nat × Nat) :=
  if recovering then [(0x0001, 0x00), (0x1E2D, 0x02)] else [(0x0001, 0x00), (0x0001, 0x01), (0x0001, 0x02), (0x1E2D, 0x01), (0x1E2D, 0x02)]

end Sys2Proof.Machine
end

