-- ==== Sys2Proof/Machine/Host.lean ====
section
/-! DEFINITION. Machine/Host.lean: the slots of the host ports, their links, and reset H (03 R61 to R92). -/

namespace Sys2Proof.Machine

/-! ## Slots (R86, R87) -/

/-- Slot states (R87). -/
def slEmpty : Nat := 0
def slOff : Nat := 1
def slPowering : Nat := 2
def slAttached : Nat := 3
def slQuiescing : Nat := 4
def slDetaching : Nat := 5
def slFault : Nat := 6

/-- State of a slot. -/
def State.slot (s : State) (fn : Nat) : Nat := s.rd F.HIF_SLOT_STAT_STATE fn

/-- Is the sled powered: `POWERING`, `ATTACHED` or `QUIESCING`? -/
def State.powered (s : State) (fn : Nat) : Bool := decide (2 ≤ s.slot fn) && decide (s.slot fn ≤ 4)

/-- `HPn_PWR_IND` (R87, R596). -/
def State.pwrInd (s : State) (fn : Nat) : Ind :=
  if let some l := (s.hf fn).inds then l.1
  else if s.rd F.HIF_SLOT_CTL_ATTN_MODE fn = 0 then .off
  else if s.slot fn = slAttached then .on
  else if s.slot fn = slPowering ∨ s.slot fn = slQuiescing ∨ s.slot fn = slDetaching then .blink else .off

/-- `HPn_ATTN_IND` (R87, R596). -/
def State.attnInd (s : State) (fn : Nat) : Ind :=
  match (s.hf fn).inds, s.rd F.HIF_SLOT_CTL_ATTN_MODE fn with
  | some l, _ => l.2
  | none, 1 => .on
  | none, 2 => .blink
  | none, 3 => if s.slot fn = slFault then .on else .off
  | none, _ => .off

/-- The 64 bits of `HIF_SLOT_STAT`. -/
def State.slotStat (s : State) (fn : Nat) : Nat :=
  let h := s.hf fn
  let b (f : Fld) : Nat := s.rd f fn * 2 ^ f.lo
  b F.HIF_SLOT_STAT_STATE + b2n h.present * 2 ^ 8 + b2n h.pwrFlt * 2 ^ 9 + b F.HIF_SLOT_STAT_PWR_EN + b2n h.perst * 2 ^ 11
    + b F.HIF_SLOT_STAT_INSERTED + b F.HIF_SLOT_STAT_REMOVED_SURPRISE + b F.HIF_SLOT_STAT_REMOVED_ORDERLY
    + b F.HIF_SLOT_STAT_BUTTON + b F.HIF_SLOT_STAT_POWER_FAULT + b F.HIF_SLOT_STAT_QUIESCE_TIMEOUT

/-- A slot enters a state; `HPn_PWR_EN` follows (R87). -/
def State.setSlot (s : State) (fn st : Nat) : State :=
  let s := s.wr F.HIF_SLOT_STAT_STATE st fn
  let en := s.powered fn
  let s := if s.on F.HIF_SLOT_STAT_PWR_EN fn == en then s
    else (s.wr F.HIF_SLOT_STAT_PWR_EN (b2n en) fn).emit (.pin (.pwrEn fn) en)
  if st = slAttached then s.modHf fn fun h => { h with lastWrite := none } else s

/-- A slot event: its bit set, and the event forwarded to the fabric manager (R87, R559); it wakes a parked device (R571). -/
def State.slotEvent (s : State) (f : Fld) (fn : Nat) : State :=
  let s := (s.wr f 1 fn).queueEvent { cls := 3, code := 0, body := leBytes 1 fn ++ leBytes 8 ((s.wr f 1 fn).slotStat fn) }
  if s.rd F.CRP_PWR_STAT_STATE = 2 then s.later (.wake 8) else s

/-- The fabric-manager role passes to a holder, 7 for none (R56, R57). Nothing else changes: what the holder committed stays in force (R58). -/
def State.setRole (s : State) (holder cause : Nat) : State :=
  ((s.wr F.DEV_FM_ROLE_HOLDER holder).roll F.DEV_FM_ROLE_GEN).wr F.DEV_FM_ROLE_LAST_CAUSE cause

/-- The holder writes `DEV_FM_CTL.RELEASE` (R57). -/
def fmRoleRelease (m : Nat) (s : State) : State :=
  if s.rd F.DEV_FM_ROLE_HOLDER = m then s.setRole 7 2 else s.refuse m 0 (F.DEV_FM_CTL_RELEASE.addr 0 0) true

/-! ## Reset H (R89, R90) -/

/-- Halted for want of a Secure stream (R84), looked at again; held traffic goes on when it ends. -/
def State.ideCheck (s : State) (fn : Nat) : State :=
  let halt := s.on F.HIF_IDE_CTL_REQUIRE fn && !s.on F.HIF_IDE_STAT_SECURE fn
  let s := (s.wr F.HIF_IDE_STAT_HALTED (b2n halt) fn).wr F.HIF_FN_STAT_IDE_HALT (b2n halt) fn
  if halt then s else (s.release fn).issueReads fn

/-- The local endpoint of a pathway is an endpoint of this device's function. -/
def State.fnKey (s : State) (fn : Nat) (k : PwKey) : Bool := k.loc == s.epa fn

/-- Everything in progress for a function dropped, but for its operations (R89). -/
def State.dropFnWork (s : State) (fn : Nat) : State :=
  let mine := s.fnKey fn
  let opFn (id : Nat) : Bool := match Tbl.get s.ops id with
    | some o => o.fn == fn
    | none => false
  { s with
    reads := Tbl.keep s.reads fun _ r => r.fn != fn
    walks := Tbl.keep s.walks fun _ w => w.fn != fn
    grants := s.grants.filter fun g => g.2.fn != fn
    invals := Tbl.del s.invals fn
    admin := Tbl.del s.admin fn
    pws := Tbl.keep s.pws fun k _ => !mine k || k.lqp != 0
    inflight := Tbl.keep s.inflight fun k _ => !mine k.1
    parked := s.parked.filter fun r => !mine (s.parkedKey r)
    walkPark := s.walkPark.filter fun e => !mine e.1
    wordWait := s.wordWait.filter fun e => !mine e.1
    gets := Tbl.keep s.gets fun _ g => !mine g.key
    resps := s.resps.filter fun r => match r with
      | .serve id => !((Tbl.get s.gets id).any fun g => mine g.key)
      | .pkt k _ _ _ _ _ => !mine k
    flushes := Tbl.del s.flushes fn
    ovfWait := s.ovfWait.filter fun e => e.1 != fn
    atomics := Tbl.keep s.atomics fun _ j => j.fn != fn
    copies := Tbl.keep s.copies fun _ c => !opFn c.op
    cvWrites := s.cvWrites.filter fun w => w.fn != fn }

/-- Is an operation in flight: begun or sent, or a receive bound to a message whose data is on its way? -/
def Op.inFlight (o : Op) : Bool := o.phase == .begun || o.phase == .sent || (o.recv && o.msg.isSome)

/-- Covered slots of a work queue that no operation holds end as `ABORTED` (R89). A descriptor that is not in the cache is not read:
its record carries its position and a `USER_CTX` of 0, one record a slot (log entry 34, DESIGN CHOICE). The first argument bounds the slots. -/
def State.resetSlots (s : State) (fuel fn n : Nat) : State :=
  match fuel with
  | 0 => s
  | k + 1 =>
    match Tbl.get s.wqs (fn, n) with
    | none => s
    | some q =>
      if q.cons = q.prod then s
      else
        let c := (q.cache.find? fun c => c.pos == q.cons).getD { pos := q.cons, d := {} }
        (s.drainSlot fn n { q with errAt := some (q.cons, dtReset) } c).resetSlots k fn n

/-- The operations of a function end: those in flight without a completion, the others as `ABORTED` where their records can be
written (R89). -/
def State.dropFnOps (s : State) (fn : Nat) : State :=
  let s := { s with ops := Tbl.keep s.ops fun _ o => !(o.fn == fn && o.ended.isNone && o.inFlight) }
  let s := { s with posted := s.posted.filter fun p => p.fn != fn, recs := Tbl.keep s.recs fun _ r => r.fn != fn }
  let mine := s.ops.filter fun e => e.2.fn == fn
  if s.linkUp fn && s.on F.HIF_FN_STAT_BME fn then
    let s := mine.foldl (fun s e => if e.2.ended.isSome then s else s.finish e.1 stAborted dtReset 0 0) s
    s.wqs.foldl (fun s e => if e.1.1 = fn then s.resetSlots (wrapSub 32 e.2.prod e.2.cons) fn e.1.2 else s) s
  else { s with ops := Tbl.keep s.ops fun _ o => o.fn != fn }

/-- Reset H of a function begins: its endpoint shows closed from here on (R89). -/
def State.beginResetH (s : State) (fn : Nat) : State :=
  let s := (s.modHf fn fun h => { h with resetH := true, resetWait := false }).wr F.HIF_FN_STAT_EP_HOLD 1 fn
  let s := s.when (s.busGone fn) fun s => s.modHf fn fun h => { h with held := [] }
  (s.dropFnWork fn).dropFnOps fn

/-- Reset H of a function is triggered: absorbed by one in progress; in a low-power state it waits for the wake (R89). -/
def State.startResetH (s : State) (fn : Nat) : State :=
  let h := s.hf fn
  if h.resetH || h.resetWait then s
  else if s.rd F.CRP_PWR_STAT_STATE ≠ 0 then (s.modHf fn fun h => { h with resetWait := true }).later (.wake 7)
  else s.beginResetH fn

/-- A slot moves to `DETACHING`: 1 orderly, 2 surprise, 3 power fault (R87). -/
def State.detach (s : State) (fn kind : Nat) : State :=
  let s := s.modHf fn fun h => { h with detach := kind, gone := false, buttonAt := none, quiesceAt := none }
  (s.setSlot fn slDetaching).startResetH fn

/-- A power fault while powered (R87). -/
def State.slotFault (s : State) (fn : Nat) : State :=
  ((s.slotEvent F.HIF_SLOT_STAT_POWER_FAULT fn).berr .hif 2 {} fn).detach fn 3

/-- A slot is powered; a fault that stands acts at once. -/
def State.slotPower (s : State) (fn : Nat) : State :=
  let s := s.setSlot fn slPowering
  if (s.hf fn).pwrFlt then s.slotFault fn else s

/-- A sled is found in an empty slot (R87). -/
def State.slotInsert (s : State) (fn : Nat) : State :=
  let s := (s.setSlot fn slOff).slotEvent F.HIF_SLOT_STAT_INSERTED fn
  if s.on F.HIF_SLOT_CTL_AUTO_POWER fn then s.slotPower fn else s

/-- The slot after the reset H of a detach (R87). -/
def State.slotDetached (s : State) (fn : Nat) : State :=
  let h := s.hf fn
  if s.slot fn ≠ slDetaching then s
  else
    let s := s.modHf fn fun h => { h with detach := 0, gone := false }
    let s := if h.detach = 1 then
        (s.setSlot fn (if h.gone then slEmpty else slOff)).slotEvent F.HIF_SLOT_STAT_REMOVED_ORDERLY fn
      else if h.detach = 3 then s.setSlot fn (if h.gone then slEmpty else slFault)
      else s.setSlot fn slEmpty
    if s.slot fn = slEmpty && h.present then s.slotInsert fn else s

/-- The objects of a function destroyed, its memberships left, and its windows reset (R89). -/
def State.clearFn (s : State) (fn : Nat) : State :=
  let mine (k : Nat × Nat) : Bool := k.1 == fn
  let freed := (s.regions.filter fun e => mine e.1).map Prod.fst
  let s := { s with
    wqs := Tbl.keep s.wqs fun k _ => !mine k
    cqs := Tbl.keep s.cqs fun k _ => !mine k
    eqs := Tbl.keep s.eqs fun k _ => !mine k
    spaces := Tbl.keep s.spaces fun k _ => !mine k
    regions := Tbl.keep s.regions fun k _ => !mine k
    freed := s.freed ++ freed
    lists := Tbl.keep s.lists fun k _ => !mine k
    unexp := s.unexp.filter fun u => u.fn != fn
    ops := Tbl.keep s.ops fun _ o => o.fn != fn
    lqps := Tbl.keep s.lqps fun _ q => q.fn != fn
    pws := Tbl.keep s.pws fun k _ => !s.fnKey fn k
    parked := s.parked.filter fun r => !s.fnKey fn (s.parkedKey r)
    closedMsgs := s.closedMsgs.filter fun e => !s.fnKey fn e.1
    ovfs := Tbl.del s.ovfs fn
    tcache := s.tcache.filter fun l => l.fn != fn
    wcache := s.wcache.filter fun t => t.fn != fn
    faultMarks := s.faultMarks.filter fun m => m.fn != fn
    epochs := Tbl.del s.epochs fn }
  let s := ((s.semLose fn).abandonLocks fn none).cvLost fn
  let s := { s with slots := Tbl.mapVals s.slots fun _ (t : TenSlot) => { t with members := clearBit t.members fn } }
  s.when (s.rd F.DEV_FM_ROLE_HOLDER == fn) fun s => s.setRole 7 4

/-- The function's registers and configuration at their reset values (R55, R69, R76, R83). `HIF_LINK_STAT` is among them (R5), though the link
itself stays up where it was (R88; log entry 11). -/
def State.clearConfig (s : State) (fn : Nat) : State :=
  let s := s.clearH fn
  let s := { s with lfsr := Tbl.del s.lfsr fn }
  let s := s.modHf fn fun h => { h with resetH := false, mps := 128, mrrs := 512, msixEnable := false, msixFmask := false, msix := [], pba := [],
                                        held := [], cfg := h.cfg.filter (fun e => aerUStat ≤ e.1 && e.1 ≤ aerLog), ideSets := [] }
  s.ideCheck fn

/-- Reset H of a function is complete (R89, R90): the endpoint hold starts, or waits for the end of the fence that keeps the
function absent. -/
def resetHComplete (fn : Nat) (s : State) : State :=
  if !(s.hf fn).resetH then s
  else
    let s := (s.clearFn fn).clearConfig fn
    let s := if (s.hf fn).fencedAway then s.wr F.HIF_FN_STAT_EP_HOLD 1 fn else s.holdEndpoint fn
    s.slotDetached fn

/-- The endpoint hold of a function ends (R90). -/
def endpointHoldEnd (fn : Nat) (s : State) : State :=
  if !s.on F.HIF_FN_STAT_EP_HOLD fn || (s.hf fn).resetH || (s.hf fn).fencedAway then s
  else (s.reach (Tbl.getD s.holds fn 0)).wr F.HIF_FN_STAT_EP_HOLD 0 fn

/-! ## Presence, button, power, commands (R86, R87, R92) -/

/-- Does a host port work: `HIF` enabled, or ROM recovery mode (R557, R596)? -/
def State.hifLive (s : State) (fn : Nat) : Bool := s.on F.BLK_CTL_EN (Block.hif.page + fn) || s.on F.MGT_BOOT_STAT_RECOVERY

/-- Presence is counted: stable for `DEBOUNCE` milliseconds, so no earlier than that after absence was (R86; log entry 48). -/
def presenceCounted (fn : Nat) (s : State) : State :=
  if s.routerOnly || (s.hf fn).present then s
  else
    let s := s.reach ((s.hf fn).pinAt + ms (orWhenZero (s.rd F.HIF_SLOT_TMO_DEBOUNCE fn) 1))
    let s := s.modHf fn fun h => { h with present := true, pinAt := s.now }
    if s.slot fn = slEmpty && s.hifLive fn then s.slotInsert fn else s

/-- A slot set from its pins when `HIF` is enabled after reset C or W (R596). -/
def State.slotFromPins (s : State) (fn : Nat) : State :=
  let s := s.modHf fn fun h => { h with inds := none }
  if s.slot fn ≠ slEmpty || !(s.hf fn).present then s.setSlot fn (s.slot fn)
  else if s.rd F.CRP_RST_STAT_LAST = 0 then s.slotInsert fn
  else if s.on F.HIF_SLOT_STAT_PWR_EN fn then s.slotPower fn
  else s.setSlot fn slOff

/-- Absence is counted: 100 µs after the change, so no earlier than that after presence was (R86; log entry 48). -/
def absenceCounted (fn : Nat) (s : State) : State :=
  if s.routerOnly || !(s.hf fn).present then s
  else
    let s := s.reach ((s.hf fn).pinAt + us 100)
    let s := s.modHf fn fun h => { h with present := false, pinAt := s.now }
    let st := s.slot fn
    if st = slOff ∨ st = slFault then s.setSlot fn slEmpty
    else if st = slDetaching then s.modHf fn fun h => { h with gone := true }
    else if st = slEmpty then s
    else ((s.slotEvent F.HIF_SLOT_STAT_REMOVED_SURPRISE fn).berr .hif 1 {} fn).detach fn 2

/-- The quiesce timeout elapses (R87). -/
def State.quiesceOver (s : State) (fn : Nat) : State :=
  ((s.slotEvent F.HIF_SLOT_STAT_QUIESCE_TIMEOUT fn).berr .hif 10 {} fn).detach fn 1

/-- An orderly removal is requested (R87, R91). Where `QUIESCED` is 1 already, the slot detaches at once (log entry 43, DESIGN CHOICE). -/
def State.quiesce (s : State) (fn : Nat) (button : Option Nat) : State :=
  let s := (s.setSlot fn slQuiescing).slotEvent F.HIF_SLOT_STAT_BUTTON fn
  let s := (s.wr F.HIF_FN_STAT_QUIESCE_REQ 1 fn).asyncEvent fn { type := 7, subtype := 1 }
  let tmo := s.rd F.HIF_SLOT_TMO_QUIESCE fn
  let s := s.modHf fn fun h => { h with buttonAt := button, quiesceAt := some (s.now + ms tmo) }
  if s.on F.HIF_FN_CTL_QUIESCED fn then s.detach fn 1 else if tmo = 0 then s.quiesceOver fn else s

/-- A removal is cancelled (R87). -/
def State.unquiesce (s : State) (fn : Nat) : State :=
  let s := s.modHf fn fun h => { h with buttonAt := none, quiesceAt := none }
  (s.wr F.HIF_FN_STAT_QUIESCE_REQ 0 fn).setSlot fn slAttached

/-- The attention button is pressed: filtered for 20 ms, so no earlier than that after the press before (R86, R87; log entry 48). A press in
`QUIESCING` that is the first, after `REMOVE_REQ`, or comes later than 5 s starts a new window of 5 s (log entry 42, DESIGN CHOICE). -/
def attnButton (fn : Nat) (s : State) : State :=
  let s := match (s.hf fn).pressAt with
    | some t => s.reach (t + ms 20)
    | none => s
  let s := s.modHf fn fun h => { h with pressAt := some s.now }
  if s.routerOnly || !s.on F.HIF_SLOT_CTL_BUTTON_EN fn then s
  else if s.slot fn = slAttached then s.quiesce fn (some s.now)
  else if s.slot fn = slQuiescing then
    match (s.hf fn).buttonAt with
    | some t => if s.now ≤ t + ms 5000 then s.unquiesce fn else s.modHf fn fun h => { h with buttonAt := some s.now }
    | none => s.modHf fn fun h => { h with buttonAt := some s.now }
  else s

/-- `HPn_PWR_FLT_N` goes low (R87). -/
def powerFault (fn : Nat) (s : State) : State :=
  if s.routerOnly then s
  else
    let s := s.modHf fn fun h => { h with pwrFlt := true, fltAt := s.now }
    if s.powered fn then s.slotFault fn else s

/-- `HPn_PWR_FLT_N` has been high for the debounce time (R87). -/
def powerFaultCleared (fn : Nat) (s : State) : State :=
  if s.routerOnly then s
  else
    let s := s.reach ((s.hf fn).fltAt + ms (orWhenZero (s.rd F.HIF_SLOT_TMO_DEBOUNCE fn) 1))
    let s := s.modHf fn fun h => { h with pwrFlt := false }
    if s.slot fn = slFault && (s.hf fn).present then s.setSlot fn slOff else s

/-- A command bit of `HIF_SLOT_CTL`: the state it applies in, and its effect (R53, R92). -/
def slotCommand (m fn st : Nat) (f : State → State) (s : State) : State :=
  if s.mayWrite m && s.slot fn == st then f s else s.refuse m (Block.hif.page + fn) (F.HIF_SLOT_CTL_POWER_ON.addr fn 0) true

def powerOn (m fn : Nat) (s : State) : State := slotCommand m fn slOff (fun s => s.slotPower fn) s
def removeReq (m fn : Nat) (s : State) : State := slotCommand m fn slAttached (fun s => s.quiesce fn none) s
def forceOff (m fn : Nat) (s : State) : State := slotCommand m fn slQuiescing (fun s => s.detach fn 1) s
def cancel (m fn : Nat) (s : State) : State := slotCommand m fn slQuiescing (fun s => s.unquiesce fn) s

/-- `HIF_FN_CTL.QUIESCED` is written (R54, R87). -/
def quiesced (m fn : Nat) (s : State) : State :=
  if !mayWindow m fn then s
  else
    let s := s.wr F.HIF_FN_CTL_QUIESCED 1 fn
    if s.slot fn = slQuiescing then s.detach fn 1 else s

/-- The quiesce timer (R87). -/
def quiesceTimeout (fn : Nat) (s : State) : State :=
  match (s.hf fn).quiesceAt with
  | none => s
  | some t => if s.slot fn = slQuiescing then (s.reach t).quiesceOver fn else s

/-! ## The link (R61, R88) -/

/-- May a link train so: its port, and the limits offered (R61, `HIF_LINK_CTL`)? -/
def State.mayTrain (s : State) (fn rate width : Nat) (flit : Bool) : Bool :=
  let flitEn := s.on F.HIF_LINK_CTL_FLIT_EN fn
  let top := min 6 (s.rd F.HIF_LINK_CTL_MAX_RATE fn)
  !s.routerOnly && s.slot fn == slPowering && !s.linkUp fn && !(s.hf fn).perst && !s.fenced (Block.hif.page + fn)
    && decide (1 ≤ rate) && decide (rate ≤ if flitEn then top else min 5 top) && (rate != 6 || flit) && (!flit || flitEn)
    && [1, 2, 4, 8, 16].contains width && decide (width ≤ s.rd F.HIF_LINK_CTL_MAX_WIDTH fn)

/-- The data link of a port comes up (R61, R87). -/
def hifLinkUp (fn rate width : Nat) (flit : Bool) (s : State) : State :=
  if !s.mayTrain fn rate width flit then s
  else
    let s := ((s.wr F.HIF_LINK_STAT_RATE rate fn).wr F.HIF_LINK_STAT_WIDTH width fn).wr F.HIF_LINK_STAT_FLIT (b2n flit) fn
    ((s.wr F.HIF_LINK_STAT_UP 1 fn).modHf fn fun h => { h with up := true }).setSlot fn slAttached

/-- What a link that goes down leaves of a port (R72, R83). -/
def State.cutHostLink (s : State) (fn : Nat) : State :=
  let s := s.bump F.HIF_LINK_STAT_DOWN_COUNT 1 fn
  let s := [F.HIF_LINK_STAT_RATE, F.HIF_LINK_STAT_WIDTH, F.HIF_LINK_STAT_FLIT, F.HIF_LINK_STAT_UP, F.HIF_IDE_STAT_STREAM,
    F.HIF_IDE_STAT_SECURE, F.HIF_IDE_STAT_KEY_SET, F.HIF_FN_STAT_BME, F.HIF_FN_STAT_DSTATE].foldl (fun s f => s.wr f 0 fn) s
  s.modHf fn fun h => { h with up := false, mps := 128, mrrs := 512, msixEnable := false, msixFmask := false, held := [], ideSets := [] }

/-- The data link of a port goes down (R83, R88). -/
def hifLinkDown (fn : Nat) (s : State) : State :=
  if s.routerOnly || !s.linkUp fn then s
  else
    let st := s.slot fn
    let s := (s.cutHostLink fn).ideCheck fn
    let s := s.when ((st == slAttached || st == slQuiescing) && !(s.hf fn).perst) fun s => s.berr .hif 0 {} fn
    if st = slAttached then (s.setSlot fn slPowering).startResetH fn
    else if st = slQuiescing then s.detach fn 1
    else s

/-- `HPn_PERST_N` changes (R88, R89). -/
def perstAssert (fn : Nat) (low : Bool) (s : State) : State :=
  if s.routerOnly then s
  else
    let s := s.modHf fn fun h => { h with perst := low }
    if low then s.startResetH fn else s

/-- A function-level reset (R62, R88). -/
def flr (fn : Nat) (s : State) : State := if s.routerOnly || !s.linkUp fn then s else s.startResetH fn

/-- The D-state of a function changes (R79, R80, R571). -/
def fnDstateChange (fn : Nat) (d3 : Bool) (s : State) : State :=
  if s.routerOnly || !s.linkUp fn then s
  else
    let s := s.wr F.HIF_FN_STAT_DSTATE (if d3 then 3 else 0) fn
    if d3 then s
    else
      let s := (s.release fn).issueReads fn
      if s.rd F.CRP_PWR_STAT_STATE = 2 then s.later (.wake 6) else s

/-- Sizes that a function takes (R62). -/
def mpsOk (n : Nat) : Bool := n == 128 || n == 256 || n == 512

/-- Read request sizes that a function takes (R62). -/
def mrrsOk (n : Nat) : Bool := mpsOk n || n == 1024 || n == 2048 || n == 4096

/-- Bus Master Enable and the request sizes are programmed (R69, R79). -/
def bmeChange (fn : Nat) (on : Bool) (mps mrrs : Nat) (s : State) : State :=
  if s.routerOnly || !s.linkUp fn then s
  else
    let s := (s.wr F.HIF_FN_STAT_BME (b2n on) fn).modHf fn fun h =>
      { h with mps := if mpsOk mps then mps else h.mps, mrrs := if mrrsOk mrrs then mrrs else h.mrrs }
    if on then (s.release fn).issueReads fn
    else s.when ((s.hf fn).resetH) fun s => s.modHf fn fun h => { h with held := [] }

/-- `HIF_IDE_CTL.REQUIRE` is set (R53, R84). -/
def ideRequire (m fn : Nat) (s : State) : State :=
  if !s.mayWrite m then s.refuse m (Block.hif.page + fn) (F.HIF_IDE_CTL_REQUIRE.addr fn 0) true
  else (s.wr F.HIF_IDE_CTL_REQUIRE 1 fn).ideCheck fn

end Sys2Proof.Machine
end

