-- ==== Sys2Proof/Machine/Tenancy.lean ====
section
/-! DEFINITION. Machine/Tenancy.lean: joining and leaving a tenancy (15 R479, R480). -/

namespace Sys2Proof.Machine

/-- The first 8 bytes of the SHA-384 of an owner key, byte 0 uppermost (R479; `SEC_TOWNER`). -/
def ownerDigest (k : List Byte) : Nat := leNat ((Config.sha384 k).take 8).reverse

/-- The slot that a join names, where it is `ACTIVE` (R479). -/
def State.activeSlot (s : State) (n : Nat) : Option TenSlot :=
  match Tbl.get s.slots n with
  | some t => if t.keyLost then none else some t
  | none => none

/-- Why a ticket is refused (R479): the signature, the format, the subject, the date. -/
def State.ticketRefusal (s : State) (fn : Nat) (t : TenSlot) (b : List Byte) : Option Nat :=
  let w (o n : Nat) : Nat := leNat ((b.drop o).take n)
  if !Config.ecdsaVerify t.owner (b.take 32) ((b.drop 32).take 96) then some 2
  else if w 0 2 ≠ 1 || w 4 1 / 4 ≠ 0 || w 5 3 ≠ 0 || w 24 8 ≠ 0 then some 8
  else if w 2 2 ≠ t.tnum || w 8 8 ≠ s.fuses.serial || w 4 1 % 4 ≠ fn then some 3
  else if w 16 8 < s.now then some 4
  else none

/-- The ticket of a join has been read, or cannot be (R479). -/
def State.joinTicket (s : State) (fn : Nat) (c : AdminCmd) (r : BusResult) : State :=
  let n := bitsOf c.p0 0 12
  match s.activeSlot n, r with
  | none, _ => s.adminEnd fn c asNotFound
  | some _, .failed => s.adminEnd fn c asDenied 7
  | some t, .ok b =>
    match s.ticketRefusal fn t b with
    | some reason => s.adminEnd fn c asDenied reason
    | none => ({ s with slots := Tbl.set s.slots n { t with members := setBit t.members fn } } : State).adminEnd fn c asOk

/-- The ticket of the join that a function executes read, or its read tried again after a walk (R479). -/
def State.readTicket (s : State) (fn : Nat) : State :=
  match Tbl.get s.admin fn with
  | none => s
  | some a =>
    if a.wait ≠ .ticket || s.reads.any (fun e => e.2.use == .ticket fn) then s
    else
      match s.xlat (.ticket fn) fn (bitsOf a.cmd.p2 0 12) a.cmd.p1 128 true false with
      | (s, .wait) => s
      | (s, .fault _ _ _) => (s.dropGrants (.ticket fn)).joinTicket fn a.cmd .failed
      | (s, .ok ps _) => ((s.dropGrants (.ticket fn)).hostReadV fn ps 128 (.ticket fn) (some a.cmd.p1) none (bitsOf a.cmd.p2 0 12)).1

/-- The read of a ticket ended (R72, R479). -/
def State.ticketRead (s : State) (fn : Nat) (r : BusResult) : State :=
  match Tbl.get s.admin fn with
  | some a => if a.wait = .ticket then s.joinTicket fn a.cmd r else s
  | none => s

/-- `JOIN_TENANCY` (R479). -/
def State.doJoin (s : State) (fn : Nat) (c : AdminCmd) : State :=
  let n := bitsOf c.p0 0 12
  if !onlyBits c.p0 [(0, 12)] || !onlyBits c.p2 [(0, 12)] || !AdminCmdNo45 c || c.p1 % 8 ≠ 0 then s.adminEnd fn c asBadParam
  else
    match s.activeSlot n with
    | none => s.adminEnd fn c asNotFound
    | some t =>
      if !Tbl.has s.spaces (fn, bitsOf c.p2 0 12) then s.adminEnd fn c asNotFound
      else if bitOf t.members fn then s.adminEnd fn c asExists
      else if ownerDigest t.owner ≠ c.p3 then s.adminEnd fn c asDenied 1
      else if t.requireIde && (!s.on F.HIF_IDE_CTL_REQUIRE fn || !s.on F.HIF_IDE_STAT_SECURE fn) then s.adminEnd fn c asDenied 5
      else if !s.timeLocked then s.adminEnd fn c asDenied 6
      else (s.adminHold fn c .ticket).readTicket fn

/-- `LEAVE_TENANCY` (R351, R480). -/
def State.doLeave (s : State) (fn : Nat) (c : AdminCmd) : State :=
  let n := bitsOf c.p0 0 12
  if !onlyBits c.p0 [(0, 12)] || c.p1 ≠ 0 || c.p2 ≠ 0 || c.p3 ≠ 0 || !AdminCmdNo45 c then s.adminEnd fn c asBadParam
  else
    match Tbl.get s.slots n with
    | none => s.adminEnd fn c asNotFound
    | some t =>
      if !bitOf t.members fn then s.adminEnd fn c asNotFound
      else
        let s := { s with slots := Tbl.set s.slots n { t with members := clearBit t.members fn } }
        let waiting := s.heldLocks.filterMap fun h => if h.fn = fn && h.slot = n then h.op else none
        let s := s.abandonLocks fn (some n)
        let s := waiting.foldl (fun s id => s.endOp id stTenancy dtTenancyMismatch 0 0) s
        s.adminEnd fn c asOk

end Sys2Proof.Machine
end

