-- ==== Sys2Proof/Machine/HostIo.lean ====
section
/-! DEFINITION. Machine/HostIo.lean: completions of host reads, MSI-X, and accesses to BAR2 and BAR4 (03 R64 to R76). -/

namespace Sys2Proof.Machine

/-! ## Completions of host reads (R70 to R72) -/

/-- The access type and the master of a read (R44, R52). -/
def State.readMaster (s : State) (r : HostRead) : Nat × Nat :=
  let wqOf (id : Nat) : Nat := ((Tbl.get s.ops id).map Op.wq).getD 0
  match r.use with
  | .walk _ => (accWalk, 0x1A)
  | .desc _ _ => (accDesc, 0x18)
  | .admin _ => (accDesc, 0x18)
  | .payload op _ => (accHostRead, 0x10 + wqOf op % 4)
  | .retx k seq => (accHostRead, 0x10 + ((Tbl.get s.inflight (k, seq)).map fun x => s.txPipe x.owner k).getD (PwKey.pipe k))
  | .serve g _ => (accHostRead, 0x10 + ((Tbl.get s.gets g).map fun x => PwKey.pipe x.key).getD 0)
  | .flush fn => (accHostRead, 0x14 + fn % 4)
  | .atomic _ => (accAtomic, 0x1F)
  | .contribution op => (accHostRead, 0x20 + op % 2)
  | .sample _ => (accHostRead, 0x27)
  | .ovf fn _ => (accHostRead, 0x1D + fn % 2)
  | .copy id => (accHostRead, 0x1D + ((Tbl.get s.copies id).map fun c => c.list % 2).getD 0)
  | .lqp _ => (accHostRead, 0x1B)
  | .ticket _ => (accHostRead, 0x18)

/-- A failed request of a read recorded (R44, R72, R93). -/
def State.readError (s : State) (r : HostRead) (idx : Nat) (req : Nat × Nat) (host : Nat) : State :=
  let (acc, m) := s.readMaster r
  s.berr .hif idx { access := acc, addr := (r.iova.map fun a => a + if acc = accDesc then 0 else req.1).getD host, master := some m } r.fn

/-- Is what a read was for still there? -/
def State.readWanted (s : State) (id : Nat) (r : HostRead) : Bool :=
  match r.use with
  | .walk w => (Tbl.get s.walks w).any fun k => k.read == some id
  | .desc fn n => (Tbl.get s.wqs (fn, n)).any fun q => q.fetching == some id
  | .lqp n => (Tbl.get s.lqps n).any fun q => q.fetching == some id
  | .payload _ _ => s.wqs.any fun e => e.2.sends.any fun x => x.read == some id
  | .retx k seq => (Tbl.get s.inflight (k, seq)).any fun f => f.reading == some id
  | .serve g _ => (Tbl.get s.gets g).any fun x => x.reading == some id
  | .copy c => (Tbl.get s.copies c).any fun x => x.reading == some id
  | .contribution op => (Tbl.get s.ops op).any fun o => o.reading == some id
  | .atomic a => Tbl.has s.atomics a
  | _ => true

/-- A read that has ended: one whose end has no row of its own goes on at once; one that nobody waits for is forgotten. -/
def State.settleRead (s : State) (id : Nat) : State :=
  match Tbl.get s.reads id with
  | none => s
  | some r =>
    match r.result with
    | none => s
    | some x =>
      if !s.readWanted id r then (s.takeRead id).1
      else
        match r.use, x with
        | .admin fn, .failed => s.adminReadFailed fn id r.failedAt
        | .ovf fn _, x => (s.takeRead id).1.ovfRead fn r.failedAt x
        | .copy c, x => (s.takeRead id).1.copyRead c r.failedAt x
        | .ticket fn, x => (s.takeRead id).1.ticketRead fn x
        | _, _ => s

/-- A read looked at: its result, once no request is left. -/
def State.closeRead (s : State) (id : Nat) : State :=
  match Tbl.get s.reads id with
  | none => s
  | some r =>
    let s := if r.sent = [] && r.unsent = [] && r.result.isNone then
        let res : BusResult := if r.bad then .failed
          else match assemble r.len r.parts 0 (r.parts.length + 1) with
            | some b => .ok b
            | none => .failed
        ({ s with reads := Tbl.set s.reads id { r with result := some res, doneAt := s.now } } : State).settleRead id
      else s
    (List.range 4).foldl (fun s fn => if fn = r.fn || r.pipe.isSome then s.issueReads fn else s) s

/-- Host address of a request of a read, where the read was never translated. -/
def State.reqHost (s : State) (r : HostRead) (req : Nat × Nat) : Nat :=
  match r.use with
  | .walk w => ((Tbl.get s.walks w).map fun k => k.table + 8 * (k.iova / 2 ^ (12 + 9 * (k.level - 1)) % 512)).getD 0
  | .flush _ => r.host
  | .admin fn =>
    s.rd F.CMD_AQ_BASE_BASE fn * 4096 + 64 * (s.rd F.CMD_AQ_HEAD_HEAD fn % adminSize (s.rd F.CMD_AQ_CTL_LOG2_SIZE fn)) + req.1
  | _ => req.1

/-- A request of a read fails, with a `HIF` error index and the bit of the error in AER: none of the rest is issued (R72). -/
def State.failReq (s : State) (id : Nat) (r : HostRead) (req : Nat × Nat) (idx aer : Nat) : State :=
  let host := s.reqHost r req
  let at_ := if r.bad then r.failedAt else (r.iova.map fun a => a + req.1).getD host
  let r' := { r with sent := r.sent.filter fun p => p != req, unsent := [], bad := true, failedAt := at_ }
  ((({ s with reads := Tbl.set s.reads id r' } : State).readError r idx req host).aerUnc r.fn aer id).closeRead id

/-- A completion of a read request, or a piece of one (R70, R72): read, offset in the read, and bytes. A function that is halted refuses it
(R84); one that answers no request outstanding of the read is unexpected (R77); one that is malformed, fails its IDE check or was corrected by the
link is recorded (R93), and the read goes on waiting. -/
def readCompletion (id off : Nat) (status : CplStatus) (b : List Byte) (s : State) : State :=
  match Tbl.get s.reads id with
  | none => s
  | some r =>
    if s.on F.HIF_IDE_STAT_HALTED r.fn then s
    else
      match r.sent.find? fun p => decide (p.1 ≤ off) && (decide (off < p.1 + p.2) || p.2 == 0) with
      | none => s.aerUnexpected r.fn id
      | some req =>
        match status with
        | .ok =>
          if req.1 + req.2 < off + b.length || (b = [] && req.2 ≠ 0) then s.aerUnexpected r.fn id
          else
            let r := { r with parts := r.parts ++ [(off, b)] }
            let r := if r.answered req then { r with sent := r.sent.filter fun p => p != req } else r
            ({ s with reads := Tbl.set s.reads id r } : State).closeRead id
        | .error => s.failReq id r req 4 aeUnsupported
        | .abort => s.failReq id r req 4 aeAbort
        | .poisoned => s.failReq id r req 5 aePoisoned
        | .malformed => (s.berr .hif 6 { master := some r.fn } r.fn).aerUnc r.fn aeMalformed id
        | .ideCheck => (s.berr .hif 7 { master := some r.fn } r.fn).aerUnc r.fn aeIde id
        | .badTlp => (((s.berr .hif 11 { master := some r.fn } r.fn).tally .hif 12 1 r.fn).tally .hif 13 1 r.fn).aerCor r.fn acBadTlp
        | .link _ _ => s

/-- An error of a port's link (R77, R93): the correctable ones have index 11, a flow-control protocol error index 6, and a misrouted packet or one
that fails its PCRC index 7; the others have no index. -/
def linkError (fn : Nat) (e : LinkError) (s : State) : State :=
  let recorded (i : Nat) : State := s.berr .hif i { master := some fn } fn
  let corrected (bit : Nat) : State := ((recorded 11).tally .hif 12 1 fn).aerCor fn bit
  match e with
  | .receiver => corrected acReceiver
  | .badDllp => corrected acBadDllp
  | .replayRollover => (corrected acRollover).tally .hif 13 1 fn
  | .replayTimeout => (corrected acReplayTimer).tally .hif 13 1 fn
  | .dlProtocol => s.aerUnc fn aeDlProtocol 0
  | .flowControl => (recorded 6).aerUnc fn aeFlowControl 0
  | .overflow => s.aerUnc fn aeOverflow 0
  | .misroutedIde => (recorded 7).aerUnc fn aeMisrouted 0
  | .pcrc => (recorded 7).aerUnc fn aePcrc 0

/-- `HOST_READ_COMPLETION`: a completion, or an error of the link of a port (R70, R72, R77; log entry 51). -/
def hostReadCompletion (id off : Nat) (status : CplStatus) (b : List Byte) (s : State) : State :=
  match status with
  | .link fn e => if 6 ≤ fn || !s.linkUp fn then s else linkError fn e s
  | _ => readCompletion id off status b s

/-- The completion timeout of the oldest request of a read, no earlier than the range that Device Control 2 selects begins (R71, R72). -/
def hostCompletionTimeout (id : Nat) (s : State) : State :=
  match Tbl.get s.reads id with
  | none => s
  | some r =>
    match r.sent with
    | [] => s
    | req :: _ => (s.reach (r.sentAt + cplTimeoutMin (s.cfg r.fn 0x098))).failReq id r req 3 aeTimeout

/-! ## MSI-X (R74 to R76) -/

/-- The host programs MSI-X: an entry of the table, and the enable and function mask; pending messages that may go are sent
once. -/
def msixUnmask (fn vector addr data : Nat) (enable fmask mask : Bool) (s : State) : State :=
  if s.fnAbsent fn then s
  else
    let s := s.modHf fn fun h => { h with
      msixEnable := enable, msixFmask := fmask
      msix := if s.on F.HIF_IDE_STAT_HALTED fn then h.msix else Tbl.set h.msix vector { addr := addr, data := data, masked := mask } }
    let ready := (s.hf fn).pba.filter fun v => enable && !fmask && !(Tbl.getD (s.hf fn).msix v {}).masked
    let s := s.modHf fn fun h => { h with pba := h.pba.filter fun v => !ready.contains v }
    ready.foldl (fun s v => s.msix fn v) s

/-! ## BAR4 and BAR2 (R64 to R67) -/

/-- Does a function answer memory accesses: its link up, not in reset H or kept away, and not halted (R84)? -/
def State.barOpen (s : State) (fn : Nat) : Bool := !s.fnAbsent fn && !s.on F.HIF_IDE_STAT_HALTED fn && !s.halted

/-- Where a BAR4 access falls in on-package memory (R66). -/
def State.bar4 (s : State) (fn off size : Nat) : Option Nat :=
  let at_ := s.rd F.HIF_COMMONS_CTL_BASE fn * 0x4000000 + off
  if s.on F.HIF_COMMONS_CTL_EN fn && decide (off + size ≤ min 1024 (s.rd F.HIF_COMMONS_CTL_SIZE fn) * 0x4000000)
    && decide (at_ + size ≤ s.commonsSize) then some (s.commonsBase + at_) else none

/-- A host access to BAR4 (R66, R67, R511). -/
def bar4Access (fn off size : Nat) (write : Bool) (value : Nat) (s : State) : State :=
  if !s.barOpen fn then s
  else
    let s := s.tally .hif 8 size fn
    let refused : Bool := write && !s.on F.HIF_COMMONS_CTL_WRITE_EN fn
    let out (s : State) : State :=
      let s := s.berr .hif 8 { access := if write then accMemWrite else accMemRead, addr := off + 2 ^ 63, master := some fn } fn
      if write then s else s.emit (.barReply fn 4 off 0)
    if refused then out s
    else
      match s.bar4 fn off size with
      | none => out s
      | some a =>
        if write then s.commonsWrite a (leBytes size value) (.hif fn)
        else if s.memOk (.hif fn) a size then (s.memBursts (.hif fn) a size false).emit (.barReply fn 4 off (s.word a size))
        else s.memDeny (.hif fn) a size

/-- Is a BAR2 offset reserved (R64)? In a queue page, what the table *Queue page* does not list is. -/
def bar2Reserved (off : Nat) : Bool :=
  (decide (0x4000000 ≤ off) && decide (off < 0x3FFF0000)) || (decide (0x3FFF8100 ≤ off) && decide (off < 0x40000000)) ||
    (decide (off < 0x4000000) && (off % 4096 / 8 != 0 && off % 4096 / 8 != 1 && off % 4096 / 8 != 2 && off % 4096 / 8 != 8 && off % 4096 / 8 != 16)
      && (decide (off % 4096 < 0x100) || decide (0x200 ≤ off % 4096)))

/-- What 8 aligned bytes of BAR2 read as: `WQ_CONSUMED` and `WQ_STATE` of a queue page, the MSI-X table and its Pending Bit Array; 0 for
a reserved offset and for the write-only registers (R64, R65, R75). -/
def State.bar2Val (s : State) (fn off : Nat) : Nat :=
  if off < 0x4000000 then
    match Tbl.get s.wqs (fn, off / 4096) with
    | none => 0
    | some q =>
      if off % 4096 / 8 = 1 then q.cons
      else if off % 4096 / 8 = 2 then q.state.code + 8 * b2n q.hold + 65536 * q.detail
      else 0
  else if 0x3FFF0000 ≤ off ∧ off < 0x3FFF8000 then
    let e := Tbl.getD (s.hf fn).msix ((off - 0x3FFF0000) / 16) {}
    if off / 8 % 2 = 0 then e.addr else e.data + 2 ^ 32 * b2n e.masked
  else if 0x3FFF8000 ≤ off ∧ off < 0x3FFF8100 then
    ((s.hf fn).pba.map fun v => if v / 64 = (off - 0x3FFF8000) / 8 then 2 ^ (v % 64) else 0).sum
  else 0

/-- Is a BAR2 access one that has no other command: a read, or a write of a reserved offset? -/
def bar2Plain (off : Nat) (write : Bool) : Bool := decide (off < 0x40000000) && (!write || bar2Reserved off)

/-- A host access to BAR2 that has no other command: a write of a reserved offset is discarded and recorded, and a read is answered (R65). -/
def bar2ReservedAccess (fn off : Nat) (write : Bool) (s : State) : State :=
  if !s.barOpen fn then s
  else if write then (s.tally .hif 7 1 fn).berr .hif 9 { access := accRegWrite, addr := off, master := some fn } fn
  else s.emit (.barReply fn 2 off (s.bar2Val fn off))

end Sys2Proof.Machine
end

