-- ==== Sys2Proof/Machine/Train.lean ====
section
/-! DEFINITION. Machine/Train.lean: the choice of a port's lanes, and its moves between the link states (13 R440, R441, R443; 14 R453 to R456,
R463). -/

namespace Sys2Proof.Machine

/-- A port leaves `UP` (R440, R443): the cause, the grace period, and the convoys that use it. -/
def State.leftUp (s : State) (p cause : Nat) : State :=
  let g := s.rd F.LNK_GRACE_GRACE_US p
  let s := s.wr F.LNK_STAT_LAST_CAUSE cause p
  (s.modPort p fun q => { q with leftAt := s.now, graceEnd := some (s.now + us (min 100000 (orWhenZero g 1))) }).later (.portLeft p)

/-- The rest of a packet that a port was receiving can never arrive: one that has started on its output is completed there, poisoned; any other
is discarded (R425, R426). -/
def State.cutPart (s : State) (p : Nat) (x : RxPart) : State :=
  match (s.port p).buf.find? fun b => b.live.isSome with
  | none =>
    if x.dropped then s
    else (s.giveBack p x.pool x.len).berr .lnk 11 { access := accPktRx, addr := portLocator p + x.vc * 2 ^ 39 } p
  | some b =>
    match b.going with
    | some o => (s.modPort p fun q => { q with buf := q.buf.replace b { b with live := none } }).starve o x.got
    | none => (s.dropBuf p b).berr .lnk 11 (rxErr b.pkt p b.vc) p

/-- On a departure straight to `TRAIN`, `DOWN` or `FENCED` the replay buffer and the packet being sent are discarded, and what is part-received
is completed (R425, R426, R440). -/
def State.cutLink (s : State) (p : Nat) : State :=
  let q := s.port p
  let s := s.modPort p fun q => { q with
    una := 0, next := 0, replayBuf := [], fill := [], fillLen := 0, fillFirst := 0x1FF, fillBad := false, tx := none, txHalf := none,
    part := none, rxHalf := none, skip := false, chgAt := [], due := false, drainIn := false }
  let s := s.wr F.LNK_STAT_RETRAIN_DUE 0 p
  let s := match q.tx.bind fun x => (s.goingPkt p x).map fun b => (x.src, b) with
    | some (src, b) => s.dropBuf src b
    | none => s
  match q.part with
  | some x => s.cutPart p x
  | none => s

/-- An error of a lane (R465, R499). -/
def State.laneErr (s : State) (g l i : Nat) : State := s.berr .lan i { access := accInternal, addr := l, unit := some l } g

/-- Has a candidate had no signal for `SQUELCH_US`? (R455) -/
def State.quiet (s : State) (g l : Nat) : Bool :=
  s.laneState g l == 2 && !s.on F.LAN_LANE_STATl_SIGNAL g l
    && decide ((s.lane (4 * g + l)).quietAt + us (orWhenZero (s.rd F.LAN_TMO_SQUELCH_US g) 1) ≤ s.now)

/-- The runs of port lanes, widest first (R455). -/
def laneRuns : List (List Nat) := [[0, 1, 2, 3], [0, 1], [2, 3], [0], [1], [2], [3]]

/-- The set of lanes that a port would choose now (R455). -/
def State.bestSet (s : State) (p : Nat) : Option (List Nat) :=
  let ls := (s.portLanes p).getD []
  let q := s.port p
  laneRuns.find? fun r => r.all (fun i => decide (i < ls.length) && q.cands.contains i && s.laneState (p / 4) (ls.getD i 0) == 5)
    && (s.on F.LAN_CFG_NARROW_EN (p / 4) || r.length == ls.length)

/-- The choice of a port's set of lanes, when it is due (R455); `late`: `LOCK_TMO_US` has passed. Where no set is acceptable, the next choice
waits for another `LOCK_TMO_US`. -/
def State.decideSet (s : State) (p : Nat) (late : Bool) : State :=
  let q := s.port p
  let g := p / 4
  let ls := (s.portLanes p).getD []
  if s.portState p ≠ 1 || q.chosen || q.cands == [] || (q.again && !late) then s
  else if !late && !(q.cands.all fun i => s.laneState g (ls.getD i 0) == 5 || s.quiet g (ls.getD i 0)) then s
  else
    match s.bestSet p with
    | none => s.modPort p fun q => { q with since := s.now, again := true }
    | some r =>
      let s := s.modPort p fun q => { q with chosen := true, again := false, set := r }
      (List.range ls.length).foldl (fun s i =>
        let l := ls.getD i 0
        if r.contains i || s.laneState g l = 6 then s
        else
          let s := if q.cands.contains i && s.laneState g l != 5 then s.laneErr g l 1 else s
          s.setLane g l 1) (s.showSet p r)

/-- The choice on the entry to `TRAIN`: at once, when every candidate is ready (R455). -/
def State.decideReady (s : State) (p : Nat) : State :=
  if (s.port p).cands.all fun i => s.laneState (p / 4) (((s.portLanes p).getD []).getD i 0) == 5 then s.decideSet p false else s

/-- The taps that `LAN_TX_FFEl` gives a lane (R453). -/
def State.ownTaps (s : State) (g l : Nat) : List Int :=
  [F.LAN_TX_FFEl_PRE2, F.LAN_TX_FFEl_PRE1, F.LAN_TX_FFEl_MAIN, F.LAN_TX_FFEl_POST1].map fun f => tapOf (s.rd f g l)

/-- A lane enters training: its transmitter and its receiver take their presets (R453). -/
def State.preset (s : State) (g l : Nat) : State :=
  s.modLane (4 * g + l) fun k =>
    { k with taps := txTaps (s.rd F.LAN_LANE_CTLl_TX_PRESET g l) (s.ownTaps g l), rxFrom := rxStart (s.rd F.LAN_LANE_CTLl_RX_PRESET g l) }

/-- A port enters `TRAIN` (R387, R440, R454, R455): `cold` from `DOWN` or `FENCED`; lanes that are still ready decide at once. A lane whose
transmitter is off stays squelched, and a fenced one is no candidate. -/
def State.enterTrain (s : State) (p : Nat) (cold : Bool) : State :=
  match s.portLanes p with
  | none => s
  | some ls =>
    let g := p / 4
    let fresh := cold || (s.port p).cold
    let all := (List.range ls.length).filter fun i => !s.laneFenced g (ls.getD i 0)
    let cands := if fresh then all else all.filter fun i => (s.port p).set.contains i
    let s := s.wr F.LNK_STAT_FEC_ACTIVE (s.rd F.LNK_CTL_FEC p) p
    let s := (s.cutLink p).setPort p 1
    let s := s.when (bitOf (s.rd F.XBR_STAT_RSV_PENDING (p / 8)) (p % 8)) fun s =>
      (s.modPort p fun q => { q with rsvNext := some (s.reserved (p / 8)) }).applyRsv p
    let s := (List.range ls.length).foldl (fun s i =>
      let l := ls.getD i 0
      if s.laneState g l = 6 then s
      else if !cands.contains i || s.laneOff g l then s.setLane g l 1
      else if s.laneState g l ≤ 1 then (s.setLane g l 2).preset g l else (s.preset g l).showTx g l) s
    (s.modPort p fun q => { q with
      cold := false, chosen := false, again := false, cands := cands, set := if fresh then cands else q.set }).decideReady p

/-- A port enters `DOWN` or `FENCED`: its lanes are off, or squelched while fenced (R440, R454). -/
def State.enterIdle (s : State) (p st : Nat) : State :=
  let g := p / 4
  let s := (s.cutLink p).setPort p st
  let s := (s.wr F.LNK_STAT_WIDTH 0 p).showSet p []
  let s := ((s.portLanes p).getD []).foldl (fun s l =>
    if s.laneState g l = 6 then s else s.setLane g l (if s.laneFenced g l then 1 else 0)) s
  s.modPort p fun q => { q with cold := true, chosen := false, again := false, rsvNext := none, set := [], cands := [] }

/-- A port that is `UP` or in `DRAIN` leaves straight for `TRAIN`, and in `ALIGN` it goes back to `TRAIN` (R440). `LAST_CAUSE` shows the cause
of a departure from `UP`, and a lost lane of one from `ALIGN` too (R456, R463). -/
def State.loseUp (s : State) (p cause : Nat) : State :=
  match s.portState p with
  | 3 => (s.leftUp p cause).enterTrain p false
  | 2 => (s.when (cause == 2) fun s => s.wr F.LNK_STAT_LAST_CAUSE 2 p).enterTrain p false
  | 4 => s.enterTrain p false
  | _ => s

/-- A port that is `UP` enters `DRAIN`: it starts no packet, the flit being filled goes out unless a packet's bytes are missing in it, and each
null flit from now on carries `DRAIN` (R440). -/
def State.enterDrain (s : State) (p cause : Nat) : State :=
  if s.portState p = 3 then
    let s := ((s.leftUp p cause).setPort p 4).modPort p fun q => { q with drainIn := false, due := false }
    let s := s.when (s.port p).tx.isNone fun s => s.padFlit p
    s.sendNull p [.drain]
  else s

/-- An orderly drain that is over: `TRAIN`, or `DOWN` when the port is disabled (R440). -/
def State.endDrain (s : State) (p : Nat) : State :=
  if s.portState p ≠ 4 then s else if s.on F.LNK_CTL_EN p then s.enterTrain p false else s.enterIdle p 0

/-- A drain ends when the replay buffer is empty, no packet is part-sent and the peer drains too (R440). -/
def State.checkDrain (s : State) (p : Nat) : State :=
  let q := s.port p
  if s.portState p = 4 && q.una == q.next && q.tx.isNone && q.fillLen == 0 && q.drainIn then s.endDrain p else s

/-- A port brought in line with its fences (R440). -/
def State.checkFence (s : State) (p : Nat) : State :=
  if s.portFenced p then
    match s.portState p with
    | 5 => s
    | 3 => (s.leftUp p 7).enterIdle p 5
    | _ => s.enterIdle p 5
  else if s.portState p = 5 then
    let s := s.enterIdle p 0
    if s.on F.LNK_CTL_EN p && s.configured p then s.enterTrain p true else s
  else s

end Sys2Proof.Machine
end

