-- ==== Sys2Proof/Machine/Link.lean ====
section
/-! DEFINITION. Machine/Link.lean: flits, retry, credits, the audit, the bypass channel, link states and time exchange (13). -/

namespace Sys2Proof.Machine

/-! ## Replay (R429 to R432) -/

/-- `replay_ns` (R430). -/
def State.replayNs (s : State) (p : Nat) : Nat :=
  orWhenZero (s.rd F.LNK_TMO_REPLAY_NS p) (2 * s.rd F.LNK_STAT_RTT_NS p + 100)

/-- `replay` (R430 to R432): the unacknowledged flits sent again in order, with fresh headers, or the port leaves `UP`. -/
def State.replay (s : State) (p : Nat) : State :=
  let q := s.port p
  if orWhenZero (s.rd F.LNK_CTL_REPLAY_MAX p) 1 < q.fails + 1 then
    (s.berr .lnk 2 { access := accPktTx, addr := portLocator p } p).loseUp p 3
  else
    let s := s.modPort p fun q => { q with fails := q.fails + 1, replayFrom := q.una, replayAt := s.now, progress := s.now }
    let s := (s.bump F.LNK_CNT_REPLAYS 1 p).tally .lnk 2 q.replayBuf.length p
    q.replayBuf.foldl (fun s f => s.sendFlit p f) s

/-- `on_ack` (R430): what is acknowledged leaves the replay buffer, and the window that opens lets a packet go on (R428). -/
def State.onAck (s : State) (p : Nat) (f : Flit) : State :=
  let q := s.port p
  let a := wrapAdd 12 f.ackSeq 1
  if !f.ackValid || decide (wrapSub 12 q.next q.una < wrapSub 12 a q.una) then s
  else
    let s := if a = q.una then s else (s.modPort p fun q => { q with
      una := a, fails := 0, progress := s.now, replayBuf := q.replayBuf.drop (wrapSub 12 a q.una) }).pumpOut p
    let q := s.port p
    let s := if f.nak && q.una != q.next && !(q.replayFrom == q.una && decide (s.now < q.replayAt + s.rd F.LNK_STAT_RTT_NS p)) then
        s.replay p
      else s
    s.checkDrain p

/-- `nak` (R429). -/
def State.nak (s : State) (p : Nat) : State :=
  let q := s.port p
  if q.nakArmed || decide (q.nakAt + s.replayNs p ≤ s.now) then
    (s.modPort p fun q => { q with nakArmed := false, nakAt := s.now }).sendNak p
  else s

/-- No progress for `replay_ns` (R430). -/
def replayTimer (p : Nat) (s : State) : State :=
  let q := s.port p
  if (s.portState p = 3 || s.portState p = 4) && q.una != q.next then (s.reach (q.progress + s.replayNs p)).replay p else s

/-! ## The bypass channel (R438) -/

/-- The gap and the thresholds that fit a reservation, from a gap on (R438). -/
def State.vcbGap (s : State) (p : Nat) : Nat → Nat → Nat × Nat × Nat
  | 0, g => (g, 0, 0)
  | fuel + 1, g =>
    let q := s.port p
    let r := q.size 9
    let n := s.flitsIn p (s.rd F.LNK_STAT_RTT_NS p) g + 1
    if (decide (4 * n + s.rd F.LNK_VCB_CTL_HYST p ≤ r.2) && decide (n + 1 ≤ r.1)) || decide (256 ≤ g) then (g, 4 * n, n)
    else s.vcbGap p fuel (2 * g)

/-- The starting gap: the next power of two, at most 256 (13 *LNK fields*). -/
def gapStart (v : Nat) : Nat := ((List.range 9).map fun i => 2 ^ i).find? (fun g => v ≤ g) |>.getD 256

/-! ## `ALIGN` (R433, R440 to R442) -/

/-- An `INIT` sent (R439). -/
def State.sendInit (s : State) (p : Nat) (seen : Bool) : State :=
  let resid := if seen then s.now - (s.port p).peerInitAt else 0
  let s := s.modPort p fun q => { q with inits := s.now :: q.inits, seenSent := q.seenSent || seen }
  s.sendNull p [.init (s.rd F.LNK_STAT_FEC_ACTIVE p) seen (s.rd F.LNK_STAT_WIDTH p) p s.did (s.now % 2 ^ 32) (resid % 2 ^ 32)]

/-- The round trip measured with the peer's first `INIT` that has `SEEN`: from the port's own `INIT` that it answers, the `answers`-th before
the latest (R442; log entry 22). -/
def State.measureRtt (s : State) (p resid answers : Nat) : State :=
  let t1 := (s.port p).inits.getD answers s.now
  s.wr F.LNK_STAT_RTT_NS (min 65535 (s.now - t1 - resid)) p

/-- A port enters `ALIGN` (R440, R442). -/
def State.enterAlign (s : State) (p : Nat) : State :=
  let s := s.wr F.LNK_STAT_WIDTH (s.port p).set.length p
  let s := (s.showSet p (s.port p).set).setPort p 2
  let s := s.modPort p fun q => { q with
    una := 0, next := 0, fails := 0, progress := s.now, replayFrom := 4096, replayBuf := [], last := 4095, gotSeq := false, nakArmed := true,
    part := none, skip := false, rxHalf := none, txHalf := none, sinceAlign := 0, pools := List.replicate 9 {}, chgAt := [], retd := List.replicate 9 (0, 0), changed := [],
    xoff := false, inits := [], seenSent := false, peerSeen := false, advIn := [], onOffIn := false, drainIn := false, due := false,
    peerNum := none, sentAt := [], vcbFrom := 0 }
  let s := ((s.wr F.LNK_STAT_PEER_XOFF 0 p).wr F.LNK_STAT_VCB_GAP 0 p).wr F.LNK_STAT_RETRAIN_DUE 0 p
  (s.showLanes p).sendInit p false

/-- The five `CREDIT` blocks that carry nine pools (R433, R435, R439). -/
def creditBlocks (adv : Bool) (count : Nat → Nat × Nat) : List Ctl :=
  (List.range 5).map fun i =>
    let a := count (2 * i)
    let b := if i = 4 then (0, 0) else count (2 * i + 1)
    .credit (2 * i) (if i = 4 then 0xF else 2 * i + 1) adv a.1 a.2 b.1 b.2

/-- The advertisement of R433 and the gap of R438, sent when the round trip is known. -/
def State.advertise (s : State) (p : Nat) : State :=
  let (g, d, h) := s.vcbGap p 10 (gapStart (s.rd F.LNK_VCB_CTL_GAP p))
  let s := s.modPort p fun q => { q with gap := g, xoffD := d, xoffH := h, retd := List.replicate 9 (0, 0), changed := [] }
  let q := s.port p
  s.sendNull p ((creditBlocks true q.free) ++ [.vcbOnOff false g])

/-- `ALIGN` ends when all its parts are there (R440); time is exchanged at once (R583). -/
def State.checkUp (s : State) (p : Nat) : State :=
  let q := s.port p
  if s.portState p = 2 && q.seenSent && q.peerSeen && q.onOffIn && (List.range 9).all q.advIn.contains then
    let s := s.setPort p 3
    let s := s.modPort p fun q => { q with graceEnd := none, auditAt := s.now, refreshAt := s.now, timeAt := s.now }
    ((s.checkXoff p).later .offer).later (.sendTime p)
  else s

/-- Every lane of the chosen set is ready: with the pending division applied, once the buffer is empty, the port enters `ALIGN` (R387, R440,
R441). -/
def lanesReady (p : Nat) (s : State) : State :=
  let q := s.port p
  let ls := (s.portLanes p).getD []
  if s.portState p ≠ 1 || !q.chosen || q.set == [] || !(q.set.all fun i => s.laneState (p / 4) (ls.getD i 0) == 5) then s
  else
    let s := s.applyRsv p
    if (s.port p).rsvNext.isSome then s else s.enterAlign p

/-- `ALIGN_TMO_US` passes in `ALIGN` (R440). -/
def alignTimeout (p : Nat) (s : State) : State :=
  if s.portState p ≠ 2 then s
  else (s.reach ((s.port p).since + us (orWhenZero (s.rd F.LNK_TMO_ALIGN_TMO_US p) 1))).enterTrain p false

/-- `DRAIN_TMO_US` passes in `DRAIN` (R440). -/
def drainTimeout (p : Nat) (s : State) : State :=
  if s.portState p ≠ 4 then s
  else (s.reach ((s.port p).since + us (orWhenZero (s.rd F.LNK_TMO_DRAIN_TMO_US p) 1))).endDrain p

/-- `LNK_CTL.EN` written (R440, R448). -/
def State.enablePort (s : State) (p : Nat) (on : Bool) : State :=
  let s := s.wr F.LNK_CTL_EN (b2n on) p
  match s.portState p, on with
  | 0, true => if s.configured p && !s.portFenced p then s.enterTrain p true else s
  | 3, false => (s.enterDrain p 1).checkDrain p
  | 1, false | 2, false => s.enterIdle p 0
  | _, _ => s

/-- `LNK_CTL.RETRAIN` written (R437, R440): a retrain that an audit scheduled records its error. -/
def State.retrain (s : State) (p : Nat) : State :=
  if s.portState p ≠ 3 then s
  else
    let due := s.on F.LNK_STAT_RETRAIN_DUE p
    let s := if due then (s.berr .lnk 4 {} p).wr F.LNK_STAT_RETRAIN_DUE 0 p else s
    s.enterDrain p 1

/-! ## Control blocks (R435, R437, R439, R444) -/

/-- A cumulative count taken if it is ahead of the one held (R435). -/
def ahead (held new : Nat) : Nat := if wrapSub 16 new held < 2 ^ 15 then new else held

/-- The counts of one pool of a `CREDIT` block (R433, R435). -/
def State.takeCredit (s : State) (p k : Nat) (adv : Bool) (h d : Nat) : State :=
  s.modPort p fun q =>
    let x := q.pools.getD k {}
    if adv then { q with pools := q.pools.set k { advH := h, advD := d }, advIn := if q.advIn.contains k then q.advIn else q.advIn ++ [k] }
    else { q with pools := q.pools.set k { x with retH := ahead x.retH h, retD := ahead x.retD d } }

/-- `on_audit` (R437). -/
def State.onAudit (s : State) (p k at_ freeH freeD retH retD : Nat) : State :=
  let q := s.port p
  let chg : Option (List (Nat × Nat)) :=
    if at_ = 4095 && q.una == 0 && q.chgAt.all (fun e => e.1 != 4095) then some (List.replicate 9 (0, 0)) else (q.chgAt.find? fun e => e.1 == at_).map Prod.snd
  if 2048 ≤ wrapSub 12 (wrapSub 12 q.next 1) at_ then s
  else
    match chg with
    | none => s
    | some l =>
      let c := l.getD k (0, 0)
      let x := q.pools.getD k {}
      let leakH : Int := (freeH : Int) - ((x.advH : Int) - (wrapSub 16 c.1 retH : Nat))
      let leakD : Int := (freeD : Int) - ((x.advD : Int) - (wrapSub 16 c.2 retD : Nat))
      let mh := if k = 0 then leakH else max q.leakH leakH
      let md := if k = 0 then leakD else max q.leakD leakD
      let s := s.modPort p fun q => { q with leakH := mh, leakD := md }
      let s := (s.wr F.LNK_AUDIT_LEAK_DATA (ofSigned 16 md) p).wr F.LNK_AUDIT_LEAK_HDR (ofSigned 16 mh) p
      let s := if k = 8 then s.bump F.LNK_AUDIT_AUDITS 1 p else s
      if leakH < 0 || leakD < 0 then (s.berr .lnk 4 {} p).enterDrain p 5
      else if (s.rd F.LNK_CREDIT_CTL_THRESH_HDR p : Int) < leakH || (s.rd F.LNK_CREDIT_CTL_THRESH_DATA p : Int) < leakD then
        s.modPort p fun q => { q with due := true }
      else s

/-- A `TIME` block (R444, R583). -/
def State.onTime (s : State) (p num echo : Nat) (echoValid : Bool) (resid tTx : Nat) : State :=
  let q := s.port p
  if (q.peerNum.map Prod.fst) = some num then s
  else
    let s := s.modPort p fun q => { q with peerNum := some (num, s.now) }
    if !echoValid then s.later (.sendTime p)
    else
      match q.sentAt.find? fun e => e.1 == echo with
      | none => s
      | some (_, t1) =>
        let trip : Int := ((s.now : Int) - t1) - resid
        let d : Int := (trip + toSigned 16 (s.rd F.LNK_TIME_CTL_ASYM_PS p) / 1000) / 2
        let off : Int := (tTx : Int) - s.now + d
        let s := (s.wr F.LNK_TIME_STAT_OFFSET_NS (ofSigned 32 off) p).wr F.LNK_TIME_STAT_DELAY_NS (ofSigned 16 d) p
        (s.tally .tim 0).later (.timeOffset p off)

/-- One control block (R439); `answers` of the flit that carries it (R442). -/
def State.onCtl (s : State) (p answers : Nat) (c : Ctl) : State :=
  match c with
  | .none => s
  | .init fec seen width port did _ resid =>
    let s := ((s.wr F.LNK_PEER_PEER_DID did p).wr F.LNK_PEER_PEER_PORT port p).wr F.LNK_PEER_VALID 1 p
    match s.portState p with
    | 3 | 4 => s.loseUp p 6
    | 2 =>
      if fec ≠ s.rd F.LNK_STAT_FEC_ACTIVE p || width ≠ s.rd F.LNK_STAT_WIDTH p then s.berr .lnk 5 {} p
      else
        let q := s.port p
        let first := seen && !q.peerSeen
        let s := if first then s.measureRtt p resid answers else s
        let s := s.modPort p fun q => { q with peerInitAt := s.now, peerSeen := q.peerSeen || seen }
        let s := if seen && q.seenSent then s else s.sendInit p true
        (if first then s.advertise p else s).checkUp p
    | _ => s
  | .credit a b adv hA dA hB dB =>
    if 8 < a || (8 < b && b ≠ 0xF) then s.berr .lnk 6 (flitErr p) p
    else
      let s := s.takeCredit p a adv hA dA
      (if b = 0xF then s else s.takeCredit p b adv hB dB).checkUp p
  | .audit k at_ fH fD rH rD =>
    if 8 < k then s.berr .lnk 6 (flitErr p) p
    else if s.portState p = 3 then s.onAudit p k at_ fH fD rH rD else s
  | .vcbOnOff x g =>
    let s := (s.wr F.LNK_STAT_PEER_XOFF (b2n x) p).wr F.LNK_STAT_VCB_GAP g p
    (s.modPort p fun q => { q with onOffIn := true }).checkUp p
  | .time num echo ev resid tTx => if s.portState p = 3 then s.onTime p num echo ev resid tTx else s
  | .timeInfo prio did steps st pps seq est => if s.portState p = 3 then s.later (.timeInfo p prio did steps st pps seq est) else s
  | .drain =>
    match s.portState p with
    | 3 => ((s.enterDrain p 6).modPort p fun q => { q with drainIn := true }).checkDrain p
    | 4 => (s.modPort p fun q => { q with drainIn := true }).checkDrain p
    | _ => s

/-- A control block as it is received: a malformed one is ignored and recorded (R439). -/
def State.onBlock (s : State) (p answers : Nat) (b : List Byte) : State :=
  match ctlOf b with
  | some c => s.onCtl p answers c
  | none => s.berr .lnk 6 (flitErr p) p

/-! ## The item stream (R423 to R426, R434 to R436) -/

/-- The route header of the packet that is being received has arrived: the packet is in the input buffer, and can be dealt with (R385, R388). -/
def State.showPart (s : State) (p : Nat) (x : RxPart) (k : Pkt) : State :=
  let b : BufPkt := { pkt := k, len := x.len, vc := x.vc, pool := x.pool, at_ := s.now, live := some x.got }
  s.modPort p fun q =>
    let q := { q with buf := q.buf ++ [b], part := some { x with shown := true } }
    let same := q.buf.filter fun y => y.vc == x.vc
    let h := q.hwm.getD x.vc (0, 0)
    { q with hwm := q.hwm.set x.vc (max h.1 (same.map fun y => unitsOf y.len).sum, max h.2 same.length) }

/-- The last byte of a packet has arrived: a poisoned one that has started on its output goes to its end with `POISON`, one that has not is
discarded (R426). -/
def State.endPart (s : State) (p : Nat) (x : RxPart) (poisoned : Bool) : State :=
  let j := p / 8
  let s := s.modPort p fun q => { q with part := none }
  let s := (s.tally .xbr 0 1 j).tally .xbr 1 x.len j
  match (s.port p).buf.find? fun b => b.live.isSome with
  | none => s
  | some b =>
    match b.going with
    | some o =>
      let s := s.modPort p fun q => { q with buf := q.buf.replace b { b with live := none } }
      (s.modPort o fun q => { q with tx := q.tx.map fun t => { t with poison := poisoned } }).pumpOut o
    | none =>
      if poisoned then
        ((s.dropBuf p b).berr .lnk 11 (rxErr b.pkt p b.vc) p).trace j 1 b.pkt (p, b.vc) (0, 9) 0 b.pkt.route.cong s.now true
      else (s.modPort p fun q => { q with buf := q.buf.replace b { b with live := none } }).checkXoff p

/-- What zeros spell where a packet's first bytes should be. -/
def zeroPkt : Pkt := { route := { rver := 0, dstDid := 0 }, body := .other 0, tag := 0 }

/-- Bytes of the packet that is being received; `poisoned` says whether it ends so in this flit (R422 to R426). -/
def State.onBytes (s : State) (p : Nat) (x : RxPart) (k : Option Pkt) (n : Nat) (poisoned : Bool) : State :=
  let x := { x with got := min x.len (x.got + n), pkt := x.pkt.or k }
  let s := s.modPort p fun q => { q with
    part := some x, buf := q.buf.map fun b => if b.live.isSome then { b with live := some x.got } else b }
  let s := if !x.shown && !x.dropped && 28 ≤ x.got then s.showPart p x (x.pkt.getD zeroPkt) else s
  if x.got = x.len then s.endPart p x poisoned
  else
    match (s.port p).buf.findSome? fun b => if b.live.isSome then b.going else none with
    | some o => s.pumpOut o
    | none => s

/-- A `PACKET` item's header (R434, R436); answers whether the rest of the flit's data area is read. -/
def State.onHead (s : State) (p vc pool len : Nat) : State × Bool :=
  let k := if vc = 8 then 9 else if pool = 0 then vc else 8
  let f := (s.port p).free k
  if vc ≠ 8 && (f.1 < 1 || f.2 < unitsOf len) then
    (((s.modPort p fun q => { q with part := none, skip := true }).berr .lnk 3 { access := accPktRx, addr := portLocator p + vc * 2 ^ 39 } p).loseUp p 4, false)
  else (s.modPort p fun q => { q with part := some { vc := vc, pool := k, len := len }, skip := false }, true)

/-- An item of the stream that is malformed: discarded with the rest of the flit's data area (R424). -/
def State.badItem (s : State) (p : Nat) : State := (s.modPort p fun q => { q with part := none, skip := true }).berr .lnk 6 (flitErr p) p

/-- Does no packet that begins in these pieces end in them? -/
def lastEnd : List Piece → Bool
  | [] => true
  | .item h :: r =>
    match itemOf h with
    | .packet _ _ len => decide ((r.map Piece.len).sum < len) && lastEnd r
    | _ => true
  | _ :: r => lastEnd r

/-- The data area of a flit from byte `off` on (R423, R424). -/
def State.onStream (s : State) (p : Nat) (f : Flit) : Nat → List Piece → State
  | _, [] => s
  | off, x :: rest =>
    let q := s.port p
    if q.skip && off != f.first then s.onStream p f (off + Piece.len x) rest
    else
      let s := if q.skip then s.modPort p fun q => { q with skip := false } else s
      match q.part, x with
      | some y, .part k _ n => (s.onBytes p y (some k) n (f.poison && lastEnd rest)).onStream p f (off + n) rest
      | some y, x => (s.onBytes p y none (Piece.len x) (f.poison && lastEnd rest)).onStream p f (off + Piece.len x) rest
      | none, .item h =>
        match itemOf h with
        | .pad => s
        | .malformed => s.badItem p
        | .packet vc pool len =>
          match s.onHead p vc pool len with
          | (s, true) => s.onStream p f (off + 4) rest
          | (s, false) => s
      | none, .zeros n => if n < 4 then s.onStream p f (off + n) rest else s
      | none, .part .. => s.badItem p

/-! ## Flits received (R421, R427, R429) -/

/-- Does a codeword with these symbol errors decode? Mode `L` corrects 7 symbols, mode `S` 15 (R427). -/
def State.decodes (s : State) (p : Nat) (errs : List Nat) : Bool := decide (errs.sum ≤ if s.rd F.LNK_STAT_FEC_ACTIVE p = 0 then 7 else 15)

/-- A codeword received (R421, R427): its corrected symbols are counted on their lanes, or it is counted as uncorrectable (13 *LNK fields*;
14 *LAN fields*). -/
def State.onCodeword (s : State) (p : Nat) (errs : List Nat) : State :=
  if !s.decodes p errs then s.bump F.LNK_FEC_CW_UNCORRECTABLE 1 p
  else if errs.all fun n => n == 0 then s
  else
    let ls := s.setLanes p
    let s := (List.range errs.length).foldl (fun s i =>
      let l := ls.getD i 0
      let n := errs.getD i 0
      (s.bump F.LAN_SYMl_CORRECTED n (l / 4) (l % 4)).tally .lan (l % 4) n (l / 4)) s
    (s.bump F.LNK_FEC_CW_CORRECTED 1 p).berr .lnk 0 (flitErr p) p

/-- The codeword of a flit, and whether it decoded: in mode `S` two flits share one, and the second finds what the first did (R421). -/
def State.takeCodeword (s : State) (p : Nat) (errs : List Nat) : State × Bool :=
  match (s.port p).rxHalf with
  | some ok => (s.modPort p fun q => { q with rxHalf := none }, ok)
  | none =>
    let ok := s.decodes p errs
    let s := s.when (s.rd F.LNK_STAT_FEC_ACTIVE p != 0) fun s => s.modPort p fun q => { q with rxHalf := some ok }
    (s.onCodeword p errs, ok)

/-- A good flit (R429): control blocks, acknowledgement, and its part of the stream if it is the next in order. -/
def State.goodFlit (s : State) (p : Nat) (a : Arrival) : State :=
  let f := a.flit
  let s := f.ctl.foldl (fun s b => s.onBlock p a.answers b) s
  let s := s.onAck p f
  if !f.seqd || s.portState p < 2 || 4 < s.portState p then s
  else
    let q := s.port p
    let d := wrapSub 12 f.seq (wrapAdd 12 q.last 1)
    if d = 0 then (s.modPort p fun q => { q with last := f.seq, gotSeq := true, nakArmed := true }).onStream p f 0 f.data
    else if 2048 ≤ d then s
    else s.nak p

/-- A flit received (R429). -/
def flitReceive (p : Nat) (a : Arrival) (s : State) : State :=
  if s.halted || s.portState p < 2 || 4 < s.portState p then s
  else
    let (s, ok) := s.takeCodeword p a.errs
    if ok && Flit.crcOk a.flit then s.goodFlit p a
    else ((s.bump F.LNK_CNT_FLITS_BAD 1 p).berr .lnk 1 (flitErr p) p).nak p

/-! ## Timers (R435, R437, R444) -/

/-- A changed pool is returned within `UPDATE_NS` (R435). -/
def creditUpdateTimer (p k : Nat) (s : State) : State :=
  let q := s.port p
  match q.changed.find? fun c => c.1 == k with
  | none => s
  | some (_, t) =>
    if s.portState p ≠ 3 && s.portState p ≠ 4 then s
    else
      let s := s.reach (t + s.rd F.LNK_CREDIT_CTL_UPDATE_NS p)
      let r := q.retd.getD k (0, 0)
      (s.modPort p fun q => { q with changed := q.changed.filter fun c => c.1 != k }).sendNull p [.credit k 0xF false r.1 r.2 0 0]

/-- Every pool's counts and the VCB state sent again (R435, R438). -/
def creditRefreshTimer (p : Nat) (s : State) : State :=
  if s.portState p ≠ 3 && s.portState p ≠ 4 then s
  else
    let q := s.port p
    let s := s.reach (q.refreshAt + orWhenZero (s.rd F.LNK_CREDIT_CTL_REFRESH_NS p) 1000)
    let s := s.modPort p fun q => { q with refreshAt := s.now, changed := [] }
    s.sendNull p (creditBlocks false (fun k => q.retd.getD k (0, 0)) ++ [.vcbOnOff q.xoff q.gap])

/-- The audit (R437): a snapshot of every pool, and the retrain that the last one scheduled. -/
def auditTimer (p : Nat) (s : State) : State :=
  let t := s.rd F.LNK_CREDIT_CTL_AUDIT_US p
  if s.portState p ≠ 3 || t = 0 then s
  else
    let s := s.reach ((s.port p).auditAt + us t)
    let q := s.port p
    let s := s.modPort p fun q => { q with auditAt := s.now, due := false }
    let s := s.sendNull p ((List.range 9).map fun k =>
      let f := q.free k
      let r := q.retd.getD k (0, 0)
      .audit k q.last f.1 f.2 r.1 r.2)
    if !q.due then s
    else if s.on F.LNK_CTL_HOLD_RETRAIN p then s.wr F.LNK_STAT_RETRAIN_DUE 1 p
    else (s.berr .lnk 4 {} p).enterDrain p 5

/-- The period of the time exchange passes (R444). -/
def timeExchangeTimer (p : Nat) (s : State) : State :=
  let t := s.rd F.LNK_TIME_CTL_PERIOD_US p
  if s.portState p ≠ 3 || t = 0 then s
  else (s.reach ((s.port p).timeAt + us t)).later (.sendTime p)

end Sys2Proof.Machine
end

