-- ==== Sys2Proof/Machine/Lane.lean ====
section
/-! DEFINITION. Machine/Lane.lean: lane bring-up, the choice of a lane set, lane faults, test modes and readouts (14). -/

namespace Sys2Proof.Machine

/-- The choice for the port that a lane belongs to. -/
def State.decideFor (s : State) (g l : Nat) : State :=
  match s.portOfLane g l with
  | some (p, _) => s.decideSet p false
  | none => s

/-- A lane of a port is lost: the port leaves `ALIGN`, `UP` or `DRAIN` if it uses the lane (R456, R458, R463, R465). -/
def State.loseLane (s : State) (g l : Nat) (err : Bool) : State :=
  match s.portOfLane g l with
  | none => s
  | some (p, i) =>
    let st := s.portState p
    if 2 ≤ st && st ≤ 4 && (s.port p).set.contains i then
      let s := if err then s.laneErr g l 0 else s
      let s := if st = 3 then s.berr .lnk 7 {} p else s
      s.loseUp p 2
    else s

/-- A lane in `DETECT` detects signal (R454). -/
def signalDetect (g l : Nat) (s : State) : State :=
  if s.laneState g l = 2 then (s.wr F.LAN_LANE_STATl_SIGNAL 1 g l).setLane g l 3 else s

/-- Clock locked and equaliser converged (R454). -/
def adaptConverged (g l : Nat) (inv : Bool) (s : State) : State :=
  if s.laneState g l = 3 then (s.wr F.LAN_LANE_STATl_POL_INV (b2n inv) g l).setLane g l 4 else s

/-- The ports that the other lanes of a port show in their markers: those that have passed `MARKER` and are still there (R457). -/
def State.peerPorts (s : State) (p l : Nat) : List Nat :=
  let g := p / 4
  (((s.portLanes p).getD []).filter fun k => k != l && (s.laneState g k == 4 || s.laneState g k == 5) && !s.laneFenced g k).filterMap
    fun k => (s.lane (4 * g + k)).peerPort

/-- Two markers found, `spacing` symbols apart, on a lane that lies `skew` ps behind the earliest (R452, R454, R457): they count where both are
correct and consecutive, 4,096 symbols apart. A lane that passes sends `RX_READY` = 1. -/
def markerLock (g l : Nat) (first second : List Byte) (spacing skew : Nat) (s : State) : State :=
  if s.laneState g l ≠ 4 then s
  else
    match markerOf first, markerOf second, s.portOfLane g l with
    | some m, some n, some (p, i) =>
      if spacing ≠ 4096 then s
      else
        let s := s.wr F.LAN_LANE_STATl_PEER_RX_READY (b2n n.ready) g l
        if m.plane ≠ i || n.plane ≠ i || m.port ≠ n.port || (s.peerPorts p l).any (fun x => x != n.port) then s.laneErr g l 5
        else
          let s := s.wr F.LAN_LANE_STATl_SKEW_PS (min skew 65535) g l
          if 60000 < skew then s.laneErr g l 2
          else
            let s := (s.modLane (4 * g + l) fun k => { k with passed := true, peerPort := some n.port }).showTx g l
            if n.ready then
              let t := (s.now - (s.lane (4 * g + l)).detectAt) / 1000
              ((s.wr F.LAN_LANE_STATl_LOCK_TIME_US (min t 65535) g l).setLane g l 5).decideFor g l
            else s
    | _, _, _ => s

/-- Signal lost for `SQUELCH_US` (R454, R465); the choice of a set that this allows comes with `NO_SIGNAL_TIMEOUT` (R455). -/
def signalLost (g l : Nat) (s : State) : State :=
  let st := s.laneState g l
  if 3 ≤ st && st ≤ 5 then
    let s := (s.wr F.LAN_LANE_STATl_SIGNAL 0 g l).setLane g l 2
    let t := s.now - us (orWhenZero (s.rd F.LAN_TMO_SQUELCH_US g) 1)
    (s.modLane (4 * g + l) fun k => { k with quietAt := t }).loseLane g l true
  else s

/-- Two alignment codewords missed, or clock lock lost (R454, R458). -/
def laneLoss (g l : Nat) (s : State) : State :=
  let st := s.laneState g l
  if 3 ≤ st && st ≤ 5 then
    let s := (s.setLane g l 3).modLane (4 * g + l) fun k => { k with passed := false, peerPort := none }
    s.loseLane g l true
  else s

/-- `LOCK_TMO_US` has passed since the entry to `TRAIN` (R455). -/
def lockTimeout (p : Nat) (s : State) : State :=
  if s.portState p ≠ 1 || (s.port p).chosen then s
  else (s.reach ((s.port p).since + us (orWhenZero (s.rd F.LAN_TMO_LOCK_TMO_US (p / 4)) 1))).decideSet p true

/-- A candidate has had no signal for `SQUELCH_US` (R455). -/
def noSignalTimeout (g l : Nat) (s : State) : State :=
  if s.laneState g l = 2 && !s.on F.LAN_LANE_STATl_SIGNAL g l then
    (s.reach ((s.lane (4 * g + l)).quietAt + us (orWhenZero (s.rd F.LAN_TMO_SQUELCH_US g) 1))).decideFor g l
  else s

/-- Training frames received in `ALIGN` or `UP` (R456). -/
def trainingFramesRx (p : Nat) (s : State) : State :=
  let s' := if s.portState p = 3 then s.berr .lnk 7 {} p else s
  s'.loseUp p 2

/-- The PLL of a lane group loses lock (R465): an error where a port of the group is enabled (R592). -/
def pllUnlock (g : Nat) (s : State) : State :=
  let s := s.wr F.LAN_STAT_PLL_LOCK 0 g
  let s := s.when ((List.range 4).any fun k => s.on F.LNK_CTL_EN (4 * g + k)) fun s => s.berr .lan 4 { addr := 0 } g
  let s := (List.range 4).foldl (fun s l => if 3 ≤ s.laneState g l && s.laneState g l ≤ 5 then s.setLane g l 3 else s) s
  (List.range 4).foldl (fun s k => trainingFramesRx (4 * g + k) s) s

/-- The PLL of a lane group locks (14 *LAN fields*). -/
def lanePllLock (g : Nat) (s : State) : State := s.wr F.LAN_STAT_PLL_LOCK 1 g

/-- Corrected symbols of a lane within 1 ms (R465). -/
def serLimit (g l count : Nat) (s : State) : State :=
  let lim := s.rd F.LAN_SER_CTL_SER_LIMIT g
  if lim ≠ 0 ∧ lim < count then s.laneErr g l 3 else s

/-- A lane squelched by its fence or by `TX_OFF` (R454, R463). A fenced one leaves the set of its port and is no candidate any more; one whose
transmitter is off stays both, and is not ready. -/
def State.squelch (s : State) (g l : Nat) : State :=
  let s := if s.laneState g l = 6 then s else s.setLane g l 1
  let s := s.loseLane g l false
  match s.portOfLane g l with
  | none => s
  | some (p, i) =>
    if !s.laneFenced g l then s
    else
      let s := s.modPort p fun q => { q with set := q.set.filter fun k => k != i, cands := q.cands.filter fun k => k != i }
      let s := s.when (bitOf (s.rd F.LAN_STAT_IN_SET g) l) fun s => s.clrBit F.LAN_STAT_IN_SET l g
      (s.checkFence p).decideSet p false

/-- A lane fence or `TX_OFF` lifted: the lane is off in a port that is down, and otherwise rejoins at an entry of its port to `TRAIN` (R454,
R463). -/
def State.unsquelch (s : State) (g l : Nat) : State :=
  let s := s.when (!s.on F.LAN_LANE_CTLl_FENCE g l) fun s =>
    { s with unitAuto := Sparse.write 0 s.unitAuto (Block.lan.page + g) (clearBit (Sparse.read 0 s.unitAuto (Block.lan.page + g)) l) }
  match s.portOfLane g l with
  | none => if s.laneState g l = 1 && !s.laneOff g l then s.setLane g l 0 else s
  | some (p, _) =>
    let s := if s.portState p = 0 && s.laneState g l = 1 && !s.laneOff g l then s.setLane g l 0 else s
    s.checkFence p

/-- The checker of a lane starts to lock (R460). -/
def State.unlock (s : State) (g l : Nat) : State := s.modLane (4 * g + l) fun k => { k with clean := 0, checked := 0, badAt := [] }

/-- `LAN_TESTl` written (R459); `none` where the write is refused. -/
def State.testWrite (s : State) (g l v : Nat) : Option State :=
  let gen := bitsOf v 0 3
  let chk := bitsOf v 4 3
  let loop := bitsOf v 8 2
  let set (s : State) : State := ((s.wr F.LAN_TESTl_GEN gen g l).wr F.LAN_TESTl_CHK chk g l).wr F.LAN_TESTl_LOOP loop g l
  if gen = 0 && chk = 0 && loop = 0 then
    some (if s.laneState g l = 6 then (((set s).wr F.LAN_PRBS_CNTl_SYNC 0 g l).unlock g l).setLane g l (if s.laneFenced g l then 1 else 0) else set s)
  else if 1 < s.laneState g l || ((gen = 7 || chk = 7) && s.rd F.LAN_CFG_RATE g = 3) then none
  else some (((set s).unlock g l).setLane g l 6)

/-- Null flits sent until a lane's injector has inverted every symbol of its burst (R421, R461). -/
def State.injectOut (p l : Nat) : Nat → State → State
  | 0, s => s
  | n + 1, s => if (s.lane l).inject = 0 then s else (s.sendNull p []).injectOut p l n

/-- `LAN_INJECTl.GO` (R461): the next symbols of the lane are inverted. A lane that carries its port's codewords goes on with null flits; of any
other the symbols are not in the model, and they count at once (log entry 23). -/
def injectGo (g l : Nat) (s : State) : State :=
  let n := match s.rd F.LAN_INJECTl_MODE g l with
    | 1 => 1
    | 2 => orWhenZero (s.rd F.LAN_INJECTl_LEN g l) 1
    | _ => 0
  match s.portOfLane g l with
  | none => s.bump F.LAN_INJECTl_INJECTED n g l
  | some (p, i) =>
    if 2 ≤ s.portState p && s.portState p ≤ 4 && (s.port p).set.contains i then
      (s.modLane (4 * g + l) fun k => { k with inject := n }).injectOut p (4 * g + l) 16
    else s.bump F.LAN_INJECTl_INJECTED n g l

/-- Can a lane's eye be measured? (R462) -/
def State.measures (s : State) (g l : Nat) : Bool := s.laneState g l == 5 || s.laneState g l == 6

/-- `LAN_MARGINl.START` (R462). -/
def marginStart (g l : Nat) (s : State) : State :=
  if s.on F.LAN_MARGINl_BUSY g l then s
  else if s.measures g l then s.wr F.LAN_MARGINl_BUSY 1 g l
  else s.wr F.LAN_MARGINl_ERRORS 0xFFFFFFFF g l

/-- A margin scan ends (R462). -/
def marginScanDone (g l errors : Nat) (s : State) : State :=
  if s.on F.LAN_MARGINl_BUSY g l then
    (s.wr F.LAN_MARGINl_BUSY 0 g l).wr F.LAN_MARGINl_ERRORS (if s.measures g l then min errors 0xFFFFFFFF else 0xFFFFFFFF) g l
  else s

/-- The eye readout of a lane is refreshed (R462): NRZ lanes report the middle eye only. -/
def eyeRefresh (g l upper mid lower width snr : Nat) (s : State) : State :=
  if s.measures g l then
    let nrz := s.rd F.LAN_CFG_RATE g == 3
    let s := (s.wr F.LAN_EYEl_H_UPPER (if nrz then 0 else upper) g l).wr F.LAN_EYEl_H_MID mid g l
    let s := (s.wr F.LAN_EYEl_H_LOWER (if nrz then 0 else lower) g l).wr F.LAN_EYEl_WIDTH width g l
    (s.wr F.LAN_EYEl_SNR snr g l).wr F.LAN_EYEl_VALID 1 g l
  else s.wr F.LAN_EYEl_VALID 0 g l

/-- Error-free symbols at the pattern checker: it locks after 64 of them, and once locked counts what it checks (R460). -/
def State.checkClean (s : State) (g l n : Nat) : State :=
  let k := s.lane (4 * g + l)
  let locks := !s.on F.LAN_PRBS_CNTl_SYNC g l && decide (64 ≤ k.clean + n)
  let s := if locks then s.wr F.LAN_PRBS_CNTl_SYNC 1 g l else s
  if !s.on F.LAN_PRBS_CNTl_SYNC g l then s.modLane (4 * g + l) fun k => { k with clean := k.clean + n }
  else
    let m := if locks then k.clean + n - 64 else n
    let bits := k.bits + 10 * m
    (s.modLane (4 * g + l) fun k => { k with clean := 0, checked := k.checked + m, bits := bits % 10 ^ 9 }).bump F.LAN_PRBS_CNTl_GBITS
      (bits / 10 ^ 9) g l

/-- A symbol at the pattern checker with `errs` bits in error: a locked one counts them, and loses its lock where more than half of 256 symbols in
a row are in error; before it locks it starts again (R460; log entry 23). -/
def State.checkSymbol (s : State) (g l errs : Nat) : State :=
  if errs = 0 then s.checkClean g l 1
  else if !s.on F.LAN_PRBS_CNTl_SYNC g l then s.modLane (4 * g + l) fun k => { k with clean := 0 }
  else
    let k := s.lane (4 * g + l)
    let bits := k.bits + 10
    let bad := (k.checked :: k.badAt).filter fun i => k.checked < i + 256
    let s := (s.bump F.LAN_PRBS_CNTl_ERRORS errs g l).bump F.LAN_PRBS_CNTl_GBITS (bits / 10 ^ 9) g l
    let s := s.modLane (4 * g + l) fun k => { k with checked := k.checked + 1, badAt := bad, bits := bits % 10 ^ 9 }
    if 128 < bad.length then (s.wr F.LAN_PRBS_CNTl_SYNC 0 g l).unlock g l else s

/-- Symbols reach a lane's pattern checker (R460): `clean` without an error, then one for each entry of `errs`, with that many bits in error after
Gray decoding, then `more` without. -/
def prbsCheckerSync (g l clean : Nat) (errs : List Nat) (more : Nat) (s : State) : State :=
  if s.laneState g l = 6 && s.on F.LAN_TESTl_CHK g l then
    (errs.foldl (fun s e => s.checkSymbol g l e) (s.checkClean g l clean)).checkClean g l more
  else s

end Sys2Proof.Machine
end

