-- ==== Sys2Proof/Machine/FaultFx.lean ====
section
/-! DEFINITION. Machine/FaultFx.lean: what fences do, the fault collector's own commands, errors of on-package memory and row
sparing (16; 02 R38 to R46). -/

namespace Sys2Proof.Machine

/-! ## What a fence does (R503 to R508) -/

/-- The ports of a lane group. -/
def groupPorts (g : Nat) : List Nat := (List.range 4).map fun k => 4 * g + k

/-- A port brought in line with its fences, and what waits for it dropped (R376, R440, R443). -/
def State.fencePort (s : State) (p : Nat) : State :=
  let s := s.checkFence p
  if s.portState p = 5 then s.dropFenced p else s

/-- A function kept away: reset H, and absent until the fences that keep it away are lifted (R503, R504). -/
def State.fenceFn (s : State) (fn : Nat) : State :=
  (s.modHf fn fun h => { h with fencedAway := true }).startResetH fn

/-- A function kept away by an endpoint shutdown: one that is already absent takes no reset H (R504). -/
def State.shutFn (s : State) (fn : Nat) : State :=
  if s.fnAbsent fn then s.modHf fn fun h => { h with fencedAway := true } else s.fenceFn fn

/-- A function returns when no fence keeps it away, through the endpoint hold (R90, R504). -/
def State.unfenceFn (s : State) (fn : Nat) : State :=
  if !(s.hf fn).fencedAway || s.shutdown || s.fenced (Block.hif.page + fn) then s
  else
    let s := s.modHf fn fun h => { h with fencedAway := false }
    if (s.hf fn).resetH || (s.hf fn).resetWait then s else s.holdEndpoint fn

/-- Stalled reads of every semaphore answered with 0 (R503). -/
def State.semUnstall (s : State) : State :=
  s.semQ.foldl (fun s e =>
    let s := e.2.foldl (fun s w => s.semReply w.master w.reads 0) s
    s.setSem e.1 (e.2.filter fun w => w.held)) s

/-- The effects of a block fence (R503 to R506). -/
def State.fenceFx (s : State) (p : Nat) : State :=
  match pageBlock p with
  | some (.lan, g) =>
    let s := (List.range 4).foldl (fun s l => s.squelch g l) s
    (groupPorts g).foldl (fun s k => s.fencePort k) s
  | some (.lnk, k) => s.fencePort k
  | some (.xbr, j) =>
    let s := s.loseSources j
    let s := (List.range 8).foldl (fun s k => s.fencePort (8 * j + k)) s
    { s with eject := Tbl.del s.eject j }
  | some (.hif, fn) => (s.when (s.rd F.DEV_FM_ROLE_HOLDER == fn) fun s => s.setRole 7 5).fenceFn fn
  | some (.mtc, _) => s.posted.foldl (fun s q => s.failRecv q.op stAborted dtEngineFenced) { s with posted := [] }
  | some (.atm, _) => s.semUnstall
  | some (.col, _) =>
    (s.ops.filter fun e => e.2.round.isSome && e.2.ended.isNone).foldl (fun s e => s.endOp e.1 stAborted dtEngineFenced 0 (cvData (e.2.round.getD 0) 0 0)) s
  | some (.mem, _) => s
  | some (.pmu, _) => s
  | some (b, _) => if b.unfenceable then s else (List.range 4).foldl (fun s fn => s.shutFn fn) s
  | none => s

/-- The effects of lifting a block fence. -/
def State.unfenceFx (s : State) (p : Nat) : State :=
  match pageBlock p with
  | some (.lan, g) =>
    let s := (List.range 4).foldl (fun s l => s.unsquelch g l) s
    (groupPorts g).foldl (fun s k => s.checkFence k) s
  | some (.lnk, k) => s.checkFence k
  | some (.xbr, j) => (List.range 8).foldl (fun s k => s.checkFence (8 * j + k)) s
  | some (.hif, fn) => s.unfenceFn fn
  | some (b, _) =>
    let s := (List.range 4).foldl (fun s fn => s.unfenceFn fn) s
    if s.shutdown || !([Block.sec, .cmd, .xlt, .txe, .rxe, .pwy, .rtb, .tmg] : List Block).contains b then s
    else if b = .pwy || s.epochs = [] then [4, 5].foldl (fun s sel => s.holdEndpoint sel) s
    else s
  | none => s

/-- The effects of a unit fence or of its end (R463, R507, R508). -/
def State.unitFx (s : State) (p u : Nat) (on : Bool) : State :=
  match pageBlock p with
  | some (.lan, g) =>
    if !on then s.unsquelch g u
    else
      match s.portOfLane g u with
      | some (p, _) => (s.squelch g u).fencePort p
      | none => s.squelch g u
  | some (.sec, _) =>
    if on then { s with pipeTest := s.pipeTest.filter fun k => k != u }
    else if s.pipeTest.contains u then s else { s with pipeTest := s.pipeTest ++ [u] }
  | _ => s

/-- A crypto pipeline's known-answer test ends (R508): one that was to rejoin stays out where it fails. -/
def pipeSelfTest (u : Nat) (pass : Bool) (s : State) : State :=
  if pass then { s with pipeTest := s.pipeTest.filter fun k => k != u } else s.berr .sec 2 { addr := u, unit := some u }

/-- Does a set error bit hold the fence of a page (R40, R502)? -/
def State.fenceHeld (s : State) (p : Nat) : Bool :=
  (List.range 32).any fun i => bitOf (s.rd F.ERR_STAT_ERR p) i &&
    match bitsOf (s.rd F.ERR_CLASS_REACT p) (2 * i) 2, pageBlock p with
    | 2, _ => true
    | 1, some (b, _) => b != .mem && !(b.units != 0 && perUnit p i)
    | _, _ => false

/-- `BLK_CTL.FENCE` written (R40, R53, R502). -/
def blkFenceWrite (m p : Nat) (fence : Bool) (s : State) : State :=
  let off := F.BLK_CTL_FENCE.addr p 0
  match pageBlock p with
  | none => s.refuse m 0 off true
  | some (b, _) =>
    if !s.mayWrite m || (fence && b.unfenceable) then s.refuse m p off true
    else if fence then (if s.fenced p then s else (s.wr F.BLK_CTL_FENCE 1 p).later (.fence p))
    else if !s.fenced p || s.fenceHeld p then s
    else ((s.wr F.BLK_CTL_FENCE 0 p).wr F.BLK_STAT_FAULT_FENCED 0 p).later (.unfence p)

/-- One unit's fence written (R508). -/
def State.writeUnit (s : State) (p u : Nat) (on : Bool) : State :=
  let was := bitOf (s.units p) u
  if on && !was then (s.setUnit p u true).later (.unitFence p u true)
  else if !on && was then
    let s := s.setUnit p u false
    let s := { s with unitAuto := Sparse.write 0 s.unitAuto p (clearBit (Sparse.read 0 s.unitAuto p) u) }
    s.later (.unitFence p u false)
  else s

/-- `FCL_UNIT_FENCE` written (R53, R507, R508). -/
def unitFenceWrite (m mask : Nat) (s : State) : State :=
  let p := s.rd F.FCL_UNIT_SEL_PAGE
  let off := F.FCL_UNIT_FENCE_FENCE.addr 0 0
  match pageBlock p with
  | some (b, _) =>
    if !s.mayWrite m || b.units = 0 then s.refuse m Block.fcl.page off true
    else
      let s := (List.range b.units).foldl (fun s u => s.writeUnit p u (bitOf mask u)) s
      s.when (b == .sec && !s.fenced p && [0, 1].any fun i => (pipesOf i).all fun k => bitOf (s.units p) k) fun s => s.fenceBlock p
  | none => s.refuse m Block.fcl.page off true

/-- `LAN_LANE_CTLl.FENCE` written (R53, R463, R508). -/
def laneFenceWrite (m g l : Nat) (fence : Bool) (s : State) : State :=
  if !s.mayWrite m then s.refuse m (Block.lan.page + g) (F.LAN_LANE_CTLl_FENCE.addr g l) true
  else s.writeUnit (Block.lan.page + g) l fence

/-! ## Error status (R45, R46, R519) -/

/-- `ERR_FIRST_INFO.VALID` written with 1 (R46, R53). -/
def errFirstRearm (m p : Nat) (s : State) : State :=
  if (pageBlock p).isNone then s.refuse m 0 (F.ERR_FIRST_INFO_VALID.addr p 0) true
  else if !s.mayWrite m then s.refuse m p (F.ERR_FIRST_INFO_VALID.addr p 0) true
  else (s.wr F.ERR_FIRST_INFO_VALID 0 p).wr F.ERR_FIRST_INFO_MORE 0 p

/-- Spare rows of a controller (R514). -/
def State.spareTotal (s : State) : Nat := if s.fuses.c48 then 4096 else 2048

/-- Spare rows of a controller in use. -/
def State.spareUsed (s : State) (k : Nat) : Nat := (s.spareMap.filter fun e => e.1 == k).length

/-- Error bits of a page whose cause persists (R519). -/
def State.persists (s : State) (p i : Nat) : Bool :=
  match pageBlock p with
  | some (.hif, fn) => i == 2 && (s.hf fn).pwrFlt
  | some (.lan, g) => i == 4 && !s.on F.LAN_STAT_PLL_LOCK g
  | some (.mem, k) => i == 5 && decide (s.spareTotal ≤ s.spareUsed k)
  | some (.fcl, _) => i == 2 && s.on F.FCL_ALIVE_STOPPED
  | _ => false

/-- `ERR_STAT` written: bits whose cause persists stay (R53, R519). -/
def errStatClear (m p mask : Nat) (s : State) : State :=
  if (pageBlock p).isNone then s.refuse m 0 (F.ERR_STAT_ERR.addr p 0) true
  else if !s.mayWrite m then s.refuse m p (F.ERR_STAT_ERR.addr p 0) true
  else
    (List.range 32).foldl (fun s i =>
      if bitOf mask i && !s.persists p i then s.clrBit F.ERR_STAT_ERR i p else s) s

/-! ## The fault collector (R496, R497, R515 to R517) -/

/-- Must a bit of `FCL_STAT` stay (R497, R509, R516)? -/
def State.statHeld (s : State) (b : Nat) : Bool :=
  if b = 56 then s.on F.FCL_SVC_STAT_REASONS
  else if b = 57 then s.halted
  else
    (allPages.any fun p => fclBit p == some b && s.line p) ||
      (if 40 ≤ b ∧ b < 48 then
        let c := b - 40
        bitsOf (if c < 4 then s.rd F.FCL_PORT_LO_PORT else s.rd F.FCL_PORT_HI_PORT) (16 * (c % 4)) 16 != 0
      else if 48 ≤ b ∧ b < 56 then bitsOf (s.rd F.FCL_LANE_GROUP) (4 * (b - 48)) 4 != 0 else false)

/-- Bits of a mask cleared in a field, but for those that must stay. -/
def State.clearUnless (s : State) (f : Fld) (mask : Nat) (stay : Nat → Bool) : State :=
  (List.range f.width).foldl (fun s b => if bitOf mask b && !stay b then s.clrBit f b else s) s

/-- A latch register of the collector written: 0 `FCL_STAT`, 1 `FCL_PORT_LO`, 2 `FCL_PORT_HI`, 3 `FCL_LANE` (R53, R497). -/
def fclStatClear (m reg mask : Nat) (s : State) : State :=
  let f := match reg with
    | 0 => F.FCL_STAT_STAT
    | 1 => F.FCL_PORT_LO_PORT
    | 2 => F.FCL_PORT_HI_PORT
    | _ => F.FCL_LANE_GROUP
  if !s.mayWrite m then s.refuse m Block.fcl.page (Fld.addr f 0 0) true
  else
    s.clearUnless f mask fun b =>
      match reg with
      | 0 => s.statHeld b
      | 1 => s.line (Block.lnk.page + b)
      | 2 => s.line (Block.lnk.page + 64 + b)
      | _ => s.line (Block.lan.page + b)

/-- `FCL_FIRST.VALID` written with 1 (R497). -/
def fclFirstRearm (m : Nat) (s : State) : State :=
  if !s.mayWrite m then s.refuse m Block.fcl.page (F.FCL_FIRST_VALID.addr 0 0) true else s.wr F.FCL_FIRST_VALID 0

/-- Is a page of these blocks fenced by a reaction? -/
def State.autoFenced (s : State) (t : Block → Bool) : Bool :=
  allPages.any fun p => match pageBlock p with
    | some (b, _) => t b && s.on F.BLK_STAT_FAULT_FENCED p
    | none => false

/-- Rows in use reach the service threshold (R515). -/
def State.spareLow (s : State) (k : Nat) : Bool :=
  decide (min 100 (orWhenZero (s.rd F.FCL_SVC_CTL_SPARE_PCT) 1) * s.spareTotal ≤ 100 * s.spareUsed k)

/-- Does the cause of a replacement reason persist (R515)? -/
def State.reasonHeld (s : State) (r : Nat) : Bool :=
  match r with
  | 1 => decide (orWhenZero (s.rd F.FCL_SVC_CTL_LANES) 1 ≤ s.autoLanes)
  | 2 => s.autoFenced (· == .lnk)
  | 3 => s.autoFenced (· == .xbr)
  | 4 => [0, 1].any fun i => decide (orWhenZero (s.rd F.FCL_SVC_CTL_PIPES) 1 ≤ s.autoPipes i)
  | 5 => [0, 1].any fun k => s.spareLow k
  | 6 => s.autoFenced (· == .hif)
  | 7 => s.autoFenced fun b => b != .lnk && b != .xbr && b != .hif && b != .lan
  | 9 => s.halted
  | _ => false

/-- `FCL_SVC_STAT.REASONS` written (R53, R516); `SVC_REQ_N` rises when none is left. -/
def svcReasonClear (m mask : Nat) (s : State) : State :=
  if !s.mayWrite m then s.refuse m Block.fcl.page (F.FCL_SVC_STAT_REASONS.addr 0 0) true
  else
    let had := s.on F.FCL_SVC_STAT_REASONS
    let s := s.clearUnless F.FCL_SVC_STAT_REASONS mask fun b => s.reasonHeld (b + 1)
    if had && !s.on F.FCL_SVC_STAT_REASONS then s.emit (.pin .svcReqN true) else s

/-- `FCL_SVC_REQ.RAISE` (R53, R515). -/
def fclSvcReq (m code : Nat) (s : State) : State :=
  if !s.mayWrite m then s.refuse m Block.fcl.page (F.FCL_SVC_REQ_RAISE.addr 0 0) true
  else (s.wr F.FCL_SVC_STAT_FW_CODE code).svc 10

/-- The heartbeat timer restarts (R517). -/
def State.aliveRestart (s : State) : State := { s with aliveAt := s.now }

/-- `FCL_ALIVE.KICK` (R517). -/
def aliveKick (m : Nat) (s : State) : State :=
  if m ≠ 4 then s.refuse m Block.fcl.page (F.FCL_ALIVE_KICK.addr 0 0) true
  else
    let s := s.aliveRestart.tally .mgt 4
    if s.on F.FCL_ALIVE_STOPPED && !s.halted then (s.wr F.FCL_ALIVE_STOPPED 0).emit (.pin .alive true) else s

/-- The heartbeat expires (R517). -/
def aliveTimeout (s : State) : State :=
  if s.on F.FCL_ALIVE_STOPPED || s.halted then s
  else
    let s := s.reach (s.aliveAt + ms (orWhenZero (s.rd F.FCL_ALIVE_TMO_MS) 1))
    let s := ((s.wr F.FCL_ALIVE_STOPPED 1).emit (.pin .alive false)).berr .fcl 2
    if s.on F.FCL_ALIVE_AUTO_M then s.later (.resetM 4) else s

/-- The rest of a chip-fatal fault (R509): every lane squelched, and everything but the always-on blocks halted. -/
def State.fatalFx (s : State) : State :=
  let s := (List.range 32).foldl (fun s g => (List.range 4).foldl (fun s l => s.setLane g l 1) s) s
  let s := (List.range 128).foldl (fun s p => if s.portState p = 0 ∨ s.portState p = 5 then s else s.setPort p 0) s
  { s with halted := true }

/-! ## On-package memory errors and sparing (R510 to R514) -/

/-- Spare the row of an address (R513): copied into a spare row, where one is free. -/
def State.spareRow (s : State) (k a : Nat) : State :=
  let row := Config.memRow a
  if s.rowCopies.contains (k, row) then s
  else if s.spareTotal ≤ s.spareUsed k + (s.rowCopies.filter fun e => e.1 == k).length then
    s.berr .mem 5 { access := accMemRead, addr := a } k
  else ({ s with rowCopies := s.rowCopies ++ [(k, row)] } : State).wr F.MEM_SPARE_STAT_BUSY 1 k

/-- A row copy ends: the row is remapped, and firmware writes the controller's spare map to the settings area (R513 to R515). -/
def rowSpareDone (k : Nat) (s : State) : State :=
  match s.rowCopies.find? fun e => e.1 == k with
  | none => s
  | some e =>
    let left := s.rowCopies.erase e
    let s := { s with rowCopies := left, spareMap := s.spareMap ++ [e], spareSaved := s.spareMap ++ [e],
                      rowCounts := s.rowCounts.filter fun c => !(c.ctrl == k && c.row == e.2) }
    let s := s.writeSetting (2 + k) typeVersion ((Config.spareMapBody ((s.spareMap.filter fun e => e.1 == k).map Prod.snd)).take 65536)
    let s := s.wr F.MEM_SPARE_STAT_BUSY (b2n (left.any fun x => x.1 == k)) k
    let s := s.berr .mem 4 { access := accMemRead, addr := Config.rowAddr k e.2 } k
    s.when (s.spareLow k) fun s => s.svc 5

/-- A corrected error counted against its row (R513). -/
def State.countRow (s : State) (k a : Nat) : State :=
  let row := Config.memRow a
  let hit (c : RowCount) : Bool := c.ctrl == k && c.row == row
  let n := ((s.rowCounts.find? hit).map RowCount.count).getD 0 + 1
  let s := { s with rowCounts := (({ ctrl := k, row := row, count := n } : RowCount) :: s.rowCounts.filter fun c => !hit c).take 1024 }
  let lim := s.rd F.MEM_SPARE_CTL_CE_ROW_LIMIT k
  if s.on F.MEM_SPARE_CTL_AUTO k && lim ≠ 0 && decide (lim ≤ n) then s.later (.spare k a) else s

/-- A read or a scrub corrects a word, or finds it uncorrectable (R510, R512): `idx` is the index of the corrected case. -/
def State.eccError (s : State) (k a idx m : Nat) (r : EccResult) : State :=
  let e : ErrAt := { access := accMemRead, addr := a, master := some m }
  match r with
  | .clean => s
  | .corrected => ((s.bump F.MEM_ECC_CNT_CORRECTED 1 k).berr .mem idx e k).countRow k a
  | .uncorrectable =>
    let w := a / 32
    let s := { s with poison := if s.poison.contains w then s.poison else s.poison ++ [w] }
    (s.bump F.MEM_ECC_CNT_UNCORRECTED 1 k).berr .mem (idx + 1) e k

/-- Bytes of on-package memory that a controller serves (R18). -/
def State.memShare (s : State) : Nat := if s.rd F.DEV_MEM_CAP_STACKS = 2 then s.capBytes / 2 else s.capBytes

/-- Does a controller work: ready, not halted, its memory not in self-refresh (R512)? -/
def State.memRuns (s : State) (k : Nat) : Bool := s.serves .mem k

/-- Patrol scrub reads a 256-byte burst (R512). -/
def scrub (k a : Nat) (r : EccResult) (s : State) : State :=
  if !s.on F.MEM_SCRUB_CTL_EN k || !s.memRuns k || s.memCtrl a ≠ k then s
  else if s.reqFenced (Block.mem.page + k) 11 then s.refusedReq (Block.mem.page + k) 0 11
  else
    let s := (s.tally .mem 0 1 k).tally .mem 15 1 k
    let s := s.when (r == .corrected) fun s => (s.tally .mem 1 1 k).tally .mem 15 1 k
    let s := s.eccError k a 2 (0x24 + k) r
    let at_ := if s.rd F.DEV_MEM_CAP_STACKS = 2 then a / 8192 * 4096 + a % 4096 else a
    let next := at_ / 256 * 256 + 256
    if s.memShare ≤ next then (s.roll F.MEM_SCRUB_STAT_PASSES 1 k).wr F.MEM_SCRUB_STAT_POS_MIB 0 k
    else s.wr F.MEM_SCRUB_STAT_POS_MIB (next / 2 ^ 20) k

/-- `MEM_SPARE_FORCE.GO` (R53, R513). -/
def spareForce (m k a : Nat) (s : State) : State :=
  let p := Block.mem.page + k
  if !s.mayWrite m then s.refuse m p (F.MEM_SPARE_FORCE_GO.addr k 0) true
  else if !s.memRuns k then s
  else s.spareRow k a

end Sys2Proof.Machine
end

