-- ==== Sys2Proof/Machine/Image.lean ====
section
/-! DEFINITION. Machine/Image.lean: firmware images, the flash, the settings area and the boot ROM (18 R539 to R544, R553 to
R557). -/

namespace Sys2Proof.Machine

/-! ## The flash and the work area (18 *Code and memory*, *The flash*) -/

/-- Size of a bank. -/
def bankSize : Nat := 30 * 2 ^ 20

/-- Places in the firmware work area, from on-package address 0: running image, boot copy, preload. -/
def bootCopyAt : Nat := 0x02000000
def preloadAt : Nat := 0x04000000

/-- The first `n` bytes of a bank; an erased byte reads FFH (log entry 5). -/
def State.bankBytes (s : State) (b n : Nat) : List Byte :=
  let l := (Tbl.getD s.flash.banks b []).take n
  l ++ List.replicate (n - l.length) 0xFF

/-- A boot record written: into the copy that is not in force, with the next sequence number (R540). -/
def State.writeBootRec (s : State) (r : BootRec) : State :=
  let b := { r with seq := (s.flash.bootRec.seq + 1) % 2 ^ 32 }.bytes
  if s.flash.force = some 0 then { s with flash.copy1 := b } else { s with flash.copy0 := b }

/-- A flash operation failed: counted and recorded (`MGT` index 3). -/
def State.flashFailed (s : State) : State := (s.bump F.MGT_FLASH_STAT_ERRORS).berr .mgt 3

/-- `MGT_FLASH_STAT.BUSY`. -/
def State.flashBusy (s : State) : State := s.wr F.MGT_FLASH_STAT_BUSY (b2n (s.mg.ops != []))

/-- A fabric event of class `FIRMWARE` (R559): its code, the version and `MGT_BOOT_STAT`. -/
def State.fwEvent (s : State) (code : Nat) : State :=
  let stat := s.rd F.MGT_BOOT_STAT_BANK + s.rd F.MGT_BOOT_STAT_CAUSE * 2 ^ 4 + s.rd F.MGT_BOOT_STAT_RESULT * 2 ^ 8
    + s.rd F.MGT_BOOT_STAT_RECOVERY * 2 ^ 12 + s.rd F.MGT_BOOT_STAT_BOOTS * 2 ^ 32
  s.queueEvent { cls := 4, code := code, body := leBytes 1 code ++ leBytes 8 (s.rd F.MGT_FW_VER_VERSION) ++ leBytes 8 stat }

/-- A fault that firmware reports: `FCL_SVC_REQ` with its code, and a fabric event (R515, R559). -/
def State.fwReport (s : State) (code : Nat) : State := (fclSvcReq 4 code s).fwEvent code

/-! ## Images (R541) -/

/-- A field of an image header, little-endian. -/
def hdrAt (h : List Byte) (o n : Nat) : Nat := leNat ((h.drop o).take n)

/-- Length of an image's body. -/
def bodyLen (h : List Byte) : Nat := hdrAt h 20 4

/-- Bytes added modulo 2 to the key stream of a counter block from its byte `i` on. -/
def crypt (rev : Nat) (ctr : List Byte) : Nat → List Byte → List Byte
  | _, [] => []
  | i, b :: r => (b ^^^ Config.imageStream rev ctr i) :: crypt rev ctr (i + 1) r

/-- The counter block of an image body's first byte: its IV, and 2 (NIST SP 800-38D; log entry 6). -/
def bodyCtr (h : List Byte) : List Byte := (h.drop 32).take 12 ++ [0, 0, 0, 2]

/-- Does the header of an image allow it to be read: magic, version, length, stepping, and security version (R541)? -/
def State.headerOk (s : State) (h : List Byte) : Bool :=
  hdrAt h 0 4 == 0x71281F1F && hdrAt h 4 2 == 1 && decide (4096 ≤ bodyLen h) && decide (bodyLen h ≤ bankSize - 4096)
    && decide (hdrAt h 24 1 ≤ s.fuses.stepping) && decide (s.fuses.svnFloor ≤ hdrAt h 16 4)

/-- Does an image verify (R541)? -/
def State.imageOk (s : State) (h body : List Byte) : Bool :=
  s.headerOk h && Config.sha384 body == (h.drop 64).take 48
    && Config.ecdsaVerify Config.kramundKey (h.take 256) ((h.drop 256).take 96)
    && Config.imageTag s.fuses.fuseRev ((h.drop 32).take 12) body == (h.drop 44).take 16

/-- SPDM measurement 2 of the running image (18 *Images*). -/
def State.measurement2 (s : State) : List Byte := Config.sha384 (s.bytes 0 256)

/-- What the ROM reads of a bank: the boot copy or the preload where it is valid for the bank and free of poison, otherwise the
flash (R543). -/
def State.bankRead (s : State) (b n : Nat) : List Byte :=
  let running := s.rd F.MGT_BOOT_STAT_BANK == b
  if s.on F.MGT_BANK_STAT_BOOTCOPY_VALID && running && s.clean bootCopyAt n then s.bytes bootCopyAt n
  else if s.on F.MGT_BANK_STAT_PRELOAD_VALID && !running && s.memOk .mgt preloadAt n then s.bytes preloadAt n
  else s.bankBytes b n

/-- A bank read and verified (R541, R543): its header and body as stored. -/
def State.loadBank (s : State) (b : Nat) : Option (List Byte × List Byte) :=
  let h := s.bankRead b 4096
  if s.rd F.DEV_MEM_CAP_STACKS = 0 || !s.headerOk h then none
  else
    let body := (s.bankRead b (4096 + bodyLen h)).drop 4096
    if s.imageOk h body then some (h, body) else none

/-! ## The settings area (R553 to R556) -/

/-- Is a type one that the image knows? -/
def knownType (t : Nat) : Bool := decide (1 ≤ t) && decide (t ≤ 8)

/-- A record of a newer format than the image's (R556); types 2 to 4 have one format in every image (R555). -/
def Setting.newer (t : Nat) (r : Setting) : Bool := decide (typeVersion < r.version) && !(decide (2 ≤ t) && decide (t ≤ 4))

/-- The body of a settings record that the image uses: valid, of a format it knows. -/
def State.setting (s : State) (t : Nat) : Option (List Byte) :=
  match Tbl.get s.flash.settings t with
  | some r => if r.valid && !Setting.newer t r then some r.body else none
  | none => none

/-- The enrolled fabric-manager key (R468). -/
def State.fmKey (s : State) : Option (List Byte) :=
  match s.setting 4 with
  | some b => if b.isEmpty then none else some b
  | none => none

/-- The Subsystem ID of a function: two bytes a function in the `PCI_IDS` record, 0 without one (R63; 18 *Settings record types*; log entry 36). -/
def State.subsystem (s : State) (fn : Nat) : Nat :=
  match s.setting 5 with
  | some b => leNat ((b.drop (2 * fn)).take 2)
  | none => 0

/-- Configuration accesses of a host, in order (R63, R64, R77). -/
def cfgAccess (fn : Nat) (ops : List CfgOp) (s : State) : State :=
  if s.routerOnly || !s.linkUp fn then s
  else
    ops.foldl (fun s o => match o with
      | .read off => s.emit (.cfgReply fn (off / 4 * 4) (s.cfgRead fn (off / 4 * 4) (s.subsystem fn)))
      | .write off v => s.cfgWrite fn (off / 4 * 4) v) s

/-- The settings read at the start of an image (R553, R556). -/
def State.readSettings (s : State) : State :=
  let first := s.flash.image != s.measurement2.take 24
  let bad := Tbl.count s.flash.settings fun _ r => !r.valid
  let s := s.wr F.MGT_SETTINGS_STAT_BAD (min bad 255)
  let s := if bad = 0 then s else (s.berr .mgt 6).fwReport 4
  let newer := s.flash.settings.any fun e => e.2.valid && Setting.newer e.1 e.2
  let s := s.wr F.MGT_SETTINGS_STAT_NEWER_PRESENT (b2n newer)
  if !first then s.settingsShow
  else
    let old := s.flash.settings.filter fun e => e.2.valid && knownType e.1 && decide (e.2.version < typeVersion)
    let s := old.foldl (fun s e => s.writeSetting e.1 typeVersion (Config.migrate e.1 e.2.version e.2.body)) s
    let s := s.wr F.MGT_SETTINGS_STAT_MIGRATED (b2n (old != []))
    let s := if old = [] then s else s.fwEvent 8
    let s := if newer then s.berr .mgt 7 else s
    ({ s with flash.image := s.measurement2.take 24 } : State).settingsShow

/-! ## The boot ROM (R542, R543, R544, R557) -/

/-- Boot causes (`MGT_BOOT_STAT.CAUSE`). -/
def bcC : Nat := 0
def bcW : Nat := 1
def bcRequest : Nat := 2
def bcAlive : Nat := 3
def bcActivate : Nat := 4
def bcFault : Nat := 5

/-- Results (`MGT_BOOT_STAT.RESULT`). -/
def brNormal : Nat := 0
def brTrial : Nat := 1
def brFellBack : Nat := 2
def brTrialFailed : Nat := 3
def brStrap : Nat := 4
def brFailed : Nat := 5
def brNoMemory : Nat := 6

/-- ROM recovery mode is entered (R557). -/
def State.recoveryMode (s : State) (result : Nat) : State :=
  fclSvcReq 4 (if result = brNoMemory then 5 else 2)
    ((s.wr F.MGT_BOOT_STAT_RESULT result).wr F.MGT_BOOT_STAT_RECOVERY 1)

/-- A bank's image started: decrypted to address 0, kept as the boot copy; `failed`: another bank failed at this boot (R543, R544;
18 *Code and memory*). -/
def State.startImage (s : State) (b : Nat) (h body : List Byte) (result : Nat) (failed : Bool) : State :=
  let s := (s.setBytes 0 (h ++ crypt s.fuses.fuseRev (bodyCtr h) 0 body)).setBytes bootCopyAt (h ++ body)
  let moved := s.rd F.MGT_BOOT_STAT_BANK != b
  let s := s.wr F.MGT_BANK_STAT_BOOTCOPY_VALID 1
  let s := if moved then s.wr F.MGT_BANK_STAT_PRELOAD_VALID 0 else s
  let s := ((s.wr F.MGT_BOOT_STAT_BANK b).wr F.MGT_BOOT_STAT_RESULT result).wr F.MGT_BOOT_STAT_RECOVERY 0
  let s := (s.wr F.MGT_FW_VER_VERSION (hdrAt h 8 8)).wr F.MGT_FW_SVN_SVN (hdrAt h 16 4)
  let r := s.flash.bootRec
  let s := if b ≠ r.active && !(r.trialValid && r.trial = b) then s.writeBootRec { r with active := b } else s
  let s := ({ s with mg.bootAt := s.now } : State).readSettings
  if failed then s.fwReport 1 else s

/-- The banks tried in order (R543): `forced` by a strap; a trial failed, now or before; a bank failed verification. -/
def State.tryBanks (s : State) (forced trialFailed failed : Bool) : List Nat → State
  | [] => s.recoveryMode brFailed
  | b :: rest =>
    let r := s.flash.bootRec
    if r.bank b ≠ 3 ∧ r.bank b ≠ 2 then s.tryBanks forced trialFailed failed rest
    else
      let onTrial := r.trialValid && r.trial == b
      let s := if onTrial then s.writeBootRec { r with tried := true } else s
      let r := s.flash.bootRec
      match s.loadBank b with
      | some (h, body) =>
        let result := if onTrial then brTrial else if trialFailed then brTrialFailed
          else if b = r.active || forced then brNormal else brFellBack
        s.startImage b h body result failed
      | none =>
        let s := s.berr .mgt 4
        let r := r.setBank b 4
        let s := s.writeBootRec (if onTrial then { r with trialValid := false } else r)
        s.tryBanks forced (trialFailed || onTrial) true rest

/-- `rom_boot` (R543); `again`: the boot started by `RECOVER_BOOT` (R558). -/
def State.romBoot (s : State) (cause : Nat) (again : Bool) : State :=
  let s := (s.wr F.MGT_BOOT_STAT_CAUSE cause).bump F.MGT_BOOT_STAT_BOOTS
  let cold := cause = bcC || cause = bcW
  let mode := s.rd F.DEV_STRAPS_BOOT_MODE
  if !again && (mode = 3 || (cold && s.on F.DEV_STRAPS_RECOVERY)) then s.recoveryMode brStrap
  else if cold && s.rd F.DEV_MEM_CAP_STACKS = 0 then s.recoveryMode brNoMemory
  else
    let s := if cause = bcActivate then
        s.writeBootRec { s.flash.bootRec with trialValid := true, trial := s.rd F.MGT_ACT_CTL_BANK, tried := false } else s
    let r := s.flash.bootRec
    if mode = 1 || mode = 2 then s.tryBanks true false false [mode - 1]
    else if r.trialValid && !r.tried then s.tryBanks false false false [r.trial, r.active]
    else if r.trialValid then
      let s := (s.berr .mgt 5).writeBootRec { r.setBank r.trial 4 with trialValid := false }
      s.tryBanks false true false [r.active, 1 - r.active]
    else s.tryBanks false false false [r.active, 1 - r.active]

/-- Is an image running: power on, reset C or W over, and not in ROM recovery mode (R557)? It runs on in a chip-fatal state (R509). -/
def State.fwRuns (s : State) : Bool := !s.off && !s.inReset && !s.on F.MGT_BOOT_STAT_RECOVERY

/-- A trial image confirms itself (R544). -/
def trialConfirm (s : State) : State :=
  let r := s.flash.bootRec
  if !s.fwRuns || s.rd F.MGT_BOOT_STAT_RESULT ≠ brTrial || !r.trialValid || s.on F.FCL_ALIVE_STOPPED then s
  else
    let s := s.reach (s.mg.bootAt + ms 1000)
    (s.writeBootRec { r.setBank r.trial 3 with active := r.trial, trialValid := false }).fwEvent 7

end Sys2Proof.Machine
end

