-- ==== Sys2Proof/Machine/Time.lean ====
section
/-! DEFINITION. Machine/Time.lean: device time: its advance, the exchange with neighbours, the election of a master, lock and
holdover, and pulses (19 R577 to R588; 13 R444). -/

namespace Sys2Proof.Machine

/-- Time states (19 *Time states*). -/
def tsUnlocked : Nat := 0
def tsLocked : Nat := 1
def tsHoldover : Nat := 2
def tsMaster : Nat := 3

/-- `TIM_STAT.STATE`. -/
def State.timState (s : State) : Nat := s.rd F.TIM_STAT_STATE

/-- `EST_ERR_NS` now: it grows in `HOLDOVER` (R582). -/
def State.estErr (s : State) : Nat :=
  if s.timState = tsHoldover then min (2 ^ 32 - 1) (s.holdErr + s.rd F.TIM_HOLD_HOLD_PPB * (s.now - s.holdAt) / 1000000000)
  else s.rd F.TIM_OFFSET_EST_ERR_NS

/-- Time enters a state with an estimated error (R582). -/
def State.setTimState (s : State) (st est : Nat) : State :=
  let s := ((s.wr F.TIM_STAT_STATE st).wr F.TIM_OFFSET_EST_ERR_NS (min est (2 ^ 32 - 1))).wr F.SEC_STAT_TIME_LOCKED (b2n (st != tsUnlocked))
  { s with timeGood := 0 }

/-- Time enters `HOLDOVER` (R582). -/
def State.enterHoldover (s : State) : State :=
  let e := s.estErr
  let s := ((s.setTimState tsHoldover e).tally .tim 2).berr .tim 1
  { s with holdAt := s.now, holdErr := e }

/-- Device time stepped forward; it never goes back (R577, R580, R581). -/
def State.stepTime (s : State) (t : Nat) : State := if s.now < t then (s.reach t).bump F.TIM_CNT_STEPS_FWD else s

/-- What is known of the neighbour on a port. -/
def State.nb (s : State) (p : Nat) : TimeNb := Tbl.getD s.nbs p {}

/-- `LOSS_MS` in ns (0 acts as 1). -/
def State.lossNs (s : State) : Nat := ms (orWhenZero (s.rd F.TIM_CTL_LOSS_MS) 1)

/-- Is something that happened at a time within `LOSS_MS`? -/
def State.recent (s : State) (t : Option Nat) : Bool :=
  match t with
  | some t => decide (s.now < t + s.lossNs)
  | none => false

/-- Is the neighbour on a port eligible as a time source (R579)? -/
def State.timeEligible (s : State) (p : Nat) : Bool :=
  let n := s.nb p
  s.portState p == 3 && (n.state == tsLocked || n.state == tsMaster) && decide (n.steps < s.rd F.TIM_CTL_MAX_STEPS) && s.recent n.fresh

/-- Is this device a candidate for master (R579)? -/
def State.claims (s : State) : Bool := s.on F.TIM_CTL_PRIO && decide (s.resetAt + ms (s.rd F.TIM_CTL_CLAIM_WAIT_MS) ≤ s.now)

/-- Does one master beat another: priority and DID (R579)? -/
def beats (a b : Nat × Nat) : Bool := decide (b.1 < a.1) || (a.1 == b.1 && decide (a.2 < b.2))

/-- The ports whose neighbours are eligible. -/
def State.timeSources (s : State) : List Nat := (s.nbs.map Prod.fst).filter s.timeEligible

/-- The best master (R579). -/
def State.bestMaster (s : State) : Option (Nat × Nat) :=
  let own := if s.claims then some (s.rd F.TIM_CTL_PRIO, s.did) else none
  s.timeSources.foldl (fun b p =>
    let m := ((s.nb p).prio, (s.nb p).did)
    match b with
    | none => some m
    | some x => if beats m x then some m else b) own

/-- The parent toward a master: fewest steps, lowest port (R579). -/
def State.parentFor (s : State) (m : Nat × Nat) : Option Nat :=
  (s.timeSources.filter fun p => ((s.nb p).prio, (s.nb p).did) == m).foldl (fun b p =>
    match b with
    | none => some p
    | some q => if (s.nb p).steps < (s.nb q).steps || ((s.nb p).steps == (s.nb q).steps && decide (p < q)) then some p else b) none

/-- The election and what follows from it (R579, R580, R582). -/
def State.elect (s : State) : State :=
  let st := s.timState
  match s.bestMaster with
  | none =>
    let s := s.wr F.TIM_STAT_PARENT_VALID 0
    if st = tsLocked then s.enterHoldover else s
  | some m =>
    if s.claims && m == (s.rd F.TIM_CTL_PRIO, s.did) then
      if st = tsMaster then s
      else
        let top := s.nbs.foldl (fun t e => if s.recent e.2.offAt then max t ((s.now : Int) + e.2.offset).toNat else t) s.now
        let s := (s.stepTime top).setTimState tsMaster 0
        let s := ((((s.wr F.TIM_STAT_PARENT_VALID 0).wr F.TIM_STAT_STEPS 0).wr F.TIM_STAT_M_PRIO m.1).wr F.TIM_STAT_M_DID m.2)
        { s with slew := 0 }
    else
      match s.parentFor m with
      | none => s
      | some p =>
        let n := s.nb p
        let moved := !s.on F.TIM_STAT_PARENT_VALID || s.rd F.TIM_STAT_PARENT_PORT != p
        let s := ((((((s.wr F.TIM_STAT_PARENT_VALID 1).wr F.TIM_STAT_PARENT_PORT p).wr F.TIM_STAT_STEPS (n.steps + 1)).wr
          F.TIM_STAT_M_PRIO m.1).wr F.TIM_STAT_M_DID m.2).wr F.TIM_STAT_M_SEQ n.seq)
        let s := if moved then { s with timeGood := 0 } else s
        if st = tsMaster then s.enterHoldover else s

/-- A `TIME_INFO` block received on a port (R578, R579). -/
def State.onTimeInfo (s : State) (p prio did steps st : Nat) (ppsRef : Bool) (seq est : Nat) : State :=
  let n := s.nb p
  let ahead := decide (1 ≤ wrapSub 16 seq n.seq) && decide (wrapSub 16 seq n.seq < 2 ^ 15)
  let fresh := if !Tbl.has s.nbs p || n.prio ≠ prio || n.did ≠ did || ahead then some s.now else n.fresh
  ({ s with nbs := Tbl.set s.nbs p { n with prio := prio, did := did, steps := steps, state := st, ppsRef := ppsRef, seq := seq, estErr := est, fresh := fresh } } : State).elect

/-- An offset measured on a port: the neighbour's time minus this device's (R581, R582). -/
def State.onOffset (s : State) (p : Nat) (off : Int) : State :=
  let s := { s with nbs := Tbl.set s.nbs p { s.nb p with offset := off, offAt := some s.now } }
  let st := s.timState
  if !s.on F.TIM_STAT_PARENT_VALID || s.rd F.TIM_STAT_PARENT_PORT ≠ p || st = tsMaster then s
  else
    let s := s.wr F.TIM_OFFSET_OFFSET_NS (ofSigned 32 off)
    if st ≠ tsUnlocked && s.rd F.TIM_GUARD_MAX_NS < off.natAbs then
      let s := { (s.bump F.TIM_CNT_GUARD_REFUSED).berr .tim 2 with timeGood := 0 }
      if st = tsLocked then s.enterHoldover else s
    else
      let s := if st = tsUnlocked && decide (0 < off) then { s.stepTime (s.now + off.natAbs) with slew := 0 }
        else { s with slew := off * (2 ^ 32 : Nat) }
      let s := s.tally .tim 1
      let s := { s with freq := ((s.freeVal % 200001 : Nat) : Int) - 100000 }.drawn
      let good := if off.natAbs ≤ s.rd F.TIM_SERVO_LOCK_NS then s.timeGood + 1 else 0
      let s := { s with timeGood := good }
      if (st = tsUnlocked || st = tsHoldover) && decide (orWhenZero (s.rd F.TIM_SERVO_LOCK_COUNT) 1 ≤ good) then s.setTimState tsLocked ((s.nb p).estErr + off.natAbs)
      else s

/-- `TIME` and `TIME_INFO` sent on a port, in one null flit (R444, R578, R583). -/
def State.sendTime (s : State) (p : Nat) : State :=
  if s.portState p ≠ 3 then s
  else
    let q := s.port p
    let num := (q.num + 1) % 256
    let (echo, valid, resid) := match q.peerNum with
      | some (n, at_) => (n, true, s.now - at_)
      | none => (0, false, 0)
    let s := s.modPort p fun q => { q with num := num, sentAt := ((num, s.now) :: q.sentAt.filter fun e => e.1 != num).take 256, timeAt := s.now }
    let master := s.timState = tsMaster
    let s := if master && decide (s.seqAt + us (max 1 (s.rd F.LNK_TIME_CTL_PERIOD_US p)) ≤ s.now) then { s.roll F.TIM_STAT_M_SEQ with seqAt := s.now } else s
    let pps := if master then s.ppsRef && s.on F.TIM_CTL_PPS_IN_EN else (s.nb (s.rd F.TIM_STAT_PARENT_PORT)).ppsRef
    s.sendNull p [.time num echo valid resid s.now, .timeInfo (s.rd F.TIM_STAT_M_PRIO) (s.rd F.TIM_STAT_M_DID) (s.rd F.TIM_STAT_STEPS) s.timState pps (s.rd F.TIM_STAT_M_SEQ) s.estErr]

/-- The claim wait passes (R579). -/
def claimWaitExpire (s : State) : State := (s.reach (s.resetAt + ms (s.rd F.TIM_CTL_CLAIM_WAIT_MS))).elect

/-- A neighbour's master stops advancing for `LOSS_MS` (R579). -/
def masterLoss (p : Nat) (s : State) : State :=
  match (s.nb p).fresh with
  | none => s
  | some t =>
    let s := s.reach (t + s.lossNs)
    ({ s with nbs := Tbl.set s.nbs p { s.nb p with fresh := none } } : State).elect

/-- The estimated error passes its limit in `HOLDOVER` (R582). -/
def holdoverExpire (s : State) : State :=
  let ppb := s.rd F.TIM_HOLD_HOLD_PPB
  let lim := s.rd F.TIM_HOLD_HOLD_ERR_NS
  if s.timState ≠ tsHoldover || (ppb = 0 && s.holdErr ≤ lim) then s
  else
    let s := s.reach (s.holdAt + (lim - s.holdErr) * 1000000000 / max ppb 1)
    (s.setTimState tsUnlocked s.estErr).berr .tim 0

/-- A rising edge of `TIME_PPS_IN` (R584). -/
def ppsInEdge (s : State) : State :=
  let s := (s.wr F.TIM_PPS_IN_TIME s.now).tally .tim 3
  if s.timState ≠ tsMaster || !s.on F.TIM_CTL_PPS_IN_EN then s
  else
    let r := s.now % 1000000000
    let off : Int := if r < 500000000 then -(r : Int) else 1000000000 - (r : Int)
    let s := { s with slew := off * (2 ^ 32 : Nat), ppsRef := true }
    if s.rd F.TIM_SERVO_LOCK_NS < off.natAbs then s.berr .tim 4 else s

/-- No edge of `TIME_PPS_IN` for 2 s (R584). -/
def ppsMissing (s : State) : State :=
  if !s.on F.TIM_CTL_PPS_IN_EN then s
  else
    let s := s.reach (s.rd F.TIM_PPS_IN_TIME + 2000000000)
    ({ s with ppsRef := false, slew := 0 } : State).berr .tim 3

/-- Device time crosses a whole second (R584). -/
def ppsOutSecond (s : State) : State :=
  if !s.on F.TIM_CTL_PPS_OUT_EN || s.timState = tsUnlocked then s
  else
    let s := s.reach ((s.now / 1000000000 + 1) * 1000000000)
    { s.emit (.pin .ppsOut true) with ppsLowAt := some (s.now + us (orWhenZero (s.rd F.TIM_PPS_CTL_OUT_WIDTH_US) 1)) }

/-- A write of `TIM_SET` (R53, R585). -/
def timSet (m v : Nat) (s : State) : State :=
  let off := F.TIM_SET_TIME.addr 0 0
  if !s.mayWrite m then s.refuse m Block.tim.page off true
  else if s.timState ≠ tsMaster || v ≤ s.now then s.refuse m Block.tim.page off true
  else s.stepTime v

/-- One cycle of `REFCLK_AON`: 40 ns plus the servo's correction, a frequency correction of at most 100 ppm and a slew of at most 1,000 ppm
(R577, R581, R584). -/
def State.tick (s : State) : State :=
  let base : Nat := 40 * 2 ^ 32
  let ppm := if s.timState = tsUnlocked then 1000 else min 1000 (orWhenZero (s.rd F.TIM_SERVO_SLEW_PPM) 1)
  let lim : Int := (base * ppm / 1000000 : Nat)
  let phase := max (-lim) (min lim s.slew)
  let rate := max (-100000) (min 100000 s.freq)
  let adv := ((base : Int) + base * rate / 1000000000 + phase).toNat
  let t := s.nowFrac + adv
  let s := { s with now := s.now + t / 2 ^ 32, nowFrac := t % 2 ^ 32, slew := s.slew - phase }
  match s.ppsLowAt with
  | some t => if t ≤ s.now then { s.emit (.pin .ppsOut false) with ppsLowAt := none } else s
  | none => s

end Sys2Proof.Machine
end

