-- ==== Sys2Proof/Machine/Boot.lean ====
section
/-! DEFINITION. Machine/Boot.lean: resets C, W and M, the memory plan, and what firmware does before services are up (01 R18 to R24;
16 R501; 18 R552, R557; 19 R572 to R576; 20 R596 to R602). -/

namespace Sys2Proof.Machine

/-! ## The memory plan (01 R18 to R24; 18 R554) -/

/-- Smallest and largest size of regions 1 to 7, in 64 MiB units (01 *Memory plan regions*). -/
def planLimits : List (Nat × Nat) := [(4, 4), (0, 64), (2, 16), (4, 16), (16, 128), (16, 256), (8, 64)]

/-- The default plan for an installed capacity: regions 1 to 7 (R18). -/
def planDefault (gib : Nat) : List Nat :=
  if 48 ≤ gib then [4, 16, 4, 16, 128, 256, 32] else if 24 ≤ gib then [4, 8, 4, 16, 64, 128, 16] else [4, 4, 4, 8, 32, 64, 8]

/-- The sizes that a plan record gives regions 1 to 7, where it has the form of one (R554). -/
def planRecord (b : List Byte) : Option (List Nat) :=
  if b.length = 16 && leNat (b.drop 14) = 0 then some ((List.range 7).map fun i => leNat ((b.drop (2 * i)).take 2)) else none

/-- Does a region of the plan keep to its limits; regions 5 and 6 are not looked at in router-only operation (R20)? -/
def planSized (router : Bool) : Nat → List Nat → List (Nat × Nat) → Bool
  | n, v :: vs, (lo, hi) :: r => ((router && (n == 5 || n == 6)) || (decide (lo ≤ v) && decide (v ≤ hi))) && planSized router (n + 1) vs r
  | _, _, _ => true

/-- Regions 5 and 6 given size 0 in router-only operation (R20). -/
def planRouter (router : Bool) (l : List Nat) : List Nat :=
  if router then l.take 4 ++ [0, 0] ++ l.drop 6 else l

/-- The sizes of a plan record, if it is valid for a capacity in 64 MiB units (R20, R554). -/
def planValid (router : Bool) (cap : Nat) (b : List Byte) : Option (List Nat) :=
  match planRecord b with
  | none => none
  | some l => if planSized router 1 l planLimits && decide ((planRouter router l).sum ≤ cap) then some (planRouter router l) else none

/-- Bases of consecutive regions. -/
def planBases : Nat → List Nat → List (Nat × Nat)
  | _, [] => []
  | b, v :: r => (b, v) :: planBases (b + v) r

/-- The plan built at reset C and W: the record, or the default with an event where the record is not valid (R18, R20, R554). -/
def State.buildPlan (s : State) : State :=
  let cap := s.rd F.DEV_MEM_CAP_CAP_GIB * 16
  let dflt := planRouter s.routerOnly (planDefault (s.rd F.DEV_MEM_CAP_CAP_GIB))
  let (sizes, lost) : List Nat × Bool := match s.setting 1 with
    | none => (dflt, false)
    | some b => match planValid s.routerOnly cap b with
      | some l => (l, false)
      | none => (dflt, true)
  let all := sizes ++ [if s.routerOnly then 0 else cap - sizes.sum]
  let s := (List.zip (List.range 8) (planBases 0 all)).foldl (fun s e =>
    (s.wr F.DEV_MEM_PLANn_BASE e.2.1 0 (e.1 + 1)).wr F.DEV_MEM_PLANn_SIZE e.2.2 0 (e.1 + 1)) s
  if lost then s.fwEvent 4 else s

/-! ## Defaults and the order of enabling (16 R501; 19 R576) -/

/-- The classification that firmware writes in a page (R501, R587): window, threshold and reactions. -/
def pageDefaults (p : Nat) : Nat × Nat × Nat :=
  let long := (0x989680, 4)
  let short := (0xF4240, 16)
  match pageBlock p with
  | some (.lnk, _) => (long.1, long.2, 2 * 4 ^ 2 + 2 * 4 ^ 3 + 2 * 4 ^ 10)
  | some (.lan, _) => (long.1, long.2, 1 + 4 + 4 ^ 2 + 4 ^ 3 + 2 * 4 ^ 4)
  | some (.hif, _) => (short.1, short.2, 2 * 4 ^ 12)
  | some (.xbr, _) => (short.1, short.2, 2 * 4 + 2 * 4 ^ 3)
  | some (.sec, _) => (short.1, short.2, 4 ^ 2)
  | some (.mem, _) => (short.1, short.2, 4 + 4 ^ 3)
  | some (.crp, _) => (short.1, short.2, 3 * 4 ^ 3)
  | _ => (short.1, short.2, 0)

/-- The classification of a page written (R501). -/
def State.classify (s : State) (p : Nat) : State :=
  let d := pageDefaults p
  (((s.wr F.ERR_WINDOW_LENGTH d.1 p).wr F.ERR_WINDOW_THRESHOLD d.2.1 p).wr F.ERR_CLASS_REACT d.2.2 p).wr F.ERR_MASK_MASK 0 p

/-- The pages in the order in which firmware brings them up (R576); the pages that are never enabled are classified first. -/
def bringUpOrder : List Nat :=
  [Block.dev, .fcl, .crp, .tim, .mgt].flatMap Block.pageList
    ++ [Block.mem, .sec, .xbr, .lan, .lnk, .pwy, .rtb, .tmg, .col, .mtc, .atm, .cmd, .xlt, .txe, .rxe, .pmu, .hif].flatMap Block.pageList

/-- Firmware's first work after reset C or W: plan, identifier and event destination from the settings, then every page (18 *Settings
record types*; R576). -/
def State.firstStart (s : State) : State :=
  let s := s.buildPlan
  let s := match s.setting 6 with
    | some b => s.wr F.DEV_DID_DID (leNat (b.take 4))
    | none => s
  let s := match s.setting 8 with
    | some b =>
      let v := leNat (b.take 8)
      ((s.wr F.MGT_EVT_DEST_DID v).wr F.MGT_EVT_DEST_EN (bitsOf v 31 1)).wr F.MGT_EVT_DEST_IBI_EN (bitsOf v 32 1)
    | none => s
  bringUpOrder.foldl (fun s p => s.later (.bringUp p)) s

/-- A page enabled by firmware; `HIF` looks at its slot pins (R576, R596), and is left alone in router-only operation. -/
def State.enablePage (s : State) (p : Nat) : State :=
  match pageBlock p with
  | none => s
  | some (b, i) =>
    if b.unfenceable then s
    else if b = .hif then
      if s.routerOnly then s else (s.wr F.BLK_CTL_EN 1 p).slotFromPins i
    else s.wr F.BLK_CTL_EN 1 p

/-- Has the plan been built since the last reset C or W? -/
def State.planned (s : State) : Bool := s.on F.DEV_MEM_PLANn_SIZE 0 1

/-- The ROM boots, and a started image does its first work if none has since reset C or W (R543, R576); in recovery mode the host ports serve
configuration space and DOE (R557). -/
def State.boot (s : State) (cause : Nat) (again : Bool) : State :=
  let s := s.romBoot cause again
  if s.planned then s
  else if s.on F.MGT_BOOT_STAT_RECOVERY then
    if s.routerOnly then s else (List.range 4).foldl (fun s fn => s.slotFromPins fn) s
  else s.firstStart

/-! ## Resets C and W (R573, R575) -/

/-- What every reset C and W keeps: fuses, identity, flash, the levels of the slot pins, and the model's own fields. -/
def State.kept (s : State) : State :=
  { pending := s.pending, out := s.out, fresh := s.fresh, fuses := s.fuses, flash := s.flash, spareMap := s.spareSaved, spareSaved := s.spareSaved,
    hostFns := s.hostFns.map fun e => (e.1, { perst := e.2.perst, pwrFlt := e.2.pwrFlt, present := e.2.present }),
    nextRead := s.nextRead, nextWalk := s.nextWalk, nextOp := s.nextOp, nextGet := s.nextGet, nextAtomic := s.nextAtomic, nextCopy := s.nextCopy }

/-- Reset C: `VDD_AON` rises past power-good (R573, R596). -/
def resetC (s : State) : State :=
  let s := s.kept
  [Out.pin .alive false, .pin .svcReqN true, .pin .fatalN true, .pin .ppsOut false, .pin (.pwrEn 0) false, .pin (.pwrEn 1) false,
    .pin (.pwrEn 2) false, .pin (.pwrEn 3) false].foldl (fun s o => s.emit o) s

/-- Reset W (R572, R573, R575): the always-on domain runs on; everything else ends. -/
def State.warmReset (s : State) (pin : Bool) : State :=
  let r := s.clearW
  let w := { s.kept with
    regs := r.regs, now := s.now, nowFrac := s.nowFrac, freq := s.freq, resetAt := s.now, aliveAt := s.now, rowCounts := s.rowCounts }
  let w := (List.range 4).foldl (fun w fn => (w.wr F.HIF_SLOT_STAT_PWR_EN (s.rd F.HIF_SLOT_STAT_PWR_EN fn) fn).modHf fn fun h =>
    { h with inds := some (s.pwrInd fn, s.attnInd fn) }) w
  let w := (w.wr F.CRP_RST_STAT_LAST (if pin then 1 else 2)).bump F.CRP_RST_STAT_WARM_COUNT
  let w := if 3 ≤ s.rd F.CRP_PWR_STAT_STATE then w.wr F.CRP_PWR_STAT_LAST_REFUSAL 4 else w
  let w := if s.halted then w.emit (.pin .fatalN true) else w
  if s.ppsLowAt.isSome then w.emit (.pin .ppsOut false) else w

/-- Power is lost (R601): on-package memory and everything else that is not kept. -/
def vddAonLoss (s : State) : State := { s.kept with off := true }

/-- `HPn_PWR_EN` held low in router-only operation (R25). -/
def State.unpowerPort (s : State) (fn : Nat) : State :=
  if s.on F.HIF_SLOT_STAT_PWR_EN fn then (s.wr F.HIF_SLOT_STAT_PWR_EN 0 fn).emit (.pin (.pwrEn fn) false) else s

/-- `CHIP_RST_N` rises, or a written reset W has begun: straps, clocks, voltage, memory, and the boot (R18, R514, R573, R597, R599). Bit
k of `trained` says that stack k trains; the device runs on the one that does where only one does, and the other's controller records index 9. -/
def chipRstRelease (bootMode : Nat) (recovery routerOnly : Bool) (trained : Nat) (s : State) : State :=
  if !s.inReset || s.off then s
  else
    let s := { s with inReset := false, resetAt := s.now, aliveAt := s.now }
    let s := ((s.wr F.DEV_STRAPS_BOOT_MODE bootMode).wr F.DEV_STRAPS_RECOVERY (b2n recovery)).wr F.DEV_STRAPS_ROUTER_ONLY (b2n routerOnly)
    let s := s.wr F.CRP_CLK_STAT_LOCKED (if routerOnly then 2 ^ 48 - 1 - 15 * 2 ^ 24 else 2 ^ 48 - 1)
    let s := (s.wr F.CRP_AVS_VOUT_MV s.fuses.avsMv).emit (.avs s.fuses.avsMv)
    let n := b2n (bitOf trained 0) + b2n (bitOf trained 1)
    let s := { s with solo := b2n (!bitOf trained 0 && bitOf trained 1) }
    let s := (s.wr F.DEV_MEM_CAP_STACKS n).wr F.DEV_MEM_CAP_CAP_GIB (n * if s.fuses.c48 then 24 else 12)
    let s := if bitOf trained 0 then s else s.berr .mem 9 {} 0
    let s := if bitOf trained 1 then s else s.berr .mem 9 {} 1
    let s := (s.wr F.MGT_FLASH_STAT_PRESENT 1).wr F.MGT_FLASH_STAT_JEDEC_ID s.freeVal
    let s := s.drawn.emit (.pin .alive true)
    let s := s.boot (if s.rd F.CRP_RST_STAT_LAST = 0 then bcC else bcW) false
    if s.routerOnly then (List.range 4).foldl (fun s fn => s.unpowerPort fn) s else (List.range 4).foldl (fun s fn => s.holdEndpoint fn) s

/-! ## Reset M (18 *Activation*; R572, R573) -/

/-- Reset M, performed: the management core restarts, everything else keeps its state (R517, R542, R552, R573). -/
def State.doResetM (s : State) (cause : Nat) (again : Bool) : State :=
  let s := { s with secCmd := none, mg.staging := none, mg.ops := [], mg.queue := [] }
  let s := (s.clearM.wr F.CRP_RST_STAT_LAST cause).bump F.CRP_RST_STAT_M_COUNT
  let s := s.aliveRestart.semLose 4
  let faulty := cause = 4 || cause = 6
  let recent := s.mg.faultResets.filter fun t => decide (s.now < t + ms 3600000)
  let s := if faulty then { s with mg.faultResets := recent ++ [s.now] } else s
  let s := s.boot (cause - 1) again
  let s := if cause = 5 then s.wr F.MGT_ACT_CTL_ARMED 0 else s
  if faulty && s.mg.faultResets.length = 4 && s.fwRuns then ({ s with mg.faultResets := [] } : State).fwReport 6 else s

/-- Reset M triggered: in a low-power state or a transition the device first reaches `FULL` (R572). -/
def State.startResetM (s : State) (cause : Nat) : State :=
  if s.inReset || s.off then s
  else if s.rd F.CRP_PWR_STAT_STATE = 0 then s.doResetM cause false
  else ({ s with pw.waitM := some cause } : State).later (.wake 7)

/-- Device time reaches the armed activation time (R551). -/
def activationTime (s : State) : State :=
  if s.inReset || s.off || !s.on F.MGT_ACT_CTL_ARMED then s
  else (s.reach (s.rd F.MGT_ACT_TIME_TIME)).startResetM 5

end Sys2Proof.Machine
end

