-- ==== Sys2Proof/Machine/Security.lean ====
section
/-! DEFINITION. Machine/Security.lean: key commands, rollover, loss of keys, the debug lock, and SPDM (15 R466 to R494). -/

namespace Sys2Proof.Machine

/-! ## Results of key commands (15 *Key command results*) -/

def krOk : Nat := 0x00
def krBusy : Nat := 0x01
def krBadArg : Nat := 0x02
def krNoSlot : Nat := 0x03
def krSlotInUse : Nat := 0x04
def krSlotBound : Nat := 0x05
def krTargetUnverified : Nat := 0x06
def krBlobInvalid : Nat := 0x07
def krLeaderUnverified : Nat := 0x08
def krEpochOrder : Nat := 0x09
def krNotLocked : Nat := 0x0A
def krOpenForbidden : Nat := 0x0B
def krDebugUnlocked : Nat := 0x0C
def krTnumInUse : Nat := 0x0D
def krNoNext : Nat := 0x0E

/-! ## Events of tenancies (R492) -/

/-- An event to each member of a slot: type and subtype. -/
def State.tenancyEvent (s : State) (n : Nat) (t : TenSlot) (type subtype : Nat) : State :=
  (List.range 4).foldl (fun s fn =>
    if bitOf t.members fn then s.asyncEvent fn { type := type, subtype := subtype, value := n, data := t.tnum } else s) s

/-- A slot enters `KEY_LOST` (R490, R494; 19 R567): its keys are gone; its members are told the cause. -/
def State.loseKeys (s : State) (n cause : Nat) : State :=
  match Tbl.get s.slots n with
  | none => s
  | some t =>
    let gone := { t with keyLost := true, curKey := 0, nextValid := false, nextKey := 0, nextEpoch := 0, rollAt := 0, rolled := false }
    let s := { s with slots := Tbl.set s.slots n gone }
    if t.keyLost then s else s.tenancyEvent n gone 0x21 cause

/-- Every slot enters `KEY_LOST`. -/
def State.loseAllKeys (s : State) (cause : Nat) : State := s.slots.foldl (fun s e => s.loseKeys e.1 cause) s

/-- What is bound to a slot (R478; `SEC_TBOUND`). -/
def State.bound (s : State) (n : Nat) : Nat :=
  ((Tbl.get s.slots n).map fun t => popCount t.members 4).getD 0
    + Tbl.count s.wqs (fun _ q => q.slot == n) + Tbl.count s.regions (fun _ r => r.slot == n) + Tbl.count s.lists (fun _ l => l.slot == n)
    + ((List.range 1024).filter fun i => s.on F.RXE_CREG_ATTRi_VALID 0 i && s.rd F.RXE_CREG_ATTRi_TENANCY 0 i == n).length
    + Tbl.count s.convoys fun _ c => c.cfg.slot == n

/-! ## Key commands (R473 to R478) -/

/-- What a key command takes from the argument registers when it is written (R473). -/
def State.keyArgs (s : State) (op slot : Nat) (next : Bool) : KeyCmd :=
  { op := op, slot := slot % 4096, next := next, tnum := s.rd F.SEC_CMD_ARG_TNUM, epoch := s.rd F.SEC_CMD_ARG_EPOCH,
    mode := s.rd F.SEC_CMD_ARG_MODE, requireIde := s.on F.SEC_CMD_ARG_REQUIRE_IDE, target := s.rd F.SEC_CMD_ARG_TARGET_DID,
    time := s.rd F.SEC_CMD_TIME_TIME, blob := s.secBlob }

/-- A key command written: refused while another is in progress (R473). -/
def keyCommand (op m slot : Nat) (next : Bool) (s : State) : State :=
  if !s.mayWrite m then s.refuse m Block.sec.page (F.SEC_CMD_OP.addr 0 0) true
  else if s.secCmd.isSome then s.berr .sec 4 { access := accInternal, addr := krBusy }
  else ({ s with secCmd := some (s.keyArgs op slot next) } : State).wr F.SEC_CMD_STAT_BUSY 1

def secGenerate (m slot : Nat) (s : State) : State := keyCommand 1 m slot false s
def secWrap (m slot : Nat) (next : Bool) (s : State) : State := keyCommand 2 m slot next s
def secInstall (m slot : Nat) (s : State) : State := keyCommand 3 m slot false s
def secRoll (m slot : Nat) (s : State) : State := keyCommand 4 m slot false s
def secRetire (m slot : Nat) (s : State) : State := keyCommand 5 m slot false s
def secCreateOpen (m slot : Nat) (s : State) : State := keyCommand 6 m slot false s

/-- Does another slot hold a tenancy number (R471)? -/
def State.tnumUsed (s : State) (n tnum : Nat) : Bool := s.slots.any fun e => e.1 != n && e.2.tnum == tnum

/-- The epoch after another. -/
def nextEpoch (e : Nat) : Nat := (e + 1) % 16384

/-- A next key held by a slot (R482, R492). -/
def State.holdNext (s : State) (n : Nat) (t : TenSlot) (epoch key : Nat) : State :=
  let t := { t with nextValid := true, nextEpoch := epoch, nextKey := key }
  ({ s with slots := Tbl.set s.slots n t } : State).tenancyEvent n t 0x22 epoch

/-- The owner key in a blob. -/
def ownerIn (b : List Byte) : List Byte := (b.drop 120).take 49

/-- `GENERATE` (R473, R477, R482); the key is a free value. -/
def State.doGenerate (s : State) (c : KeyCmd) : State × Nat :=
  let key := s.freeVal
  if s.on F.SEC_STAT_DEBUG_UNLOCKED then (s, krDebugUnlocked)
  else if 1 < c.mode || c.tnum = 0xFFFF then (s, krBadArg)
  else
    match Tbl.get s.slots c.slot with
    | none =>
      if s.tnumUsed c.slot c.tnum then (s, krTnumInUse)
      else
        let t : TenSlot :=
          { mode := c.mode, requireIde := c.requireIde, owner := ownerIn c.blob, tnum := c.tnum, curEpoch := c.epoch, curKey := key }
        (({ s with slots := Tbl.set s.slots c.slot t } : State).drawn, krOk)
    | some t =>
      if t.tnum ≠ c.tnum then (s, krSlotInUse)
      else if t.keyLost || t.mode = 2 then (s, krNoSlot)
      else if t.rolled || c.epoch ≠ nextEpoch t.curEpoch then (s, krEpochOrder)
      else ((s.holdNext c.slot t c.epoch key).drawn, krOk)

/-- The blob of a key for a target (R474, R475); the ephemeral key is a free value. -/
def State.blobOf (s : State) (t : TenSlot) (epoch key target : Nat) : List Byte :=
  let head := leBytes 2 1 ++ leBytes 1 t.mode ++ leBytes 1 (b2n t.requireIde) ++ leBytes 2 t.tnum ++ leBytes 2 epoch ++ leBytes 8 target
    ++ leBytes 8 s.fuses.serial ++ leBytes 4 s.did ++ leBytes 4 0 ++ leBytes 49 s.freeVal ++ leBytes 7 0
  let owner := (t.owner ++ List.replicate 49 0).take 49 ++ leBytes 7 0
  let sealed := (Config.wrapSeal target (head ++ owner) key ++ List.replicate 48 0).take 48
  let body := head ++ sealed.take 32 ++ owner ++ sealed.drop 32
  body ++ (Config.ecdsaSign (Config.deriveAttest s.fuses.seed) body ++ List.replicate 96 0).take 96

/-- `WRAP` (R473, R474, R477): `peer` is the serial number that the SPDM exchange with the target has verified. -/
def State.doWrap (s : State) (c : KeyCmd) (peer : Option Nat) : State × Nat :=
  if !s.timeLocked then (s, krNotLocked)
  else if c.target = s.did then (s, krBadArg)
  else
    match s.activeSlot c.slot, peer with
    | none, _ => (s, krNoSlot)
    | some t, p =>
      if t.mode = 2 || (c.next && !t.nextValid) then (s, krNoSlot)
      else
        match p with
        | none => (s, krTargetUnverified)
        | some target =>
          let b := if c.next then s.blobOf t t.nextEpoch t.nextKey target else s.blobOf t t.curEpoch t.curKey target
          (({ s with secBlob := b } : State).drawn, krOk)

/-- Is a blob laid out as R475 gives: version, mode, and reserved bytes 0? -/
def blobFormed (b : List Byte) : Bool :=
  let w (o n : Nat) : Nat := leNat ((b.drop o).take n)
  w 0 2 == 1 && decide (w 2 1 ≤ 1) && decide (w 3 1 ≤ 1) && w 4 2 != 0xFFFF && decide (w 6 2 < 16384) && decide (w 24 4 < 2 ^ 18)
    && w 28 4 == 0 && w 81 7 == 0 && w 169 7 == 0

/-- `INSTALL` (R476, R477, R482): `peer` is the serial number that the SPDM exchange with the leader has verified. -/
def State.doInstall (s : State) (c : KeyCmd) (peer : Option Nat) : State × Nat :=
  let b := c.blob
  let w (o n : Nat) : Nat := leNat ((b.drop o).take n)
  let epoch := w 6 2
  if !s.timeLocked then (s, krNotLocked)
  else if s.on F.SEC_STAT_DEBUG_UNLOCKED then (s, krDebugUnlocked)
  else if !blobFormed b || w 8 8 ≠ s.fuses.serial then (s, krBlobInvalid)
  else if peer ≠ some (w 16 8) then (s, krLeaderUnverified)
  else if !Config.ecdsaVerify (Config.attestKey (w 16 8)) (b.take 192) ((b.drop 192).take 96) then (s, krBlobInvalid)
  else
    match Config.wrapOpen (Config.deriveWrap s.fuses.seed) b with
    | none => (s, krBlobInvalid)
    | some key =>
      match Tbl.get s.slots c.slot with
      | none =>
        if s.tnumUsed c.slot (w 4 2) then (s, krTnumInUse)
        else
          let t : TenSlot :=
            { mode := w 2 1, requireIde := w 3 1 == 1, owner := ownerIn b, tnum := w 4 2, curEpoch := epoch, curKey := key }
          ({ s with slots := Tbl.set s.slots c.slot t }, krOk)
      | some t =>
        if t.tnum ≠ w 4 2 || t.owner ≠ ownerIn b then (s, krSlotInUse)
        else if epoch = t.curEpoch then
          ({ s with slots := Tbl.set s.slots c.slot (if t.keyLost then { t with keyLost := false, curKey := key } else t) }, krOk)
        else if epoch = nextEpoch t.curEpoch && !t.rolled then (s.holdNext c.slot t epoch key, krOk)
        else (s, krEpochOrder)

/-- `ROLL` (R482); between the roll time and the erasure it finds no next key (log entry 56). -/
def State.doRoll (s : State) (c : KeyCmd) : State × Nat :=
  match s.activeSlot c.slot with
  | none => (s, krNoSlot)
  | some t =>
    if !t.nextValid || t.rolled then (s, krNoNext)
    else if c.time < s.now + us 100 then (s, krBadArg)
    else ({ s with slots := Tbl.set s.slots c.slot { t with rollAt := c.time } }, krOk)

/-- `RETIRE` (R473, R478). -/
def State.doRetire (s : State) (c : KeyCmd) : State × Nat :=
  if !Tbl.has s.slots c.slot then (s, krNoSlot)
  else if s.bound c.slot ≠ 0 then (s, krSlotBound)
  else ({ s with slots := Tbl.del s.slots c.slot }, krOk)

/-- `CREATE_OPEN` (R470, R473, R477). -/
def State.doCreateOpen (s : State) (c : KeyCmd) : State × Nat :=
  if s.on F.SEC_STAT_DEBUG_UNLOCKED then (s, krDebugUnlocked)
  else if !s.fuses.openAllowed then (s, krOpenForbidden)
  else if c.tnum = 0xFFFF then (s, krBadArg)
  else if Tbl.has s.slots c.slot then (s, krSlotInUse)
  else if s.tnumUsed c.slot c.tnum then (s, krTnumInUse)
  else
    let t : TenSlot := { mode := 2, requireIde := false, owner := ownerIn c.blob, tnum := c.tnum, curEpoch := 0, curKey := 0 }
    ({ s with slots := Tbl.set s.slots c.slot t }, krOk)

/-- The key command in progress completes (R473). -/
def secCmdComplete (peer : Option Nat) (s : State) : State :=
  match s.secCmd with
  | none => s
  | some c =>
    let s := { s with secCmd := none }
    let (s, r) : State × Nat := match c.op with
      | 1 => s.doGenerate c
      | 2 => s.doWrap c peer
      | 3 => s.doInstall c peer
      | 4 => s.doRoll c
      | 5 => s.doRetire c
      | 6 => s.doCreateOpen c
      | _ => (s, krBadArg)
    let s := (((s.wr F.SEC_CMD_STAT_BUSY 0).wr F.SEC_CMD_STAT_RESULT r).roll F.SEC_CMD_STAT_COUNT).tally .sec 11
    if r = krOk then s else s.berr .sec 4 { access := accInternal, addr := r }

/-! ## Rollover (R481, R482) -/

/-- The roll time of a slot (R482). -/
def keyRollTime (n : Nat) (s : State) : State :=
  match Tbl.get s.slots n with
  | none => s
  | some t =>
    if t.rollAt = 0 || t.rolled || !t.nextValid then s
    else
      let s := s.reach t.rollAt
      let t := { t with rolled := true }
      ({ s with slots := Tbl.set s.slots n t } : State).tenancyEvent n t 0x20 t.nextEpoch

/-- The old key of a slot is erased (R482). -/
def oldKeyErase (n : Nat) (s : State) : State :=
  match Tbl.get s.slots n with
  | none => s
  | some t =>
    if !t.rolled then s
    else
      let s := s.reach (t.rollAt + s.freshNs + us 100)
      { s with slots := Tbl.set s.slots n { t with curEpoch := t.nextEpoch, curKey := t.nextKey, nextValid := false, nextEpoch := 0, nextKey := 0, rollAt := 0, rolled := false } }

/-! ## The debug lock (R489, R490) -/

/-- `DBG_CHALLENGE`: the nonce is a free value (R489). -/
def dbgChallenge (s : State) : State :=
  let n := s.freeVal % 2 ^ 256
  ({ s with dbgNonce := some n } : State).drawn.emit (.tap s.fuses.serial n)

/-- `DBG_TOKEN` (R489, R490). -/
def dbgToken (scope serial nonce : Nat) (sig : List Byte) (s : State) : State :=
  let ok := s.dbgNonce == some nonce && serial == s.fuses.serial && (scope == 1 || scope == 2) && Config.debugToken scope serial nonce sig
  let s := { s with dbgNonce := none }
  if !ok then s
  else if scope = 1 then { s with scanOpen := true }
  else
    let s := s.loseAllKeys 3
    let s := (List.range 4).foldl (fun s fn => (s.wr F.HIF_IDE_STAT_SECURE 0 fn).ideCheck fn) s
    ({ s with jtagOpen := true } : State).wr F.SEC_STAT_DEBUG_UNLOCKED 1

end Sys2Proof.Machine
end

