-- ==== Sys2Proof/Machine/Mgmt.lean ====
section
/-! DEFINITION. Machine/Mgmt.lean: requests to the management core, staging, activation, the settings, fabric events, ROM recovery
requests, the DOE mailbox and SPDM (18 R545 to R559; 03 R85; 15 R467, R468). -/

namespace Sys2Proof.Machine

/-! ## Status values (18 *Management status*) -/

def msOk : Nat := 0x0000
def msBadRequest : Nat := 0x0001
def msDenied : Nat := 0x0002
def msBadState : Nat := 0x0003
def msNotLocked : Nat := 0x0004
def msTooLate : Nat := 0x0005
def msFlashFailed : Nat := 0x0006
def msVersionNewer : Nat := 0x0007
def msBaseMismatch : Nat := 0x0008
def msForced : Nat := 0x0009
def msStale : Nat := 0x000A
def msHeld : Nat := 0x000B

/-- A response (R545). -/
def State.respond (s : State) (path : ReqPath) (tag status : Nat) (payload : List Byte := []) : State :=
  s.emit (.mgmt path tag status payload)

/-! ## Paths and authority (R545, R546) -/

/-- Does a request on a path reach the management core? A DOE mailbox needs the host link; in-band packets are taken in `FULL` and on
the way out of it only (R504, R566). -/
def State.arrives (s : State) (path : ReqPath) : Bool :=
  !s.off && !s.inReset &&
  match path with
  | .doe fn => isFn fn && s.linkUp fn && !(s.hf fn).resetH && s.hifLive fn
  | .i3c .. => true
  | .inband _ => !s.halted && !s.shutdown && s.hasDid && [0, 3, 4].contains (s.rd F.CRP_PWR_STAT_STATE)

/-- A request counted (`MGT_MBOX_STAT`). -/
def State.countReq (s : State) (path : ReqPath) : State :=
  match path with
  | .doe _ => (s.bump F.MGT_MBOX_STAT_DOE_REQS).tally .mgt 0
  | .i3c .. => (s.bump F.MGT_MBOX_STAT_I3C_REQS).tally .mgt 1
  | .inband _ => s.bump F.MGT_MBOX_STAT_INBAND_REQS

/-- The longest payload of a path's messages (R545). -/
def pathLimit : ReqPath → Nat
  | .doe _ => 61440
  | _ => 4080

/-- A request whose payload has a length of its own: one over its path's limit is malformed (R545). -/
def sized (path : ReqPath) (tag len : Nat) (f : State → State) (s : State) : State :=
  if pathLimit path < len then (if s.arrives path then (s.countReq path).respond path tag msBadRequest else s) else f s

/-- Are two paths one: the same mailbox, or I3C, or the packets of selector 5 (R545)? -/
def samePath : ReqPath → ReqPath → Bool
  | .doe a, .doe b => a == b
  | .i3c .., .i3c .. => true
  | .inband _, .inband _ => true
  | _, _ => false

/-- The path whose request a flash operation answers. -/
def FlashOp.path : FlashOp → ReqPath
  | .program p _ => p
  | .readBack p _ => p
  | .erase p _ _ => p
  | .write p _ _ _ _ => p

/-- Is a request in progress on a path (R545)? -/
def State.pathBusy (s : State) (path : ReqPath) : Bool := s.mg.ops.any fun o => samePath (FlashOp.path o) path

/-- A request served in the order of arrival on its path: one that finds another in progress waits (R545). -/
def inTurn (i : Instr) (path : ReqPath) (f : State → State) (s : State) : State :=
  if s.arrives path && s.pathBusy path then { s with mg.queue := s.mg.queue ++ [i] } else f s

/-- Does a path carry a fabric manager's authority (R546)? -/
def State.fmPath (s : State) : ReqPath → Bool
  | .doe fn => s.rd F.DEV_FM_ROLE_HOLDER == fn || s.fmKey.isNone
  | .i3c session fmKey => if session then fmKey && s.fmKey.isSome else s.fmKey.isNone
  | .inband fmKey => fmKey && s.fmKey.isSome

/-- In ROM recovery mode? -/
def State.recovering (s : State) : Bool := s.on F.MGT_BOOT_STAT_RECOVERY

/-- Parked, or on the way into it or out of it: no on-package memory and no pathway (R570)? -/
def State.parkedNow (s : State) : Bool :=
  s.rd F.CRP_PWR_STAT_STATE = 2 || (s.rd F.CRP_PWR_STAT_STATE = 5 && s.pw.wakeFrom = 2)

/-- What a request needs: the fabric manager's authority, and on-package memory. -/
def mgmtRequest (fm mem : Bool) (path : ReqPath) (tag : Nat) (f : State → State) (s : State) : State :=
  if !s.arrives path then s
  else
    let s := s.countReq path
    if s.recovering then s.respond path tag msBadState
    else if fm && !s.fmPath path then ((s.bump F.MGT_MBOX_STAT_DENIED).berr .mgt 8).respond path tag msDenied
    else if mem && s.parkedNow then s.respond path tag msBadState
    else f s

/-- A request answered in every state, `QUERY` and `REG_READ` (R546, R558). -/
def mgmtAny (path : ReqPath) (f : State → State) (s : State) : State := if s.arrives path then f (s.countReq path) else s

/-! ## Query (R546) -/

/-- `MGT_FW_SVN`. -/
def State.fwSvn (s : State) : Nat := s.rd F.MGT_FW_SVN_SVN + s.fuses.svnFloor * 2 ^ 32

/-- `MGT_BANK_STAT`. -/
def State.bankStat (s : State) : Nat :=
  let r := s.flash.bootRec
  r.stateA + r.stateB * 2 ^ 4 + r.active * 2 ^ 8 + b2n r.trialValid * 2 ^ 9 + b2n r.tried * 2 ^ 10
    + s.rd F.MGT_BANK_STAT_BOOTCOPY_VALID * 2 ^ 16 + s.rd F.MGT_BANK_STAT_PRELOAD_VALID * 2 ^ 17

/-- `MGT_STAGE_STAT`. -/
def State.stageStat (s : State) : Nat :=
  s.rd F.MGT_STAGE_STAT_STATE + s.rd F.MGT_STAGE_STAT_BANK * 2 ^ 2 + s.rd F.MGT_STAGE_STAT_BYTES * 2 ^ 32

/-- `QUERY` (R546). -/
def mgmtQuery (path : ReqPath) (tag : Nat) (s : State) : State :=
  mgmtAny path (fun s =>
    s.respond path tag msOk ([s.rd F.MGT_FW_VER_VERSION, s.fwSvn, s.bankStat, s.stageStat,
      s.rd F.MGT_ACT_CTL_ARMED + s.rd F.MGT_ACT_CTL_BANK * 2, s.rd F.MGT_ACT_TIME_TIME].flatMap fun v => leBytes 8 v)) s

/-! ## The fabric-manager role and its key (R468, R547) -/

/-- `ROLE_REQUEST` (R547). -/
def roleRequest (path : ReqPath) (tag fn : Nat) (takeover : Bool) (gen serial : Nat) (sig : List Byte) (s : State) : State :=
  mgmtRequest false false path tag (fun s =>
    let msg := leBytes 1 (fn % 4 + b2n takeover * 128) ++ leBytes 1 gen ++ leBytes 6 0 ++ leBytes 8 serial
    let held := s.rd F.DEV_FM_ROLE_HOLDER ≠ 7
    if path ≠ .doe fn || serial ≠ s.fuses.serial then s.respond path tag msDenied
    else if gen ≠ s.rd F.DEV_FM_ROLE_GEN then s.respond path tag msStale
    else match s.fmKey with
      | none => s.respond path tag msDenied
      | some key =>
        if !Config.ecdsaVerify key msg sig then s.respond path tag msDenied
        else if held && !takeover then s.respond path tag msHeld
        else (s.setRole fn (if held then 3 else 1)).respond path tag msOk) s

/-- `FM_KEY_ENROLL` (R468): a compressed P-384 key is 49 bytes. -/
def fmKeyEnroll (path : ReqPath) (tag : Nat) (key sig : List Byte) (s : State) : State :=
  sized path tag (key.length + sig.length) (mgmtRequest false false path tag fun s =>
    if key.length ≠ 49 then s.respond path tag msBadRequest
    else
      let ok : Bool := match s.fmKey, path with
        | some cur, _ => Config.ecdsaVerify cur key sig
        | none, .inband _ => false
        | none, _ => true
      if ok then (s.writeSetting 4 typeVersion key).respond path tag msOk else s.respond path tag msDenied) s

/-! ## Staging (R548, R549) -/

/-- The staging ends; its bank is left `STAGING`. -/
def State.endStaging (s : State) : State := { s with mg.staging := none }.wr F.MGT_STAGE_STAT_STATE 0

/-- `STAGE_BEGIN` (R548, R549): `hdr` is bytes 0 to 127 of the package. -/
def stageBegin (path : ReqPath) (tag bank : Nat) (hdr : List Byte) (s : State) : State :=
  mgmtRequest true true path tag (fun s =>
    let base := (hdr.drop 8).take 48
    let noBase := base.all (· == 0)
    if s.mg.staging.isSome || s.on F.MGT_ACT_CTL_ARMED then s.respond path tag msBadState
    else if 1 < bank || bank = s.rd F.MGT_BOOT_STAT_BANK || hdr.length ≠ 128 || hdrAt hdr 0 2 ≠ 1 || bankSize < hdrAt hdr 4 4
      || (hdr.drop 72).any (· != 0) then s.respond path tag msBadRequest
    else if !noBase && base ≠ s.measurement2 then s.respond path tag msBaseMismatch
    else
      let st : Staging := { bank := bank, targetLen := hdrAt hdr 4 4, hasBase := !noBase, ctrIv := (hdr.drop 56).take 16 }
      let s := { s with mg.staging := some st, flash.banks := Tbl.set s.flash.banks bank [] }
      let s := (s.writeBootRec (s.flash.bootRec.setBank bank 1)).wr F.MGT_BANK_STAT_PRELOAD_VALID 0
      let s := ((s.wr F.MGT_STAGE_STAT_STATE 1).wr F.MGT_STAGE_STAT_BANK bank).wr F.MGT_STAGE_STAT_BYTES 0
      (s.emit (.flash 0 bank)).respond path tag msOk) s

/-- What applying stream bytes to a staging answers. -/
inductive Applied where
  | more (g : Staging)
  | bad
  | poison (addr : Nat)
deriving DecidableEq, Repr

/-- The operations of a stream applied as far as their bytes are here (18 *Stream operations*). -/
def State.applyOps (s : State) : Nat → Staging → Applied
  | 0, g => .more g
  | fuel + 1, g =>
    match g.rest with
    | [] => .more g
    | op :: r =>
      if g.ended then .bad
      else match op.toNat with
        | 1 =>
          if r.length < 8 then .more g
          else
            let src := leNat (r.take 4)
            let n := leNat ((r.drop 4).take 4)
            if !g.hasBase || 4096 + bodyLen (s.bytes 0 4096) < src + n || g.targetLen < g.made.length + n then .bad
            else if !s.clean src n || s.memDenied .mgt src then .poison src
            else s.applyOps fuel { g with made := g.made ++ s.bytes src n, rest := r.drop 8 }
        | 2 =>
          let n := leNat (r.take 4)
          if r.length < 4 || r.length < 4 + n then .more g
          else if g.targetLen < g.made.length + n then .bad
          else s.applyOps fuel { g with made := g.made ++ (r.drop 4).take n, rest := r.drop (4 + n) }
        | 3 => if g.made.length = g.targetLen then s.applyOps fuel { g with rest := r, ended := true } else .bad
        | _ => .bad

/-- `STAGE_DATA` (R548, R549). -/
def stageData (path : ReqPath) (tag off : Nat) (bytes : List Byte) (s : State) : State :=
  sized path tag (4 + bytes.length) (mgmtRequest true true path tag fun s =>
    match s.mg.staging with
    | none => s.respond path tag msBadState
    | some g =>
      if s.rd F.MGT_STAGE_STAT_STATE ≠ 1 then s.respond path tag msBadState
      else if off ≠ g.nextOff then s.respond path tag msBadRequest
      else
        let g := { g with nextOff := off + bytes.length, rest := g.rest ++ crypt s.fuses.fuseRev g.ctrIv (off - 128) bytes }
        match s.applyOps (g.rest.length + 1) g with
        | .more g => (({ s with mg.staging := some g } : State).wr F.MGT_STAGE_STAT_BYTES g.made.length).respond path tag msOk
        | .bad => s.endStaging.respond path tag msBadRequest
        | .poison a => (s.berr .mgt 2 { access := accMemRead, addr := a }).later (.resetM 6)) s

/-- `STAGE_END` (R549): the bank is programmed, then read back; the response waits for both. -/
def stageEnd (path : ReqPath) (tag : Nat) (s : State) : State :=
  mgmtRequest true true path tag (fun s =>
    match s.mg.staging with
    | none => s.respond path tag msBadState
    | some g =>
      if !g.ended || s.rd F.MGT_STAGE_STAT_STATE ≠ 1 then s.respond path tag msBadState
      else
        let s := { s with mg.ops := s.mg.ops ++ [FlashOp.program path tag] }
        (s.flashBusy.wr F.MGT_STAGE_STAT_STATE 2).emit (.flash 1 g.bank)) s

/-- A flash operation of the staging in progress. -/
def FlashOp.staging : FlashOp → Option (ReqPath × Nat)
  | .program p t => some (p, t)
  | .readBack p t => some (p, t)
  | _ => none

/-- `STAGE_ABORT` (R546, R549): a `STAGE_END` that waits is answered `BAD_STATE`. -/
def stageAbort (path : ReqPath) (tag : Nat) (s : State) : State :=
  mgmtRequest true true path tag (fun s =>
    if s.mg.staging.isNone then s.respond path tag msBadState
    else
      let waits := s.mg.ops.filterMap fun o => o.staging
      let s := { s with mg.ops := s.mg.ops.filter fun o => o.staging.isNone }
      let s := waits.foldl (fun s w => s.respond w.1 w.2 msBadState) s.flashBusy
      s.endStaging.respond path tag msOk) s

/-- The bank as it is stored: the header, and the body under the image key (18 *Staging an update*). -/
def State.bankImage (s : State) (made : List Byte) : List Byte :=
  made.take 4096 ++ crypt s.fuses.fuseRev (bodyCtr made) 0 (made.drop 4096)

/-- Bytes overlaid on a bank from an offset (R558). -/
def overlay (l : List Byte) (off : Nat) (b : List Byte) : List Byte :=
  let head := l.take off
  head ++ List.replicate (off - head.length) 0xFF ++ b ++ l.drop (off + b.length)

/-- A flash operation ends (R549, R558; `MGT` index 3). -/
def flashOperationDone (ok : Bool) (s : State) : State :=
  match s.mg.ops with
  | [] => s
  | op :: rest =>
    let s := ({ s with mg.ops := rest } : State).flashBusy
    if !ok then
      let s := s.flashFailed.fwReport 3
      match op with
      | .program p t => s.endStaging.respond p t msFlashFailed
      | .readBack p t => s.endStaging.respond p t msFlashFailed
      | .erase p t _ => s.respond p t msFlashFailed
      | .write p t _ _ _ => s.respond p t msFlashFailed
    else
      match op with
      | .program p t =>
        match s.mg.staging with
        | none => s
        | some g =>
          let img := s.bankImage g.made
          let s := ({ s with flash.banks := Tbl.set s.flash.banks g.bank img, mg.ops := FlashOp.readBack p t :: s.mg.ops } : State).flashBusy
          ((s.tally .mgt 3 img.length).wr F.MGT_STAGE_STAT_STATE 3).emit (.flash 2 g.bank)
      | .readBack p t =>
        match s.mg.staging with
        | none => s
        | some g =>
          let s := (s.memWrite .mgt preloadAt (s.bankBytes g.bank g.targetLen)).tally .mgt 3 g.targetLen
          let s := (s.writeBootRec (s.flash.bootRec.setBank g.bank 2)).wr F.MGT_BANK_STAT_PRELOAD_VALID 1
          s.endStaging.respond p t msOk
      | .erase p t b => ({ s with flash.banks := Tbl.set s.flash.banks b [] } : State).respond p t msOk
      | .write p t b off bytes =>
        (({ s with flash.banks := Tbl.set s.flash.banks b (overlay (Tbl.getD s.flash.banks b []) off bytes) } : State).tally .mgt 3 bytes.length).respond p t msOk

/-! ## Activation and the security version (R546, R551, R552) -/

/-- `ACTIVATE` (R551). -/
def activate (path : ReqPath) (tag bank time : Nat) (s : State) : State :=
  mgmtRequest true false path tag (fun s =>
    if 1 < bank then s.respond path tag msBadRequest
    else if s.flash.bootRec.bank bank ≠ 2 || !s.on F.MGT_BANK_STAT_PRELOAD_VALID then s.respond path tag msBadState
    else if s.on F.DEV_STRAPS_BOOT_MODE then s.respond path tag msForced
    else if !s.timeLocked then s.respond path tag msNotLocked
    else if time < s.now + ms 100 || s.now + ms (30 * 86400000) < time then s.respond path tag msBadRequest
    else (((s.wr F.MGT_ACT_CTL_ARMED 1).wr F.MGT_ACT_CTL_BANK bank).wr F.MGT_ACT_TIME_TIME time).respond path tag msOk) s

/-- `ACTIVATE_CANCEL` (R552). -/
def activateCancel (path : ReqPath) (tag : Nat) (s : State) : State :=
  mgmtRequest true false path tag (fun s =>
    if !s.on F.MGT_ACT_CTL_ARMED then s.respond path tag msBadState
    else if s.rd F.MGT_ACT_TIME_TIME < s.now + ms 1 then s.respond path tag msTooLate
    else (s.wr F.MGT_ACT_CTL_ARMED 0).respond path tag msOk) s

/-- `SVN_ADVANCE` (R546): the floor is a field of 0 to 64. -/
def svnAdvance (path : ReqPath) (tag : Nat) (s : State) : State :=
  mgmtRequest true false path tag (fun s =>
    let v := s.rd F.MGT_FW_SVN_SVN
    if 64 < v then s.respond path tag msBadState
    else ({ s with fuses := { s.fuses with svnFloor := max s.fuses.svnFloor v } } : State).respond path tag msOk) s

/-! ## Settings (R546, R553 to R556) -/

/-- `SETTINGS_READ` (R546): a type with no record has an empty body (log entry 17). -/
def settingsRead (path : ReqPath) (tag type : Nat) (s : State) : State :=
  mgmtRequest false false path tag (fun s =>
    if !knownType type then s.respond path tag msBadRequest
    else s.respond path tag msOk (match Tbl.get s.flash.settings type with
      | some r => if r.valid then r.body else []
      | none => [])) s

/-- Types that the device writes itself (R468, R514). -/
def ownType (t : Nat) : Bool := decide (2 ≤ t) && decide (t ≤ 4)

/-- `SETTINGS_WRITE` (R546, R556). -/
def settingsWrite (path : ReqPath) (tag type version : Nat) (body : List Byte) (s : State) : State :=
  sized path tag (4 + body.length) (mgmtRequest true false path tag fun s =>
    if !knownType type || 65536 < body.length || version ≠ typeVersion then s.respond path tag msBadRequest
    else if ownType type then s.respond path tag msDenied
    else if (Tbl.get s.flash.settings type).any fun r => r.valid && Setting.newer type r then s.respond path tag msVersionNewer
    else (s.writeSetting type version body).respond path tag msOk) s

/-- `SETTINGS_ERASE` (R546, R556). -/
def settingsErase (path : ReqPath) (tag type : Nat) (s : State) : State :=
  mgmtRequest true false path tag (fun s =>
    if !knownType type then s.respond path tag msBadRequest
    else if ownType type then s.respond path tag msDenied
    else ({ s with flash.settings := Tbl.del s.flash.settings type } : State).settingsShow.respond path tag msOk) s

/-! ## Fabric events (R559) -/

/-- `EVENT_READ` (R546, R559). -/
def eventRead (path : ReqPath) (tag index : Nat) (s : State) : State :=
  mgmtRequest true true path tag (fun s =>
    match Tbl.get s.mg.log index with
    | none => s.respond path tag msBadRequest
    | some e => s.respond path tag msOk (leBytes 4 e.srcDid ++ leBytes 2 e.cls ++ leBytes 2 e.code ++ e.body)) s

/-- `EVENT` received: logged, and told to the holder of the fabric-manager role (R559). -/
def mgmtEvent (src cls code : Nat) (body : List Byte) (s : State) : State :=
  if !s.arrives (.inband false) || !s.fwRuns then s
  else
    let i := s.mg.logNext
    let e : LogEntry := { srcDid := src, cls := cls, code := code, body := body }
    let s := { s with mg.log := Tbl.set s.mg.log i e, mg.logNext := (i + 1) % 65536 }
    let h := s.rd F.DEV_FM_ROLE_HOLDER
    if isFn h then s.asyncEvent h { type := 0x40, subtype := cls, value := src, offset := i, data := code } else s

/-- The oldest fabric event is sent, or given up (R559); in lay-by it waits for the wake that it starts (R564). -/
def fabricEventSend (delivered : Bool) (s : State) : State :=
  match s.events with
  | [] => s
  | e :: rest =>
    let inband := s.on F.MGT_EVT_DEST_EN && s.rd F.MGT_EVT_DEST_DID != 0x3FFFF
    if !s.fwRuns then s
    else if inband && s.rd F.CRP_PWR_STAT_STATE = 1 then s.later (.wake 4)
    else if inband && s.parkedNow then s
    else if inband && delivered && !s.hasDid then s
    else
      let s := { s with events := rest }
      if !delivered then (s.bump F.MGT_EVT_STAT_LOST).berr .mgt 9
      else
        let s := if inband then s.emit (.event (s.rd F.MGT_EVT_DEST_DID) false e.cls e.code) else s
        s.emit (.event 0x3FFFF true e.cls e.code)

/-! ## ROM recovery (R557, R558) -/

/-- A recovery request: on the DOE mailbox of any function or on I3C without a session, and in recovery mode (R558). -/
def recoveryRequest (path : ReqPath) (tag : Nat) (f : State → State) (s : State) : State :=
  if !s.arrives path then s
  else
    let s := s.countReq path
    let ok : Bool := match path with
      | .doe _ => true
      | .i3c session _ => !session
      | .inband _ => false
    if s.recovering && ok then f s else s.respond path tag msBadState

/-- `RECOVER_BEGIN` (R558). -/
def recoverBegin (path : ReqPath) (tag bank len : Nat) (s : State) : State :=
  recoveryRequest path tag (fun s =>
    if 1 < bank || bankSize < len then s.respond path tag msBadRequest
    else
      let s := { s with mg.ops := s.mg.ops ++ [FlashOp.erase path tag bank], mg.recoverBank := some bank }
      ((s.writeBootRec (s.flash.bootRec.setBank bank 1)).flashBusy).emit (.flash 0 bank)) s

/-- `RECOVER_DATA` (R558): into the bank of the last `RECOVER_BEGIN`. -/
def recoverData (path : ReqPath) (tag off : Nat) (bytes : List Byte) (s : State) : State :=
  sized path tag (4 + bytes.length) (recoveryRequest path tag fun s =>
    if bankSize < off + bytes.length then s.respond path tag msBadRequest
    else match s.mg.recoverBank with
      | none => s.respond path tag msBadState
      | some b =>
        let s := { s with mg.ops := s.mg.ops ++ [FlashOp.write path tag b off bytes] }
        s.flashBusy.emit (.flash 1 b)) s

/-- `RECOVER_BOOT` (R558). -/
def recoverBoot (path : ReqPath) (tag bank : Nat) (s : State) : State :=
  recoveryRequest path tag (fun s =>
    if 1 < bank then s.respond path tag msBadRequest
    else
      let s := s.respond path tag msOk
      (s.writeBootRec { s.flash.bootRec.setBank bank 2 with active := bank, trialValid := false }).doResetM 3 true) s

/-- `RECOVER_ERASE_SETTINGS` (R558). -/
def recoverEraseSettings (path : ReqPath) (tag : Nat) (s : State) : State :=
  recoveryRequest path tag (fun s =>
    ({ s with flash.settings := [], flash.used := 32, flash.gen := 0, flash.image := [], spareSaved := [] } : State).settingsShow.respond path tag msOk) s

/-- `RECOVER_REMOVE_FM_KEY` (R468, R558): superseded by an empty record. -/
def recoverRemoveFmKey (path : ReqPath) (tag : Nat) (s : State) : State :=
  recoveryRequest path tag (fun s => (s.writeSetting 4 typeVersion []).respond path tag msOk) s

/-! ## The DOE mailbox and SPDM (03 R80 to R85; 15 R467) -/

/-- A known request opcode (R546). -/
def knownOpcode (o : Nat) : Bool :=
  [1, 2, 3, 0x10, 0x11, 0x12, 0x13, 0x14, 0x15, 0x16, 0x20, 0x21, 0x22, 0x30, 0x31, 0x40, 0x100, 0x101, 0x102, 0x103, 0x104].contains o

/-- Keys programmed for the one IDE stream of a port (R81, R82): a second kind of stream is refused. -/
def State.ideKeys (s : State) (fn stream keySet : Nat) : State × Bool :=
  let cur := s.rd F.HIF_IDE_STAT_STREAM fn
  if (stream ≠ 1 && stream ≠ 2) || 1 < keySet || (cur ≠ 0 && cur ≠ stream) then (s, false)
  else
    let s := ((s.wr F.HIF_IDE_STAT_STREAM stream fn).wr F.HIF_IDE_STAT_SECURE 1 fn).wr F.HIF_IDE_STAT_KEY_SET keySet fn
    let s := s.modHf fn fun h => { h with ideSets := h.ideSets.filter (fun e => e.2 != keySet) ++ [(0, keySet), (1, keySet), (2, keySet)] }
    (s.ideCheck fn, true)

/-- A DOE object (R85): what it asks for, or the DOE Error bit. -/
def doeRequest (fn len : Nat) (obj : DoeObject) (s : State) : State :=
  if !s.arrives (.doe fn) then s
  else
    let s := s.tally .hif 9 1 fn
    let err := s.emit (.doe fn false obj)
    let ok := s.emit (.doe fn true obj)
    if 65536 < len then err
    else match obj with
      | .discovery => s.emit (.doeTypes fn (doeTypes s.recovering))
      | .recovery _ tag => if s.recovering then ok else (s.countReq (.doe fn)).respond (.doe fn) tag msBadState
      | .unknown _ _ => err
      | .spdm => if s.recovering then err else ok
      | .secured => if s.recovering then err else ok
      | .ideKeys stream keySet =>
        if s.recovering then err
        else
          let (s, good) := s.ideKeys fn stream keySet
          s.emit (.doe fn good obj)
      | .mailbox mver opcode tag n =>
        if s.recovering then err
        else if mver ≠ 1 || !knownOpcode opcode || 61440 < n then (s.countReq (.doe fn)).respond (.doe fn) tag msBadRequest
        else ok

/-- The request codes of SPDM 1.3 that the responder's capabilities cover, and `GET_VERSION` to `NEGOTIATE_ALGORITHMS` (R467; the codes
are those of DMTF DSP0274, log entry 6); 0xE0 is `GET_MEASUREMENTS`. -/
def spdmServed : List Nat := [0x81, 0x82, 0x83, 0x84, 0xE0, 0xE1, 0xE3, 0xE4, 0xE5, 0xEA, 0xEB, 0xEC, 0xFE]

/-- The valid live settings records in type order, header and body (R467, R553). -/
def State.liveSettings (s : State) : List Byte :=
  (List.range 9).flatMap fun t => match Tbl.get s.flash.settings t with
    | some r => if r.valid && knownType t then leBytes 2 t ++ leBytes 2 r.version ++ leBytes 4 r.body.length ++ leBytes 8 r.seq ++ r.body else []
    | none => []

/-- The debug state as measurement 5 gives it (R467, R489, R490). -/
def State.debugLevel (s : State) : Nat := if !s.fuses.jtagLock || s.jtagOpen then 2 else b2n s.scanOpen

/-- The measurements (15 *SPDM measurements*). -/
def State.measurements (s : State) : List (Nat × List Byte) :=
  [(1, Config.sha384 Config.romCode), (2, s.measurement2), (3, Config.sha384 s.liveSettings),
    (4, leBytes 8 (b2n s.fuses.openAllowed + 2 * b2n s.fuses.jtagLock + 256 * s.fuses.fuseRev) ++ leBytes 1 s.fuses.stepping),
    (5, leBytes 1 s.debugLevel), (6, match s.fmKey with
      | some k => Config.sha384 k
      | none => List.replicate 48 0)]

/-- The bytes of a certificate that its issuer signs (R466; log entry 6). -/
def certBody (key : List Byte) (serial : Option Nat) : List Byte := key ++ (serial.map (leBytes 8)).getD []

/-- The device certificate: the attestation key, bound to `DEV_SERIAL` (R466). -/
def State.deviceCert (s : State) : Certificate :=
  let key := Config.p384Public (Config.deriveAttest s.fuses.seed)
  { key := key, serial := some s.fuses.serial, sig := Config.kramundSign (certBody key (some s.fuses.serial)) }

/-- The wrap certificate: the wrap key, signed by the attestation key (R466). -/
def State.wrapCert (s : State) : Certificate :=
  let key := Config.p384Public (Config.deriveWrap s.fuses.seed)
  { key := key, serial := none, sig := Config.ecdsaSign (Config.deriveAttest s.fuses.seed) (certBody key none) }

/-- The chain of certificate slot 0, from Kramund's root to the device certificate (R466, R467). -/
def State.certChain (s : State) : List Certificate :=
  [{ key := Config.kramundRoot, serial := none, sig := Config.kramundSign (certBody Config.kramundRoot none) }, s.deviceCert]

/-- The signature of a response under the attestation key; what it signs, the transcript, is that of the other standard: a free value (R466, R467;
log entries 4 and 6). -/
def State.spdmSign (s : State) : List Byte := Config.ecdsaSign (Config.deriveAttest s.fuses.seed) (leBytes 48 s.freeVal)

/-- What the response to a request code carries (R467): `GET_DIGESTS`, `GET_CERTIFICATE`, `CHALLENGE`, `GET_MEASUREMENTS`,
`GET_CAPABILITIES`, `NEGOTIATE_ALGORITHMS`, `KEY_EXCHANGE`. -/
def State.spdmAnswer (s : State) (code : Nat) : SpdmAnswer :=
  match code with
  | 0x81 => .digest 0 (Config.sha384 (s.certChain.flatMap fun c => certBody c.key c.serial ++ c.sig))
  | 0x82 => .chain 0 s.certChain s.wrapCert
  | 0x83 | 0xE4 => .signature s.spdmSign
  | 0xE0 => .measurements s.measurements s.spdmSign
  | 0xE1 => .capabilities [.cert, .chal, .measSig, .keyEx, .encrypt, .mac, .mutAuth]
  | 0xE3 => .algorithms [.ecdsaP384, .sha384, .secp384r1, .aes256Gcm]
  | _ => .bare

/-- An SPDM request answered: with its response code and what it carries, or with `ERROR` (R467); not in recovery mode (R557). -/
def spdmRequest (path : ReqPath) (code : Nat) (s : State) : State :=
  if !s.arrives path || s.recovering then s
  else
    ((s.tally .sec 12).emit (if spdmServed.contains code then .spdm path (code - 0x80) (s.spdmAnswer code) else .spdm path 0x7F .bare)).drawn

end Sys2Proof.Machine
end

