-- ==== Sys2Proof/Machine/Perf.lean ====
section
/-! DEFINITION. Machine/Perf.lean: snapshots of the counters and sampled operations (17). -/

namespace Sys2Proof.Machine

/-! ## Snapshots (R527) -/

/-- A write of `PMU_SNAP.GO`: every counter latched (R527). -/
def pmuSnapGo (m : Nat) (s : State) : State :=
  if !s.mayWrite m then s.refuse m Block.pmu.page (F.PMU_SNAP_GO.addr 0 0) true
  else
    let s := ({ s with snap := s.ctrs } : State).wr F.PMU_SNAP_TIME_TIME s.now
    ((s.wr F.PMU_SNAP_FROZEN 1).roll F.PMU_SNAP_COUNT).tally .pmu 4

/-- A write of `PMU_SNAP.RELEASE`: reads are live again (R527). -/
def pmuSnapRelease (m : Nat) (s : State) : State :=
  if !s.mayWrite m then s.refuse m Block.pmu.page (F.PMU_SNAP_RELEASE.addr 0 0) true
  else ({ s with snap := [] } : State).wr F.PMU_SNAP_FROZEN 0

/-! ## Samples (R535 to R537) -/

/-- Verbs that the sampler counts (R535). -/
def sampledVerb (v : Nat) : Bool := [vbPut, vbGet, vbSend, vbAtomic, vbFlush, vbFetch, vbLock, vbUnlock].contains v

/-- A function's sampler steps at the admission of a descriptor (R535); is the descriptor tagged? -/
def State.sampleStep (s : State) (fn verb : Nat) : State × Bool :=
  if !s.on F.PMU_SR_CTL_EN fn || !sampledVerb verb then (s, false)
  else
    let x := Config.lfsrStep (Tbl.getD s.lfsr fn 1)
    let s := { s with lfsr := Tbl.set s.lfsr fn x }
    if x % 2 ^ min 16 (s.rd F.PMU_SR_CTL_LOG2_N fn) = 0 then ((s.bump F.PMU_SR_STAT_TAGGED 1 fn).tally .cmd 13, true)
    else (s, false)

/-- A write of `PMU_SR_SEED` (R535). -/
def sampleSeed (m fn seed : Nat) (s : State) : State :=
  if !mayWindow m fn then s else { s with lfsr := Tbl.set s.lfsr fn (orWhenZero (seed % 2 ^ 32) 1) }

/-- The sample record of an operation that is over, without its lap bit (R536). -/
def Op.sampleBytes (o : Op) (now : Nat) : List Byte :=
  let m := o.smp
  let st (t : Option Nat) : List Byte := leBytes 4 (match t with
    | some t => (t - m.t0) % 2 ^ 32
    | none => 2 ^ 32 - 1)
  let c := o.ended.getD {}
  let done_ := if c.status = stOk && o.d.adv advSilent then none else some now
  leBytes 1 o.d.verb ++ leBytes 1 (o.d.noun % 8 + 8 * (o.d.tc % 4) + 32 * b2n (o.d.adv advTriggered)) ++ leBytes 2 o.wq
    ++ leBytes 4 o.d.length ++ leBytes 8 m.t0 ++ st (some o.admitAt) ++ st m.xlt ++ st m.read ++ st m.inject ++ st m.inject
    ++ st m.lastInject ++ st m.settled ++ st done_ ++ leBytes 1 c.status ++ leBytes 1 (min 255 m.retx) ++ leBytes 1 (min 255 m.preempt)
    ++ leBytes 1 (b2n m.descMiss + 2 * b2n m.xltMiss + 4 * b2n m.pwyMiss + 8 * b2n m.rtbMiss + 16 * b2n m.suspended) ++ leBytes 4 o.d.targetEpa
    ++ leBytes 8 o.d.userCtx

/-- Size of a sample ring: other values of `LOG2_SIZE` act as 6 (17 *PMU fields*). -/
def State.sampleSize (s : State) (fn : Nat) : Nat :=
  let l := s.rd F.PMU_SR_CTL_LOG2_SIZE fn
  2 ^ (if 6 ≤ l then l else 6)

/-- The first waiting sample record of a function forgotten. -/
def State.popSample (s : State) (fn : Nat) : State := { s with samples := Tbl.set s.samples fn ((Tbl.getD s.samples fn []).drop 1) }

/-- The first waiting sample record of a function dropped and counted (R537). -/
def State.dropSample (s : State) (fn : Nat) : State :=
  (((s.popSample fn).bump F.PMU_SR_STAT_DROPPED 1 fn).tally .pmu 3).berr .pmu 3

/-- Waiting sample records of a function written in order; the first argument bounds them (R537). -/
def State.sampleWrite (s : State) (fuel fn : Nat) : State :=
  match fuel with
  | 0 => s
  | k + 1 =>
    match Tbl.getD s.samples fn [] with
    | [] => s
    | b :: _ =>
      let tail := s.rd F.PMU_SR_TAIL_TAIL fn
      let n := s.sampleSize fn
      if s.countStopped Block.pmu.page then ((s.popSample fn).when (s.fenced Block.pmu.page) fun s => s.bump F.FCL_DROP_CROSSING).sampleWrite k fn
      else if n ≤ wrapSub 32 tail (s.rd F.PMU_SR_HEAD_HEAD fn) || s.on F.HIF_FN_STAT_DSTATE fn || !s.on F.HIF_FN_STAT_BME fn then
        (s.dropSample fn).sampleWrite k fn
      else
        let a := s.rd F.PMU_SR_BASE_BASE fn * 4096 + 64 * (tail % n)
        match s.xlat (.sample fn) fn (s.rd F.PMU_SR_CTL_AS fn) a 64 false true with
        | (s, .wait) => s
        | (s, .fault _ _ _) => ((s.dropGrants (.sample fn)).dropSample fn).sampleWrite k fn
        | (s, .ok ps _) =>
          let s := (s.dropGrants (.sample fn)).popSample fn
          if s.busGone fn then ((s.wr F.PMU_SR_CTL_EN 0 fn).berr .pmu 4 { access := accHostWrite, addr := a, master := some 0x27 }).sampleWrite k fn
          else
            let lap := 128 * b2n (tail / n % 2 == 0)
            let b := b.take 1 ++ leBytes 1 (leNat ((b.drop 1).take 1) + lap) ++ b.drop 2
            (((s.writePieces 15 fn ps b).roll F.PMU_SR_TAIL_TAIL 1 fn).tally .pmu 2).sampleWrite k fn

/-- The sample record of a tagged operation that is over (R536, R537). -/
def State.sampleOver (s : State) (o : Op) : State :=
  let s := { s with samples := Tbl.set s.samples o.fn (Tbl.getD s.samples o.fn [] ++ [o.sampleBytes s.now]) }
  s.sampleWrite 64 o.fn

end Sys2Proof.Machine
end

