-- ==== Sys2Proof/Machine/Admit.lean ====
section
/-! DEFINITION. Machine/Admit.lean: doorbells, direct posts, descriptor fetches, the checks of descriptors and their admission,
and the resumption of queues (05 R131 to R163, 04 R114 to R117, 08 R252, R253). -/

namespace Sys2Proof.Machine

/-! ## Doorbells (R134 to R136, R149, R150, R161) -/

/-- Does a work queue accept a producer index? (R134) -/
def Wq.accepts (q : Wq) (v : Nat) : Bool :=
  decide (wrapSub 32 v q.cons ≤ 2 ^ q.log2) && decide (wrapSub 32 v q.prod ≤ 2 ^ q.log2 - wrapSub 32 q.prod q.cons)

/-- The producer index moved (R134). -/
def State.ring (s : State) (fn n v : Nat) : State :=
  ((s.modWq fn n fun q => { q with prod := v, doors := q.doors ++ [(v, s.now)] }).tally .cmd 0).fetchNext fn n

/-- A write of `WQ_DB` (R134, R136). DESIGN CHOICE: one for a queue that does not exist or is draining is dropped, with no record (log entry 59). -/
def wqDb (fn n v : Nat) (s : State) : State :=
  match Tbl.get s.wqs (fn, n) with
  | none => s
  | some q =>
    if q.state = .draining then s
    else if !q.accepts (v % 2 ^ 32) then s.berr .cmd 3 { access := accRegWrite, addr := n * 4096, master := some fn }
    else if v % 2 ^ 32 = q.prod then s
    else s.ring fn n (v % 2 ^ 32)

/-- A posted receive from its 64 bytes (R252): the source is held as `targetEpa`, the match bits as `remote`, the context as
`trigCtr`, the ignore bits as `operand0` and `ANY_SRC` as `noun`. -/
def parseRecv (b : List Byte) : Descr :=
  let w (o n : Nat) : Nat := leNat ((b.drop o).take n)
  let b1 := w 1 1
  { verb := w 0 1, noun := b1 % 2, long := bitOf b1 5, adverbs := w 2 2, postIdx := w 4 2, trigCtr := w 6 2, userCtx := w 8 8,
    targetEpa := w 16 4 % 2 ^ 21, remote := w 24 8, localAddr := w 32 8, length := w 40 4, operand0 := w 48 8,
    rsvZero := b1 / 2 % 16 == 0 && b1 / 64 == 0 && w 16 4 / 2 ^ 21 == 0 && w 20 4 == 0 && w 44 4 == 0 && w 56 8 == 0 && w 2 2 / 128 == 0 }

/-- A descriptor of a queue from its bytes (R142, R252). -/
def Wq.parse (q : Wq) (b : List Byte) : Descr := if q.recv then parseRecv b else parseDescr b

/-- Descriptors in the cache, of all functions (`CMD_STAT.DESC_CACHED`). -/
def State.allCached (s : State) : Nat := (s.wqs.map fun e => e.2.cache.length).sum

/-- A descriptor put into the cache (R135, R137). -/
def State.cacheDesc (s : State) (fn n : Nat) (c : Cached) : State :=
  let s := s.modWq fn n fun q => q.put c
  s.high F.CMD_HWM_DESC_HWM s.allCached

/-- The first bytes of a direct-post slot, once all of them have arrived (R64, R135). -/
def gathered (g : List (Nat × Byte)) (need : Nat) : Option (List Byte) :=
  (List.range need).mapM fun i => (g.find? fun e => e.1 == i).map Prod.snd

/-- The bytes of a direct post that a write at a place in its slot completes (R64): 64, or 256 of a long descriptor. -/
def Wq.direct (q : Wq) (off : Nat) (bytes : List Byte) : Option (List Byte) :=
  let long (b : Byte) : Bool := bitOf b.toNat 5
  let need := if ((bytes.drop 1).head?).any long then 256 else 64
  if off = 0 && decide (need ≤ bytes.length) && decide (2 ≤ bytes.length) then some (bytes.take need)
  else
    let g := (bytes.mapIdx fun i b => (off + i, b)) ++ q.gather
    match g.find? fun e => e.1 == 1 with
    | none => none
    | some e => gathered g (if long e.2 then 256 else 64)

/-- A write into the direct-post slot of a queue (R64, R135, R136): the post is taken once every byte of it has arrived. DESIGN
CHOICE: where posts are discarded, each write of one is recorded (log entry 59). -/
def wqDirect (fn n off : Nat) (bytes : List Byte) (s : State) : State :=
  match Tbl.get s.wqs (fn, n) with
  | none => s.berr .cmd 5 { access := accRegWrite, addr := n * 4096 + 256, master := some fn }
  | some q =>
    if q.state = .draining then s.berr .cmd 5 { access := accRegWrite, addr := n * 4096 + 256, master := some fn }
    else
      match q.direct off bytes with
      | none => s.modWq fn n fun q => { q with gather := (bytes.mapIdx fun i b => (off + i, b)) ++ q.gather.filter fun e => e.1 < off || off + bytes.length ≤ e.1 }
      | some post =>
        let s := s.modWq fn n fun q => { q with gather := [] }
        let d := q.parse post
        let ahead := wrapSub 16 (d.postIdx + Descr.slots d) q.prod
        let v := wrapAdd 32 q.prod (orWhenZero ahead 65536)
        if !q.accepts v then s.berr .cmd 3 { access := accRegWrite, addr := n * 4096 + 256, master := some fn }
        else
          let s := s.tally .cmd 1
          let s := if s.on F.CMD_CTL_DP_EN && q.state == .active && !q.hold && d.postIdx == q.prod % 65536 && s.cacheRoom fn q then
              (s.cacheDesc fn n { pos := q.prod, d := d }).tally .cmd 2 else s
          s.ring fn n v

/-- A consumer index that moves forward and not beyond what was written (R150). -/
def consumes (old written v : Nat) : Bool := decide (wrapSub 32 v old ≤ wrapSub 32 written old)

/-- A write of `CQ_DB` (R149, R150, R161). DESIGN CHOICE: one for a queue that does not exist is ignored, with no record (log entry 59). -/
def cqDb (fn n v : Nat) (arm : Bool) (s : State) : State :=
  match Tbl.get s.cqs (fn, n) with
  | none => s
  | some q =>
    if !consumes q.consumer q.written (v % 2 ^ 32) then s.berr .cmd 3 { access := accRegWrite, addr := n * 4096 + 64, master := some fn }
    else
      let q := { q with consumer := v % 2 ^ 32, armed := q.armed || arm }
      let now_ := arm && q.irqEn && q.written != q.consumer
      let s := { s with cqs := Tbl.set s.cqs (fn, n) (if now_ then { q with armed := false, since := 0 } else q) }
      (if now_ then (s.msix fn q.vector).tally .cmd 10 else s.cqIrq fn n).cqKick fn n

/-- A write of `EQ_DB` (R150, R156, R161). DESIGN CHOICE: one for a queue that does not exist is ignored, with no record (log entry 59). -/
def eqDb (fn n v : Nat) (arm : Bool) (s : State) : State :=
  match Tbl.get s.eqs (fn, n) with
  | none => s
  | some q =>
    if !consumes q.consumer q.written (v % 2 ^ 32) then s.berr .cmd 3 { access := accRegWrite, addr := n * 4096 + 128, master := some fn }
    else
      let q := { q with consumer := v % 2 ^ 32, armed := q.armed || arm }
      let now_ := arm && q.irqEn && q.written != q.consumer
      let s := { s with eqs := Tbl.set s.eqs (fn, n) (if now_ then { q with armed := false, since := 0 } else q) }
      ((if now_ then (s.msix fn q.vector).tally .cmd 10 else s.eqIrq fn n).eqKick fn n).eqLost fn n

/-- The moderation time of a queue passes (R161): kind 1 a CQ, 2 an EQ. -/
def modTimerExpire (fn kind n : Nat) (s : State) : State :=
  if kind = 1 then
    match Tbl.get s.cqs (fn, n) with
    | none => s
    | some q => if q.irqEn && q.armed && q.since != 0 && q.modTime != 0 then (s.reach (q.firstAt + us q.modTime)).cqIrq fn n else s
  else
    match Tbl.get s.eqs (fn, n) with
    | none => s
    | some q => if q.irqEn && q.armed && q.since != 0 && q.modTime != 0 then (s.reach (q.firstAt + us q.modTime)).eqIrq fn n else s

/-! ## The checks of descriptors (R131, R132, R142 to R144, R168, R239, R252, R296, R326, R343) -/

/-- Does a verb name a target on the fabric? -/
def targets (v : Nat) : Bool := decide (1 ≤ v) && decide (v ≤ 9) && v != vbConvoy

/-- Does a descriptor name a target that no device has (R29)? -/
def noTarget (d : Descr) : Bool := targets d.verb && (decide (6 ≤ epaSel d.targetEpa) || epaDid d.targetEpa == 0x3FFFF)

/-- Is a field set that the verb does not use (R143, R296, R343)? -/
def dashSet (d : Descr) : Bool :=
  match d.verb with
  | 0x00 | 0x06 | 0x0A => d.key != 0 || d.remote != 0 || d.localAddr != 0 || d.length != 0 || d.operand0 != 0 || d.operand1 != 0
  | 0x01 => d.operand0 != 0 || (!d.adv advSignal && d.operand1 != 0)
  | 0x02 => d.operand0 != 0 || d.operand1 != 0
  | 0x03 => d.operand0 != 0 || d.operand1 != 0 || bitsOf d.key 12 4 != 0
  | 0x04 | 0x05 => d.localAddr != 0
  | 0x07 => d.key / 4096 != 0 || d.operand0 / 2 ^ 44 != 0 || d.operand1 != 0
  | 0x08 => d.localAddr != 0 || d.length != 0 || d.operand0 / 2 ^ 32 != 0 || d.operand1 / 2 ^ 32 != 0
  | 0x09 => d.localAddr != 0 || d.length != 0 || d.operand0 != 0 || d.operand1 != 0
  | _ => false

/-- Is the noun one that the verb takes (R143, R168)? A target that no device has completes with `ENDPOINT_ABSENT` (R29) before R168 is asked about it
(log entry 35, DESIGN CHOICE). -/
def nounOk (d : Descr) : Bool :=
  let sel := epaSel d.targetEpa
  match d.verb with
  | 0x00 | 0x0A => d.noun == 0 && d.targetEpa == 0
  | 0x03 => d.noun == nnList
  | 0x07 => d.noun == nnConvoy
  | 0x08 | 0x09 => d.noun == nnLock && (noTarget d || sel == 4)
  | _ => (d.noun == nnRegion && (noTarget d || decide (sel ≤ 3))) || (d.noun == nnCommons && (noTarget d || sel == 4))

/-- Are the adverbs ones that the verb takes (R143)? -/
def adverbsOk (d : Descr) : Bool :=
  (!d.adv advSignal || d.verb == vbPut || (d.verb == vbAtomic && !atomicCompares d.length)) &&
  (!d.adv advInline || ((d.verb == vbPut || d.verb == vbSend) && d.long)) &&
  (!d.adv advFence || d.verb != vbNop) &&
  (!d.adv advOrdered || (decide (1 ≤ d.verb) && decide (d.verb ≤ 5)))

/-- Is `LENGTH` in range for the verb (R143, R326, R327)? -/
def lengthOk (d : Descr) : Bool :=
  match d.verb with
  | 0x01 | 0x03 => !d.adv advInline || decide (d.length ≤ 192)
  | 0x02 => d.length != 0
  | 0x04 | 0x05 => atomicOk d.length
  | 0x07 => decide (d.length ≤ 4096)
  | _ => true

/-- What is wrong with a descriptor at a ring position: `true` where the effect is the queue's, and the detail (R144). Where several rules are broken,
the first test that fails gives the detail (log entry 45, DESIGN CHOICE). -/
def Wq.check (q : Wq) (pos : Nat) (d : Descr) : Option (Bool × Nat) :=
  if d.postIdx ≠ pos % 65536 then some (true, dtPostIdx)
  else if q.recv then
    if !d.rsvZero then some (true, dtReserved)
    else if d.verb ≠ 0x00 ∧ d.verb ≠ 0x40 ∧ d.verb ≠ 0x41 then some (true, dtBadVerb)
    else if d.long then some (true, dtBadAlign)
    else if d.adverbs &&& (2 ^ 16 - 1 - 0x48) ≠ 0 then some (false, dtBadAdverb)
    else none
  else
    let lqpOk := targets d.verb && decide (d.verb ≤ vbFlush) || d.verb == vbNop || d.verb == vbFence
    if !d.rsvZero then some (true, dtReserved)
    else if 0x0A < d.verb then some (true, dtBadVerb)
    else if dashSet d then some (true, dtReserved)
    else if q.lqp ≠ 0 ∧ (!lqpOk || d.targetEpa != 0 || (d.verb == vbSend && d.key != 0)) = true then some (true, dtBadVerb)
    else if d.long && (pos % 4 != 0 || !d.adv advInline) then some (true, dtBadAlign)
    else none

/-- What is wrong with a descriptor alone, once its target is known (R143, R144, R168); the first test that fails counts (log entry 45, DESIGN
CHOICE). -/
def Wq.check2 (q : Wq) (d : Descr) : Option Nat :=
  if !nounOk d then some dtBadNoun
  else if !adverbsOk d then some dtBadAdverb
  else if !lengthOk d then some dtBadLength
  else if d.verb ≠ vbConvoy && q.lqp = 0 && !bitOf q.tcMask d.tc then some dtTc
  else none

/-- A queue enters `ERROR` at a descriptor (R144). -/
def State.descrRefused (s : State) (fn n pos dt : Nat) : State :=
  (s.modWq fn n fun q => if q.state = .active || q.state = .suspended then { q with errAt := some (pos, dt) } else q).wqError fn n dt (some pos)

/-! ## Descriptor fetches (R72, R132, R137, R139, R160) -/

/-- A fetched descriptor cached; the queue's next descriptor has its `POST_IDX` checked at once (R132). -/
def State.fetched (s : State) (fn n pos : Nat) (d : Descr) : State :=
  let s := s.cacheDesc fn n { pos := pos, d := d, miss := true }
  match Tbl.get s.wqs (fn, n) with
  | none => s
  | some q =>
    if q.state = .draining then s.drainStep 65536 fn n
    else if pos = q.cons && d.postIdx ≠ pos % 65536 then s.descrRefused fn n pos dtPostIdx
    else s.fetchNext fn n

/-- Reads of a queue's ring that were given up are forgotten once they end (R138). -/
def State.dropStray (s : State) (fn n : Nat) (keep : Option Nat) : State :=
  { s with reads := s.reads.filter fun e => !(e.2.use == .desc fn n && e.2.result.isSome && some e.1 != keep) }

/-- A descriptor fetch ends (R132, R137, R141, R160). -/
def descFetchComplete (fn n : Nat) (s : State) : State :=
  match Tbl.get s.wqs (fn, n) with
  | none => s.dropStray fn n none
  | some q =>
    let s := s.dropStray fn n q.fetching
    match q.fetching with
    | none => s
    | some id =>
      match s.takeRead id with
      | (_, none) => s
      | (s, some (_, res)) =>
        let pos := q.fetchPos
        let s := s.modWq fn n fun q => { q with fetching := none }
        match res with
        | .failed =>
          let s := s.modWq fn n fun q => { q with part := [] }
          if q.state = .draining then (s.modWq fn n fun q => q.put { pos := pos, d := { verb := 0xFF } }).drainStep 65536 fn n
          else s.wqError fn n dtFetchFailed (some pos)
        | .ok b =>
          if q.part ≠ [] then (s.modWq fn n fun q => { q with part := [] }).fetched fn n pos (parseDescr (q.part ++ b))
          else
            let d := q.parse b
            if d.long && d.adv advInline && pos % 4 = 0 && !q.recv && q.state ≠ .draining then
              (s.modWq fn n fun q => { q with part := b }).fetchNext fn n
            else s.fetched fn n pos d

/-! ## Admission (R139, R140, R147, R151, R159, R184, R188, R189, R253, R472) -/

/-- A tag that no operation has. -/
def State.freeTag (s : State) : Nat :=
  ((List.range (s.ops.length + 1)).map fun i => (s.nextOp + i) % (2 ^ 32 - 1)).find? (fun t => !Tbl.has s.ops t) |>.getD 0

/-- The queue and its next descriptor, where admission is open to it (R60, R79, R140, R152, R504, R562). -/
def State.admissible (s : State) (fn n : Nat) : Option (Wq × Cached) :=
  match Tbl.get s.wqs (fn, n) with
  | none => none
  | some q =>
    match Tbl.get s.cqs (fn, q.cq), q.cache with
    | some cq, c :: _ =>
      if q.state == .active && !q.hold && c.pos == q.cons && cq.state == .active && !cq.full && !s.fnAbsent fn && !s.busHeld fn
          && s.serves .cmd && s.rd F.CRP_PWR_STAT_STATE == 0 then some (q, c) else none
    | _, _ => none

/-- Operations of a queue that a new one waits for (R184, R188, R189). -/
def State.waitsFor (s : State) (fn n : Nat) (d : Descr) : List Nat :=
  (s.ops.filter fun e => e.2.fn == fn && e.2.wq == n && (d.adv advFence || Descr.covers d e.2.d)).map Prod.fst

/-- Time of the doorbell that covered a position (R536). -/
def Wq.doorAt (q : Wq) (pos : Nat) : Nat :=
  match q.doors.find? fun e => decide (1 ≤ wrapSub 32 e.1 pos) && decide (wrapSub 32 e.1 pos < 2 ^ 31) with
  | some e => e.2
  | none => 0

/-- The descriptor that a queue's next slots hold leaves the ring and becomes an operation, with an entry of its completion queue
reserved (R139, R151); answers its tag. -/
def State.takeSlot (s : State) (fn n : Nat) (q : Wq) (c : Cached) (d : Descr) (held : Bool) : State × Nat :=
  let id := s.freeTag
  let (s, tagged) := if q.recv then (s, false) else s.sampleStep fn d.verb
  let o : Op :=
    { fn := fn, wq := n, pos := c.pos, d := d, phase := if held then .held else .queued, recv := q.recv, slot := q.slot,
      after := if held || q.recv then [] else s.waitsFor fn n d, sampled := tagged, admitAt := s.now,
      smp := if tagged then { t0 := q.doorAt c.pos, descMiss := c.miss } else {} }
  let pos := wrapAdd 32 c.pos (Descr.slots d)
  let s := s.modWq fn n fun q => { q with cons := pos, cache := q.cache.filter (fun x => x.pos != c.pos),
                                          doors := q.doors.filter fun e => e.1 != pos && decide (wrapSub 32 e.1 pos < 2 ^ 31) }
  let s := { s with ops := s.ops ++ [(id, o)], nextOp := (id + 1) % (2 ^ 32 - 1) }
  let s := ((s.cqReserve fn q.cq).tally .cmd 5).when (!q.recv && targets d.verb) fun s => s.tally .cmd (16 + d.tc)
  (s.when (!c.miss) fun s => s.tally .cmd 4, id)

/-- A triggered operation held in the store, or fired at once (R159). -/
def State.holdOp (s : State) (fn id : Nat) (d : Descr) : State :=
  let s := (s.high F.CMD_TRIG_STAT_HELD_HWM (s.trigHeld fn) fn).high F.CMD_HWM_TRIG_HWM ((List.range 4).map s.trigHeld).sum
  if reached (s.rd F.CMD_TRIGk_COUNT fn d.trigCtr) d.trigThreshold then s.fire id else s

/-- Status and detail for want of the queue's tenancy (R472). -/
def State.tenancyFail (s : State) (q : Wq) (fn : Nat) : Option (Nat × Nat) :=
  if !s.member q.slot fn then some (stTenancy, 0x0700)
  else match Tbl.get s.slots q.slot with
    | some t => if t.keyLost then some (stTenancy, dtNoKey) else none
    | none => none

/-- Why an admitted operation ends at once: status and detail (R29, R144, R240, R472). DESIGN CHOICE: the tenancy is tested before the presence of the
endpoint (log entry 59). -/
def State.atOnce (s : State) (q : Wq) (fn : Nat) (d : Descr) (bad : Option Nat) : Option (Nat × Nat) :=
  let flushed := q.lqp != 0 && (match Tbl.get s.lqps (q.lqp - 1) with
    | some l => l.error
    | none => false)
  if flushed then some (stFlushed, dtLqpFlush)
  else
    match bad with
    | some dt => some (stAborted, dt)
    | none =>
      if d.verb = vbNop || (d.verb = vbFence && !q.recv) then none
      else
        match s.tenancyFail q fn with
        | some x => some x
        | none => if !q.recv && noTarget d then some (stAbsent, 0) else none

/-- A descriptor of an initiator queue with the target that a compatibility queue pair supplies (R239). -/
def State.aimed (s : State) (q : Wq) (d : Descr) : Descr :=
  if q.lqp = 0 || !targets d.verb then d
  else match Tbl.get s.lqps (q.lqp - 1) with
    | some l => { d with targetEpa := l.rem, tc := l.tc }
    | none => d

/-- A queue admits its next descriptor, or refuses it (R140, R144); `want` tells which descriptors the command is for. -/
def State.admitNext (s : State) (fn n : Nat) (want : Wq → Descr → Bool) : State :=
  match s.admissible fn n with
  | none => s
  | some (q, c) =>
    if !want q c.d then s
    else
      match q.check c.pos c.d with
      | some (true, dt) => s.descrRefused fn n c.pos dt
      | early =>
        let d := s.aimed q c.d
        let bad := if q.recv then early.map Prod.snd else q.check2 d
        let ends := s.atOnce q fn d bad
        let live := ends.isNone
        let fabric := !q.recv && (targets d.verb || d.verb == vbConvoy)
        let trig := !q.recv && d.adv advTriggered
        if (trig && decide (2048 ≤ s.trigHeld fn)) || (fabric && (!s.hasDid || s.on F.HIF_FN_STAT_EP_HOLD fn))
            || (live && !q.recv && d.verb == vbLock && decide (16384 ≤ s.heldLocks.length))
            || (live && q.recv && d.verb == 0x40 && decide (s.storeCap ≤ s.posted.length)) then s
        else
          let (s, id) := s.takeSlot fn n q c d (trig && live)
          let s := match ends with
            | some (st, dt) => s.endOp id st dt 0 0
            | none =>
              let s := s.when (!q.recv && d.verb == vbLock) fun s =>
                { s with heldLocks := s.heldLocks ++ [{ fn := fn, slot := q.slot, epa := d.targetEpa, key := d.key, remote := d.remote, op := some id : HeldLock }] }
              if trig then s.holdOp fn id d
              else if !q.recv then s
              else if d.verb = vbNop then s.endOp id stOk 0 0 0
              else if s.fenced Block.mtc.page then s.endOp id stAborted dtEngineFenced 0 0
              else if d.verb = 0x40 then s.onPost id fn q.list
              else s.onProbe id fn q.list
          (s.kickLocal (s.ops.length + 1) fn n).fetchNext fn n

/-- The next descriptor of a receive-posting queue is a receive, and is posted (R253, R258). -/
def recvPost (fn n : Nat) (s : State) : State := s.admitNext fn n fun q d => q.recv && d.verb == 0x40

/-- The next descriptor of a receive-posting queue is a probe (R253, R275). -/
def probePost (fn n : Nat) (s : State) : State := s.admitNext fn n fun q d => q.recv && d.verb == 0x41

/-! ## Resuming and aborting (R115, R117, R141, R152, R162) -/

/-- A write of `XLT_FN_RESUME` that names a queue which is not suspended (R117). -/
def State.resumeRefused (s : State) (fn : Nat) : State := s.wr F.XLT_FN_SUSP_LAST_REFUSED 1 fn

/-- `XLT_FN_RESUME` Resume (R115). -/
def xltResume (m fn n : Nat) (s : State) : State :=
  if !mayWindow m fn then s
  else
    match Tbl.get s.wqs (fn, n) with
    | none => s.resumeRefused fn
    | some q =>
      if q.state ≠ .suspended then s.resumeRefused fn
      else
        let s := s.modWq fn n fun q => { q with state := .active, fetchFault := false, faultOp := none }
        (s.kickLocal (s.ops.length + 1) fn n).fetchNext fn n

/-- `XLT_FN_RESUME` Abort (R115, R141). -/
def xltAbort (m fn n : Nat) (s : State) : State :=
  if !mayWindow m fn then s
  else
    match Tbl.get s.wqs (fn, n) with
    | none => s.resumeRefused fn
    | some q =>
      if q.state ≠ .suspended then s.resumeRefused fn
      else if q.fetchFault then (s.modWq fn n fun q => { q with fetchFault := false, faultOp := none, part := [] }).wqError fn n dtFetchXlt (some q.fetchPos)
      else
        let s := s.modWq fn n fun q => { q with state := .active, faultOp := none }
        let s := match q.faultOp with
          | some (id, kind) =>
            (s.modOp id fun o => { o with fail := some (o.fail.getD (faultStatus kind, 0)), stop := true, phase := .sent }).checkOp id
          | none => s
        (s.kickLocal (s.ops.length + 1) fn n).fetchNext fn n

/-- A write of `CMD_RESUME` that names a queue which is not suspended (R162). -/
def State.cmdResumeRefused (s : State) (m fn : Nat) : State := s.refuse m Block.cmd.page (F.CMD_RESUME_NUMBER.addr fn 0) true

/-- `CMD_RESUME` Resume (R152, R157): kind 1 a CQ, 2 an EQ. -/
def cmdResumeResume (m fn kind n : Nat) (s : State) : State :=
  if !mayWindow m fn then s
  else if kind = 1 then
    match Tbl.get s.cqs (fn, n) with
    | some q =>
      if q.state = .suspended then ({ s with cqs := Tbl.set s.cqs (fn, n) { q with state := .active } } : State).cqKick fn n
      else s.cmdResumeRefused m fn
    | none => s.cmdResumeRefused m fn
  else
    match Tbl.get s.eqs (fn, n) with
    | some q =>
      if q.state = .suspended then
        (({ s with eqs := Tbl.set s.eqs (fn, n) { q with state := .active } } : State).eqKick fn n).eqLost fn n
      else s.cmdResumeRefused m fn
    | none => s.cmdResumeRefused m fn

/-- `CMD_RESUME` Abort (R152, R153, R157). -/
def cmdResumeAbort (m fn kind n : Nat) (s : State) : State :=
  if !mayWindow m fn then s
  else if kind = 1 then
    match Tbl.get s.cqs (fn, n) with
    | some q => if q.state = .suspended then s.cqError fn n else s.cmdResumeRefused m fn
    | none => s.cmdResumeRefused m fn
  else
    match Tbl.get s.eqs (fn, n) with
    | some q => if q.state = .suspended then s.eqError fn n else s.cmdResumeRefused m fn
    | none => s.cmdResumeRefused m fn

/-! ## Trigger counters (R158, R159) -/

/-- Local operations of every queue of a function end as their turn comes. -/
def State.kickQueues (s : State) : State := s.wqs.foldl (fun s e => s.kickLocal (s.ops.length + 1) e.1.1 e.1.2) s

/-- A write of `CMD_TRIGk` (R158). -/
def trigCounterSet (m fn c v : Nat) (s : State) : State := if !mayWindow m fn then s else (s.trigSet fn (c % 512) v).kickQueues

/-- A write of `CMD_TRIG_ADD` (R158). -/
def trigAdd (m fn c v : Nat) (s : State) : State := if !mayWindow m fn then s else (s.trigBump fn (c % 512) v).kickQueues

end Sys2Proof.Machine
end

