-- ==== Sys2Proof/Machine/Tmg.lean ====
section
/-! DEFINITION. Machine/Tmg.lean: injection scheduling, the segments of operations and of responses, payload reads, and the
tollgate (12 R403 to R413; 06 R177, R178; 04 R114). -/

namespace Sys2Proof.Machine

/-! ## Segments (R177, R232) -/

/-- Is an operation a rendezvous `SEND` (08 *Carrying the message*)? `EAGER_MAX` decides when it begins (R261). -/
def State.rendezvous (s : State) (o : Op) : Bool :=
  o.d.verb == vbSend && !o.d.adv advInline &&
    (if o.phase = .queued || o.phase = .held then decide (min 16384 (s.rd F.MTC_CTL_EAGER_MAX) < o.d.length) else o.pull)

/-- Segments of an operation (R177, R180, R183, R261). -/
def State.segCount (s : State) (o : Op) : Nat :=
  if o.d.verb = vbPut || (o.d.verb = vbSend && !s.rendezvous o) then max 1 (ceilDiv o.d.length 4096) else 1

/-- The bytes of an operation that one of its segments carries: local address and length; `none`: not read from the buffer. -/
def State.segRead (s : State) (o : Op) (seg : Nat) : Option (Nat × Nat) :=
  let n := min 4096 (o.d.length - 4096 * seg)
  if (o.d.verb = vbPut || (o.d.verb = vbSend && !s.rendezvous o)) && !o.d.adv advInline && n != 0 then some (o.d.localAddr + 4096 * seg, n)
  else none

/-- The payload of a segment that is not read from the buffer (R139, R183, R232, R344). -/
def Op.ownPayload (o : Op) : List Byte :=
  if (o.d.verb = vbPut || o.d.verb = vbSend) && o.d.adv advInline then o.d.inline.take o.d.length
  else if o.d.verb = vbAtomic || o.d.verb = vbFetch || o.d.verb = vbLock then leBytes 8 o.d.operand0 ++ leBytes 8 o.d.operand1
  else if o.d.verb = vbUnlock then leBytes 16 0
  else []

/-- The header of a segment (R194, R232, R261, R344). -/
def State.segHdr (s : State) (o : Op) (id seg : Nat) : DataHdr :=
  let last := decide (s.segCount o ≤ seg + 1)
  let signal := o.d.adv advSignal && last
  if o.d.verb = vbGet then o.request id 0 o.d.length
  else
    { verb := o.d.verb, noun := o.d.noun, key := o.d.key, opTag := id, segIndex := seg, msgLen := o.d.length, last := last,
      remote := if o.d.verb = vbPut then o.d.remote + 4096 * seg else o.d.remote,
      ordered := o.d.adv advOrdered, signal := signal, aux := if signal then o.d.operand1 % 2 ^ 32 else 0 }

/-- Charge of a segment (R205, R403). -/
def State.segCharge (s : State) (o : Op) (seg : Nat) : Nat :=
  match s.segRead o seg with
  | some (_, n) => n + 80
  | none => (if s.rendezvous o then 0 else o.ownPayload.length) + 80

/-! ## Chosen segments of a queue -/

/-- A chosen segment changed. -/
def State.modSend (s : State) (fn n id seg : Nat) (f : Send → Send) : State :=
  s.modWq fn n fun q => { q with sends := q.sends.map fun x => if x.op = id && x.seg = seg then f x else x }

/-- A chosen segment and every later one of its queue given back to the scheduler (R114). -/
def State.unsend (s : State) (fn n id seg : Nat) : State :=
  match Tbl.get s.wqs (fn, n) with
  | none => s
  | some q =>
    let early (x : Send) : Bool := x.op != id || x.seg != seg
    let gone := q.sends.dropWhile early
    let s := gone.foldl (fun s x => s.dropGrants (.payload x.op x.seg)) s
    let s := (s.modWq fn n fun q => { q with sends := q.sends.takeWhile early }).wasted (gone.map fun x => (n, x))
    gone.foldl (fun s x => s.modOp x.op fun o =>
      { o with nextSeg := min o.nextSeg x.seg, phase := if x.seg = 0 && x.op != id then .queued else .begun }) s

/-- The payload read of a segment faults (R110, R114, R116). -/
def State.payloadFault (s : State) (o : Op) (id seg kind level iova : Nat) : State :=
  let s := (s.dropGrants (.payload id seg)).faultRecord o.fn { kind := kind, source := 0, level := level, master := 0x10 + o.wq % 4, as := s.opAs o, iova := iova, context := o.wq }
  match Tbl.get s.wqs (o.fn, o.wq) with
  | none => s
  | some q =>
    if q.state = .active || q.state = .suspended then
      let first := match q.faultOp with
        | some (x, k) => if q.state = .suspended && decide (x < id) then (x, k) else (id, kind)
        | none => (id, kind)
      let s := (s.unsend o.fn o.wq id seg).modWq o.fn o.wq fun q => { q with state := .suspended, faultOp := some first }
      s.modOp id fun o => o.stamp fun m => { m with suspended := true }
    else
      ((s.dropSends id).modOp id fun o => { o with fail := some (o.fail.getD (faultStatus kind, 0)), stop := true }).checkOp id

/-- The payload read of a chosen segment begun: on a side-effect page only once the segment is the next to be transmitted
(R103, R104, R114). -/
def State.startRead (s : State) (id seg : Nat) : State :=
  match Tbl.get s.ops id with
  | none => s
  | some o =>
    match Tbl.get s.wqs (o.fn, o.wq), s.segRead o seg with
    | some q, some (a, n) =>
      if !q.sends.any fun x => x.op == id && x.seg == seg && x.read.isNone && x.data.isNone then s
      else
        match s.xlat (.payload id seg) o.fn q.as a n true false with
        | (s, .wait) => s.modOp id fun o => o.stamp fun m => { m with xltMiss := true }
        | (s, .fault kind level io) => s.payloadFault o id seg kind level io
        | (s, .ok ps se) =>
          if se && (q.sends.head?.map fun x => x.op == id && x.seg == seg) != some true then s
          else
            let (s, rd) := (s.dropGrants (.payload id seg)).hostReadV o.fn ps n (.payload id seg) (some a) (some (o.wq % 4)) q.as
            let s := s.modSend o.fn o.wq id seg fun x => { x with read := some rd }
            let s := s.modOp id fun o => o.stamp fun m => { m with xlt := some (m.xlt.getD s.now) }
            s.prewalk o.fn q.as (a + n - 1) (o.d.length - 4096 * seg - n) true false
    | _, _ => s

/-- A segment whose payload is here transmitted (R177, R182, R200). -/
def State.sendSeg (s : State) (o : Op) (x : Send) (d : List Byte) : State :=
  let src : PaySrc := match s.segRead o x.seg with
    | some (a, _) => .host o.fn (s.opAs o) a
    | none => .fixed
  let s := s.modWq o.fn o.wq fun q => { q with sends := q.sends.drop 1 }
  let s := s.when (x.seg = 0) fun s => s.modOp x.op fun o =>
    { o with startAt := s.now, deadline := if o.d.verb = vbGet then some s.restart else o.deadline }
  s.transmit (s.opKey o) o.slot (.op x.op) src (s.segHdr o x.op x.seg) d

/-- Segments of a queue transmitted in order as far as their payloads are here; the first argument bounds them (R178). -/
def State.flushSends (s : State) (fuel fn n : Nat) : State :=
  match fuel with
  | 0 => s
  | k + 1 =>
    match Tbl.get s.wqs (fn, n) with
    | none => s
    | some q =>
      match q.sends with
      | [] => s
      | x :: _ =>
        match x.data, Tbl.get s.ops x.op with
        | _, none => (s.modWq fn n fun q => { q with sends := q.sends.drop 1 }).flushSends k fn n
        | none, some _ => s.startRead x.op x.seg
        | some d, some o =>
          match s.needPw (s.opKey o) with
          | (s, false) => s
          | (s, true) =>
            let s := s.needSnd (s.opKey o)
            if !s.maySend (s.opKey o) (d.length + 80) || s.busHeld fn then s
            else (s.sendSeg o x d).flushSends k fn n

/-! ## Responses (R180, R269, R403) -/

/-- The next response segment of a request transmitted (R180, R269). -/
def State.sendResp (s : State) (id : Nat) (g : Serve) (d : List Byte) : State :=
  let h := g.rx.hdr
  let last := decide (h.msgLen ≤ 4096 * (g.seg + 1))
  let src : PaySrc := if g.kind = 1 then .commons (g.base + 4096 * g.seg) else .host g.fn g.as (g.base + 4096 * g.seg)
  let r : DataHdr :=
    { resp := true, verb := h.verb, noun := h.noun, key := h.key, opTag := h.opTag, segIndex := h.aux / 4096 + g.seg,
      remote := h.remote + 4096 * g.seg, msgLen := h.msgLen, ordered := h.ordered, last := last }
  let s := { s with gets := Tbl.set s.gets id { g with seg := g.seg + 1, chosen := false, reading := none, sent := last } }
  let s := if last then { s with resps := s.resps.filter fun x => x != .serve id } else s
  let (s, here) := s.needPw g.key
  let s := s.when here fun s => s.needSnd g.key
  if here && s.maySend g.key (d.length + 80) then s.transmit g.key g.rx.slot (.serve id) src r d
  else { s with resps := s.resps ++ [.pkt g.key g.rx.slot (.serve id) src r d] }

/-- The source of the chosen response segment read (R180, R269, R270). -/
def State.readResp (s : State) (id : Nat) : State :=
  match Tbl.get s.gets id with
  | none => s
  | some g =>
    let n := g.segLen
    let a := g.base + 4096 * g.seg
    if !g.chosen || g.reading.isSome then s
    else if g.kind = 1 then
      let u : MemUser := .rxe (PwKey.pipe g.key)
      if s.memOk u a n then (s.memBursts u a n false).sendResp id g (s.bytes a n) else (s.memDeny u a n).serveFault id { g with chosen := false } 0 0 0 true
    else
      let w : Waiter := .serve id g.seg
      match s.xlat w g.fn g.as a n true false with
      | (s, .wait) => s
      | (s, .fault kind level io) =>
        (({ s.dropGrants w with gets := Tbl.set s.gets id { g with chosen := false } } : State)).serveFault id g kind level io false
      | (s, .ok ps _) =>
        let (s, rd) := (s.dropGrants w).hostReadV g.fn ps n (.serve id g.seg) (some a) (some (PwKey.pipe g.key)) g.as
        ({ s with gets := Tbl.set s.gets id { g with reading := some rd } } : State).prewalk g.fn g.as (a + n - 1) (g.rx.hdr.msgLen - 4096 * g.seg - n) true false

/-! ## Which segments can be sent (R405) -/

/-- What keeps a segment from being sent. -/
inductive Gate where
  | go
  /-- a reason of its own: set aside -/
  | aside
  /-- the injection path at the junction is full: the pipe stalls -/
  | full
deriving DecidableEq, Repr

/-- Is there a usable candidate with room on its injection path (R375, R405)? A kept candidate that is usable stands for all. -/
def State.routeGate (s : State) (k : PwKey) (o : Owner) : State × Gate :=
  if epaDid k.rem = s.did then (s, .go)
  else if !s.listHeld (epaDid k.rem) then
    (match o with
      | .op id => (s.modOp id fun o => o.stamp fun m => { m with rtbMiss := true }).missList (epaDid k.rem)
      | _ => s.missList (epaDid k.rem), .aside)
  else
    let (s, all) := s.survey (epaDid k.rem) k.tc (List.range 16)
    let u := all.filter s.usable
    let kept := u.filter fun c => some c.idx == s.keptCand k o
    let full := (if kept = [] then u else kept).any fun c => match c.ms with
      | m :: _ => s.injectFull m.port
      | [] => false
    (s, if all = [] then .go else if u = [] then .aside else if full then .full else .go)

/-- A local operation begins to wait for a full store: counted and recorded once (R202, R244 index 5). -/
def State.storeWait (s : State) (k : PwKey) (o : Owner) : State :=
  match o.operation.bind fun id => (Tbl.get s.ops id).map fun x => (id, x) with
  | some (id, x) =>
    if x.storeWait || Tbl.has s.pws k || !s.timeLocked || !s.storeFull || k.lqp != 0 then s
    else ((s.modOp id fun x => { x with storeWait := true }).bump F.PWY_REFUSE_STORE_FULL).berr .pwy 5
  | none => s

/-- May the next segment of an owner be sent on its pathway (R202, R204, R205, R405)? -/
def State.gate (s : State) (k : PwKey) (o : Owner) (charge : Nat) : State × Gate :=
  match s.needPw k with
  | (s, false) => (s.storeWait k o, .aside)
  | (s, true) =>
    let s := s.needSnd k
    if s.mayTransmit k charge then s.routeGate k o else (s, .aside)

/-- The operation whose segment a queue sends next (R178): one that has begun, else the first in order. -/
def State.nextOpOf (s : State) (fn n : Nat) : Option (Nat × Op) :=
  let mine := s.ops.filter fun e => e.2.fn == fn && e.2.wq == n && !e.2.recv && e.2.ended.isNone && !e.2.stop
  match mine.find? fun e => e.2.phase == .begun && e.2.d.verb != vbConvoy with
  | some e => some e
  | none => mine.find? fun e => e.2.phase == .queued

/-- Rendezvous sources outstanding (R267). -/
def State.rdvSources (s : State) : Nat := Tbl.count s.ops fun _ o => o.pull && !o.recv && o.ended.isNone

/-- An operation of a queue that the pipe may serve: its queue is neither suspended nor held by its port (R79, R84, R115). -/
def State.backlogOf (s : State) (fn n : Nat) (q : Wq) : Option (Nat × Op) :=
  if q.recv || q.state = .suspended then none
  else
    match s.nextOpOf fn n with
    | none => none
    | some e => if targets e.2.d.verb then some e else none

/-- An entity that the pipe could serve (R403): class, number at level 2 (0: the response entity), queue, operation or response,
charge, and whether it stalls the pipe. -/
structure Ent where
  cls : Nat
  num : Nat
  fn : Nat := 0
  wq : Nat := 0
  op : Option Nat := none
  resp : Option Resp := none
  charge : Nat
  full : Bool := false
deriving DecidableEq, Repr

/-- The queues of a pipe that are backlogged (R403). -/
def State.workBacklog (s : State) (p : Nat) : List ((Nat × Nat) × Nat) :=
  s.wqs.filterMap fun e => if e.1.2 % 4 = p then (s.backlogOf e.1.1 e.1.2 e.2).map fun o => (e.1, o.1) else none

/-- The queues of a pipe whose next descriptor is a `LOCK` that waits for an entry of the held-lock table (R351, R405). -/
def State.lockWaits (s : State) (p : Nat) : List (Nat × Nat) :=
  if s.heldLocks.length < 16384 then []
  else (s.wqs.filter fun e => e.1.2 % 4 == p && !e.2.recv && e.2.state == .active && (s.workBacklog p).all (fun x => x.1 != e.1)
    && (e.2.cache.head?.map fun c => c.d.verb == vbLock).getD false).map Prod.fst

/-- Is a queue set aside by what its next operation waits for (R188, R189, R267, R405)? -/
def State.opAside (s : State) (o : Op) : Bool :=
  o.after != [] || s.fnAbsent o.fn || s.busHeld o.fn || (s.hf o.fn).resetH
    || (s.rendezvous o && o.phase == .queued && decide (65536 ≤ s.rdvSources))

/-- The backlogged queues of a pipe that are not set aside (R405). -/
def State.queueEnts (s : State) : List ((Nat × Nat) × Nat) → State × List Ent
  | [] => (s, [])
  | (q, id) :: rest =>
    match Tbl.get s.ops id with
    | none => s.queueEnts rest
    | some o =>
      if s.opAside o then s.queueEnts rest
      else
        let c := s.segCharge o o.nextSeg
        let (s, g) := s.gate (s.opKey o) (.op id) c
        let (s, l) := s.queueEnts rest
        (s, if g = .aside then l else { cls := o.d.tc, num := wqEnt q.1 q.2, fn := q.1, wq := q.2, op := some id, charge := c, full := g == .full : Ent } :: l)

/-- Pathway, owner and charge of what waits in a response entity; none while it cannot be served. -/
def State.respNeeds (s : State) (r : Resp) : Option (PwKey × Owner × Nat) :=
  match r with
  | .pkt k _ o _ _ d => some (k, o, d.length + 80)
  | .serve id =>
    match Tbl.get s.gets id with
    | some g => if g.sent || g.chosen then none else some (g.key, .serve id, g.segLen + 80)
    | none => none

/-- The function and queue whose entity carries what waits: a queue's own continuation is the queue's, all else the response entity's (R403). -/
def State.respQueue (s : State) (o : Owner) : Option (Nat × Nat) :=
  match o with
  | .op id => (Tbl.get s.ops id).map fun x => (x.fn, x.wq)
  | _ => none

/-- The oldest sendable packet of each class of a pipe's response entity, and of each queue's continuations (R8, R180, R403; log entry 14). -/
def State.respEnts (s : State) (p : Nat) (seen : List (Nat × Nat)) : List Resp → State × List Ent
  | [] => (s, [])
  | r :: rest =>
    match s.respNeeds r with
    | none => s.respEnts p seen rest
    | some (k, o, c) =>
      let q := s.respQueue o
      let num := (q.map fun x => wqEnt x.1 x.2).getD 0
      if s.txPipe o k ≠ p || seen.contains (k.tc, num) then s.respEnts p seen rest
      else
        match s.gate k o c with
        | (s, .aside) => s.respEnts p seen rest
        | (s, g) =>
          let (s, l) := s.respEnts p ((k.tc, num) :: seen) rest
          (s, { cls := k.tc, num := num, fn := (q.map Prod.fst).getD 0, wq := (q.map Prod.snd).getD 0, resp := some r, charge := c, full := g == .full : Ent } :: l)

/-! ## Tags and shapers (R404 to R407) -/

/-- Credit of a shaper now, in 1/80 byte: rate in units of 100 Mb/s, burst in units of 256 B (R406). -/
def State.credit (s : State) (key : Nat × Nat) (rate burst : Nat) : Int :=
  let top : Int := (burst * 256 * 80 : Nat)
  match Tbl.get s.credits key with
  | none => top
  | some c => min top (c.amount + (rate * (s.now - c.stamp) : Nat))

/-- A charge taken from a shaper (R406). -/
def State.spendCredit (s : State) (key : Nat × Nat) (rate burst charge : Nat) : State :=
  { s with credits := Tbl.set s.credits key { amount := s.credit key rate burst - (charge * 80 : Nat), stamp := s.now } }

/-- Is a class shaped, and its shaper's rate and burst (R403, R406)? -/
def State.tcShaper (s : State) (t : Nat) : Option (Nat × Nat) :=
  if s.on F.TMG_TC_SHAPEt_EN 0 t then some (s.rd F.TMG_TC_SHAPEt_RATE 0 t, s.rd F.TMG_TC_SHAPEt_BURST 0 t) else none

/-- The shaper of a work queue, from `CREATE_WQ` `P3` (R407). -/
def Wq.shaper (q : Wq) : Option (Nat × Nat) :=
  if bitOf q.sched 16 then some (bitsOf q.sched 32 16, bitsOf q.sched 48 16) else none

/-- The shaper of an entity: its key, rate and burst. -/
def State.entShaper (s : State) (p : Nat) (e : Ent) : Option ((Nat × Nat) × Nat × Nat) :=
  if e.num = 0 then none
  else
    match Tbl.get s.wqs (e.fn, e.wq) with
    | some q => q.shaper.map fun r => ((p, 4 + e.num), r)
    | none => none

/-- Has a shaper credit above 0, where there is one (R406)? -/
def State.credited (s : State) (x : Option ((Nat × Nat) × Nat × Nat)) : Bool :=
  match x with
  | some (k, r, b) => decide (0 < s.credit k r b)
  | none => true

/-- The class shaper of a pipe. -/
def State.clsShaper (s : State) (p t : Nat) : Option ((Nat × Nat) × Nat × Nat) := (s.tcShaper t).map fun r => ((p, t), r)

/-- Virtual time of a level: level 0 chooses among classes, level 1 + t among the entities of class t. -/
def State.vtime (s : State) (p level : Nat) : Nat := if level = 0 then s.rd F.TMG_VTIMEp_V 0 p else Tbl.getD s.vtimes (p, level) 0

/-- Virtual time of a level set. -/
def State.setVtime (s : State) (p level v : Nat) : State :=
  if level = 0 then s.wr F.TMG_VTIMEp_V v 0 p else { s with vtimes := Tbl.set s.vtimes (p, level) v }

/-- How far a tag stands ahead of a virtual time: tags are 64-bit counts, which wrap (R404, DEDUCED). -/
def tagAhead (v t : Nat) : Nat := wrapSub 64 t v

/-- The tags of a level brought up to date for its eligible entities (R405): those that were not take the larger of the virtual
time and their tag. -/
def State.retag (s : State) (p level : Nat) (nums : List Nat) : State :=
  let v := s.vtime p level
  let tags := Tbl.mapVals s.tags fun k (t : Tag) => if k.1 = p && k.2.1 = level && !nums.contains k.2.2 then { t with live := false } else t
  { s with tags := nums.foldl (fun ts n =>
      let t : Tag := Tbl.getD ts (p, level, n) {}
      if t.live then ts else Tbl.set ts (p, level, n) { s := if tagAhead v t.s < 2 ^ 63 then t.s else v, live := true }) tags }

/-- Start tag of an entity. -/
def State.startTag (s : State) (p level n : Nat) : Nat := (Tbl.getD s.tags (p, level, n) {}).s

/-- An entity served: the virtual time takes its start tag, and its tag its finish tag (R404). -/
def State.serveTag (s : State) (p level n charge weight : Nat) : State :=
  let t := s.startTag p level n
  let s := s.setVtime p level t
  { s with tags := Tbl.set s.tags (p, level, n) { s := wrapAdd 64 t (charge * 256 / orWhenZero weight 256), live := true } }

/-- Weight of an entity of level 2 (R404, R407). -/
def State.entWeight (s : State) (e : Ent) : Nat :=
  if e.num = 0 then s.rd F.TMG_CTL_RESP_WEIGHT
  else ((Tbl.get s.wqs (e.fn, e.wq)).map fun q => bitsOf q.sched 0 16).getD 0

/-- The smallest by a measure; the first of equals. -/
def leastBy (f : Nat → Nat) : List Nat → Option Nat
  | [] => none
  | x :: r =>
    match leastBy f r with
    | none => some x
    | some y => if f x ≤ f y then some x else some y

/-! ## The choice (R403, R404, R408) -/

/-- The class that level 1 chooses among eligible classes (R403): a strict one, highest first, else by tags; classes with equal
tags are drawn as a free value (log entry 14). -/
def State.chooseClass (s : State) (p : Nat) (ts : List Nat) : State × Option Nat :=
  let strict := ts.filter fun t => bitOf (s.rd F.TMG_TC_CTL_STRICT) t
  match strict.max? with
  | some t => (s, some t)
  | none =>
    let s := s.retag p 0 ts
    match leastBy (fun t => tagAhead (s.vtime p 0) (s.startTag p 0 t)) ts with
    | none => (s, none)
    | some t =>
      let ties := ts.filter fun x => s.startTag p 0 x == s.startTag p 0 t
      if ties.length ≤ 1 then (s, some t) else (s.drawn, ties[s.freeVal % ties.length]?)

/-- A pre-emption counted when the queue served before has an operation unfinished and is not suspended (R116, R408). -/
def State.preempt (s : State) (p : Nat) (next : Option (Nat × Nat)) : State :=
  let s' := { s with lastWq := match next with
    | some q => Tbl.set s.lastWq p q
    | none => Tbl.del s.lastWq p }
  match Tbl.get s.lastWq p with
  | none => s'
  | some q =>
    if some q = next then s'
    else
      match Tbl.get s.wqs q, s.ops.find? fun e => e.2.fn == q.1 && e.2.wq == q.2 && e.2.phase == .begun && !e.2.stop && e.2.ended.isNone && targets e.2.d.verb with
      | some w, some e =>
        if w.state = .suspended then s'
        else
          ((s'.bump F.TXE_PREEMPTp_COUNT 1 0 p).tally .txe 15 1 p).modOp e.1 fun o => o.stamp fun m => { m with preempt := m.preempt + 1 }
      | _, _ => s'

/-- Work queues of a pipe with an operation partly transmitted (`TXE_PIPE_STATp.ACTIVE_WQ`). -/
def State.activeWqs (s : State) (p : Nat) : Nat :=
  Tbl.count s.wqs fun k _ => k.2 % 4 == p && s.ops.any fun e => e.2.fn == k.1 && e.2.wq == k.2 && e.2.phase == .begun && e.2.nextSeg != 0 && targets e.2.d.verb

/-- The next segment of an operation chosen: its payload is read, or it is transmitted at once (R114, R177). -/
def State.chooseSeg (s : State) (p id : Nat) : State :=
  match Tbl.get s.ops id with
  | none => s
  | some o =>
    let seg := o.nextSeg
    let last := decide (s.segCount o ≤ seg + 1)
    let rdv := s.rendezvous o
    let x : Send := match s.segRead o seg with
      | some (_, n) => { op := id, seg := seg, len := n }
      | none => let d := if rdv then [] else o.ownPayload; { op := id, seg := seg, len := d.length, data := some d }
    let s := s.modOp id fun o => { o with nextSeg := seg + 1, phase := if last then .sent else .begun, pull := rdv }
    let s := s.modWq o.fn o.wq fun q => { q with sends := q.sends ++ [x] }
    let s := s.high F.TXE_HWMp_ACTIVE_HWM (s.activeWqs p) 0 p
    (s.startRead id seg).flushSends 64 o.fn o.wq

/-- A response chosen (R180, R403). -/
def State.chooseResp (s : State) (p : Nat) (r : Resp) : State :=
  let s := s.tally .tmg 7 1 p
  match r with
  | .pkt k slot o src h d => ({ s with resps := s.resps.filter fun x => x != r } : State).transmit k slot o src h d
  | .serve id =>
    match Tbl.get s.gets id with
    | some g => ({ s with gets := Tbl.set s.gets id { g with chosen := true } } : State).readResp id
    | none => s

/-- An entity served (R404, R406). -/
def State.serveEnt (s : State) (p : Nat) (e : Ent) : State :=
  let s := if bitOf (s.rd F.TMG_TC_CTL_STRICT) e.cls then s
    else s.serveTag p 0 e.cls e.charge (bitsOf (s.rd F.TMG_TC_CTL_WEIGHT) (8 * e.cls) 8)
  let s := s.serveTag p (1 + e.cls) e.num e.charge (s.entWeight e)
  let s := match s.clsShaper p e.cls with
    | some (k, r, b) => s.spendCredit k r b e.charge
    | none => s
  let s := match s.entShaper p e with
    | some (k, r, b) => s.spendCredit k r b e.charge
    | none => s
  let s := ((s.tally .tmg 0 1 p).tally .tmg (1 + e.cls) 1 p).preempt p (if e.num = 0 then none else some (e.fn, e.wq))
  match e.op, e.resp with
  | some id, _ => s.chooseSeg p id
  | none, some r => s.chooseResp p r
  | none, none => s

/-- `LOCK` and `UNLOCK` operations whose turn has come while `ATM` is fenced end (R505). -/
def State.fencedLocks (s : State) (p : Nat) : State :=
  if !s.fenced Block.atm.page then s
  else (s.workBacklog p).foldl (fun s e => match Tbl.get s.ops e.2 with
    | some o => if (o.d.verb = vbLock || o.d.verb = vbUnlock) && o.after == [] then s.endOp e.2 stAborted dtEngineFenced 0 0 else s
    | none => s) s

/-- Segments of a pipe's queues whose payload is here transmitted. -/
def State.flushPipe (s : State) (p : Nat) : State :=
  s.wqs.foldl (fun s e => if e.1.2 % 4 = p && e.2.sends != [] then s.flushSends 64 e.1.1 e.1.2 else s) s

/-- The entity that a pipe's scheduler chooses among those that could be served (R403, R404, R406). -/
def State.pickEnt (s : State) (p : Nat) (es : List Ent) : State × Option Ent :=
  let es := es.filter fun e => s.credited (s.entShaper p e)
  let s := (List.range 4).foldl (fun s t => s.retag p (1 + t) ((es.filter fun e => e.cls == t).map Ent.num)) s
  let ts := (List.range 4).filter fun t => es.any (fun e => e.cls == t) && s.credited (s.clsShaper p t)
  match s.chooseClass p ts with
  | (s, none) => (s, none)
  | (s, some t) =>
    let mine := es.filter fun e => e.cls == t
    let least := mine.foldl (fun b e => match b with
      | none => some e
      | some (x : Ent) =>
        let v := s.vtime p (1 + t)
        let a := tagAhead v (s.startTag p (1 + t) e.num)
        let c := tagAhead v (s.startTag p (1 + t) x.num)
        if a < c || (a == c && decide (e.num < x.num)) then some e else some x) none
    (s, least)

/-- Queues of a pipe that are backlogged: with an operation to send, or with a `LOCK` that no entry of the held-lock table is free for (R351,
R405). -/
def State.backlogged (s : State) (p : Nat) : Nat := (s.workBacklog p).length + (s.lockWaits p).length

/-- Queues of a pipe that are set aside (R405). -/
def State.asideCount (s : State) (p : Nat) : Nat := s.backlogged p - (s.queueEnts (s.workBacklog p)).2.length

/-- The high-water marks of the pipes follow what is backlogged and set aside (R414). -/
def State.noteBacklogs (s : State) : State :=
  if s.wqs = [] then s
  else (List.range 4).foldl (fun s p => (s.high F.TMG_HWMp_BACKLOG_HWM (s.backlogged p) 0 p).high F.TMG_HWMp_ASIDE_HWM (s.asideCount p) 0 p) s

/-- The entities of a pipe that could be served: the queues, what waits of their continuations, and the response entity (R403). -/
def State.pipeEnts (s : State) (p : Nat) : State × List Ent :=
  let (s, qs) := s.queueEnts (s.workBacklog p)
  let (s, rs) := s.respEnts p [] s.resps
  (s, rs.filter (fun e => e.num != 0) ++ qs ++ rs.filter fun e => e.num == 0)

/-- The queue or response that a pipe's scheduler chooses, and the state in which it is chosen (R403 to R408). -/
def State.chooseEnt (s : State) (p : Nat) : State × Option Ent :=
  let (s, es) := ((s.fencedLocks p).flushPipe p).pipeEnts p
  s.pickEnt p es

/-- Does the traffic manager schedule a queue, so that it may admit its next descriptor: would its pipe choose it, with that descriptor among what
it has to send (R8, R140)? A receive-posting queue is not scheduled (R253). -/
def State.scheduled (s : State) (fn n : Nat) : Bool :=
  match Tbl.get s.wqs (fn, n) with
  | none => false
  | some q =>
    q.recv || (s.serves .txe && s.serves .tmg &&
      (let p := n % 4
       let (s, es) := s.pipeEnts p
       let tc := (q.cache.head?.map fun c => (s.aimed q c.d).tc % 4).getD 0
       let mine : Ent := { cls := tc, num := wqEnt fn n, fn := fn, wq := n, charge := 0 }
       match (s.pickEnt p (if es.any fun e => e.num == mine.num then es else es ++ [mine])).2 with
       | some e => e.num == mine.num && !e.full
       | none => false))

/-- A descriptor is admitted where its queue is scheduled (R140). -/
def State.admitted (s : State) (fn n : Nat) (f : State → State) : State := if s.scheduled fn n then f s else s

/-- The next descriptor of an initiator queue is admitted, where its queue is scheduled; of a receive-posting queue, one that is no receive and no
probe (R140). -/
def admitDescriptor (fn n : Nat) (s : State) : State :=
  s.admitted fn n fun s => s.admitNext fn n fun q d => !q.recv || (d.verb != 0x40 && d.verb != 0x41)

/-- The pipe scheduler serves what it chooses; what it has chosen waits while its path is full (R403 to R408). -/
def scheduleSegment (p : Nat) (s : State) : State :=
  if !s.serves .txe || !s.serves .tmg then s
  else
    match s.chooseEnt p with
    | (s, none) => s
    | (s, some e) => if e.full then s else s.serveEnt p e

/-! ## Payload reads (R72, R114) -/

/-- The payload read of a segment ends: of an operation, of a copy, or of a response (R72, R180, R214, R215). -/
def payloadReadComplete (rd : Nat) (s : State) : State :=
  match Tbl.get s.reads rd with
  | none => s
  | some r =>
    match r.use, r.result with
    | .payload id seg, some x =>
      let s := (s.takeRead rd).1
      match Tbl.get s.ops id with
      | none => s
      | some o =>
        match x with
        | .ok d =>
          let s := s.modSend o.fn o.wq id seg fun y => { y with data := some d }
          let s := s.modOp id fun o => o.stamp fun m => { m with read := some (m.read.getD s.now) }
          s.flushSends 64 o.fn o.wq
        | .failed =>
          let s := (s.dropSends id).modOp id fun o => { o with fail := some (o.fail.getD (stAborted, dtPayloadBus)), stop := true }
          (s.checkOp id).flushSends 64 o.fn o.wq
    | .retx k seq, some x =>
      let s := (s.takeRead rd).1
      match x, Tbl.get s.inflight (k, seq) with
      | .ok d, some f =>
        (s.modRec k seq fun f => match f.pkt.body with
          | .data h _ => { f with reading := none, pkt := { f.pkt with body := .data h d } }
          | _ => { f with reading := none }).launch k seq f.cand
      | .failed, some f => s.respLost k seq f
      | _, none => s
    | .serve id _, some x =>
      let s := (s.takeRead rd).1
      match Tbl.get s.gets id with
      | none => s
      | some g =>
        match x with
        | .ok d => s.sendResp id g d
        | .failed => s.serveFault id { g with chosen := false } 0 0 0 true
    | _, _ => s

/-! ## The tollgate (R409 to R413) -/

/-- Counts of the chosen slot's meter stand in its record (`TMG_TG_CNT`, `TMG_TG_CNT2`). -/
def State.meter (s : State) (slot : Nat) : Meter := Tbl.getD s.meters slot {}

/-- A bucket filled up to now: rate in Mb/s, size in bytes, contents in 1/8,000 byte (R410). -/
def bucket (now stamp held rate size : Nat) : Nat := min (size * 8000) (held + rate * (now - stamp))

/-- A packet metered: the colour's action (0 to 3), and the meter after it (R410, R411). -/
def Meter.pass (m : Meter) (now b : Nat) : Nat × Meter :=
  if !m.en then (0, { m with nGreen := satAdd 32 m.nGreen 1 })
  else
    let c := bucket now m.stamp m.tc m.cir m.cbs
    let p := bucket now m.stamp m.tp m.pir m.pbs
    let need := b * 8000
    let acted (a : Nat) (m : Meter) : Nat × Meter := (a, { m with nActed := if 2 ≤ a then satAdd 32 m.nActed 1 else m.nActed, stamp := now })
    if p < need then acted m.red { m with tc := c, tp := p, nRed := satAdd 32 m.nRed 1 }
    else if c < need then acted m.yellow { m with tc := c, tp := p - need, nYellow := satAdd 32 m.nYellow 1 }
    else acted m.green { m with tc := c - need, tp := p - need, nGreen := satAdd 32 m.nGreen 1 }

/-- A verified packet at the tollgate (R409, R411, R412): the packet that goes on, if one does. -/
def State.tollgate (s : State) (rx : RxPkt) : State × Option RxPkt :=
  match rx.pkt.body with
  | .data h _ =>
    if !s.on F.TMG_CTL_TG_EN then (s, some rx)
    else
      let (a, m) := (s.meter rx.slot).pass s.now (h.payloadLen + 80)
      let s := { s with meters := Tbl.set s.meters rx.slot m }
      match a with
      | 0 => (s, some rx)
      | 1 => (s, some { rx with pkt := { rx.pkt with route := { rx.pkt.route with cong := 255 } } })
      | 2 => (s.notice rx ntBusy nrTollgate, none)
      | _ => (s, none)
  | _ => (s, some rx)

/-- The staged meter registers loaded from a slot (R413). -/
def State.loadMeter (s : State) (slot : Nat) : State :=
  let m := s.meter slot
  ((((((((s.wr F.TMG_TG_CIR_CIR m.cir).wr F.TMG_TG_CIR_CBS m.cbs).wr F.TMG_TG_PIR_PIR m.pir).wr F.TMG_TG_PIR_PBS m.pbs).wr
    F.TMG_TG_ACT_EN (b2n m.en)).wr F.TMG_TG_ACT_GREEN m.green).wr F.TMG_TG_ACT_YELLOW m.yellow).wr F.TMG_TG_ACT_RED m.red)

/-- A write of `TMG_TG_SEL` (R413). -/
def tgSelWrite (m slot : Nat) (s : State) : State :=
  if !s.mayWrite m then s.refuse m Block.tmg.page (F.TMG_TG_SEL_SLOT.addr 0 0) true else (s.wr F.TMG_TG_SEL_SLOT slot).loadMeter (slot % 4096)

/-- A write of `TMG_TG_ACT` (R413). -/
def tgActWrite (m v : Nat) (s : State) : State :=
  if !s.mayWrite m then s.refuse m Block.tmg.page (F.TMG_TG_ACT_EN.addr 0 0) true
  else
    let cir := s.rd F.TMG_TG_CIR_CIR
    let cbs := s.rd F.TMG_TG_CIR_CBS
    let pir := s.rd F.TMG_TG_PIR_PIR
    let pbs := s.rd F.TMG_TG_PIR_PBS
    let en := bitOf v 0
    if en && (decide (pir < cir) || decide (cbs < 4176) || decide (pbs < 4176)) then s.refuse m Block.tmg.page (F.TMG_TG_ACT_EN.addr 0 0) true
    else
      let slot := s.rd F.TMG_TG_SEL_SLOT
      let k : Meter :=
        { s.meter slot with en := en, cir := cir, pir := pir, cbs := cbs, pbs := pbs, green := bitsOf v 2 2, yellow := bitsOf v 4 2,
                            red := bitsOf v 6 2, tc := cbs * 8000, tp := pbs * 8000, stamp := s.now }
      ({ s with meters := Tbl.set s.meters slot k } : State).loadMeter slot

end Sys2Proof.Machine
end

