-- ==== Sys2Proof/Machine/Power.lean ====
section
/-! DEFINITION. Machine/Power.lean: power states, wakes, and the rest of the `CRP` page (19 R561 to R572, R587; 20 R599, R607). -/

namespace Sys2Proof.Machine

/-! ## Power states (19 *Power states*) -/

def psFull : Nat := 0
def psLayby : Nat := 1
def psParked : Nat := 2
def psEnterLayby : Nat := 3
def psEnterParked : Nat := 4
def psWaking : Nat := 5

/-- The power state. -/
def State.power (s : State) : Nat := s.rd F.CRP_PWR_STAT_STATE

/-- A power state entered. -/
def State.setPower (s : State) (v : Nat) : State := s.wr F.CRP_PWR_STAT_STATE v

/-- A power domain changed, where it changes (R528). -/
def State.moveDom (s : State) (d v : Nat) : State := if s.domHeld d = v then s else (s.setDom d v).tally .crp 0

/-- Do the quiet conditions hold (R562)? -/
def State.quietNow (s : State) : Bool :=
  s.ops.all (fun e => e.2.phase == .held) && s.admin.isEmpty && s.inflight.isEmpty && s.parked.isEmpty && s.walkPark.isEmpty
    && s.pws.all (fun e => e.2.rcv.all fun r => r.held.isEmpty) && s.recs.isEmpty && s.atomics.isEmpty && s.wordWait.isEmpty
    && s.flushes.all (fun e => e.2.isEmpty) && s.memFlushes.isEmpty && s.ovfWait.isEmpty
    && s.wqs.all (fun e => e.2.state != .suspended) && s.cqs.all (fun e => e.2.state != .suspended)
    && s.eqs.all (fun e => e.2.state != .suspended)

/-- What lay-by gates (R561): `COL` stays powered while a convoy slot is valid. -/
def State.gateLayby (s : State) : State :=
  let s := ((s.moveDom 31 2).moveDom 33 2).moveDom 34 1
  if s.convoys.isEmpty then s.moveDom 32 2 else s

/-- Caches that gating empties (R561, R567, R575). -/
def State.dropCaches (s : State) : State :=
  { s with tcache := [], wcache := [], grants := [], wqs := Tbl.mapVals s.wqs fun _ q => { q with cache := [], part := [], fetching := none, fetchWait := false } }

/-- What parked gates (R561). -/
def State.gateParked (s : State) : State :=
  let gated := List.range 8 ++ (List.range 16).map (fun i => 12 + i) ++ [28, 29, 31, 32, 33, 35]
  let s := gated.foldl (fun s d => s.moveDom d 2) s
  let s := (s.moveDom 30 1).moveDom 34 1
  (List.range 4).foldl (fun s fn => if s.slot fn = slEmpty ∨ s.slot fn = slOff then s.moveDom (8 + fn) 2 else s) s

/-- Every port that is `UP` goes through `DRAIN` to `DOWN`, and the others with them (R569, R572). -/
def State.dropPorts (s : State) : State :=
  (List.range 128).foldl (fun s p =>
    let st := s.portState p
    if st = 0 ∨ st = 5 then s else if st = 3 then (s.enterDrain p 1).enterIdle p 0 else s.enterIdle p 0) s

/-- The keys of every slot erased at the entry of parked; their members hear of it at the wake (R569, R571). -/
def State.parkErase (s : State) : State :=
  if !s.on F.SEC_PARK_ZEROISE_EN then s
  else
    let hit := (s.slots.filter fun e => !e.2.keyLost).map Prod.fst
    let lose (t : TenSlot) : TenSlot :=
      { t with keyLost := true, curKey := 0, nextValid := false, nextKey := 0, nextEpoch := 0, rollAt := 0, rolled := false }
    { s with pw.zeroised := hit, slots := Tbl.mapVals s.slots fun _ t => if t.keyLost then t else lose t }

/-! ## Entering (R562, R568, R569) -/

/-- May parked be entered: the refusal, 0 for none (R568)? -/
def State.parkRefusal (s : State) : Nat :=
  let idle (fn : Nat) : Bool :=
    s.routerOnly || s.slot fn == slEmpty || s.slot fn == slOff || s.rd F.HIF_FN_STAT_DSTATE fn == 3
  if !(List.range 4).all idle then 2
  else if s.convoys.any fun e => !e.2.rounds.isEmpty then 3
  else 0

/-- Entry of a low-power state begins, or is refused (R562, R568). -/
def State.enter (s : State) (target : Nat) : State :=
  let go (st : Nat) : State := ({ s with pw.at_ := s.now, pw.wakeFrom := s.power } : State).setPower st
  if target = 1 then go psEnterLayby
  else if s.parkRefusal ≠ 0 then s.wr F.CRP_PWR_STAT_LAST_REFUSAL s.parkRefusal
  else go psEnterParked

/-! ## Waking (R564, R567, R571) -/

/-- A wake begins. -/
def State.beginWake (s : State) (cause wakeTo : Nat) : State :=
  let s := { s with pw.wakeFrom := s.power, pw.wakeTo := wakeTo, pw.at_ := s.now }
  (((s.setPower psWaking).wr F.CRP_PWR_STAT_LAST_WAKE cause).bump F.CRP_WAKE_WAKES).tally .crp 3

/-- A `TARGET` that applies in the present state: 3 acts as 0 (R562, R564, R568, R571). -/
def State.request (s : State) (target : Nat) : State :=
  let t := if target = 3 then 0 else target
  if s.power = psFull then (if t = 0 then s else s.enter t)
  else if s.power = psLayby then (if t = 0 then s.beginWake 1 0 else if t = 2 then s.enter 2 else s)
  else if s.power = psParked then (if t = 2 then s else s.beginWake 1 t)
  else { s with pw.next := some t }

/-- A transition has ended: resets that wait for `FULL` begin, and the last `TARGET` written meanwhile takes effect (R572). -/
def State.settled (s : State) : State :=
  let s := if s.power ≠ psFull then s
    else
      let s := (List.range 4).foldl (fun s fn => if (s.hf fn).resetWait then s.beginResetH fn else s) s
      match s.pw.waitM with
      | some c => ({ s with pw.waitM := none } : State).later (.resetM c)
      | none => s
  match s.pw.next with
  | some t => ({ s with pw.next := none } : State).request t
  | none => s

/-- Does a reset wait for `FULL`? -/
def State.resetWaits (s : State) : Bool := s.pw.waitM.isSome || (List.range 4).any fun fn => (s.hf fn).resetWait

/-- A wake trigger in whatever state the device is (R564, R571, R572): 7 is a reset, which abandons an entry; a host access, a packet and a
message of the management core wake from lay-by alone. -/
def State.wake (s : State) (cause : Nat) : State :=
  if s.power = psLayby || (s.power = psParked && ([1, 5, 6, 7, 8] : List Nat).contains cause) then s.beginWake cause 0
  else if cause = 7 && s.power = psEnterLayby then (s.setPower psFull).settled
  else if cause = 7 && s.power = psEnterParked then
    if s.pw.wakeFrom = psLayby then (s.setPower psLayby).beginWake 7 0 else (s.setPower psFull).settled
  else s

/-- Is the wake in progress one from a state? -/
def State.wakingFrom (s : State) (st : Nat) : Bool := s.power == psWaking && s.pw.wakeFrom == st

/-- Descriptors that doorbells cover fetched again from their rings (R567). -/
def State.refetch (s : State) : State := s.wqs.foldl (fun s e => s.fetchNext e.1.1 e.1.2) s

/-- A lay-by wake completes, but for the host accesses that it held (R567). -/
def State.laybyAwake (s : State) : State :=
  let s := [31, 32, 33, 34].foldl (fun s d => s.moveDom d 0) s
  (({ s with tags := [] } : State).setPower psFull).refetch

/-- A parked wake completes (R571, R575): with a reset waiting, the device goes to `FULL`. -/
def State.parkedAwake (s : State) : State :=
  let wakeTo := if s.resetWaits then psFull else s.pw.wakeTo
  let s := (List.range 36).foldl (fun s d => s.moveDom d 0) s
  let s := { s with tags := [], credits := [], meters := Tbl.mapVals s.meters fun _ (m : Meter) =>
    { m with tc := m.cbs * 8000, tp := m.pbs * 8000, stamp := s.now } }
  let s := if wakeTo = psLayby then s.gateLayby.setPower psLayby else (s.setPower psFull).refetch
  let ports := s.pw.ports
  let erased := s.pw.zeroised
  let s := { s with pw.ports := [], pw.zeroised := [] }
  let s := ports.foldl (fun s p => if s.portState p = 0 && s.configured p && !s.portFenced p then s.enterTrain p true else s) s
  let s := erased.foldl (fun s n => match Tbl.get s.slots n with
    | some t => s.tenancyEvent n t 0x21 2
    | none => s) s
  s.settled

/-! ## The commands -/

/-- `CRP_PWR_REQ.TARGET` written (R562, R568, R572). -/
def pwrReqWrite (m target : Nat) (s : State) : State :=
  if !s.mayWrite m then s.refuse m Block.crp.page (F.CRP_PWR_REQ_TARGET.addr 0 0) true
  else (s.wr F.CRP_PWR_REQ_TARGET target).request target

/-- Automatic lay-by (R562). -/
def autoLaybyIdle (s : State) : State :=
  if s.power ≠ psFull || !s.on F.CRP_PWR_CTL_AUTO_LAYBY || !s.quietNow then s
  else (s.reach (s.pw.hostAt + us (orWhenZero (s.rd F.CRP_PWR_CTL_IDLE_US) 1))).enter 1

/-- Quiet is reached on the way to lay-by (R561, R562). -/
def laybyQuiet (s : State) : State :=
  if s.power ≠ psEnterLayby || !s.quietNow then s
  else ((s.dropCaches.gateLayby.setPower psLayby).tally .crp 2).settled

/-- The entry times out (R562, R568). -/
def entryTimeout (s : State) : State :=
  if (s.power ≠ psEnterLayby && s.power ≠ psEnterParked) || s.quietNow then s
  else
    let s := s.reach (s.pw.at_ + us (orWhenZero (s.rd F.CRP_PWR_CTL_ENTRY_TMO_US) 1))
    let back := if s.power = psEnterParked then s.pw.wakeFrom else psFull
    ((s.setPower back).wr F.CRP_PWR_STAT_LAST_REFUSAL 1).settled

/-- Quiet is reached on the way to parked (R561, R569). -/
def parkedQuiet (s : State) : State :=
  if s.power ≠ psEnterParked || !s.quietNow then s
  else
    let ports := (List.range 128).filter fun p => s.on F.LNK_CTL_EN p
    let s := ({ s with pw.ports := ports } : State).dropPorts
    (s.parkErase.dropCaches.gateParked.setPower psParked).settled

/-- A wake trigger in lay-by (R564). -/
def laybyWake (cause : Nat) (s : State) : State := if s.power = psLayby then s.wake cause else s

/-- A wake trigger in parked (R571); a written `TARGET` of 1 leads to lay-by. -/
def parkedWake (cause : Nat) (s : State) : State :=
  if s.power = psParked then s.beginWake cause (if cause = 1 && s.rd F.CRP_PWR_REQ_TARGET = 1 then psLayby else psFull) else s

/-- A parked wake completes (R571). -/
def parkedWakeDone (s : State) : State := if s.wakingFrom psParked then s.parkedAwake else s

/-- Device time reaches `CRP_WAKE_TIME` (R564, R571). -/
def wakeTime (s : State) : State :=
  let t := s.rd F.CRP_WAKE_TIME_TIME
  if t = 0 || t < s.now || (s.power ≠ psLayby && s.power ≠ psParked) then s else (s.reach t).wake 5

/-- A domain does not power in its time (R587): its blocks are fenced, and a wake ends in `FULL`. -/
def domainFault (d : Nat) (s : State) : State :=
  let s := s.berr .crp 4 { access := accInternal, addr := d }
  let s := (domPages d).foldl (fun s p => if s.fenced p then s else (s.wr F.BLK_CTL_FENCE 1 p).later (.fence p)) s
  if s.wakingFrom psLayby then s.laybyAwake.settled
  else if s.wakingFrom psParked then ({ s with pw.wakeTo := psFull } : State).parkedAwake
  else s

/-! ## Clocks, voltage, temperature (R587, R599, R607) -/

/-- An island clock loses lock (R587). -/
def islandClockUnlock (i : Nat) (s : State) : State :=
  (s.clrBit F.CRP_CLK_STAT_LOCKED i).berr .crp 0 { access := accInternal, addr := i }

/-- A value kept between two bounds. -/
def clampTo (lo hi : Int) (v : Int) : Nat := (max lo (min hi v)).toNat

/-- A step of the core voltage (R599; `CRP_AVS`): at most 10 mV, at most once in a millisecond, within 650 mV to 850 mV; a regulator that
does not answer leaves it as it is. -/
def avsStep (target read : Nat) (answered : Bool) (s : State) : State :=
  if s.off || s.inReset then s
  else if !answered then (s.wr F.CRP_AVS_AVS_OK 0).berr .crp 1
  else
    let s := match s.pw.avsAt with
      | some t => s.reach (t + ms 1)
      | none => s
    let cur : Int := s.rd F.CRP_AVS_VOUT_MV
    let want : Int := clampTo 650 850 ((target : Int) + toSigned 8 (s.rd F.CRP_AVS_OFFSET_MV))
    let v := clampTo 650 850 (clampTo (cur - 10) (cur + 10) want)
    let s := ((s.wr F.CRP_AVS_VOUT_MV v).wr F.CRP_AVS_READ_MV read).wr F.CRP_AVS_AVS_OK 1
    (({ s with pw.avsAt := some s.now } : State).tally .crp 1).emit (.avs v)

/-- The die reaches a temperature (R587, R607). -/
def thermalLevel (temp : Nat) (s : State) : State :=
  let old := s.rd F.CRP_THERM_TEMP_C
  let warn := s.rd F.CRP_THERM_WARN_C
  let crit := min 115 (s.rd F.CRP_THERM_CRIT_C)
  let s := (s.wr F.CRP_THERM_TEMP_C temp).high F.CRP_THERM_PEAK_C (temp % 256)
  let s := if old < warn && warn ≤ temp then s.berr .crp 2 else s
  if old < crit && crit ≤ temp then s.berr .crp 3 else s

end Sys2Proof.Machine
end

