-- ==== Sys2Proof/Machine/Commit.lean ====
section
/-! DEFINITION. Machine/Commit.lean: shadow copies, commits and discards (02 R47 to R51, and the commit checks of 06, 07, 09, 11, 12,
14 and 15). -/

namespace Sys2Proof.Machine

/-! ## Shadow copies (R47 to R49) -/

/-- The shadow copy of a field. -/
def State.shadow (s : State) (f : Fld) (i : Nat := 0) (j : Nat := 0) : Nat := Sparse.read (s.rd f i j) s.sh.vals (f.key i j)

/-- The shadow copy of a field written. -/
def State.wrShadow (s : State) (f : Fld) (v : Nat) (i : Nat := 0) (j : Nat := 0) : State :=
  { s with sh.vals := Sparse.write (s.rd f i j) s.sh.vals (f.key i j) (v % 2 ^ f.width) }

/-- Page of an entry of the register bank. -/
def keyPage (key : Nat) : Nat := key / 64 * 8 / 65536

/-- Every shadow copy of a page reloaded from the value in effect. -/
def State.reloadShadow (s : State) (p : Nat) : State := { s with sh.vals := s.sh.vals.filter fun e => keyPage e.1 != p }

/-- Does a shadow copy of the page differ from the value in effect (`SHADOW_STAT.PENDING`)? -/
def State.shadowPending (s : State) (p : Nat) : Bool := s.sh.vals.any fun e => keyPage e.1 == p

/-- The value in effect of a slot register of `COL`, for a slot. -/
def State.slotReg (s : State) (k : Nat) (f : Fld) : Nat := Sparse.read f.rst (Tbl.getD s.sh.slots k []) (f.key 0 0)

/-- `COL_SLOT_SEL` written: the slot registers show another slot, and their shadow copies are reloaded (R291). -/
def State.selectSlot (s : State) (k : Nat) : State :=
  let s := (s.wr F.COL_SLOT_SEL_SLOT k).reloadShadow Block.col.page
  (F.fieldsCOL.filter fun f => f.acc == .rws).foldl (fun s f => s.wr f (s.slotReg (k % 4096) f)) s

/-- One shadow copy of a commit takes effect; a copy written since then stays for the next commit (R49). -/
def State.applyOne (s : State) (slot key v : Nat) : State :=
  match fieldAt key with
  | none => s
  | some (b, f, i, j) =>
    let s := if b = .col then { s with sh.slots := Tbl.set s.sh.slots slot (Sparse.write f.rst (Tbl.getD s.sh.slots slot []) key v) } else s
    if b = .col && s.rd F.COL_SLOT_SEL_SLOT != slot then s
    else
      let held := s.shadow f i j
      (s.wr f v i j).wrShadow f held i j

/-- The shadow copies of a commit in effect. -/
def State.applySnap (s : State) (c : Commit) : State := c.snap.foldl (fun s e => s.applyOne c.slot e.1 e.2) s

/-! ## The checks of a commit: 0, or the refusal code; `s` before, `a` with the new values in effect -/

/-- Entries of the commons-region table that a commit touches. -/
def cregsOf (c : Commit) : List Nat :=
  (c.snap.filterMap fun e => match fieldAt e.1 with
    | some (.rxe, f, _, j) => if f.stride = 32 then some j else none
    | _ => none).dedup

/-- The fields of a commons region that do not change while it is live (R170). -/
def cregFixed : List Fld :=
  [F.RXE_CREG_BASEi_BASE, F.RXE_CREG_LENi_LEN, F.RXE_CREG_ATTRi_RIGHTS, F.RXE_CREG_ATTRi_TENANCY, F.RXE_CREG_ATTRi_OWNER_FN,
    F.RXE_CREG_ATTRi_EQ, F.RXE_CREG_ATTRi_EQ_EN]

/-- An `RXE` commit (R170). -/
def rxeCommitCode (s a : State) (c : Commit) : Nat :=
  let es := cregsOf c
  let valid (x : State) (i : Nat) : Bool := x.on F.RXE_CREG_ATTRi_VALID 0 i
  let base (i : Nat) : Nat := a.rd F.RXE_CREG_BASEi_BASE 0 i * 4096
  let len (i : Nat) : Nat := a.rd F.RXE_CREG_LENi_LEN 0 i * 4096
  if es.any fun i => valid s i && valid a i && cregFixed.any fun f => s.rd f 0 i != a.rd f 0 i then 1
  else if es.any fun i => valid a i && (len i == 0 || decide (a.commonsSize < base i + len i)) then 2
  else if es.any fun i => valid a i && a.rd F.RXE_CREG_ATTRi_RIGHTS 0 i == 0 then 3
  else 0

/-- Is the bound on the forget time broken: give-up deadline and freshness window in µs (R222)? -/
def forgetShort (forget giveup window : Nat) : Bool := decide (forget < 4 * giveup) || decide (forget < giveup + window + 100)

/-- A `PWY` commit (R243). -/
def pwyCommitCode (a : State) : Nat :=
  let giveup := a.rd F.PWY_TIMERS_GIVEUP
  let forget := a.rd F.PWY_TIMERS_FORGET
  let lo := a.rd F.PWY_CC_WIN_MIN
  let mid := a.rd F.PWY_CC_WIN_INIT
  let hi := a.rd F.PWY_CC_WIN_MAX
  if forgetShort forget giveup (a.rd F.SEC_FRESH_WINDOW_US) then 1
  else if mid < lo ∨ hi < mid ∨ 1024 < hi then 2
  else if a.rd F.PWY_RTO_INIT < a.rd F.PWY_RTO_MIN ∨ 10 * a.rd F.PWY_RTO_MAX < a.rd F.PWY_RTO_INIT then 3
  else if giveup < 100 ∨ 10000000 < giveup ∨ forget < 1000 ∨ 60000000 < forget then 4
  else 0

/-- A `SEC` commit (R488): the second bound of R222. -/
def secCommitCode (a : State) : Nat :=
  let w := a.rd F.SEC_FRESH_WINDOW_US
  let f := a.rd F.SEC_FRESH_FUTURE_US
  if a.rd F.PWY_TIMERS_FORGET < a.rd F.PWY_TIMERS_GIVEUP + w + 100 then 1
  else if w < 100 ∨ 1000000 < w ∨ f < 1 ∨ 50 < f then 2
  else 0

/-- An `RTB` commit (R383). -/
def rtbCommitCode (a : State) : Nat :=
  let groups := a.rd F.RTB_LEG_CFG_GROUPS
  let members := a.rd F.RTB_LEG_CFG_MEMBERS
  let bad : Bool := groups == 0 || decide (4097 < groups) || members == 0 || decide (64 < members)
    || decide (groups ≤ a.rd F.RTB_LEG_CFG_OWN_GROUP) || decide (members ≤ a.rd F.RTB_LEG_CFG_OWN_MEMBER)
  if !a.on F.RTB_CTL_MODE && bad then 1
  else if (List.range 4).any fun t => bitsOf (a.rd F.RTB_SEL_MODE_TC) (2 * t) 2 == 3 then 2
  else 0

/-- An `XBR` commit (R386, R417). -/
def xbrCommitCode (a : State) (j : Nat) : Nat :=
  let r := a.reserved j
  let b := r.getD 8 (0, 0)
  if (r.take 8).any (fun x => decide (x.1 < 132) || x.2 == 0) || decide (b.1 < 128) || decide (b.2 < 8) then 1
  else if 4096 < (r.map Prod.fst).sum ∨ 512 < (r.map Prod.snd).sum then 2
  else if a.rd F.XBR_MARK_HI j ≤ a.rd F.XBR_MARK_LO j then 3
  else if a.rd F.XBR_ARB_EXP_QUANTUM j = 0 ∨ a.rd F.XBR_ARB_GEN_QUANTUM j = 0 then 4
  else 0

/-- A `LAN` commit (R449; 14, *LAN commit refusal codes*). -/
def lanCommitCode (s a : State) (g : Nat) : Nat :=
  if (groupPorts g).any fun p => (s.configured p || a.configured p) && s.portState p != 0 && s.portState p != 5 then 1
  else if a.rd F.LAN_CFG_SPLIT g = 3 then 2
  else if a.rd F.LAN_CFG_SPLIT g = 1 ∧ a.rd F.LAN_CFG_SLOT_A g = a.rd F.LAN_CFG_SLOT_B g then 3
  else 0

/-- A `TMG` commit (R419). -/
def tmgCommitCode (a : State) : Nat :=
  if (List.range 4).any fun t => a.on F.TMG_TC_SHAPEt_EN 0 t && (a.rd F.TMG_TC_SHAPEt_RATE 0 t == 0 || decide (a.rd F.TMG_TC_SHAPEt_BURST 0 t < 17)) then 1
  else 0

/-- The settings of a commit of a convoy slot; none withdraws it (R291, R293). -/
def colSettings (a : State) (k : Nat) : Option CvCfg :=
  if a.slotReg k F.COL_SLOT_CFG_VALID = 1 then some (cvCfgOf (a.slotReg k)) else none

/-- The check of a page's commit. -/
def commitCode (s a : State) (p : Nat) (c : Commit) : Nat :=
  match pageBlock p with
  | some (.dev, _) => if s.did = 0x3FFFF then 0 else 1
  | some (.rxe, _) => rxeCommitCode s a c
  | some (.pwy, _) => pwyCommitCode a
  | some (.sec, _) => secCommitCode a
  | some (.rtb, _) => rtbCommitCode a
  | some (.xbr, j) => xbrCommitCode a j
  | some (.lan, g) => lanCommitCode s a g
  | some (.tmg, _) => tmgCommitCode a
  | some (.col, _) => ((colSettings a c.slot).map (s.cvCommitCode c.slot)).getD 0
  | _ => 0

/-! ## What an accepted commit does beyond the new values -/

/-- Commons regions made live take a new generation (R31, R170). -/
def cregCommitted (s a : State) (c : Commit) : State :=
  (cregsOf c).foldl (fun a i =>
    if !s.on F.RXE_CREG_ATTRi_VALID 0 i && a.on F.RXE_CREG_ATTRi_VALID 0 i then
      let g := a.rd F.RXE_CREG_ATTRi_GEN 0 i
      a.wr F.RXE_CREG_ATTRi_GEN (if g = 255 then 1 else g + 1) 0 i
    else a) a

/-- A lower forget time waits (R223). -/
def pwyCommitted (s a : State) : State :=
  let old := s.forgetNs / 1000
  if a.rd F.PWY_TIMERS_FORGET < old then
    { a with forgetOld := some (old, s.now + us (s.rd F.PWY_TIMERS_GIVEUP) + s.freshNs + us 100) }
  else a

/-- The banks swap, and what was known under the former generation is dropped (R365, R367, R375). -/
def rtbCommitted (a : State) : State :=
  let a := (a.wr F.RTB_BOOK_STAT_ACTIVE_BANK (1 - a.rd F.RTB_BOOK_STAT_ACTIVE_BANK)).roll F.RTB_BOOK_STAT_GEN
  let a := { a with ests := [], bookCache := [], excluded := [], bookLost := [] }
  if a.on F.RTB_CTL_CLEAR_QUAR then a.quarClear else a.later .offer

/-- Reservations wait for each port's next `TRAIN` (R387). -/
def xbrCommitted (a : State) (j : Nat) : State :=
  (List.range 8).foldl (fun a k =>
    if (a.port (8 * j + k)).rsv = a.reserved j then a.clrBit F.XBR_STAT_RSV_PENDING k j else a.orBits F.XBR_STAT_RSV_PENDING (2 ^ k) j) a

/-- A slot of a committed lane group: one that is no port stays in `DOWN`, a port whose lanes are all fenced is `FENCED` and any other is not; every
lane is a candidate again, and an enabled port that has lanes trains (R440, R448, R455, R463). -/
def lanCommitted (a : State) (g : Nat) : State :=
  (groupPorts g).foldl (fun a p =>
    let a := (a.modPort p fun q => { q with cold := true }).checkFence p
    if a.portState p = 0 && a.on F.LNK_CTL_EN p && a.configured p && !a.portFenced p then a.enterTrain p true else a) a

/-- A convoy slot is made valid, changed or withdrawn; its domain follows (R291, R293, R563). -/
def colCommitted (a : State) (k : Nat) : State :=
  match colSettings a k with
  | some n => ((if a.domHeld 32 = 2 then a.moveDom 32 0 else a).cvCommit k (some n))
  | none =>
    let a := a.cvCommit k none
    if a.convoys.isEmpty && a.power == psLayby then a.moveDom 32 2 else a

/-- An accepted commit: `s` before, `a` with the new values. -/
def committed (s a : State) (p : Nat) (c : Commit) : State :=
  match pageBlock p with
  | some (.rxe, _) => cregCommitted s a c
  | some (.pwy, _) => pwyCommitted s a
  | some (.rtb, _) => rtbCommitted a
  | some (.xbr, j) => xbrCommitted a j
  | some (.lan, g) => lanCommitted a g
  | some (.col, _) => colCommitted a c.slot
  | _ => a

/-- Must a commit wait: it destroys a commons region into which writes are not complete (R171)? -/
def State.commitWaits (s a : State) (p : Nat) (c : Commit) : Bool :=
  p == Block.rxe.page && s.memBusy
    && (cregsOf c).any fun i => s.on F.RXE_CREG_ATTRi_VALID 0 i && !a.on F.RXE_CREG_ATTRi_VALID 0 i

/-! ## Commits and discards (R47 to R51, R365) -/

/-- A commit begins. -/
def State.beginCommit (s : State) (p : Nat) (next : List Bool) : State :=
  let c : Commit := { snap := s.sh.vals.filter fun e => keyPage e.1 == p, slot := s.rd F.COL_SLOT_SEL_SLOT, next := next }
  ({ s with sh.commits := Tbl.set s.sh.commits p c } : State).wr F.SHADOW_STAT_BUSY 1 p

/-- A discard is performed: at once, or with the copy of R365. -/
def State.beginDiscard (s : State) (p : Nat) (next : List Bool) : State :=
  let s := s.reloadShadow p
  if p = Block.rtb.page then
    ({ s with sh.commits := Tbl.set s.sh.commits p { phase := 2, next := next } } : State).wr F.SHADOW_STAT_BUSY 1 p
  else s

/-- What was written to `SHADOW_CMT` while it was busy is performed, in order (R49). -/
def State.goOn (s : State) (p : Nat) : List Bool → State
  | [] => s
  | true :: rest => s.beginCommit p rest
  | false :: rest => if p = Block.rtb.page then s.beginDiscard p rest else (s.beginDiscard p []).goOn p rest

/-- A commit or a copy has ended (R48, R49). -/
def State.endCommit (s : State) (p : Nat) (c : Commit) : State :=
  let s := { s with sh.commits := Tbl.del s.sh.commits p }
  ((s.wr F.SHADOW_STAT_BUSY 0 p).roll F.SHADOW_STAT_COUNT 1 p).goOn p c.next

/-- `SHADOW_CMT` written with one bit: `CMT`, or `DISCARD` (R47, R49). -/
def shadowWrite (m p : Nat) (cmt : Bool) (s : State) : State :=
  let off := F.SHADOW_CMT_CMT.addr p 0
  if (pageBlock p).isNone then s.refuse m 0 off true
  else if !s.mayWrite m then s.refuse m p off true
  else
    match Tbl.get s.sh.commits p with
    | some c =>
      if c.next.contains cmt then s
      else { s with sh.commits := Tbl.set s.sh.commits p { c with next := c.next ++ [cmt] } }
    | none => if cmt then s.beginCommit p [] else s.beginDiscard p []

def shadowCmt (m p : Nat) (s : State) : State := shadowWrite m p true s
def shadowDiscard (m p : Nat) (s : State) : State := shadowWrite m p false s

/-- A commit ends (R48): accepted, or refused by the block's check. -/
def shadowCommitDone (p : Nat) (s : State) : State :=
  match Tbl.get s.sh.commits p with
  | none => s
  | some c =>
    if c.phase ≠ 0 then s
    else
      let a := s.applySnap c
      if s.commitWaits a p c then s
      else
        match commitCode s a p c with
        | 0 =>
          let a := (committed s a p c).wr F.SHADOW_STAT_REFUSED 0 p
          if p = Block.rtb.page then { a with sh.commits := Tbl.set a.sh.commits p { c with phase := 1, snap := [] } } else a.endCommit p c
        | code => ((s.wr F.SHADOW_STAT_REFUSED 1 p).wr F.SHADOW_STAT_REFUSE_CODE code p).endCommit p c

/-- Bytes of a bank in the mode in effect (R365, R368, R369). -/
def State.bankExtent (s : State) : Nat := min (s.planSize 3 / 2) (if s.on F.RTB_CTL_MODE then 0x4000000 else 0x218000)

/-- The active bank of the road book copied over the shadow bank (R365): a shadow word written whole is no longer poisoned, and a
poisoned word of the active bank is copied poisoned (R510) and recorded (R511). -/
def State.copyBank (s : State) : State :=
  let bank := s.rd F.RTB_BOOK_STAT_ACTIVE_BANK
  let src := s.bankBase bank
  let dst := s.bankBase (1 - bank)
  let n := s.bankExtent
  let inside (base : Nat) (e : Host.Cell) : Bool := decide (base ≤ e.1) && decide (e.1 < base + n)
  let rest := s.mem.filter fun e => !inside dst e
  let bad := s.poison.filter fun w => decide (src < w * 32 + 32) && decide (w * 32 < src + n)
  let kept := s.poison.filter fun w => !(decide (dst ≤ w * 32) && decide (w * 32 + 32 ≤ dst + n))
  let s := bad.foldl (fun s w => s.berr .rtb 2 { access := accMemRead, addr := w * 32 }) s
  { s with mem := (s.mem.filter (inside src)).foldl (fun m e => Sparse.write memDefault m (e.1 - src + dst) e.2) rest,
           poison := (kept ++ bad.map fun w => (w * 32 - src + dst) / 32).dedup }

/-- The copy that follows a commit or a discard of the road book ends (R365). -/
def rtbCopyDone (s : State) : State :=
  match Tbl.get s.sh.commits Block.rtb.page with
  | none => s
  | some c => if c.phase = 0 then s else s.copyBank.endCommit Block.rtb.page c

end Sys2Proof.Machine
end

