-- ==== Sys2Proof/Machine/Receive.lean ====
section
/-! DEFINITION. Machine/Receive.lean: what becomes of an ejected packet: verification, the tollgate, the receive state, and the
consumer it is delivered to (15 R486, 12 R409, 07 R208, 06 R173, 11 R379). -/

namespace Sys2Proof.Machine

/-! ## Consumers (R208) -/

/-- A response delivered to what asked for it (R180, R183, R268, R347). -/
def State.onResponse (s : State) (k : PwKey) (rx : RxPkt) : State × Option Outcome :=
  let h := rx.hdr
  if h.verb = vbGet then (if h.noun = nnList then s.onPullData k rx else s.onGetData k rx)
  else if h.verb = vbFetch then (s.onFetchData k rx, some .placed)
  else if h.verb = vbLock then (s.onGrant k rx, some .placed)
  else (s, some .placed)

/-- A request delivered to its consumer (R173, R180, R184, R258, R269, R330, R345). -/
def State.onRequest (s : State) (k : PwKey) (rx : RxPkt) : State × Option Outcome :=
  let h := rx.hdr
  if h.verb = vbPut then s.onPut k rx
  else if h.verb = vbGet then (if h.noun = nnList then s.onPull k rx else s.onGet k rx)
  else if h.verb = vbSend then s.onSend k rx
  else if h.verb = vbAtomic || h.verb = vbFetch then s.onAtomic k rx
  else if h.verb = vbFlush then s.onFlush k rx
  else if h.verb = vbLock then s.onLock k rx
  else if h.verb = vbUnlock then s.onUnlock rx
  else (s.badTransport rx, some .placed)

/-- A delivered packet consumed: refused for its endpoint, or handed on; its outcome goes back to the receive state (R29, R208). -/
def State.consume (s : State) (k : PwKey) (rx : RxPkt) : State :=
  let no := if rx.passed then none else s.endpointRefusal rx.hdr.dstEpa
  let (s, o) := match no with
    | some (t, r) => (s, some (Outcome.notice t r))
    | none =>
      if epaSel rx.hdr.dstEpa = 5 && rx.slot = mgmtSlot then (s, some .placed)
      else if rx.hdr.resp then s.onResponse k rx
      else if epaSel rx.hdr.dstEpa = 5 then (s, some .placed)
      else s.onRequest k rx
  match o with
  | some o => s.outcome k rx o
  | none => s

/-- Packets parked for a walk delivered again: those that a waiter names (R119). -/
def State.replace (s : State) (k : PwKey) (seq : Nat) : State :=
  let hit (e : PwKey × RxPkt) : Bool := e.1 == k && e.2.hdr.seq == seq
  match s.walkPark.find? hit with
  | none => s
  | some e => ({ s with walkPark := s.walkPark.erase e } : State).consume k e.2

/-! ## Verification (R486, R487) -/

/-- Is a packet for an endpoint of the device? -/
def Pkt.forEndpoint (p : Pkt) : Bool :=
  match p.body with
  | .data _ _ | .ack _ | .notice _ => true
  | _ => false

/-- A packet that fails verification (R486, R494, R313). -/
def State.verifyDrop (s : State) (p : Pkt) (port vc : Nat) (v : Verdict) : State :=
  let s := match v with
    | .notLocked => (s.bump F.SEC_DROP_NOT_LOCKED).tally .sec 6
    | .unknownTenancy => (s.bump F.SEC_DROP_UNKNOWN_TENANCY).tally .sec 7
    | .staleEpoch => (s.bump F.SEC_DROP2_STALE_EPOCH).tally .sec 8
    | .notFresh => (s.bump F.SEC_DROP2_NOT_FRESH).tally .sec 9
    | .tagFail => ((s.bump F.SEC_DROP3_TAG_FAIL).tally .sec 10).berr .sec 3 (rxErr p port vc)
    | .accept _ => s
  if v = .notLocked then s else s.cvVerifyFailed p port vc

/-- The first packet in the ejection buffer of a junction is verified (R486), after what keeps endpoint packets out: a low-power
state (R566), and an endpoint shutdown (R504). -/
def packetVerify (j : Nat) (s : State) : State :=
  if s.halted then s
  else
    match Tbl.getD s.eject j [] with
    | [] => s
    | rx :: rest =>
      let s := { s with eject := Tbl.set s.eject j rest }
      let asleep := [1, 2, 5].contains (s.rd F.CRP_PWR_STAT_STATE)
      let convoy := match rx.pkt.body with
        | .convoy _ _ => true
        | _ => false
      if asleep && Pkt.forEndpoint rx.pkt then (s.bump F.CRP_WAKE_DISCARDED).later (.wake 3)
      else if s.shutdown && Pkt.forEndpoint rx.pkt then s.bump F.FCL_DROP_ENDPOINT
      else if s.fenced Block.sec.page || (convoy && s.fenced Block.col.page) then s.bump F.FCL_DROP_CROSSING
      else if !s.serves .sec then s
      else if s.poolRefuses j then s.refusedReq Block.sec.page 1 j
      else
        match s.verify rx.pkt with
        | .accept slot =>
          let rx := { rx with slot := slot }
          let s := (s.tally .sec 1).tally .sec 3 (pktLen rx.pkt)
          match s.tollgate rx with
          | (s, some rx) => { s with rx := s.rx ++ [rx] }
          | (s, none) => s
        | v => s.verifyDrop rx.pkt rx.port rx.vc v

/-! ## The engines that take verified packets -/

/-- Is a packet of a kind: 0 data, 1 acknowledgement, 2 notice, 3 path fault, 4 the grant of a lock? -/
def RxPkt.isKind (r : RxPkt) (kind : Nat) : Bool :=
  match r.pkt.body with
  | .data h _ => kind == 0 || (kind == 4 && h.resp && h.verb == vbLock)
  | .ack _ => kind == 1
  | .notice _ => kind == 2
  | .pathFault _ => kind == 3
  | _ => false

/-- The first waiting packet of a kind taken. -/
def State.takeKind (s : State) (kind : Nat) (f : State → RxPkt → State) : State :=
  match takeRx (fun r => r.isKind kind) s.rx with
  | none => s
  | some (rx, rest) => f { s with rx := rest } rx

/-- A verified data packet reaches the pathway engine (R208). -/
def packetReceive (s : State) : State := if s.serves .pwy then s.takeKind 0 State.takeData else s

/-- A verified grant of a lock reaches the pathway engine, and through it its `LOCK` (R347, R348). -/
def lockGrantReceive (s : State) : State := if s.serves .pwy then s.takeKind 4 State.takeData else s

/-- A verified acknowledgement reaches the pathway engine (R212). -/
def ackReceive (s : State) : State := if s.serves .pwy then s.takeKind 1 State.takeReply else s

/-- A verified notice reaches the pathway engine (R219). -/
def noticeReceive (s : State) : State := if s.serves .pwy then s.takeKind 2 State.takeReply else s

/-- A path-fault notice reaches the road book (R379). -/
def pathFaultReceive (s : State) : State :=
  if s.serves .rtb then
    s.takeKind 3 fun s rx => match rx.pkt.body with
      | .pathFault h => if h.ver ≠ 1 || !h.rsvZero then s.badTransport rx else s.pathFault h (some (rx.port, rx.pkt.route.hops))
      | _ => s
  else s

end Sys2Proof.Machine
end

