-- ==== Sys2Proof/Machine/Walks.lean ====
section
/-! DEFINITION. Machine/Walks.lean: a page-table walk goes on, and the accesses that waited for it (04 R96 to R108). -/

namespace Sys2Proof.Machine

/-- An access that waited for a walk goes on: it translates again, with what the walk held for it (R105, R108). -/
def State.resumeWait (s : State) (w : Waiter) : State :=
  match w with
  | .payload op seg =>
    let s := s.startRead op seg
    match Tbl.get s.ops op with
    | some o => s.flushSends 64 o.fn o.wq
    | none => s
  | .retx k seq => s.recopyRead k seq
  | .place k seq => s.replace k seq
  | .atomic k seq => s.replace k seq
  | .serve g _ => s.readResp g
  | .desc fn n => (s.modWq fn n fun q => { q with fetchWait := false }).fetchNext fn n
  | .record fn kind n => if kind = 1 then s.cqKick fn n else s.eqKick fn n
  | .copy id => s.copyRun 4096 id
  | .contribution op => s.cvFetch op
  | .result k r fn => s.cvResume k r fn
  | .ovf fn => s.ovfFetch fn
  | .lqp n => (s.lqpFetch n).lqpEvict
  | .ticket fn => s.readTicket fn
  | .sample fn => s.sampleWrite 64 fn
  | .prewalk => s

/-- What waited for an atomic's word, other than packets, is tried again (R330). -/
def State.wordsFree (s : State) : State :=
  let s := (s.copies.filter fun e => e.2.onWord).foldl (fun s e => s.copyRun 4096 e.1) s
  s.cvRetry fun w => w.onWord

/-- What a walk leaves to a waiter: the leaf where its rights suffice, a fault otherwise (R100); a pre-walk holds nothing, and its fault
is dropped (R104). -/
def State.hand (s : State) (l : Leaf) (level : Nat) (w : Waiter × Bool × Bool) : State :=
  let bad := (w.2.1 && !l.rd) || (w.2.2 && !l.wr)
  let l := if l.fault.isNone && bad then { l with fault := some (xkPermission, level) } else l
  if w.1 = .prewalk then s.when l.fault.isSome fun s => s.tally .xlt 9
  else { s with grants := s.grants ++ [(w.1, l)] }

/-- A waiter resumed; nothing stays held for it unless it waits for another walk, or for its turn on a side-effect page. -/
def State.resumeWaiter (s : State) (w : Waiter) : State :=
  let s := s.resumeWait w
  let more := s.walks.any (fun e => e.2.waiters.any fun x => x.1 == w) || s.grants.any fun g => g.1 == w && g.2.se
  if more then s else s.dropGrants w

/-- A walk over: its result handed to every access that waits, in order (R100, R105); after an invalidation to the one that started it,
and the others walk again (R108). -/
def State.endWalk (s : State) (id : Nat) (w : Walk) (l : Leaf) (level : Nat) : State :=
  let s := { s with walks := Tbl.del s.walks id }
  let served := if w.cache then w.waiters else w.waiters.take 1
  let s := served.foldl (fun s x => s.hand l level x) s
  let s := s.walkers
  w.waiters.foldl (fun s x => s.resumeWaiter x.1) s

/-- A walk ends in a fault (R100, R110). -/
def State.failWalk (s : State) (id : Nat) (w : Walk) (kind level : Nat) : State :=
  s.endWalk id w { fn := w.fn, as := w.as, iova := w.iova, shift := 12, addr := 0, rd := false, wr := false, se := false, fault := some (kind, level) } level

/-- A walk's request is refused, or its step discarded: it faults as `WALK_BUS_ERROR` (R399, R400). -/
def State.walkRefused (s : State) (id : Nat) : State :=
  match Tbl.get s.walks id with
  | none => s
  | some w =>
    let s := match w.read with
      | some rd => { s with reads := Tbl.del s.reads rd }
      | none => s
    s.failWalk id w xkBusError w.level

/-- `WALK_STEP`: the entry that a walk reads is here, and for its next step the walk requests its walker again (R100, R396). -/
def walkStep (id : Nat) (s : State) : State :=
  match Tbl.get s.walks id with
  | none => s
  | some w =>
    match w.read with
    | none => s
    | some rd =>
      match s.takeRead rd with
      | (s, none) => s
      | (s, some (_, r)) =>
        match s.walkEntry w r with
        | .descend level table =>
          let t : TableRef := { fn := w.fn, as := w.as, level := w.level, tag := w.iova / 2 ^ (12 + 9 * (w.level - 1)), table := table }
          let s := s.when w.cache fun s => s.fillTable t
          ({ s with walks := Tbl.set s.walks id { w with level := level, table := table, read := none } } : State).walkers
        | .leaf l => (s.when w.cache fun s => s.fillLeaf l).endWalk id w l w.level
        | .fault kind level => s.failWalk id w kind level

end Sys2Proof.Machine
end

