-- ==== Sys2Proof/Machine/Storage.lean ====
section
/-! DEFINITION. Machine/Storage.lean: reset B of a block, errors of a block's own storage, and reads of on-package memory that meet an error
(02 R38, R39; 16 R510, R511; 19 R574; the error-index tables of every block). -/

namespace Sys2Proof.Machine

/-! ## What is lost with an entry of a block's storage -/

/-- A segment in a buffer is lost: its operation ends (R175, R197). -/
def State.loseSegment (s : State) (id : Nat) : State :=
  ((s.dropSends id).modOp id fun o => { o with fail := some (o.fail.getD (stAborted, dtPayloadCorrupted)), stop := true }).checkOp id

/-- The operations of a queue whose progress is saved between segments (R177, R197). -/
def State.midway (s : State) (fn n : Nat) : Bool :=
  s.ops.any fun e => e.2.fn == fn && e.2.wq == n && e.2.phase == .begun && e.2.nextSeg != 0

/-- A packet parked for a walk is lost before any byte is placed (R198). -/
def State.losePlacement (s : State) (e : PwKey × RxPkt) : State :=
  ({ s with walkPark := s.walkPark.erase e } : State).outcome e.1 e.2 (.notice ntBusy nrPlacement)

/-- A region is lost, and its owner told (R198). -/
def State.loseRegion (s : State) (fn i gen : Nat) : State :=
  let s := if s.regionPlacing fn i then { s with regions := s.regions.map fun e => if e.1 = (fn, i) then (e.1, { e.2 with closing := true }) else e }
    else s.dropRegion fn i
  s.asyncEvent fn { type := 2, subtype := dtKeyInvalid, value := i * 256 + gen, data := 0xFFF * 2 ^ 8 }

/-- A commons region is lost, and its owner told (R198). -/
def State.loseCreg (s : State) (i : Nat) : State :=
  if !s.on F.RXE_CREG_ATTRi_VALID 0 i then s
  else
    let key := i * 256 + s.rd F.RXE_CREG_ATTRi_GEN 0 i
    (s.wr F.RXE_CREG_ATTRi_VALID 0 0 i).asyncEvent (s.rd F.RXE_CREG_ATTRi_OWNER_FN 0 i) { type := 2, subtype := dtKeyInvalid, value := key, data := 0xFFF * 2 ^ 8 }

/-- An unexpected header is lost: its space is free, and a rendezvous is cancelled (R249, R288). -/
def State.loseUnexp (s : State) (u : Unexp) (cancel : Bool) : State :=
  let s := { s with unexp := s.unexp.filter fun x => !(x.fn == u.fn && x.list == u.list && x.seq == u.seq) }
  let s := s.releaseOvf u.fn u.list u.src u.ovf
  if cancel && u.rdv then s.cancelPull u u.fn u.list else s

/-- An entry of the match store is lost: a posted receive, or an unexpected header (R288). -/
def State.loseMatch (s : State) (posted : Bool) (n : Nat) : State :=
  if posted then
    match s.posted[n]? with
    | some p => ({ s with posted := s.posted.eraseIdx n } : State).failRecv p.op stAborted dtEntryLost
    | none => s
  else
    match s.unexp[n]? with
    | some u => s.loseUnexp u true
    | none => s

/-- A message record is lost (R288, R611): its receive ends, or its unexpected header goes; later packets are discarded. -/
def State.loseRec (s : State) (k : PwKey) (tag : Nat) (r : MRec) : State :=
  let u := s.unexpOfMsg k tag
  let s := { s with recs := Tbl.del s.recs (k, tag), closedMsgs := s.closedMsgs ++ [(k, tag)] }
  match r.op with
  | some id => s.failRecv id stAborted dtEntryLost
  | none =>
    match u with
    | some u => s.loseUnexp u false
    | none => s

/-- Payload in the pool is lost: of a stored message, of a copy, or of early segments (R288). -/
def State.losePool (s : State) (n : Nat) : State :=
  let us := s.unexp.filter fun u => u.parts != []
  let cs := s.copies.filter fun e => e.2.parts != []
  match us[n]?, cs[n - us.length]? with
  | some u, _ => s.modUnexp u fun u => { u with lost := true }
  | none, some e => { s with copies := Tbl.set s.copies e.1 { e.2 with lost := true } }
  | none, none =>
    match (s.recs.filter fun e => e.2.parts != [])[n - us.length - cs.length]? with
    | some e => { s with recs := Tbl.set s.recs e.1 { e.2 with lost := true } }
    | none => s

/-- A lock entry is lost: its waiters receive grant refusals, and its object stays as it is (R354; log entry 9). -/
def State.loseLock (s : State) (off : Nat) (l : Lock) : State :=
  l.waiters.foldl (fun s w => { s.numbered with resps := s.resps ++ [.pkt w.key w.slot (.reply s.nextMsg) .fixed (lockHdr true vbLock w.rkey w.remote w.tag) []] })
    { s with locks := Tbl.del s.locks off }

/-- A semaphore's state is lost (R354): free with `BROKEN` latched; stalled reads return `TIMED_OUT`. -/
def State.loseSem (s : State) (k : Nat) : State :=
  let q := s.semWaits k
  let s := (((s.setSem k []).wr F.ATM_SEM_STATk_HELD 0 0 k).wr F.ATM_SEM_STATk_HOLDER 0xFF 0 k).wr F.ATM_SEM_STATk_BROKEN 1 0 k
  q.foldl (fun s w => s.semReply w.master w.reads (s.semValue k w.master false false false true)) s

/-- An atomic is lost before it executes (R354). -/
def State.loseAtomic (s : State) (id : Nat) (j : AtomJob) : State :=
  let s := ({ s with atomics := Tbl.del s.atomics id, reads := Tbl.keep s.reads fun _ r => r.use != .atomic id } : State).releaseSignal j.sig
  ((s.tally .atm 11).outcome j.key j.rx (.notice ntBusy nrAtomicFull)).retryWords

/-- Is a packet an atomic (R334)? -/
def isAtomic (rx : RxPkt) : Bool := rx.hdr.verb == vbAtomic || rx.hdr.verb == vbFetch

/-- An atomic that waits for another one's word is lost before it executes (R334, R354). -/
def State.loseQueued (s : State) (e : PwKey × RxPkt) : State :=
  (({ s with wordWait := s.wordWait.erase e } : State).tally .atm 11).outcome e.1 e.2 (.notice ntBusy nrAtomicFull)

/-- Atomics in the atomic queue that wait for another one's word, oldest first (R334). -/
def State.queuedAtomics (s : State) : List (PwKey × RxPkt) := s.wordWait.filter fun e => isAtomic e.2

/-- The masks of a convoy slot in one junction's group table are lost (R418). -/
def State.loseMasks (s : State) (j k : Nat) : State :=
  match Tbl.get s.groupTable k with
  | none => s
  | some (a, b) =>
    let cut (m : Nat) : Nat := (List.range 8).foldl (fun m i => clearBit m (8 * j + i)) m
    { s with groupTable := Tbl.set s.groupTable k (cut a, cut b) }

/-- A packet that a junction buffers is lost: in an input buffer, an injection path or the ejection buffer (R418). -/
def State.loseBuf (s : State) (j n : Nat) : State :=
  let at_ := (List.range 8).flatMap fun i => (List.range (s.port (8 * j + i)).buf.length).map fun m => (8 * j + i, m)
  let inj := Tbl.getD s.inject j []
  match at_[n]? with
  | some (p, m) =>
    match (s.port p).buf[m]? with
    | none => s
    | some b => (((s.bump F.XBR_DROP2_BUF_LOST 1 j).dropBuf p b).starveOut b).trace j 1 b.pkt (p, b.vc) (0, 0) 0x13 b.pkt.route.cong b.at_
  | none =>
    let n := n - at_.length
    match inj[n]? with
    | some b => (((s.bump F.XBR_DROP2_BUF_LOST 1 j).dropBuf (128 + j) b).starveOut b).trace j 2 b.pkt (0x80, b.vc) (0, 0) 0x13 b.pkt.route.cong b.at_
    | none =>
      let l := Tbl.getD s.eject j []
      match l[n - inj.length]? with
      | none => s
      | some _ => ({ s with eject := Tbl.set s.eject j (l.eraseIdx (n - inj.length)) } : State).bump F.XBR_DROP2_BUF_LOST 1 j

/-- A meter's buckets refilled (R420). -/
def State.refill (s : State) (slot : Nat) : State :=
  if !Tbl.has s.meters slot then s
  else
    let m := s.meter slot
    { s with meters := Tbl.set s.meters slot { m with tc := m.cbs * 8000, tp := m.pbs * 8000, stamp := s.now } }

/-! ## Errors of storage: index by index -/

/-- The contexts that a block's error tables call uncorrectable: their index (R123, R163, R197, R244, R288, R325, R354, R420). -/
def contextIndex : Block → Option Nat
  | .xlt => some 1 | .cmd => some 1 | .txe => some 3 | .pwy => some 1 | .mtc => some 2 | .col => some 3 | .atm => some 1
  | .tmg => some 1 | _ => none

/-- What an error of a block's own storage costs, beyond its record: `n` chooses the entry, in the order in which the model lists them
(DESIGN CHOICE, log entry 18). -/
def State.storageLost (s : State) (b : Block) (inst idx n : Nat) : State :=
  match b, idx with
  | .xlt, 0 => { s with tcache := s.tcache.eraseIdx n, wcache := if n < s.tcache.length then s.wcache else s.wcache.eraseIdx (n - s.tcache.length) }
  | .xlt, 1 =>
    match s.spaces[n]? with
    | some e => { s with spaces := Tbl.set s.spaces e.1 { e.2 with lost := true } }
    | none => s
  | .cmd, 0 =>
    match s.wqs[n]? with
    | some e => (s.modWq e.1.1 e.1.2 fun q => { q with cache := q.cache.drop 1, part := [], fetching := none, fetchWait := false }).fetchNext e.1.1 e.1.2
    | none => s
  | .cmd, 1 =>
    match s.wqs[n]?, s.cqs[n - s.wqs.length]?, s.eqs[n - s.wqs.length - s.cqs.length]? with
    | some e, _, _ => s.wqError e.1.1 e.1.2 dtContext
    | none, some e, _ => s.cqError e.1.1 e.1.2
    | none, none, some e => s.eqError e.1.1 e.1.2
    | none, none, none => s
  | .txe, 1 =>
    match (s.wqs.flatMap fun e => e.2.sends)[n]? with
    | some x => s.loseSegment x.op
    | none => s
  | .txe, 3 =>
    match (s.wqs.filter fun e => s.midway e.1.1 e.1.2)[n]? with
    | some e => s.wqError e.1.1 e.1.2 dtContext
    | none => s
  | .rxe, 1 =>
    match s.walkPark[n]? with
    | some e => s.losePlacement e
    | none => s
  | .rxe, 3 =>
    match s.regions[n]? with
    | some e => s.loseRegion e.1.1 e.1.2 e.2.gen
    | none => s.loseCreg (n - s.regions.length)
  | .pwy, 4 =>
    match s.inflight[n]? with
    | some e => s.failOwner e.2.owner stTimeout dtContextLost
    | none => s
  | .mtc, 2 => if n < s.posted.length then s.loseMatch true n else s.loseMatch false (n - s.posted.length)
  | .mtc, 3 => s.losePool n
  | .mtc, 4 =>
    match s.recs[n]? with
    | some e => s.loseRec e.1.1 e.1.2 e.2
    | none => s
  | .col, 1 =>
    match (s.convoys.flatMap fun e => e.2.rounds.map fun r => (e.1, r.1))[n]? with
    | some (k, r) => s.cvStageLost k r
    | none => s
  | .col, 3 =>
    match s.convoys[n]? with
    | some e => s.cvSlotLost e.1
    | none => s
  | .atm, 1 =>
    match s.locks[n]? with
    | some e => s.loseLock e.1 e.2
    | none => s
  | .atm, 2 => if n < 256 then s.loseSem n else s
  | .atm, 7 =>
    match s.atomics[n]?, s.queuedAtomics[n - s.atomics.length]? with
    | some e, _ => s.loseAtomic e.1 e.2
    | none, some e => s.loseQueued e
    | none, none => s
  | .rtb, 1 =>
    match s.bookCache[n]? with
    | some k => (s.evictList k).fetchList k
    | none => s
  | .rtb, 2 => { s with bookLost := if s.bookLost.contains n then s.bookLost else s.bookLost ++ [n] }
  | .xbr, 1 => s.loseBuf inst n
  | .xbr, 3 => s.loseMasks inst n
  | .tmg, 1 => { s with tags := s.tags.eraseIdx n, credits := if n < s.tags.length then s.credits else s.credits.eraseIdx (n - s.tags.length) }
  | .tmg, 3 => s.refill n
  | .lnk, 10 => s.loseUp inst 8
  | .sec, 1 => s.loseKeys n 1
  | .pmu, 1 => { s with ctrs := Sparse.write 0 s.ctrs (n % 2048) 0 }
  | .fcl, 1 =>
    if (pageBlock n).isNone then s
    else ((((s.wr F.ERR_FIRST_ADDR_ADDR 0 n).wr F.ERR_FIRST_TIME_TIME 0 n).wr F.ERR_FIRST_INFO_MASTER 0 n).wr F.ERR_FIRST_INFO_VALID 0 n).wr
      F.ERR_FIRST_INFO_MORE 1 n
  | .mgt, 1 => s.later (.resetM 6)
  | .mgt, 2 => s.later (.resetM 6)
  | .tim, 5 => s.setTimState tsUnlocked (s.estErr)
  | .crp, 5 =>
    if n = 0 then s.bookCache.foldl (fun s k => (s.evictList k).fetchList k) s
    else if n = 1 then pwyKeyUncorrected s else if n = 2 then (s.berr .sec 1).loseAllKeys 1 else s
  | _, _ => s

/-- The indices that errors of a block's own storage have. -/
def storageIndices : Block → List Nat
  | .hif => [12, 13] | .xlt => [0, 1, 4] | .cmd => [0, 1, 2] | .txe => [0, 1, 2, 3] | .rxe => [0, 1, 2, 3] | .pwy => [0, 1, 2, 3, 4]
  | .mtc => [0, 1, 2, 3, 4] | .col => [0, 1, 2, 3] | .atm => [0, 1, 2, 6, 7] | .rtb => [0, 1, 2] | .xbr => [0, 1, 2, 3]
  | .tmg => [0, 1, 2, 3] | .lnk => [9, 10] | .sec => [0, 1] | .pmu => [0, 1] | .fcl => [0, 1, 3] | .mgt => [0, 1, 2] | .tim => [5]
  | .mem => [7, 8] | .crp => [5, 6] | .dev => [] | .lan => []

/-- Master identity of a unit of a block (R52). -/
def unitMaster (p u : Nat) : Nat :=
  match pageBlock p with
  | some (.txe, _) => 0x10 + u % 4
  | some (.rxe, _) => 0x14 + u % 4
  | some (.mtc, _) => 0x1D + u % 2
  | some (.col, _) => 0x20 + u % 2
  | _ => blockMaster p

/-- One storage error of a block, recorded and acted on. -/
def State.storageErr (s : State) (p b_inst : Nat) (b : Block) (idx unit n : Nat) : State :=
  match b, idx with
  | .hif, _ =>
    let s := s.err p idx { access := accInternal, master := some (unitMaster p unit) }
    if idx = 12 then s.aerUnc b_inst aeInternal 0 else s.aerCor b_inst acInternal
  | .pwy, 1 =>
    match (s.pws.filter fun e => e.1.lqp == 0)[n]? with
    | some e => pwyContextUncorrected e.1 s
    | none => s.berr .pwy 1
  | .pwy, 2 => pwyKeyUncorrected s
  | _, _ => (s.err p idx { access := accInternal, master := some (unitMaster p unit) }).storageLost b b_inst idx n

/-- A block's on-chip storage reports an error: page, index, unit and the entry struck. -/
def internalStorageError (p idx unit n : Nat) (s : State) : State :=
  match pageBlock p with
  | none => s
  | some (b, i) =>
    if !(storageIndices b).contains idx then s
    else
      let s := s.storageErr p i b idx unit n
      if b = .crp && idx == 6 then
        match pageBlock unit with
        | some (o, k) =>
          match contextIndex o with
          | some x => s.storageErr unit k o x 0 n
          | none => s
        | none => s
      else s

/-! ## Reset B (R38, R39, R574, R610, R611) -/

/-- `BLK_CTL.RST` written with 1 (R38, R53). -/
def blkRst (m p : Nat) (s : State) : State :=
  let off := F.BLK_CTL_RST.addr p 0
  match pageBlock p with
  | none => s.refuse m 0 off true
  | some (b, _) =>
    if s.mayWrite m && b.brst && (!s.on F.BLK_CTL_EN p || s.fenced p) then s.wr F.BLK_STAT_RESET_BUSY 1 p
    else s.refuse m p off true

/-- What `MTC` loses (R611). -/
def State.mtcDiscard (s : State) : State :=
  let s := s.ovfWait.foldl (fun s e => s.later (.deliver e.2.1 e.2.2)) { s with ovfWait := [] }
  let bound := (s.ops.filter fun e => e.2.recv && e.2.pull && e.2.ended.isNone).map Prod.fst
  let s := s.recs.foldl (fun s e => s.loseRec e.1.1 e.1.2 e.2) s
  let s := s.copies.foldl (fun s e => (s.copyDone e.1 e.2).failRecv e.2.op stAborted dtEntryLost) s
  bound.foldl (fun s id => s.failRecv id stAborted dtEntryLost) s

/-- Reads of a host port that are outstanding fail (R574). Writes that R79 holds are dropped with the rest of the block's work in flight (log entry 44,
DESIGN CHOICE). -/
def State.hifDiscard (s : State) (fn : Nat) : State :=
  let ids := (s.reads.filter fun e => e.2.fn == fn && e.2.result.isNone).map Prod.fst
  let s := s.modHf fn fun h => { h with held := [] }
  ids.foldl (fun s id => match Tbl.get s.reads id with
    | some r => ({ s with reads := Tbl.set s.reads id { r with sent := [], unsent := [], bad := true } } : State).closeRead id
    | none => s) s

/-- The caches and in-flight state of a block discarded (R574). -/
def State.blockDiscard (s : State) (b : Block) (i : Nat) : State :=
  match b with
  | .hif => s.hifDiscard i
  | .xlt =>
    let waiting := (s.walks.flatMap fun e => e.2.waiters.map fun w => w.1).filter fun w => w != .prewalk
    waiting.foldl (fun s w => s.resumeWaiter w) { s with tcache := [], wcache := [], walks := [], grants := [] }
  | .cmd => s.wqs.foldl (fun s e => (s.modWq e.1.1 e.1.2 fun q => { q with cache := [], part := [], fetching := none, fetchWait := false }).fetchNext e.1.1 e.1.2) s
  | .txe =>
    let sends := (s.wqs.flatMap fun e => e.2.sends).map Send.op
    let s := sends.foldl (fun s id => s.loseSegment id) s
    s.wqs.foldl (fun s e => if s.midway e.1.1 e.1.2 then s.wqError e.1.1 e.1.2 dtContext else s) s
  | .rxe => s.walkPark.foldl (fun s e => s.losePlacement e) s
  | .pwy => { s.forgetAll with pws := [], inflight := [] }
  | .mtc => s.mtcDiscard
  | .col => (s.convoys.flatMap fun e => e.2.rounds.map fun r => (e.1, r.1)).foldl (fun s x => s.cvStageLost x.1 x.2) s
  | .atm =>
    let s := s.queuedAtomics.foldl (fun s e => s.loseQueued e) s
    let s := s.atomics.foldl (fun s e => s.loseAtomic e.1 e.2) s
    s.locks.foldl (fun s e => s.loseLock e.1 e.2) s
  | .rtb => ({ s with ests := [], bookCache := [], listFetch := [], quars := [] } : State).later .offer
  | .tmg =>
    let meters := Tbl.mapVals s.meters fun _ m => { m with nGreen := 0, nYellow := 0, nRed := 0, nActed := 0 }
    (s.meters.map Prod.fst).foldl (fun s k => s.refill k) { s with meters := meters, tags := [], credits := [], vtimes := [] }
  | .xbr =>
    let s := (List.range 8).foldl (fun s k => s.modPort (8 * i + k) fun q => { q with hwm := List.replicate 9 (0, 0) }) (s.loseSources i)
    { s with eject := Tbl.del s.eject i }
  | .lnk => s.loseUp i 8
  | .lan => (groupPorts i).foldl (fun s p => s.loseUp p 2) s
  | .pmu => { s with samples := [] }
  | .mem => ({ s with rowCopies := s.rowCopies.filter fun e => e.1 != i } : State).wr F.MEM_SPARE_STAT_BUSY 0 i
  | .mgt => s.later (.resetM 6)
  | .sec => { s with secBlob := List.replicate 288 0 }
  | .dev => s
  | .fcl => s
  | .crp => s
  | .tim => s

/-- Reset B of a page ends (R39, R574). -/
def blockResetComplete (p : Nat) (s : State) : State :=
  match pageBlock p with
  | none => s
  | some (b, i) =>
    if !s.on F.BLK_STAT_RESET_BUSY p then s else ((s.blockDiscard b i).clearB p).wr F.BLK_STAT_RESET_BUSY 0 p

/-! ## Reads of on-package memory (R21, R510, R511) -/

/-- What poisoned data in a region costs (R511, R539); the entry struck follows from its offset (DESIGN CHOICE, log entry 18). -/
def State.poisonedAt (s : State) (r a : Nat) : State :=
  let off := a - s.planBase r
  match r with
  | 1 => (s.berr .mgt 2 { access := accMemRead, addr := a }).later (.resetM 6)
  | 2 => s.berr .pmu 5 { access := accMemRead, addr := a }
  | 3 =>
    let x := off % (s.planSize 3 / 2)
    if off / (s.planSize 3 / 2) ≠ s.rd F.RTB_BOOK_STAT_ACTIVE_BANK then s
    else
      let s := s.berr .rtb 2 { access := accMemRead, addr := a }
      if s.on F.RTB_CTL_MODE then s.storageLost .rtb 0 2 (x / 256)
      else if x < 0x100000 then s.storageLost .rtb 0 2 (x / 4)
      else s
  | 4 =>
    match (s.pws.filter fun e => e.1.lqp == 0)[off / 64]? with
    | some e => pwyContextUncorrected e.1 s
    | none => s
  | 5 =>
    let half := s.planSize 5 / 2
    (s.berr .mtc 2 { access := accMemRead, addr := a }).loseMatch (decide (off < half)) (off % half / 64)
  | 6 => (s.berr .mtc 3 { access := accMemRead, addr := a }).losePool (off / 4096)
  | 7 => (s.berr .col 1 { access := accMemRead, addr := a }).storageLost .col 0 1 (off / 4096)
  | _ => s

/-- A read of on-package memory is corrected, or returns poisoned data to its consumer (R21, R510, R511). -/
def eccRead (a len : Nat) (user : MemUser) (r : EccResult) (s : State) : State :=
  let k := s.memCtrl a
  if !s.memRuns k then s
  else
    match s.regionOf a len with
    | none => s.foreignMem user a false
    | some g =>
      if !s.ownsMem user a len false then s.foreignMem user a false
      else
        let s := s.eccError k a 0 (userMaster user) r
        if r = .uncorrectable then s.poisonedAt g a else s

end Sys2Proof.Machine
end

