-- ==== Sys2Proof/Machine/Views.lean ====
section
/-! DEFINITION. Machine/Views.lean: fields that are not stored, because they show what the rest of the state holds: each at its register's
offset, in the place that the field tables of spec/ give it. -/

namespace Sys2Proof.Machine

/-- Index at which a field's register lies at an offset of its page, or of the window of function 0. -/
def fldIndex (f : Fld) (off : Nat) : Option Nat :=
  if off < f.off then none
  else
    let d := off - f.off
    let j := if f.stride = 0 then 0 else d / f.stride
    if f.first ≤ j ∧ j < f.first + f.count ∧ j * f.stride = d then some j else none

/-- A computed field in its place, where the offset is that of its register. -/
def shows (f : Fld) (off : Nat) (v : Nat → Nat) : Nat :=
  match fldIndex f off with
  | some j => v j % 2 ^ f.width * 2 ^ f.lo
  | none => 0

/-- Number of the events of a page (R528). -/
def eventCount (b : Block) : Nat :=
  match b with
  | .txe => 64 | .rxe => 32 | .mtc => 64 | .col => 32 | .tmg => 32 | _ => b.events.2

/-- `BLK_CAP.SHADOW`: does the page have RWS registers? -/
def hasShadow (b : Block) : Bool := (allFields b).any fun f => f.acc == .rws

/-- The header and the arbiter window. `BLK_ID.VER_MINOR` shows 0 in every block, since the spec gives no value of it (R37; log entry 38, DESIGN
CHOICE). -/
def State.viewHdr (s : State) (b : Block) (i off : Nat) : Nat :=
  let p := b.page + i
  let v (f : Fld) (n : Nat) : Nat := shows f off fun _ => n
  let inst := s.rd F.ARB_SEL_INST p
  let a := s.arb p inst
  if off < 0x100 then
    v F.BLK_ID_TYPE b.type + v F.BLK_ID_INSTANCE i + v F.BLK_ID_VER_MAJOR 1
      + v F.BLK_CAP_BRST (b2n b.brst) + v F.BLK_CAP_SHADOW (b2n (hasShadow b)) + v F.BLK_CAP_ARB (b2n b.arb) + v F.BLK_CAP_FNWIN (b2n b.fnWin)
      + v F.BLK_CAP_UNITS b.units + v F.BLK_CAP_ERR_TOP (if b.arb then 31 else 30)
      + v F.BLK_STAT_READY (b2n (s.ready p && !(b == .hif && (s.hf i).resetH))) + v F.BLK_STAT_FENCED (b2n (s.fenced p))
      + v F.BLK_STAT_UNIT_FENCED (b2n (s.units p != 0)) + v F.ERR_COUNT_IN_WINDOW (min 65535 (s.inWindow p))
      + v F.PWR_CTL_DOMAIN (s.pageDom p) + v F.SHADOW_STAT_PENDING (b2n (s.shadowPending p))
      + v F.EVT_BASE_FIRST (b.events.1 + i * b.events.2) + v F.EVT_BASE_COUNT (eventCount b)
  else
    v F.ARB_STAT_HOLDER (a.holder.getD 0) + v F.ARB_STAT_BUSY (b2n a.holder.isSome) + v F.ARB_STAT_WAITING a.waits.length

/-- `DEV` and `FCL`. -/
def State.viewDev (s : State) (off : Nat) : Nat :=
  let v (f : Fld) (n : Nat) : Nat := shows f off fun _ => n
  v F.DEV_PART_STEPPING s.fuses.stepping + v F.DEV_SERIAL_SERIAL s.fuses.serial
    + v F.DEV_FUSE_OPEN_ALLOWED (b2n s.fuses.openAllowed) + v F.DEV_FUSE_JTAG_LOCK (b2n s.fuses.jtagLock) + v F.DEV_FUSE_FUSE_REV s.fuses.fuseRev

/-- The unit fences of the chosen page (R502): 0 in a page without units. -/
def State.viewFcl (s : State) (off : Nat) : Nat :=
  let p := s.rd F.FCL_UNIT_SEL_PAGE
  let has : Bool := match pageBlock p with
    | some (b, _) => b.units != 0
    | none => false
  if !has then 0
  else shows F.FCL_UNIT_FENCE_FENCE off (fun _ => s.units p) + shows F.FCL_UNIT_AUTO_AUTO off fun _ => Sparse.read 0 s.unitAuto p

/-- `CRP`: domains without power in Full (R561). -/
def State.viewCrp (s : State) (off : Nat) : Nat :=
  let more (ds : List Nat) (base : Nat) : Nat := ds.foldl (fun n d => n + (s.dom d - s.domHeld d) * 4 ^ (d - base)) 0
  shows F.CRP_DOM_STAT0_DOM off (fun _ => more (List.range 32) 0) + shows F.CRP_DOM_STAT1_DOM off fun _ => more [32, 33, 34, 35] 32

/-- `TIM`. -/
def State.viewTim (s : State) (off : Nat) : Nat :=
  shows F.TIM_NOW_TIME off (fun _ => s.now) + shows F.TIM_OFFSET_EST_ERR_NS off fun _ => s.estErr - s.rd F.TIM_OFFSET_EST_ERR_NS

/-- `MGT`. -/
def State.viewMgt (s : State) (off : Nat) : Nat :=
  let v (f : Fld) (n : Nat) : Nat := shows f off fun _ => n
  let r := s.flash.bootRec
  v F.MGT_FW_SVN_FLOOR s.fuses.svnFloor + v F.MGT_BANK_STAT_STATE_A r.stateA + v F.MGT_BANK_STAT_STATE_B r.stateB
    + v F.MGT_BANK_STAT_ACTIVE r.active + v F.MGT_BANK_STAT_TRIAL_VALID (b2n r.trialValid) + v F.MGT_BANK_STAT_TRIED (b2n r.tried)
    + v F.MGT_EVT_STAT_QUEUED s.events.length

/-- `SEC`: the chosen slot, and the pipelines. -/
def State.viewSec (s : State) (off : Nat) : Nat :=
  let v (f : Fld) (n : Nat) : Nat := shows f off fun _ => n
  let k := s.rd F.SEC_TSEL_SLOT
  let slot := match Tbl.get s.slots k with
    | none => 0
    | some t =>
      v F.SEC_TSLOT_STATE (if t.keyLost then 2 else 1) + v F.SEC_TSLOT_MODE t.mode + v F.SEC_TSLOT_REQUIRE_IDE (b2n t.requireIde)
        + v F.SEC_TSLOT_NEXT_VALID (b2n t.nextValid) + v F.SEC_TSLOT_MEMBERS t.members + v F.SEC_TSLOT_TNUM t.tnum
        + v F.SEC_TSLOT_CUR_EPOCH t.curEpoch + v F.SEC_TSLOT_NEXT_EPOCH t.nextEpoch + v F.SEC_TOWNER_DIGEST (ownerDigest t.owner)
        + v F.SEC_TROLL_TIME t.rollAt
  slot + v F.SEC_TBOUND_BOUND (s.bound k) + v F.SEC_STAT_FM_KEY (b2n s.fmKey.isSome) + v F.SEC_STAT_SLOTS s.slots.length
    + shows F.SEC_PIPE_STATc_BUSY off fun c => (s.pipeTest.foldl setBit 0) / 2 ^ (12 * c)

/-- `HIF` of a function. -/
def State.viewHif (s : State) (fn off : Nat) : Nat :=
  let v (f : Fld) (n : Nat) : Nat := shows f off fun _ => n
  let h := s.hf fn
  v F.HIF_SLOT_STAT_PRSNT (b2n h.present) + v F.HIF_SLOT_STAT_PWR_FLT (b2n h.pwrFlt) + v F.HIF_SLOT_STAT_PERST (b2n h.perst)
    + v F.HIF_OUTSTANDING_READS (s.outstanding fn) + v F.HIF_FN_STAT_HOLD_REMAIN (ceilDiv (Tbl.getD s.holds fn 0 - s.now) 1000)

/-- `XLT`: the page, and the window of a function. -/
def State.viewXlt (s : State) (fn off : Nat) : Nat :=
  let v (f : Fld) (n : Nat) : Nat := shows f off fun _ => n
  v F.XLT_STAT_WALKS s.walking + v F.XLT_FN_SUSP_COUNT (s.suspendedWqs fn) + v F.XLT_FN_INVAL_STAT_PENDING (b2n (Tbl.has s.invals fn))
    + v F.XLT_FN_USAGE_AS_LIVE (Tbl.count s.spaces fun k _ => k.1 == fn) + v F.XLT_FN_USAGE_REG_PAGES (regPages s.regions fn)

/-- `CMD`: the page, and the window of a function. -/
def State.viewCmd (s : State) (fn off : Nat) : Nat :=
  let v (f : Fld) (n : Nat) : Nat := shows f off fun _ => n
  v F.CMD_STAT_DESC_CACHED ((List.range 4).map s.cachedDescs).sum + v F.CMD_STAT_TRIG_HELD ((List.range 4).map s.trigHeld).sum
    + v F.CMD_FN_STAT_WQ_LIVE (Tbl.count s.wqs fun k _ => k.1 == fn) + v F.CMD_FN_STAT_CQ_LIVE (Tbl.count s.cqs fun k _ => k.1 == fn)
    + v F.CMD_FN_STAT_EQ_LIVE (Tbl.count s.eqs fun k _ => k.1 == fn) + v F.CMD_FN_STAT_ADMIN_BUSY (b2n (Tbl.has s.admin fn))
    + v F.CMD_ASYNC_EQ ((s.asyncEq fn).getD 0) + v F.CMD_ASYNC_VALID (b2n (s.asyncEq fn).isSome) + v F.CMD_TRIG_STAT_HELD (s.trigHeld fn)

/-- `TXE`, `RXE` and `PWY`. -/
def State.viewTxe (s : State) (off : Nat) : Nat :=
  shows F.TXE_PIPE_STATp_READS off s.pipeReads + shows F.TXE_PIPE_STATp_ACTIVE_WQ off s.activeWqs

def State.viewRxe (s : State) (off : Nat) : Nat :=
  shows F.RXE_PIPE_STATp_WALK_PARKED off s.walkParked + shows F.RXE_PIPE_STATp_FLUSH_PENDING off s.flushPending
    + shows F.RXE_REGIONS_LIVE_FN off (fun _ => ((List.range 4).map fun fn => Tbl.count s.regions (fun k _ => k.1 == fn) % 2 ^ 14 * 2 ^ (16 * fn)).sum)
    + shows F.RXE_CREG_LIVE_LIVE off fun _ => ((List.range 1024).filter fun i => s.on F.RXE_CREG_ATTRi_VALID 0 i).length

def State.viewPwy (s : State) (off : Nat) : Nat :=
  let v (f : Fld) (n : Nat) : Nat := shows f off fun _ => n
  v F.PWY_STAT_CACHED s.cachedPws + v F.PWY_STAT_STORED s.stored + v F.PWY_OCC_INFLIGHT s.inflight.length
    + v F.PWY_OCC_PARKED s.parked.length + v F.PWY_OCC_HELD s.heldPkts + v F.PWY_LQP_STAT_CACHED s.cachedLqps

/-- `MTC`: the page, and the window of a function with its chosen list. -/
def State.viewMtc (s : State) (fn off : Nat) : Nat :=
  let v (f : Fld) (n : Nat) : Nat := shows f off fun _ => n
  let k := s.rd F.MTC_LIST_SEL_LIST fn
  let st := match Tbl.get s.lists (fn, k) with
    | none => 0
    | some l => if l.ready then 1 else 2
  v F.MTC_STORE_POSTED s.posted.length + v F.MTC_STORE_UNEXP s.unexp.length + v F.MTC_POOL_BLOCKS (s.blocksUsed 4)
    + v F.MTC_POOL_RECORDS s.recs.length + v F.MTC_POOL_RDV_SRC s.rdvSources + v F.MTC_FN_USE_LISTS (Tbl.count s.lists fun k _ => k.1 == fn)
    + v F.MTC_FN_USE_UNEXP (s.unexpOf fn) + v F.MTC_FN_POOL_BLOCKS (s.blocksUsed fn) + v F.MTC_LIST_STAT_STATE st
    + v F.MTC_LIST_STAT_UNEXP (s.unexp.filter fun u => u.fn == fn && u.list == k).length
    + v F.MTC_LIST_POSTED_POSTED (s.posted.filter fun p => p.fn == fn && p.list == k).length

/-- `COL`: the page, and the chosen slot. -/
def State.viewCol (s : State) (off : Nat) : Nat :=
  let v (f : Fld) (n : Nat) : Nat := shows f off fun _ => n
  let slot := match Tbl.get s.convoys (s.rd F.COL_SLOT_SEL_SLOT) with
    | none => 0
    | some c => v F.COL_SLOT_STAT_STATE c.state + v F.COL_SLOT_STAT_WBASE c.wbase + v F.COL_SLOT_STAT_ROUNDS c.rounds.length
  slot + v F.COL_STAGE_RESERVED s.cvReserved + v F.COL_STAGE_CAPACITY s.cvCapacity + v F.COL_STAT_SLOTS s.convoys.length
    + v F.COL_STAT_ROUNDS s.cvRounds + v F.COL_STAT_PARKED s.cvParked

/-- `ATM`: the page, and the window of a function. -/
def State.viewAtm (s : State) (fn off : Nat) : Nat :=
  let v (f : Fld) (n : Nat) : Nat := shows f off fun _ => n
  let mine (t : HeldLock → Bool) : Nat := (s.heldLocks.filter fun h => h.fn == fn && t h).length
  v F.ATM_STAT_ATOMICS s.atomicsUsed + v F.ATM_STAT_LOCKS s.locks.length + v F.ATM_STAT_WAITERS s.lockWaiters
    + v F.ATM_HELD_ENTRIES s.heldLocks.length + v F.ATM_FN_LOCKS_HELD (mine fun h => h.op.isNone)
    + v F.ATM_FN_LOCKS_WAITING (mine fun h => h.op.isSome)
    + v F.ATM_FN_LOCKS_SEMS ((List.range 256).filter fun k => s.on F.ATM_SEM_STATk_HELD 0 k && s.rd F.ATM_SEM_STATk_HOLDER 0 k == fn).length

/-- `TMG`: the pipes, and the counts of the chosen meter. -/
def State.viewTmg (s : State) (off : Nat) : Nat :=
  let v (f : Fld) (n : Nat) : Nat := shows f off fun _ => n
  let m := s.meter (s.rd F.TMG_TG_SEL_SLOT)
  shows F.TMG_PIPEp_BACKLOG off s.backlogged + shows F.TMG_PIPEp_ASIDE off s.asideCount
    + v F.TMG_TG_CNT_GREEN m.nGreen + v F.TMG_TG_CNT_YELLOW m.nYellow + v F.TMG_TG_CNT2_RED m.nRed + v F.TMG_TG_CNT2_ACTED m.nActed

/-- `RTB`. -/
def State.viewRtb (s : State) (off : Nat) : Nat :=
  let copying := ((Tbl.get s.sh.commits Block.rtb.page).map fun c => c.phase != 0) == some true
  shows F.RTB_CACHE_OUTSTANDING off (fun _ => s.listFetch.length) + shows F.RTB_BOOK_STAT_COPYING off (fun _ => b2n copying) + shows F.RTB_QUAR_STAT_ENTRIES off fun _ => (s.quars.filter fun q => decide (s.now < q.until_)).length

/-- The buffer that `XBR_BUF_SEL` chooses: port, and pool that holds the packets of the VC; none for a VC that does not exist. -/
def State.bufSel (s : State) (j : Nat) : Option (Nat × Nat) :=
  let vc := s.rd F.XBR_BUF_SEL_VC j
  if 8 < vc then none else some (8 * j + s.rd F.XBR_BUF_SEL_PORT j, vc)

/-- Header slots and data units in use in a buffer by the packets of a VC (8: VCB). -/
def PortSt.vcUsed (q : PortSt) (vc : Nat) : Nat × Nat :=
  q.buf.foldl (fun n b => if b.vc = vc then (n.1 + 1, n.2 + unitsOf b.len) else n) (0, 0)

/-- `XBR` of a junction. -/
def State.viewXbr (s : State) (j off : Nat) : Nat :=
  let v (f : Fld) (n : Nat) : Nat := shows f off fun _ => n
  let (used, hwm) := match s.bufSel j with
    | some (p, vc) => ((s.port p).vcUsed vc, (s.port p).hwm.getD vc (0, 0))
    | none => ((0, 0), (0, 0))
  let (pri, alt) := Tbl.getD s.groupTable (s.rd F.XBR_GRP_SEL_SLOT j) (0, 0)
  v F.XBR_BUF_OCC_DATA used.2 + v F.XBR_BUF_OCC_HDR used.1 + v F.XBR_BUF_HWM_DATA_HWM hwm.1 + v F.XBR_BUF_HWM_HDR_HWM hwm.2
    + v F.XBR_EJECT_OCC (ceilDiv (s.ejectBytes j) 256) + v F.XBR_INJECT_OCC (ceilDiv (s.injectBytes j) 256)
    + shows F.XBR_OUTQi_BACKLOG off (fun i => s.backlog (8 * j + i)) + v F.XBR_GRP_PRI_MASK (pri / 2 ^ (8 * j)) + v F.XBR_GRP_ALT_MASK (alt / 2 ^ (8 * j))

/-- `LNK` of a port. -/
def State.viewLnk (s : State) (p off : Nat) : Nat :=
  let pool (k : Nat) : Pool := (s.port p).pools.getD k {}
  shows F.LNK_HOLD_HELD off (fun _ => if s.portState p = 3 then 0 else min 65535 (s.waiting p).length)
    + shows F.LNK_CREDk_HDR_AVAIL off (fun k => (pool k).avail.1) + shows F.LNK_CREDk_DATA_AVAIL off (fun k => (pool k).avail.2)
    + shows F.LNK_CREDk_HDR_ADV off (fun k => (pool k).advH) + shows F.LNK_CREDk_DATA_ADV off fun k => (pool k).advD

/-- `MEM` of a controller. -/
def State.viewMem (s : State) (k off : Nat) : Nat :=
  shows F.MEM_SPARE_STAT_TOTAL off (fun _ => s.spareTotal) + shows F.MEM_SPARE_STAT_USED off fun _ => s.spareUsed k

/-- What the computed fields add to the register at an offset of a block's page, or of a function's window taken as that of function 0:
block, instance or function, offset. -/
def State.view (s : State) (b : Block) (i off : Nat) : Nat :=
  match b with
  | .dev => s.viewDev off | .fcl => s.viewFcl off | .crp => s.viewCrp off | .tim => s.viewTim off | .mgt => s.viewMgt off
  | .sec => s.viewSec off | .pmu => shows F.PMU_TR_STAT_SIZE off fun _ => s.traceSize
  | .hif => s.viewHif i off | .xlt => s.viewXlt i off | .cmd => s.viewCmd i off | .txe => s.viewTxe off | .rxe => s.viewRxe off
  | .pwy => s.viewPwy off | .mtc => s.viewMtc i off | .col => s.viewCol off | .atm => s.viewAtm i off | .tmg => s.viewTmg off
  | .rtb => s.viewRtb off | .xbr => s.viewXbr i off | .lnk => s.viewLnk i off | .lan => 0 | .mem => s.viewMem i off

end Sys2Proof.Machine
end

