-- ==== Sys2Proof/Machine/RegAccess.lean ====
section
/-! DEFINITION. Machine/RegAccess.lean: reads and writes of BAR0 registers (02 R32 to R41, R53, R54; 12 R414; 16 R509; 19 R565). -/

namespace Sys2Proof.Machine

/-! ## Where an access falls -/

/-- A BAR0 offset taken apart: page, block, instance of the page or function of the window, offset in the page or, in a window, the
offset that the register has in the window of function 0. -/
structure Place where
  p : Nat
  b : Block
  inst : Nat
  off : Nat
  win : Bool
deriving DecidableEq, Repr

/-- The place of an offset; none in a reserved page (R35). -/
def place (a : Nat) : Option Place :=
  let p := a / 65536
  let o := a % 65536
  match pageBlock p with
  | none => none
  | some (b, i) =>
    if b.fnWin && decide (0x8000 ≤ o) then
      if b = .hif then some { p := p, b := b, inst := i, off := o, win := true }
      else some { p := p, b := b, inst := (o - 0x8000) / 0x2000, off := 0x8000 + (o - 0x8000) % 0x2000, win := true }
    else some { p := p, b := b, inst := i, off := o, win := false }

/-- Instance under which the bank holds a field: the page for the common header and the arbiter window, else that of the place. -/
def Place.index (x : Place) (f : Fld) : Nat := if f.insts = 1024 then x.p else x.inst

/-- Is an access one of those that a register takes: 64 or 32 bits wide, and aligned (R32, R34)? -/
def goodAccess (a size : Nat) : Bool := (size == 8 || size == 4) && a % size == 0

/-! ## May an access reach the registers? -/

/-- Can a master reach BAR0 at all: a host port whose link, function and page serve, an unlocked JTAG, or the management core (R52, R84,
R89, R490, R504, R557)? -/
def State.busOpen (s : State) (m : Nat) : Bool :=
  !s.off && !s.inReset &&
  if m < 4 then !s.fnAbsent m && !s.on F.HIF_IDE_STAT_HALTED m && !s.on F.HIF_FN_STAT_DSTATE m && s.hifLive m
  else if m = 5 then !s.fuses.jtagLock || s.jtagOpen
  else m == 4

/-- Domains 31 to 34, whose use by a host keeps the device out of lay-by (R562). -/
def hostDomain (p : Nat) : Bool :=
  match pageDomain p with
  | some d => decide (31 ≤ d) && decide (d ≤ 34)
  | none => false

/-- Does lay-by hold an access of a master to an offset of a page (R565)? An access behind one that is held of the same master to the same page
is held too, a header's among them (R36). -/
def State.laybyHolds (s : State) (m p o : Nat) : Bool :=
  decide (m < 4) && (s.power == psLayby || s.wakingFrom psLayby)
    && (s.pw.heldAt.contains (m, p) || (decide (0x100 ≤ o)
      && ((match pageDomain p with
        | some d => s.domHeld d != 0
        | none => false) || (p == Block.pmu.page && decide (0x8000 ≤ o)))))

/-- Is a block-specific register of a page beyond reach (R41)? -/
def State.gated (s : State) (p o : Nat) : Bool :=
  decide (0x100 ≤ o) && (s.pageDom p == 1 || s.pageDom p == 2 || s.on F.BLK_STAT_RESET_BUSY p)

/-- An access counted: the performance event of the host port, and the time of R562. -/
def State.noteAccess (s : State) (m p : Nat) : State :=
  if m < 4 then
    let s := s.tally .hif 6 1 m
    if hostDomain p then { s with pw.hostAt := s.now } else s
  else s

/-- An access held in lay-by, which wakes the device (R564, R565). -/
def State.holdIo (s : State) (i : Instr) : State := ({ s with pw.heldIo := s.pw.heldIo ++ [i] } : State).wake 2

/-- A command that is a register access: what comes before its effect. `no` is its effect on a gated block and `shut` while the device is
halted, where that does not serve the page (R41, R509, R565). DESIGN CHOICE: an access to a gated block is that, whatever its size and its
master: it records no index 30 (R34, R41, R53; log entry 59). -/
def regGate (i : Instr) (m a : Nat) (halt : Bool) (no : State → State) (f : State → State) (s : State) : State :=
  let p := a / 65536
  if !s.busOpen m then s
  else if s.laybyHolds m p (a % 65536) then State.holdIo { s with pw.heldAt := s.pw.heldAt ++ [(m, p)] } i
  else
    let s := s.noteAccess m p
    if s.gated p (a % 65536) then no (s.wr F.BLK_STAT_GATED_ACCESS 1 p)
    else if s.halted && halt then no s
    else f s

/-- A register write (R41, R509). -/
def regRow (i : Instr) (m a : Nat) (f : State → State) (s : State) : State :=
  regGate i m a (a / 65536 != Block.fcl.page && a / 8 * 8 != F.CRP_RST_CTL_WARM.addr 0 0) id f s

/-! ## Reads -/

/-- Value of a stored field (`ARB_PRIr` is stored as its difference from the default of its page). -/
def State.fieldVal (s : State) (x : Place) (f : Fld) (j : Nat) : Nat :=
  if f.acc = .wo then 0
  else if f = F.ARB_PRIr_PRIO then s.prio x.p j
  else s.rd f (x.index f) j

/-- The register at a place: stored fields, and those computed. -/
def State.regVal (s : State) (x : Place) : Nat :=
  (allFields x.b).foldl (fun n f => match fldIndex f x.off with
    | some j => n + s.fieldVal x f j * 2 ^ f.lo
    | none => n) (s.viewHdr x.b (x.p - x.b.page) x.off + s.view x.b x.inst x.off)

/-- Fields that hold the highest value of another since last read (R414). -/
def highs : List (Fld × Fld) :=
  [(F.CRP_THERM_PEAK_C, F.CRP_THERM_TEMP_C), (F.HIF_OUTSTANDING_READS_HWM, F.HIF_OUTSTANDING_READS), (F.XLT_STAT_WALKS_HWM, F.XLT_STAT_WALKS),
   (F.CMD_HWM_DESC_HWM, F.CMD_STAT_DESC_CACHED), (F.CMD_HWM_TRIG_HWM, F.CMD_STAT_TRIG_HELD), (F.CMD_TRIG_STAT_HELD_HWM, F.CMD_TRIG_STAT_HELD),
   (F.TXE_HWMp_READS_HWM, F.TXE_PIPE_STATp_READS), (F.TXE_HWMp_ACTIVE_HWM, F.TXE_PIPE_STATp_ACTIVE_WQ),
   (F.RXE_HWMp_WALK_PARKED_HWM, F.RXE_PIPE_STATp_WALK_PARKED), (F.RXE_HWMp_FLUSH_HWM, F.RXE_PIPE_STATp_FLUSH_PENDING),
   (F.PWY_HWM_INFLIGHT_HWM, F.PWY_OCC_INFLIGHT), (F.PWY_HWM_PARKED_HWM, F.PWY_OCC_PARKED), (F.PWY_HWM_HELD_HWM, F.PWY_OCC_HELD),
   (F.MTC_HWM_POSTED_HWM, F.MTC_STORE_POSTED), (F.MTC_HWM_UNEXP_HWM, F.MTC_STORE_UNEXP), (F.MTC_HWM2_BLOCKS_HWM, F.MTC_POOL_BLOCKS),
   (F.MTC_HWM2_RECORDS_HWM, F.MTC_POOL_RECORDS)] ++
  [(F.COL_HWM_ROUNDS_HWM, F.COL_STAT_ROUNDS), (F.COL_HWM_PARKED_HWM, F.COL_STAT_PARKED), (F.ATM_HWM_ATOMICS_HWM, F.ATM_STAT_ATOMICS),
   (F.ATM_HWM_LOCKS_HWM, F.ATM_STAT_LOCKS), (F.ATM_HWM_WAITERS_HWM, F.ATM_STAT_WAITERS), (F.TMG_HWMp_BACKLOG_HWM, F.TMG_PIPEp_BACKLOG),
   (F.TMG_HWMp_ASIDE_HWM, F.TMG_PIPEp_ASIDE), (F.XBR_EJECT_OCC_HWM, F.XBR_EJECT_OCC), (F.XBR_INJECT_OCC_HWM, F.XBR_INJECT_OCC),
   (F.XBR_OUTQ_HWMi_BACKLOG_HWM, F.XBR_OUTQi_BACKLOG), (F.ARB_WAIT_HWM_WAIT_HWM, F.ARB_WAIT_HWM_WAIT_HWM)]

/-- The present value of the quantity behind a high-water field, with its index; the waits of an arbiter are shown in no other field. -/
def State.liveOf (s : State) (x : Place) (f : Fld) (j : Nat) : Option Nat :=
  if f = F.ARB_WAIT_HWM_WAIT_HWM then some (min (2 ^ 32 - 1) (s.arbWaiting x.p))
  else
  match highs.find? fun e => e.1 == f with
  | none => none
  | some (_, l) => some (s.regVal { x with off := l.off + j * l.stride } / 2 ^ l.lo % 2 ^ l.width)

/-- High-water fields of a register brought up to the present value (R414). -/
def State.raiseHighs (s : State) (x : Place) : State :=
  highs.foldl (fun s e => match fldIndex e.1 x.off with
    | some j => if e.1.page + e.1.insts ≤ x.p || x.p < e.1.page then s else
      match s.liveOf x e.1 j with
      | some v => s.high e.1 v (x.index e.1) j
      | none => s
    | none => s) s

/-- Does a field lie, in part, between two bits of its register? -/
def within (f : Fld) (lo hi : Nat) : Bool := decide (f.lo < hi) && decide (lo < f.lo + f.width)

/-- A field's value with its bits between two bits of the register taken from another value: the half that was read (R33). -/
def mixHalf (f : Fld) (lo hi old new : Nat) : Nat :=
  let a := max lo f.lo - f.lo
  let n := min hi (f.lo + f.width) - f.lo - a
  old - bitsOf old a n * 2 ^ a + bitsOf new a n * 2 ^ a

/-- RC fields of the half that was read cleared, or reloaded with the present value (R2, R33, R414). -/
def State.clearRead (s : State) (x : Place) (lo hi : Nat) : State :=
  let s' := (allFields x.b).foldl (fun t f => match fldIndex f x.off with
    | some j => if f.acc = .rc && within f lo hi then t.wr f (mixHalf f lo hi (s.rd f (x.index f) j) ((s.liveOf x f j).getD 0)) (x.index f) j else t
    | none => t) s
  if x.b = .xbr && x.off = F.XBR_BUF_HWM_DATA_HWM.off && lo = 0 then
    match s.bufSel x.inst with
    | some (p, vc) => s'.modPort p fun q => { q with hwm := q.hwm.set vc ((q.vcUsed vc).2, (q.vcUsed vc).1) }
    | none => s'
  else if x.b = .tmg && (x.off = F.TMG_TG_CNT_GREEN.off || x.off = F.TMG_TG_CNT2_RED.off) then
    let k := s.rd F.TMG_TG_SEL_SLOT
    if !Tbl.has s.meters k then s'
    else
      let m := s.meter k
      let low := lo = 0
      let high := hi = 64
      let m := if x.off = F.TMG_TG_CNT_GREEN.off then { m with nGreen := if low then 0 else m.nGreen, nYellow := if high then 0 else m.nYellow }
        else { m with nRed := if low then 0 else m.nRed, nActed := if high then 0 else m.nActed }
      { s' with meters := Tbl.set s'.meters k m }
  else s'

/-- On-package address of an offset of `RTB_WIN`, where it is inside the shadow bank (R364). -/
def State.winAddr (s : State) (o : Nat) : Option Nat :=
  let x := s.rd F.RTB_WIN_BASE_PAGE * 0x8000 + (o - 0x8000)
  let a := s.bankBase (1 - s.rd F.RTB_BOOK_STAT_ACTIVE_BANK) + x / 8 * 8
  if x / 8 * 8 + 8 ≤ s.planSize 3 / 2 && s.memOk .rtb a 8 then some a else none

/-- On-package address of a record in the trace window (R534). -/
def State.traceAddr (s : State) (o : Nat) : Option Nat :=
  let x := s.rd F.PMU_TR_WIN_BASE_PAGE * 4096 + (o - 0x7000)
  if x < s.planSize 2 && s.memOk .pmu (s.planBase 2 + x / 64 * 64) 64 then some (s.planBase 2 + x) else none

/-- The eight bytes read at a place: a register, a performance counter, or a window onto a buffer or memory (R364, R524, R527, R534). -/
def State.readPlace (s : State) (x : Place) : State × Nat :=
  if x.b = .pmu && decide (0x1000 ≤ x.off) && decide (x.off < 0x5000) then
    let i := (x.off - 0x1000) / 8
    (s, if s.on F.PMU_SNAP_FROZEN then Sparse.read 0 s.snap i else s.ctr i)
  else if x.b = .pmu && decide (0x7000 ≤ x.off) && decide (x.off < 0x8000) then
    match s.traceAddr (x.off / 8 * 8) with
    | none => (s, 0)
    | some a => if s.clean (a / 64 * 64) 64 then (s, s.word a 8) else (s.berr .pmu 5, 0)
  else if x.b = .rtb && decide (0x8000 ≤ x.off) then
    match s.winAddr x.off with
    | some a => (s, s.word a 8)
    | none => (s, 0)
  else if x.b = .sec && decide (0x1000 ≤ x.off) && decide (x.off < 0x1200) then
    (s, leNat ((s.secBlob.drop ((x.off - 0x1000) / 8 * 8)).take 8))
  else (s, s.regVal x)

/-- A read by a master of an aligned offset: value, and what the read does (R33, R35, R54, R414). -/
def State.regFetch (s : State) (m a size : Nat) : State × Nat :=
  match place (a / 8 * 8) with
  | none => (s, 0)
  | some x =>
    if x.win && !mayWindow m x.inst then (s, 0)
    else
      let s := s.raiseHighs x
      let (s, v) := s.readPlace x
      let lo := if size = 8 || a % 8 = 0 then 0 else 32
      (s.clearRead x lo (if size = 8 then 64 else lo + 32), partOf a size v)

/-- The semaphore that a read of an offset tries for, and whether the read waits (R335): `ATM_SEM_ACQk`, `ATM_SEM_TRYk`. -/
def semOf (a : Nat) : Option (Bool × Nat × Nat) :=
  match place (a / 8 * 8) with
  | some x =>
    if x.b = .atm && x.win then
      match fldIndex F.ATM_SEM_ACQk_GRANTED x.off, fldIndex F.ATM_SEM_TRYk_VALUE x.off with
      | some k, _ => some (true, x.inst, k)
      | none, some k => some (false, x.inst, k)
      | none, none => none
    else none
  | none => none

/-- What answers a read of a master. -/
def State.replyRead (s : State) (m a v : Nat) : State := s.emit (.readReply m a v)

/-- Does a halted device turn a read away: all but page headers, `DEV` and `FCL` (R509)? -/
def haltRead (a : Nat) : Bool :=
  decide (0x100 ≤ a % 65536) && a / 65536 != Block.dev.page && a / 65536 != Block.fcl.page

/-- A read that no register takes (R34). -/
def State.badRead (s : State) (m a : Nat) : State :=
  (s.refuse m (if (place a).isNone then 0 else a / 65536) a false).replyRead m a 0

/-- `REG_READ`: a read completes, or joins the waiters of a semaphore (R32 to R36, R41, R335). -/
def regReadRun (m a size : Nat) (s : State) : State :=
  if !goodAccess a size then s.badRead m a
  else
    match semOf a with
    | some (wait, fn, k) => semRead wait m fn k a size s
    | none =>
      let (s, v) := s.regFetch m a size
      s.replyRead m a v

def regReadRow (m a size : Nat) (s : State) : State :=
  regGate (.regRead m a size) m a (haltRead a) (fun s => s.replyRead m a 0) (regReadRun m a size) s

/-! ## Writes -/

/-- The bits of a register that a write gives, and their values, in place. -/
structure Put where
  lo : Nat
  hi : Nat
  w : Nat
deriving DecidableEq, Repr

/-- What a write of a size at an offset gives its register. -/
def putOf (a size v : Nat) : Put :=
  if size = 8 then { lo := 0, hi := 64, w := v % 2 ^ 64 }
  else if a % 8 = 0 then { lo := 0, hi := 32, w := v % 2 ^ 32 }
  else { lo := 32, hi := 64, w := v % 2 ^ 32 * 2 ^ 32 }

/-- Does a write give any bit of a field? -/
def Put.has (x : Put) (f : Fld) : Bool := within f x.lo x.hi

/-- A field as a write leaves it: its old value where the write gives no bit (R33). -/
def Put.onto (x : Put) (f : Fld) (old : Nat) : Nat :=
  let l := max f.lo x.lo
  let n := min (f.lo + f.width) x.hi - l
  old - bitsOf old (l - f.lo) n * 2 ^ (l - f.lo) + bitsOf x.w l n * 2 ^ (l - f.lo)

/-- The bits that a write gives a field, the rest 0. -/
def Put.val (x : Put) (f : Fld) : Nat := if x.has f then x.onto f 0 else 0

/-- Is a one-bit field written with 1? -/
def Put.one (x : Put) (f : Fld) : Bool := x.val f == 1

/-- A field written, by its access code (R2, R33, R49). -/
def State.putField (s : State) (x : Place) (w : Put) (f : Fld) (j : Nat) : State :=
  let i := x.index f
  if !w.has f then s
  else
    match f.acc with
    | .rw => s.wr f (w.onto f (s.rd f i j)) i j
    | .rws =>
      let d := if f = F.ARB_PRIr_PRIO then arbDefault x.p j else 0
      s.wrShadow f (w.onto f (s.shadow f i j ^^^ d) ^^^ d) i j
    | .w1c => s.wr f (s.rd f i j - (s.rd f i j &&& w.val f)) i j
    | .w1s => s.wr f (s.rd f i j ||| w.val f) i j
    | .ro | .wo | .rc => s

/-- Every field of a register written. -/
def State.putReg (s : State) (x : Place) (w : Put) : State :=
  (allFields x.b).foldl (fun s f => match fldIndex f x.off with
    | some j => s.putField x w f j
    | none => s) s

/-- `BLK_CTL` written: enable and fence, and reset B where `EN` was 0 or `FENCE` 1 when the write came; a reset that may not start discards the
write (R38, R40). -/
def State.writeBlkCtl (s : State) (m : Nat) (x : Place) (w : Put) : State :=
  if w.lo ≠ 0 then s
  else
    let fence := w.one F.BLK_CTL_FENCE
    let en := w.one F.BLK_CTL_EN
    let rst := w.one F.BLK_CTL_RST
    if rst && !(x.b.brst && (!s.on F.BLK_CTL_EN x.p || s.fenced x.p)) then s.refuse m x.p (F.BLK_CTL_RST.addr x.p 0) true
    else
      let s := blkFenceWrite m x.p fence (s.wr F.BLK_CTL_EN (b2n en) x.p)
      if rst then s.wr F.BLK_STAT_RESET_BUSY 1 x.p else s

/-- `SHADOW_CMT` written (R50). -/
def State.writeCmt (s : State) (m : Nat) (x : Place) (w : Put) : State :=
  match w.one F.SHADOW_CMT_CMT, w.one F.SHADOW_CMT_DISCARD with
  | true, true => s.refuse m x.p (F.SHADOW_CMT_CMT.addr x.p 0) true
  | true, false => shadowCmt m x.p s
  | false, true => shadowDiscard m x.p s
  | false, false => s

/-- A register of the common header or of the arbiter window written (R38 to R50, R43, R400). -/
def State.writeHdr (s : State) (m : Nat) (x : Place) (w : Put) : State :=
  match x.off with
  | 0x10 => s.writeBlkCtl m x w
  | 0x20 => errStatClear m x.p (w.val F.ERR_STAT_ERR) s
  | 0x28 =>
    let was := s.line x.p
    let s := s.putReg x w
    if !was && s.line x.p then (s.latch x.p).tally .fcl 0 else s
  | 0x40 => if w.one F.ERR_FIRST_INFO_VALID then errFirstRearm m x.p s else s
  | 0x60 => s.writeCmt m x w
  | _ => s.putReg x w

/-- A register of `FCL` written. -/
def State.writeFcl (s : State) (m : Nat) (x : Place) (w : Put) : State :=
  match x.off with
  | 0x100 => fclStatClear m 0 (w.val F.FCL_STAT_STAT) s
  | 0x108 => fclStatClear m 1 (w.val F.FCL_PORT_LO_PORT) s
  | 0x110 => fclStatClear m 2 (w.val F.FCL_PORT_HI_PORT) s
  | 0x118 => fclStatClear m 3 (w.val F.FCL_LANE_GROUP) s
  | 0x120 => if w.one F.FCL_FIRST_VALID then fclFirstRearm m s else s
  | 0x150 => svcReasonClear m (w.val F.FCL_SVC_STAT_REASONS) s
  | 0x158 => if w.one F.FCL_SVC_REQ_RAISE then fclSvcReq m (w.val F.FCL_SVC_REQ_CODE) s else s
  | 0x160 =>
    let s := s.putReg x w
    if w.one F.FCL_ALIVE_KICK then aliveKick m s else s
  | 0x170 => unitFenceWrite m (w.onto F.FCL_UNIT_FENCE_FENCE (s.units (s.rd F.FCL_UNIT_SEL_PAGE))) s
  | _ => s.putReg x w

/-- A register of `CRP` written (R562, R573). -/
def State.writeCrp (s : State) (m : Nat) (x : Place) (w : Put) : State :=
  match x.off with
  | 0x100 => if w.has F.CRP_PWR_REQ_TARGET then pwrReqWrite m (w.val F.CRP_PWR_REQ_TARGET) s else s
  | 0x138 =>
    if w.one F.CRP_RST_CTL_WARM then s.warmReset false
    else if w.one F.CRP_RST_CTL_MGMT then s.startResetM 3
    else s
  | _ => s.putReg x w

/-- The bytes of the blob buffer that a write gives (R475). -/
def State.writeBlob (s : State) (x : Place) (w : Put) : State :=
  let k := x.off - 0x1000
  let n := (w.hi - w.lo) / 8
  let b := leBytes n (w.w / 2 ^ w.lo)
  let at_ := k + w.lo / 8
  if at_ + n ≤ 288 then { s with secBlob := s.secBlob.take at_ ++ b ++ s.secBlob.drop (at_ + n) } else s

/-- A register of `SEC` or `PMU` written (R473, R475, R527, R537). -/
def State.writeSec (s : State) (m : Nat) (x : Place) (w : Put) : State :=
  if x.off = 0x118 then
    if w.has F.SEC_CMD_OP then keyCommand (w.val F.SEC_CMD_OP) m (w.val F.SEC_CMD_SLOT) (w.one F.SEC_CMD_NEXT) s else s
  else if 0x1000 ≤ x.off ∧ x.off < 0x1200 then s.writeBlob x w
  else s.putReg x w

def State.writePmu (s : State) (m : Nat) (x : Place) (w : Put) : State :=
  match x.off with
  | 0x100 =>
    match w.one F.PMU_SNAP_GO, w.one F.PMU_SNAP_RELEASE with
    | true, true => s.refuse m x.p (F.PMU_SNAP_GO.addr 0 0) true
    | true, false => pmuSnapGo m s
    | false, true => pmuSnapRelease m s
    | false, false => s
  | 0x8018 =>
    let old := s.rd F.PMU_SR_HEAD_HEAD x.inst
    let v := w.onto F.PMU_SR_HEAD_HEAD old
    if consumes old (s.rd F.PMU_SR_TAIL_TAIL x.inst) v then s.wr F.PMU_SR_HEAD_HEAD v x.inst
    else s.berr .cmd 3 { access := accRegWrite, addr := F.PMU_SR_HEAD_HEAD.addr x.inst 0, master := some m }
  | 0x8028 => if w.has F.PMU_SR_SEED_SEED then sampleSeed m x.inst (w.val F.PMU_SR_SEED_SEED) s else s
  | _ => s.putReg x w

/-- A register of a host port written (R54, R84, R87); of several command bits, the lowest that applies acts, and one write of none that
applies is recorded once (R92). -/
def State.writeHif (s : State) (m : Nat) (x : Place) (w : Put) : State :=
  let fn := x.inst
  match x.off with
  | 0x110 =>
    let s := s.putReg x w
    let off := w.one F.HIF_SLOT_CTL_POWER_ON
    let rem := w.one F.HIF_SLOT_CTL_REMOVE_REQ
    let force := w.one F.HIF_SLOT_CTL_FORCE_OFF
    let back := w.one F.HIF_SLOT_CTL_CANCEL
    if off && s.slot fn == slOff then powerOn m fn s
    else if rem && s.slot fn == slAttached then removeReq m fn s
    else if force && s.slot fn == slQuiescing then forceOff m fn s
    else if back && s.slot fn == slQuiescing then cancel m fn s
    else if off || rem || force || back then s.refuse m x.p (F.HIF_SLOT_CTL_POWER_ON.addr fn 0) true
    else s
  | 0x118 =>
    let held := s.on F.HIF_SLOT_STAT_POWER_FAULT fn && (s.hf fn).pwrFlt
    let s := s.putReg x w
    if held then s.wr F.HIF_SLOT_STAT_POWER_FAULT 1 fn else s
  | 0x130 => if w.one F.HIF_IDE_CTL_REQUIRE then ideRequire m fn s else s
  | 0x8008 => if w.one F.HIF_FN_CTL_QUIESCED then quiesced m fn s else s
  | _ => s.putReg x w

/-- A register of `XLT` written (R115, R117); `OVERFLOW` stays set while the fault queue is full (R3; 04 *XLT fields*). -/
def State.writeXlt (s : State) (m : Nat) (x : Place) (w : Put) : State :=
  if x.off = 0x8028 then
    let q := w.val F.XLT_FN_RESUME_WQ
    match w.val F.XLT_FN_RESUME_ACTION with
    | 1 => xltResume m x.inst q s
    | 2 => xltAbort m x.inst q s
    | _ => s
  else if x.off = F.XLT_FQ_STAT_OVERFLOW.off then
    let held := s.on F.XLT_FQ_STAT_OVERFLOW x.inst && s.fqFull x.inst
    (s.putReg x w).when held fun s => s.wr F.XLT_FQ_STAT_OVERFLOW 1 x.inst
  else s.putReg x w

/-- A register of `CMD` written (R126 to R128, R157, R158, R161). -/
def State.writeCmd (s : State) (m : Nat) (x : Place) (w : Put) : State :=
  let fn := x.inst
  match x.off with
  | 0x8008 => (s.putReg x w).adminFetch fn
  | 0x8010 => if w.has F.CMD_AQ_TAIL_TAIL then adminDoorbell m fn (w.val F.CMD_AQ_TAIL_TAIL) s else s
  | 0x8028 =>
    let s := s.putReg x w
    if s.on F.CMD_ACQ_CTL_EN fn then s.adminRoom fn else s
  | 0x8038 => (s.putReg x w).adminRoom fn
  | 0x8048 =>
    let n := w.val F.CMD_RESUME_NUMBER
    let kind := w.val F.CMD_RESUME_QKIND
    match w.val F.CMD_RESUME_ACTION, kind == 1 || kind == 2 with
    | 1, true => (cmdResumeResume m fn kind n s).kickQueues
    | 2, true => (cmdResumeAbort m fn kind n s).kickQueues
    | _, _ => s
  | 0x8050 => trigAdd m fn (w.val F.CMD_TRIG_ADD_COUNTER) (w.val F.CMD_TRIG_ADD_ADDEND) s
  | o =>
    match fldIndex F.CMD_TRIGk_COUNT o with
    | some k => if w.has F.CMD_TRIGk_COUNT then trigCounterSet m fn k (w.val F.CMD_TRIGk_COUNT) s else s
    | none => s.putReg x w

/-- A register of `MTC`, `ATM` or `TMG` written (R276, R339, R352, R413). -/
def State.writeMtc (s : State) (m : Nat) (x : Place) (w : Put) : State :=
  match x.off with
  | 0x8008 => (s.putReg x w).ovfFetch x.inst
  | 0x8010 => if w.has F.MTC_OVF_TAIL_TAIL then ovfTailWrite m x.inst (w.val F.MTC_OVF_TAIL_TAIL) s else s
  | _ => s.putReg x w

def State.writeAtm (s : State) (m : Nat) (x : Place) (w : Put) : State :=
  match x.off with
  | 0x120 => if w.one F.ATM_SEM_FORCE_GO then semForce m (w.val F.ATM_SEM_FORCE_SEM) s else s
  | 0x128 => if w.one F.ATM_LOCK_FORCE_GO then lockForce m (16 * w.val F.ATM_LOCK_FORCE_OFFSET) s else s
  | o =>
    match fldIndex F.ATM_SEM_RELk_REL o with
    | some k => if w.one F.ATM_SEM_RELk_REL then semRelease m x.inst k s else s
    | none => s.putReg x w

def State.writeTmg (s : State) (m : Nat) (x : Place) (w : Put) : State :=
  match x.off with
  | 0x190 => if w.has F.TMG_TG_SEL_SLOT then tgSelWrite m (w.val F.TMG_TG_SEL_SLOT) s else s
  | 0x1A8 => if w.has F.TMG_TG_ACT_EN then tgActWrite m (w.w % 2 ^ 32) s else s
  | _ => s.putReg x w

/-- Bytes written into the shadow bank of the road book (R364, R366). -/
def rtbWinPut (m a size v : Nat) (s : State) : State :=
  if s.on F.SHADOW_STAT_BUSY Block.rtb.page then s.refuse m Block.rtb.page a true
  else
    match s.winAddr (a % 65536) with
    | some k => s.memWrite .rtb (k + a % 8) (leBytes size v)
    | none => s

/-- A register of a port or of a lane group written (R440, R459 to R463). -/
def State.writeLnk (s : State) (x : Place) (w : Put) : State :=
  if x.off = 0x100 && w.lo = 0 then
    let en := s.rd F.LNK_CTL_EN x.inst
    let s := ((s.putReg x w).wr F.LNK_CTL_EN en x.inst).enablePort x.inst (w.one F.LNK_CTL_EN)
    if w.one F.LNK_CTL_RETRAIN then s.retrain x.inst else s
  else s.putReg x w

def State.writeLan (s : State) (m : Nat) (x : Place) (w : Put) : State :=
  let g := x.inst
  match fldIndex F.LAN_LANE_CTLl_FENCE x.off, fldIndex F.LAN_TESTl_GEN x.off, fldIndex F.LAN_INJECTl_MODE x.off, fldIndex F.LAN_MARGINl_V_OFFSET x.off with
  | some l, _, _, _ =>
    if w.lo ≠ 0 then s.putReg x w
    else
      let off0 := s.on F.LAN_LANE_CTLl_TX_OFF g l
      let s := laneFenceWrite m g l (w.one F.LAN_LANE_CTLl_FENCE) s
      let s := s.putReg x w
      if !off0 && w.one F.LAN_LANE_CTLl_TX_OFF then s.squelch g l
      else if off0 && !w.one F.LAN_LANE_CTLl_TX_OFF then s.unsquelch g l
      else s
  | none, some l, _, _ =>
    if w.lo ≠ 0 then s
    else
      match s.testWrite g l (w.w % 2 ^ 32) with
      | some t => t
      | none => s.refuse m x.p (F.LAN_TESTl_GEN.addr g l) true
  | none, none, some l, _ =>
    let s := s.putReg x w
    if w.one F.LAN_INJECTl_GO then injectGo g l s else s
  | none, none, none, some l =>
    let start := w.one F.LAN_MARGINl_START
    if start && s.on F.LAN_MARGINl_BUSY g l then s
    else if start then marginStart g l (s.putReg x w)
    else s.putReg x w
  | none, none, none, none =>
    let t := s.putReg x w
    match fldIndex F.LAN_TX_FFEl_PRE2 x.off with
    | some l => if tapsOk (t.ownTaps g l) then t else s.refuse m x.p (F.LAN_TX_FFEl_PRE2.addr g l) true
    | none => t

/-- A block-specific register written, by a master that may: registers with an effect of their own, and all others. -/
def State.writeBlock (s : State) (m a size v : Nat) (x : Place) (w : Put) : State :=
  match x.b with
  | .dev => if x.off = 0x130 then (if w.one F.DEV_FM_CTL_RELEASE then fmRoleRelease m s else s) else s.putReg x w
  | .fcl => s.writeFcl m x w
  | .crp => s.writeCrp m x w
  | .tim => if x.off = 0x108 then timSet m (w.val F.TIM_SET_TIME) s else (s.putReg x w).elect
  | .sec => s.writeSec m x w
  | .pmu => s.writePmu m x w
  | .hif => s.writeHif m x w
  | .xlt => s.writeXlt m x w
  | .cmd => s.writeCmd m x w
  | .mtc => s.writeMtc m x w
  | .col => if x.off = 0x180 then (if w.has F.COL_SLOT_SEL_SLOT then s.selectSlot (w.val F.COL_SLOT_SEL_SLOT) else s) else s.putReg x w
  | .atm => s.writeAtm m x w
  | .tmg => s.writeTmg m x w
  | .rtb => if 0x8000 ≤ x.off then rtbWinPut m a size v s
    else if x.off = 0x140 then (if w.one F.RTB_QUAR_CLR_CLR then s.quarClear else s) else s.putReg x w
  | .lnk => s.writeLnk x w
  | .lan => s.writeLan m x w
  | .mem => if x.off = 0x220 then (if w.one F.MEM_SPARE_FORCE_GO then spareForce m x.inst (w.val F.MEM_SPARE_FORCE_ADDR) s else s) else s.putReg x w
  | .mgt | .txe | .rxe | .pwy | .xbr => s.putReg x w

/-- A write of an aligned register: what permission and place make of it (R35, R53, R54). -/
def State.regStore (s : State) (m a size v : Nat) : State :=
  match place (a / 8 * 8) with
  | none => s.refuse m 0 a true
  | some x =>
    if x.win && !mayWindow m x.inst then s
    else if !x.win && !s.mayWrite m then s.refuse m x.p a true
    else
      let w := putOf a size v
      if x.off < 0x100 then s.writeHdr m x w
      else if x.b.arb && decide (0x800 ≤ x.off) && decide (x.off < 0x1000) then
        (if x.off = 0x810 then arbFencedClear x.p (w.val F.ARB_FENCED_FENCED) s else s.putReg x w)
      else s.writeBlock m a size v x w

/-- `REG_WRITE` (R32 to R36, R41, R53, R54). An access that is narrow or unaligned is recorded as index 30 (R34) before R54 is looked at, also where
it meets another function's window (log entry 39, DESIGN CHOICE). -/
def regWriteRun (m a size v : Nat) (s : State) : State :=
  if goodAccess a size then s.regStore m a size v
  else s.refuse m (if (place a).isNone then 0 else a / 65536) a true

def regWriteRow (m a size v : Nat) (s : State) : State := regRow (.regWrite m a size v) m a (regWriteRun m a size v) s

/-! ## Rows that are one register's write, and have no meaning of their own elsewhere -/

/-- A global register's write, by a master that may (R53). -/
def globalWrite (m p a : Nat) (f : State → State) (s : State) : State := if s.mayWrite m then f s else s.refuse m p a true

/-- `RTB_QUAR_CLR` written (R380). -/
def quarClr (m : Nat) (s : State) : State := globalWrite m Block.rtb.page (F.RTB_QUAR_CLR_CLR.addr 0 0) (fun s => s.quarClear) s

/-- `RTB_WIN` written (R364, R366). -/
def rtbWinWrite (m a size v : Nat) (s : State) : State :=
  if goodAccess a size then globalWrite m Block.rtb.page a (rtbWinPut m a size v) s else s.refuse m Block.rtb.page a true

/-- `LNK_CTL.RETRAIN` and `LNK_CTL.EN` written (R437, R440). -/
def linkRetrain (m p : Nat) (s : State) : State := globalWrite m (Block.lnk.page + p) (F.LNK_CTL_RETRAIN.addr p 0) (fun s => s.retrain p) s
def linkEnable (m p : Nat) (on : Bool) (s : State) : State :=
  globalWrite m (Block.lnk.page + p) (F.LNK_CTL_EN.addr p 0) (fun s => s.enablePort p on) s

/-- `LAN_TESTl`, `LAN_INJECTl.GO` and `LAN_MARGINl.START` written (R459 to R462). -/
def lanTestWrite (m g l v : Nat) (s : State) : State :=
  let a := F.LAN_TESTl_GEN.addr g l
  globalWrite m (Block.lan.page + g) a (fun s => (s.testWrite g l v).getD (s.refuse m (Block.lan.page + g) a true)) s
def laneInject (m g l : Nat) (s : State) : State := globalWrite m (Block.lan.page + g) (F.LAN_INJECTl_GO.addr g l) (injectGo g l) s
def laneMargin (m g l : Nat) (s : State) : State := globalWrite m (Block.lan.page + g) (F.LAN_MARGINl_START.addr g l) (marginStart g l) s

/-- `ARB_FENCED` written (R400). -/
def arbClear (m p mask : Nat) (s : State) : State := globalWrite m p (F.ARB_FENCED_FENCED.addr p 0) (arbFencedClear p mask) s

/-! ## Register access by request (18 *Management requests*) -/

/-- A register access of the management core: gated blocks as R41 gives; a semaphore is tried for without waiting (log entry 19). -/
def mgmtRegRead (path : ReqPath) (tag a : Nat) (s : State) : State :=
  mgmtAny path (fun s =>
    if a % 8 ≠ 0 || decide (0x4000000 ≤ a) then s.respond path tag msBadRequest
    else
      match semOf a with
      | some (_, fn, k) =>
        let t := semRead false 4 fn k a 8 { s with out := [] }
        let v := match t.out.getLast? with
          | some (.readReply _ _ v) => v
          | _ => 0
        ({ t with out := s.out } : State).respond path tag msOk (leBytes 8 v)
      | none =>
        if s.gated (a / 65536) (a % 65536) then (s.wr F.BLK_STAT_GATED_ACCESS 1 (a / 65536)).respond path tag msOk (leBytes 8 0)
        else if s.halted && haltRead a then s.respond path tag msOk (leBytes 8 0)
        else
          let (s, v) := s.regFetch 4 a 8
          s.respond path tag msOk (leBytes 8 v)) s

def mgmtRegWrite (path : ReqPath) (tag a v : Nat) (s : State) : State :=
  mgmtRequest true false path tag (fun s =>
    if a % 8 ≠ 0 || decide (0x4000000 ≤ a) then s.respond path tag msBadRequest
    else (regWriteRow 4 a 8 v (s.respond path tag msOk))) s

end Sys2Proof.Machine
end

