-- ==== Sys2Proof/Machine/Settle.lean ====
section
/-! DEFINITION. Machine/Settle.lean: the effects in other blocks that a command brings about, carried out in the order in which they arose,
before the command ends. -/

namespace Sys2Proof.Machine

/-! ## Firmware brings up a page (18 *Settings record types*; 19 R576) -/

/-- What a register's writable fields hold, in place. -/
def State.heldBits (s : State) (x : Place) : Nat :=
  (allFields x.b).foldl (fun n f => match fldIndex f x.off with
    | some j =>
      let d := if f = F.ARB_PRIr_PRIO then arbDefault x.p j else 0
      if f.acc = .rw then n + s.rd f (x.index f) j * 2 ^ f.lo
      else if f.acc = .rws then n + (s.shadow f (x.index f) j ^^^ d) * 2 ^ f.lo else n
    | none => n) 0

/-- An entry of `REG_DEFAULTS` that lies in a page: the bits of its mask written (log entry 16). -/
def State.applyDefault (s : State) (p : Nat) (e : List Byte) : State :=
  let a := leNat (e.take 8)
  let v := leNat ((e.drop 8).take 8)
  let mask := leNat ((e.drop 16).take 8)
  if a / 65536 ≠ p || a % 8 ≠ 0 then s
  else
    match place a with
    | none => s
    | some x =>
      let old := s.heldBits x
      s.regStore 4 a 8 (old - (old &&& mask) + (v &&& mask))

/-- The entries of a record, 24 bytes each. -/
def entriesOf : Nat → List Byte → List (List Byte)
  | 0, _ => []
  | n + 1, b => if b.length < 24 then [] else b.take 24 :: entriesOf n (b.drop 24)

/-- Defaults of a page, its `REG_DEFAULTS`, and its enable (R501, R576). -/
def State.bringUp (s : State) (p : Nat) : State :=
  let s := s.classify p
  let s := match s.setting 7 with
    | some b => (entriesOf (b.length / 24) b).foldl (fun (t : State) e => t.applyDefault p e) s
    | none => s
  s.enablePage p

/-! ## Packets that settled -/

/-- A packet of an operation, a service, a pull or a grant settled (R180, R200, R268, R349); a response refused because its compatibility queue
pair has failed there fails it here too (R237). -/
def State.ownerSettled (s : State) (k : PwKey) (o : Owner) (r : InFlight) (how : Settled) : State :=
  match o with
  | .op id => s.opSettled id r how
  | .serve id => s.serveSettled id how
  | .pull id => s.pullSettled id how
  | .grant off n => s.grantSettled off n how
  | .reply _ | .unlock .. | .cancelPull .. =>
    match how with
    | .refused _ dt => s.when (k.lqp != 0 && dt == dtLqpError) fun s => s.later (.lqpError (k.lqp - 1))
    | _ => s

/-- What a packet belonged to fails with it (R216, R349, R351). -/
def State.ownerFailed (s : State) (o : Owner) (st dt : Nat) : State :=
  match o with
  | .op id => s.opFailed id st dt
  | .serve id => s.serveFailed id st dt
  | .pull id => s.pullFailed id st dt
  | .grant off n => s.grantFailed off n
  | .unlock .. | .reply _ | .cancelPull .. => s

/-- A port that left `UP` (R313, R376, R392, R583). -/
def State.onPortLeft (s : State) (p : Nat) : State :=
  let s := s.dropVcb p
  let s := if s.portState p = 5 then s.dropFenced p else s
  (s.cvPortLeft p).elect

/-- One effect carried out. -/
def State.todo1 (s : State) : Todo → State
  | .fence p => s.fenceFx p
  | .unfence p => s.unfenceFx p
  | .unitFence p u on => s.unitFx p u on
  | .spare k a => s.spareRow k a
  | .fatal => s.fatalFx
  | .err p i access addr remote unit =>
    s.err p i { access := access, addr := addr, remote := remote, unit := if unit = 0 then none else some (unit - 1) }
  | .lasting p w => s.endBurst (p, w)
  | .resetH fn => s.startResetH fn
  | .offer => s.offerAll
  | .portLeft p => s.onPortLeft p
  | .sendTime p => s.sendTime p
  | .timeOffset p off => s.onOffset p off
  | .timeInfo p prio did steps st pps seq est => s.onTimeInfo p prio did steps st pps seq est
  | .resetM c => s.startResetM c
  | .deliver k rx => s.consume k rx
  | .settled k o r how => s.ownerSettled k o r how
  | .failed o st dt => s.ownerFailed o st dt
  | .respLost id off => s.respGone id off
  | .faultNotice k tag reason off => s.onFaultNotice k tag reason off
  | .lqpError n c => s.lqpEnterError n c
  | .cvLinks k => s.cvLinks k
  | .cvTrigger k t r => s.cvTrigger k t r
  | .sample o => s.sampleOver o
  | .wake c => s.wake c
  | .bringUp p => s.bringUp p
  | .refusedReq p k r m => s.refusedReq p k r m
  | .walkRefused id => s.walkRefused id
  | .contextLost k => pwyContextUncorrected k s
  | .lostWrite fn a => (s.berr .hif 0 { access := accHostWrite, addr := a, master := some fn } fn).aerUnc fn aeInternal 0
  | .atomicWrites fn => s.atomicWrites fn
  | .words => s.wordsFree
  | .unlock k slot rkey remote => s.sendUnlock k slot rkey remote 0 0

/-- Effects carried out, the oldest first, until none is left; the first argument bounds them (log entry 21). -/
def State.drain : Nat → State → State
  | 0, s => { s with todo := [] }
  | n + 1, s =>
    match s.todo with
    | [] => s
    | t :: rest => State.drain n (({ s with todo := rest } : State).todo1 t)

/-- Everything that a command brings about: its effects in other blocks, operations that can now complete in their queues (R147, R188, R189),
and admin commands that no longer wait (R128). -/
def State.settle (s : State) : State :=
  { (((s.drain 65536).kickQueues.pollAdmin).drain 65536).noteBacklogs with caught := [] }

end Sys2Proof.Machine
end

