-- ==== Sys2Proof/Machine/Act.lean ====
section
/-! DEFINITION. Machine/Act.lean: the form of a command's meaning: its operands name something that the device has, the device is in a
state that takes it, its effect, and what the effect brings about. -/

namespace Sys2Proof.Machine

/-! ## Operands that name something (R28, R32, R52) -/

def isOff (a : Nat) : Bool := decide (a < 0x4000000)
def isPage (p : Nat) : Bool := decide (p < 1024)
def isBlock (p : Nat) : Bool := (pageBlock p).isSome
def isPort (p : Nat) : Bool := decide (p < 128)
def isJunction (j : Nat) : Bool := decide (j < 16)
def isLane (g l : Nat) : Bool := decide (g < 32) && decide (l < 4)
def isSem (k : Nat) : Bool := decide (k < 256)
/-- A completion queue, or an event queue. -/
def isKind (k : Nat) : Bool := k == 1 || k == 2
/-- An instance of a page's common arbiter (R395). -/
def isArb (p inst : Nat) : Bool :=
  match pageBlock p with
  | some (b, _) => b.arb && decide (inst < arbInsts p)
  | none => false
/-- A register of `RTB_WIN` (R364). -/
def isWin (a : Nat) : Bool := a / 65536 == Block.rtb.page && decide (0x8000 ≤ a % 65536)

/-! ## The state that takes a command -/

/-- Powered and out of reset C and W (R573, R601). -/
def State.up (s : State) : Bool := !s.off && !s.inReset

/-- And not halted by a chip-fatal fault (R509). -/
def State.runs (s : State) : Bool := s.up && !s.halted

/-- What is left to do after an effect that ends no operation of a queue. -/
def State.calm (s : State) : State := if s.todo.isEmpty && s.caught.isEmpty then s else s.settle

/-- A command: without effect where its operands name nothing that the device has (log entry 27), or where the device does not take it. -/
def act (ok takes : Bool) (f : State → State) (s : State) : Host.Outcome State Fault Refusal :=
  .next (if ok && takes then (f s).settle else s)

/-- A command that ends no operation of a queue itself. -/
def actLight (ok takes : Bool) (f : State → State) (s : State) : Host.Outcome State Fault Refusal :=
  .next (if ok && takes then (f s).calm else s)

/-- A host access to BAR2: held in lay-by, which it ends (R565). -/
def bar2Row (i : Instr) (fn : Nat) (f : State → State) (s : State) : State :=
  if !s.busOpen fn then s
  else if s.power = psLayby || s.wakingFrom psLayby then s.holdIo i
  else f { s with pw.hostAt := s.now }

/-- A host write to BAR2, counted when it takes effect (R529). -/
def bar2Write (i : Instr) (fn : Nat) (f : State → State) : State → State := bar2Row i fn fun s => f (s.tally .hif 7 1 fn)

/-- The management core may revoke the fabric-manager role at any time; no row is its request, and the spec gives no condition, so that it is a
free choice (R57; log entry 57). -/
def State.mayRevoke (s : State) : State :=
  if s.fwRuns && s.rd F.DEV_FM_ROLE_HOLDER != 7 then (s.when (s.freeVal % 2 = 1) fun s => s.setRole 7 6).drawn else s

/-- The fetch of a candidate list may end in a period: its time has a minimum and no maximum (R367, *Road-book timing*; log entry 54), and the
packets that wait for a list go on. -/
def State.listEnds (s : State) : State :=
  let due := s.listFetch.filter fun e => decide (e.2 ≤ s.now)
  if due = [] then s
  else
    match due[s.freeVal % (due.length + 1)]? with
    | none => s.drawn
    | some e => ((s.drawn.holdList e.1).offerIf InFlight.fetching).settle

/-- With nothing else to send, a port that is filling a flit ends it with padding (R423; log entry 8). -/
def State.padFlits (s : State) : State :=
  s.ports.foldl (fun s e => s.when (e.2.fillLen != 0 && e.2.tx.isNone && !s.halted) fun s => s.padFlit e.1) s

/-- With no command waiting, one period of `REFCLK_AON` passes: device time goes on (R577; log entry 20), flits are padded, and the
management core and the fetch of a candidate list may act; without power, nothing happens. -/
def State.idle (s : State) : State := if s.off then s else s.padFlits.mayRevoke.tick.listEnds

end Sys2Proof.Machine
end

