-- ==== Sys2Proof/Machine/MeanCmd.lean ====
section
/-! DEFINITION. Machine/MeanCmd.lean: the meanings of commands (05 and 06: queues, admin commands, doorbells, descriptors). -/

namespace Sys2Proof.Machine

/-- `ADMIN_DOORBELL` (R127). -/
def execAdminDoorbell (master fn tail : Nat) (s : State) : Host.Outcome State Fault Refusal :=
  act (isMaster master && isFn fn) s.up (regRow (.adminDoorbell master fn tail) master (F.CMD_AQ_TAIL_TAIL.addr fn 0) (adminDoorbell master fn tail)) s

/-- `ACQ_ENABLE` (R128). -/
def execAcqEnable (master fn : Nat) (s : State) : Host.Outcome State Fault Refusal :=
  act (isMaster master && isFn fn) s.up (regRow (.acqEnable master fn) master (F.CMD_ACQ_CTL_EN.addr fn 0) (acqEnable master fn)) s

/-- `CREATE_WQ` (R129). -/
def execCreateWq (fn : Nat) (c : AdminCmd) (s : State) : Host.Outcome State Fault Refusal :=
  act (isFn fn) s.runs (fun s => s.adminRow fn 0x01 c fun s => s.doCreateWq fn c) s

/-- `DESTROY_WQ` (R160). -/
def execDestroyWq (fn : Nat) (c : AdminCmd) (s : State) : Host.Outcome State Fault Refusal :=
  act (isFn fn) s.runs (fun s => s.adminRow fn 0x02 c fun s => s.doDrain fn c true) s

/-- `RESET_WQ` (R160). -/
def execResetWq (fn : Nat) (c : AdminCmd) (s : State) : Host.Outcome State Fault Refusal :=
  act (isFn fn) s.runs (fun s => s.adminRow fn 0x03 c fun s => s.doDrain fn c false) s

/-- `WQ_DRAIN_COMPLETE` (R160). -/
def execWqDrainComplete (fn wq : Nat) (s : State) : Host.Outcome State Fault Refusal :=
  act (isFn fn) s.runs (wqDrainComplete fn wq) s

/-- `WQ_INVAL` (R138). -/
def execWqInval (fn : Nat) (c : AdminCmd) (s : State) : Host.Outcome State Fault Refusal :=
  act (isFn fn) s.runs (fun s => s.adminRow fn 0x04 c fun s => s.doWqInval fn c) s

/-- `CREATE_CQ` (R129). -/
def execCreateCq (fn : Nat) (c : AdminCmd) (s : State) : Host.Outcome State Fault Refusal :=
  act (isFn fn) s.runs (fun s => s.adminRow fn 0x05 c fun s => s.doCreateCq fn c) s

/-- `DESTROY_CQ` (R129). -/
def execDestroyCq (fn : Nat) (c : AdminCmd) (s : State) : Host.Outcome State Fault Refusal :=
  act (isFn fn) s.runs (fun s => s.adminRow fn 0x06 c fun s => s.doDestroyCq fn c) s

/-- `MODIFY_CQ` (R129). -/
def execModifyCq (fn : Nat) (c : AdminCmd) (s : State) : Host.Outcome State Fault Refusal :=
  act (isFn fn) s.runs (fun s => s.adminRow fn 0x07 c fun s => s.doModifyCq fn c) s

/-- `CREATE_EQ` (R155). -/
def execCreateEq (fn : Nat) (c : AdminCmd) (s : State) : Host.Outcome State Fault Refusal :=
  act (isFn fn) s.runs (fun s => s.adminRow fn 0x08 c fun s => s.doCreateEq fn c) s

/-- `DESTROY_EQ` (R155). -/
def execDestroyEq (fn : Nat) (c : AdminCmd) (s : State) : Host.Outcome State Fault Refusal :=
  act (isFn fn) s.runs (fun s => s.adminRow fn 0x09 c fun s => s.doDestroyEq fn c) s

/-- `CREATE_AS` (R94). -/
def execCreateAs (fn : Nat) (c : AdminCmd) (s : State) : Host.Outcome State Fault Refusal :=
  act (isFn fn) s.runs (fun s => s.adminRow fn 0x0A c fun s => s.doCreateAs fn c) s

/-- `DESTROY_AS` (R109). -/
def execDestroyAs (fn : Nat) (c : AdminCmd) (s : State) : Host.Outcome State Fault Refusal :=
  act (isFn fn) s.runs (fun s => s.adminRow fn 0x0B c fun s => s.doDestroyAs fn c) s

/-- `CREATE_REGION` (R164). -/
def execCreateRegion (fn : Nat) (c : AdminCmd) (s : State) : Host.Outcome State Fault Refusal :=
  act (isFn fn) s.runs (fun s => s.adminRow fn 0x0C c fun s => s.doCreateRegion fn c) s

/-- `DESTROY_REGION` (R130). -/
def execDestroyRegion (fn : Nat) (c : AdminCmd) (s : State) : Host.Outcome State Fault Refusal :=
  act (isFn fn) s.runs (fun s => s.adminRow fn 0x0D c fun s => s.doDestroyRegion fn c) s

/-- `XLT_INVAL` (R107). -/
def execXltInval (fn : Nat) (c : AdminCmd) (s : State) : Host.Outcome State Fault Refusal :=
  act (isFn fn) s.runs (fun s => s.adminRow fn 0x0E c fun s => s.doXltInval fn c) s

/-- `XLT_INVAL_COMPLETE` (R108). -/
def execXltInvalComplete (fn : Nat) (s : State) : Host.Outcome State Fault Refusal :=
  act (isFn fn) s.runs (xltInvalComplete fn) s

/-- `CREATE_LIST` (R247). -/
def execCreateList (fn : Nat) (c : AdminCmd) (s : State) : Host.Outcome State Fault Refusal :=
  act (isFn fn) s.runs (fun s => s.adminRow fn 0x0F c fun s => s.doCreateList fn c) s

/-- `DESTROY_LIST` (R249). -/
def execDestroyList (fn : Nat) (c : AdminCmd) (s : State) : Host.Outcome State Fault Refusal :=
  act (isFn fn) s.runs (fun s => s.adminRow fn 0x10 c fun s => s.doDestroyList fn c) s

/-- `JOIN_TENANCY` (R479). -/
def execJoinTenancy (fn : Nat) (c : AdminCmd) (s : State) : Host.Outcome State Fault Refusal :=
  act (isFn fn) s.runs (fun s => s.adminRow fn 0x11 c fun s => s.doJoin fn c) s

/-- `LEAVE_TENANCY` (R480). -/
def execLeaveTenancy (fn : Nat) (c : AdminCmd) (s : State) : Host.Outcome State Fault Refusal :=
  act (isFn fn) s.runs (fun s => s.adminRow fn 0x12 c fun s => s.doLeave fn c) s

/-- `CREATE_LQP` (R236). -/
def execCreateLqp (fn : Nat) (c : AdminCmd) (s : State) : Host.Outcome State Fault Refusal :=
  act (isFn fn) s.runs (fun s => s.adminRow fn 0x13 c fun s => s.doCreateLqp fn c) s

/-- `DESTROY_LQP` (R241). -/
def execDestroyLqp (fn : Nat) (c : AdminCmd) (s : State) : Host.Outcome State Fault Refusal :=
  act (isFn fn) s.runs (fun s => s.adminRow fn 0x14 c fun s => s.doDestroyLqp fn c) s

/-- `QUERY` (R129). -/
def execQuery (fn : Nat) (c : AdminCmd) (s : State) : Host.Outcome State Fault Refusal :=
  act (isFn fn) s.runs (fun s => s.adminRow fn 0x15 c fun s => s.doQuery fn c) s

/-- `WQ_DB` (R134). -/
def execWqDb (fn wq value : Nat) (s : State) : Host.Outcome State Fault Refusal :=
  act (isFn fn) s.runs (bar2Write (.wqDb fn wq value) fn (wqDb fn wq value)) s

/-- `WQ_DIRECT` (R135). -/
def execWqDirect (fn wq : Nat) (w : DirectWrite) (s : State) : Host.Outcome State Fault Refusal :=
  act (isFn fn && decide (w.off + w.bytes.length ≤ 256)) s.runs (bar2Write (.wqDirect fn wq w) fn (wqDirect fn wq w.off w.bytes)) s

/-- `CQ_DB` (R149). -/
def execCqDb (fn cq consumer : Nat) (arm : Bool) (s : State) : Host.Outcome State Fault Refusal :=
  act (isFn fn) s.runs (bar2Write (.cqDb fn cq consumer arm) fn (cqDb fn cq consumer arm)) s

/-- `EQ_DB` (R150). -/
def execEqDb (fn eq consumer : Nat) (arm : Bool) (s : State) : Host.Outcome State Fault Refusal :=
  act (isFn fn) s.runs (bar2Write (.eqDb fn eq consumer arm) fn (eqDb fn eq consumer arm)) s

/-- `DESC_FETCH_COMPLETE` (R132). -/
def execDescFetchComplete (fn wq : Nat) (s : State) : Host.Outcome State Fault Refusal :=
  act (isFn fn) s.runs (descFetchComplete fn wq) s

/-- `ADMIT_DESCRIPTOR` (R140). -/
def execAdmitDescriptor (fn wq : Nat) (s : State) : Host.Outcome State Fault Refusal :=
  act (isFn fn) s.runs (admitDescriptor fn wq) s

/-- `CMD_RESUME_RESUME` (R152). -/
def execCmdResumeResume (master fn kind num : Nat) (s : State) : Host.Outcome State Fault Refusal :=
  act (isMaster master && isFn fn && isKind kind) s.up (regRow (.cmdResumeResume master fn kind num) master (F.CMD_RESUME_NUMBER.addr fn 0) (cmdResumeResume master fn kind num)) s

/-- `CMD_RESUME_ABORT` (R152). -/
def execCmdResumeAbort (master fn kind num : Nat) (s : State) : Host.Outcome State Fault Refusal :=
  act (isMaster master && isFn fn && isKind kind) s.up (regRow (.cmdResumeAbort master fn kind num) master (F.CMD_RESUME_NUMBER.addr fn 0) (cmdResumeAbort master fn kind num)) s

/-- `MOD_TIMER_EXPIRE` (R161). -/
def execModTimerExpire (fn kind num : Nat) (s : State) : Host.Outcome State Fault Refusal :=
  act (isFn fn && isKind kind) s.runs (modTimerExpire fn kind num) s

/-- `TRIG_COUNTER_SET` (R158). -/
def execTrigCounterSet (master fn counter value : Nat) (s : State) : Host.Outcome State Fault Refusal :=
  act (isMaster master && isFn fn && decide (counter < 512)) s.up (regRow (.trigCounterSet master fn counter value) master (F.CMD_TRIGk_COUNT.addr fn counter) (trigCounterSet master fn counter value)) s

/-- `TRIG_ADD` (R158). -/
def execTrigAdd (master fn counter addend : Nat) (s : State) : Host.Outcome State Fault Refusal :=
  act (isMaster master && isFn fn && decide (counter < 512)) s.up (regRow (.trigAdd master fn counter addend) master (F.CMD_TRIG_ADD_COUNTER.addr fn 0) (trigAdd master fn counter addend)) s

end Sys2Proof.Machine
end

