-- ==== Sys2Proof/Machine/MeanGroup.lean ====
section
/-! DEFINITION. Machine/MeanGroup.lean: the meanings of commands (09 and 10: convoys, atomics, semaphores and locks). -/

namespace Sys2Proof.Machine

/-- A read of `ATM_SEM_ACQk` (`wait`) or of `ATM_SEM_TRYk`: 0 from a gated or halted block (R41, R335, R509). -/
def semRow (i : Instr) (wait : Bool) (m fn k : Nat) (s : State) : State :=
  let a := if wait then F.ATM_SEM_ACQk_GRANTED.addr fn k else F.ATM_SEM_TRYk_VALUE.addr fn k
  regGate i m a true (fun s => s.replyRead m a 0) (semRead wait m fn k a 8) s


/-- `CONVOY_BEGIN` (R298). -/
def execConvoyBegin (op : Nat) (s : State) : Host.Outcome State Fault Refusal :=
  act true s.runs (convoyBegin op) s

/-- `CONTRIBUTION_READ_DONE` (R299). -/
def execContributionReadDone (read : Nat) (s : State) : Host.Outcome State Fault Refusal :=
  act true s.runs (contributionReadDone read) s

/-- `CONTRIBUTION_RETRY` (R300). -/
def execContributionRetry (op : Nat) (s : State) : Host.Outcome State Fault Refusal :=
  act true s.runs (contributionRetry op) s

/-- `PARTIAL` (R307). -/
def execCvPartial (s : State) : Host.Outcome State Fault Refusal :=
  act true s.runs cvPartial s

/-- `RESULT` (R301). -/
def execCvResult (s : State) : Host.Outcome State Fault Refusal :=
  act true s.runs cvResult s

/-- `DONE` (R306). -/
def execCvDone (s : State) : Host.Outcome State Fault Refusal :=
  act true s.runs cvDone s

/-- `WINDOW` (R305). -/
def execCvWindow (s : State) : Host.Outcome State Fault Refusal :=
  act true s.runs cvWindow s

/-- `FAIL` (R313). -/
def execCvFail (s : State) : Host.Outcome State Fault Refusal :=
  act true s.runs cvFail s

/-- `RESTART` (R316). -/
def execCvRestart (s : State) : Host.Outcome State Fault Refusal :=
  act true s.runs cvRestart s

/-- `ABORT_REQ` (R319). -/
def execCvAbortReq (s : State) : Host.Outcome State Fault Refusal :=
  act true s.runs cvAbortReq s

/-- `ABORT` (R319). -/
def execCvAbort (s : State) : Host.Outcome State Fault Refusal :=
  act true s.runs cvAbort s

/-- `BROKEN` (R318). -/
def execCvBroken (s : State) : Host.Outcome State Fault Refusal :=
  act true s.runs cvBroken s

/-- `FLOOD` (R309). -/
def execCvFlood (s : State) : Host.Outcome State Fault Refusal :=
  act true s.runs cvFlood s

/-- `ROUND_TIMER` (R315). -/
def execRoundTimer (slot round : Nat) (s : State) : Host.Outcome State Fault Refusal :=
  act true s.runs (roundTimer slot round) s

/-- `ROUND_WAIT_TIMEOUT` (R320). -/
def execRoundWaitTimeout (slot round : Nat) (s : State) : Host.Outcome State Fault Refusal :=
  act true s.runs (roundWaitTimeout slot round) s

/-- `WINDOW_SEND_TIMER` (R305). -/
def execWindowSendTimer (slot : Nat) (s : State) : Host.Outcome State Fault Refusal :=
  act true s.runs (windowSendTimer slot) s

/-- `RESULT_WRITE_RETRY` (R302). -/
def execResultWriteRetry (slot round : Nat) (s : State) : Host.Outcome State Fault Refusal :=
  act true s.runs (resultWriteRetry slot round) s

/-- `ATOMIC_READ_COMPLETE` (R331). -/
def execAtomicReadComplete (read : Nat) (s : State) : Host.Outcome State Fault Refusal :=
  act true s.runs (atomicReadComplete read) s

/-- `SEM_ACQUIRE` (R336). -/
def execSemAcquire (master fn sem : Nat) (s : State) : Host.Outcome State Fault Refusal :=
  actLight (isMaster master && isFn fn && isSem sem) s.up (semRow (.semAcquire master fn sem) true master fn sem) s

/-- `SEM_TRY` (R336). -/
def execSemTry (master fn sem : Nat) (s : State) : Host.Outcome State Fault Refusal :=
  actLight (isMaster master && isFn fn && isSem sem) s.up (semRow (.semTry master fn sem) false master fn sem) s

/-- `SEM_ACQUIRE_TIMEOUT` (R337). -/
def execSemAcquireTimeout (master sem : Nat) (s : State) : Host.Outcome State Fault Refusal :=
  actLight (isMaster master && isSem sem) s.runs (semAcquireTimeout master sem) s

/-- `SEM_KEEP_EXPIRE` (R338). -/
def execSemKeepExpire (master sem : Nat) (s : State) : Host.Outcome State Fault Refusal :=
  actLight (isMaster master && isSem sem) s.runs (semKeepExpire master sem) s

/-- `SEM_RELEASE` (R339). -/
def execSemRelease (master fn sem : Nat) (s : State) : Host.Outcome State Fault Refusal :=
  actLight (isMaster master && isFn fn && isSem sem) s.up (regRow (.semRelease master fn sem) master (F.ATM_SEM_RELk_REL.addr fn sem) (semRelease master fn sem)) s

/-- `SEM_FORCE` (R340). -/
def execSemForce (master sem : Nat) (s : State) : Host.Outcome State Fault Refusal :=
  actLight (isMaster master && isSem sem) s.up (regRow (.semForce master sem) master (F.ATM_SEM_FORCE_GO.addr 0 0) (semForce master sem)) s

/-- `LOCK_GRANT_RECEIVE` (R347). -/
def execLockGrantReceive (s : State) : Host.Outcome State Fault Refusal :=
  act true s.runs lockGrantReceive s

/-- `LOCK_WAIT_TIMEOUT` (R347). -/
def execLockWaitTimeout (op : Nat) (s : State) : Host.Outcome State Fault Refusal :=
  act true s.runs (lockWaitTimeout op) s

/-- `LOCK_LEASE_EXPIRE` (R350). -/
def execLockLeaseExpire (off : Nat) (s : State) : Host.Outcome State Fault Refusal :=
  act true s.runs (lockLeaseExpire off) s

/-- `LOCK_FORCE` (R350). -/
def execLockForce (master off : Nat) (s : State) : Host.Outcome State Fault Refusal :=
  act (isMaster master) s.up (regRow (.lockForce master off) master (F.ATM_LOCK_FORCE_GO.addr 0 0) (lockForce master off)) s

end Sys2Proof.Machine
end

