-- ==== Sys2Proof/Machine/MeanHost.lean ====
section
/-! DEFINITION. Machine/MeanHost.lean: the meanings of commands (03 and 04: host ports and translation). -/

namespace Sys2Proof.Machine

/-- A level at a pin of a host port: in reset, with power off and while halted, it is only noted. -/
def pinRow (fn : Nat) (h : HostFn → HostFn) (f : State → State) (s : State) : State := if s.runs then f s else s.modHf fn h

/-- A host access to BAR4, which reaches a function that answers memory accesses. -/
def barRow (fn : Nat) (f : State → State) (s : State) : State := if s.busOpen fn then f s else s


/-- `HIF_LINK_UP` (R87). -/
def execHifLinkUp (fn rate width : Nat) (flit : Bool) (s : State) : Host.Outcome State Fault Refusal :=
  act (isFn fn) s.up (hifLinkUp fn rate width flit) s

/-- `HIF_LINK_DOWN` (R88). -/
def execHifLinkDown (fn : Nat) (s : State) : Host.Outcome State Fault Refusal :=
  act (isFn fn) s.up (hifLinkDown fn) s

/-- `PRESENCE_COUNTED` (R86). -/
def execPresenceCounted (fn : Nat) (s : State) : Host.Outcome State Fault Refusal :=
  act (isFn fn) true (pinRow fn (fun h => { h with present := true }) (presenceCounted fn)) s

/-- `ABSENCE_COUNTED` (R86). -/
def execAbsenceCounted (fn : Nat) (s : State) : Host.Outcome State Fault Refusal :=
  act (isFn fn) true (pinRow fn (fun h => { h with present := false }) (absenceCounted fn)) s

/-- `ATTN_BUTTON` (R87). -/
def execAttnButton (fn : Nat) (s : State) : Host.Outcome State Fault Refusal :=
  act (isFn fn) s.runs (attnButton fn) s

/-- `POWER_FAULT` (R87). -/
def execPowerFault (fn : Nat) (s : State) : Host.Outcome State Fault Refusal :=
  act (isFn fn) true (pinRow fn (fun h => { h with pwrFlt := true }) (powerFault fn)) s

/-- `POWER_FAULT_CLEARED` (R87). -/
def execPowerFaultCleared (fn : Nat) (s : State) : Host.Outcome State Fault Refusal :=
  act (isFn fn) true (pinRow fn (fun h => { h with pwrFlt := false }) (powerFaultCleared fn)) s

/-- `POWER_ON` (R87). -/
def execPowerOn (master fn : Nat) (s : State) : Host.Outcome State Fault Refusal :=
  act (isMaster master && isFn fn) s.up (regRow (.powerOn master fn) master (F.HIF_SLOT_CTL_POWER_ON.addr fn 0) (powerOn master fn)) s

/-- `REMOVE_REQ` (R87). -/
def execRemoveReq (master fn : Nat) (s : State) : Host.Outcome State Fault Refusal :=
  act (isMaster master && isFn fn) s.up (regRow (.removeReq master fn) master (F.HIF_SLOT_CTL_REMOVE_REQ.addr fn 0) (removeReq master fn)) s

/-- `FORCE_OFF` (R87). -/
def execForceOff (master fn : Nat) (s : State) : Host.Outcome State Fault Refusal :=
  act (isMaster master && isFn fn) s.up (regRow (.forceOff master fn) master (F.HIF_SLOT_CTL_FORCE_OFF.addr fn 0) (forceOff master fn)) s

/-- `CANCEL` (R87). -/
def execCancel (master fn : Nat) (s : State) : Host.Outcome State Fault Refusal :=
  act (isMaster master && isFn fn) s.up (regRow (.cancel master fn) master (F.HIF_SLOT_CTL_CANCEL.addr fn 0) (cancel master fn)) s

/-- `QUIESCED` (R91). -/
def execQuiesced (master fn : Nat) (s : State) : Host.Outcome State Fault Refusal :=
  act (isMaster master && isFn fn) s.up (regRow (.quiesced master fn) master (F.HIF_FN_CTL_QUIESCED.addr fn 0) (quiesced master fn)) s

/-- `QUIESCE_TIMEOUT` (R87). -/
def execQuiesceTimeout (fn : Nat) (s : State) : Host.Outcome State Fault Refusal :=
  act (isFn fn) s.runs (quiesceTimeout fn) s

/-- `PERST_ASSERT` (R89). -/
def execPerstAssert (fn : Nat) (low : Bool) (s : State) : Host.Outcome State Fault Refusal :=
  act (isFn fn) true (pinRow fn (fun h => { h with perst := low }) (perstAssert fn low)) s

/-- `FLR` (R89). -/
def execFlr (fn : Nat) (s : State) : Host.Outcome State Fault Refusal :=
  act (isFn fn) s.up (flr fn) s

/-- `RESET_H_COMPLETE` (R89). -/
def execResetHComplete (fn : Nat) (s : State) : Host.Outcome State Fault Refusal :=
  act (isFn fn) s.up (resetHComplete fn) s

/-- `ENDPOINT_HOLD_END` (R90). -/
def execEndpointHoldEnd (fn : Nat) (s : State) : Host.Outcome State Fault Refusal :=
  act (isFn fn) s.up (endpointHoldEnd fn) s

/-- `FN_DSTATE_CHANGE` (R79). -/
def execFnDstateChange (fn : Nat) (d3 : Bool) (s : State) : Host.Outcome State Fault Refusal :=
  act (isFn fn) s.up (fnDstateChange fn d3) s

/-- `BME_CHANGE` (R69, R79): sizes that R62 does not list are no operands of it. The other configuration accesses come with it (R63, R77). -/
def execBmeChange (fn : Nat) (on : Bool) (sizes : ReqSizes) (cfg : List CfgOp) (s : State) : Host.Outcome State Fault Refusal :=
  act (isFn fn) s.up (fun s => bmeChange fn on sizes.mps sizes.mrrs (cfgAccess fn cfg s)) s

/-- `IDE_REQUIRE` (R84). -/
def execIdeRequire (master fn : Nat) (s : State) : Host.Outcome State Fault Refusal :=
  act (isMaster master && isFn fn) s.up (regRow (.ideRequire master fn) master (F.HIF_IDE_CTL_REQUIRE.addr fn 0) (ideRequire master fn)) s

/-- `MSIX_UNMASK` (R75). -/
def execMsixUnmask (fn vector addr data : Nat) (enable fmask mask : Bool) (s : State) : Host.Outcome State Fault Refusal :=
  actLight (isFn fn && decide (vector < 2048)) s.up (msixUnmask fn vector addr data enable fmask mask) s

/-- `BAR4_ACCESS` (R66). -/
def execBar4Access (fn off size : Nat) (write : Bool) (value : Nat) (s : State) : Host.Outcome State Fault Refusal :=
  act (isFn fn) s.runs (barRow fn (bar4Access fn off size write value)) s

/-- `BAR2_RESERVED_ACCESS` (R65). -/
def execBar2ReservedAccess (fn off : Nat) (write : Bool) (s : State) : Host.Outcome State Fault Refusal :=
  actLight (isFn fn && bar2Plain off write) s.runs (bar2Row (.bar2ReservedAccess fn off write) fn (bar2ReservedAccess fn off write)) s

/-- `HOST_READ_COMPLETION` (R70). -/
def execHostReadCompletion (id off : Nat) (status : CplStatus) (bytes : List Byte) (s : State) : Host.Outcome State Fault Refusal :=
  act true s.runs (hostReadCompletion id off status bytes) s

/-- `HOST_COMPLETION_TIMEOUT` (R71). -/
def execHostCompletionTimeout (id : Nat) (s : State) : Host.Outcome State Fault Refusal :=
  act true s.runs (hostCompletionTimeout id) s

/-- `DOE_REQUEST` (R85). -/
def execDoeRequest (fn len : Nat) (obj : DoeObject) (s : State) : Host.Outcome State Fault Refusal :=
  act (isFn fn) s.up (doeRequest fn len obj) s

/-- `WALK_STEP` (R100). -/
def execWalkStep (walk : Nat) (s : State) : Host.Outcome State Fault Refusal :=
  act true s.runs (walkStep walk) s

/-- `XLT_RESUME` (R115). -/
def execXltResume (master fn wq : Nat) (s : State) : Host.Outcome State Fault Refusal :=
  act (isMaster master && isFn fn) s.up (regRow (.xltResume master fn wq) master (F.XLT_FN_RESUME_WQ.addr fn 0) (xltResume master fn wq)) s

/-- `XLT_ABORT` (R115). -/
def execXltAbort (master fn wq : Nat) (s : State) : Host.Outcome State Fault Refusal :=
  act (isMaster master && isFn fn) s.up (regRow (.xltAbort master fn wq) master (F.XLT_FN_RESUME_WQ.addr fn 0) (xltAbort master fn wq)) s

/-- `ARBITRATE` (R396). -/
def execArbitrate (page inst : Nat) (requests : Nat) (s : State) : Host.Outcome State Fault Refusal :=
  actLight (isArb page inst) s.runs (arbitrate page inst requests) s

/-- `ARB_WATCHDOG` (R399). -/
def execArbWatchdog (page inst : Nat) (s : State) : Host.Outcome State Fault Refusal :=
  actLight (isArb page inst) s.runs (arbWatchdog page inst) s

/-- `ARB_FENCED_CLEAR` (R400). -/
def execArbFencedClear (master page mask : Nat) (s : State) : Host.Outcome State Fault Refusal :=
  actLight (isMaster master && isArb page 0) s.up (regRow (.arbFencedClear master page mask) master (F.ARB_FENCED_FENCED.addr page 0) (arbClear master page mask)) s

end Sys2Proof.Machine
end

