-- ==== Sys2Proof/Machine/MeanLink.lean ====
section
/-! DEFINITION. Machine/MeanLink.lean: the meanings of commands (13 and 14: ports and lanes). -/

namespace Sys2Proof.Machine

/-- `FLIT_RECEIVE` (R429). -/
def execFlitReceive (port : Nat) (f : Arrival) (s : State) : Host.Outcome State Fault Refusal :=
  actLight (isPort port) s.runs (flitReceive port f) s

/-- `REPLAY_TIMER` (R430). -/
def execReplayTimer (port : Nat) (s : State) : Host.Outcome State Fault Refusal :=
  actLight (isPort port) s.runs (replayTimer port) s

/-- `CREDIT_UPDATE_TIMER` (R435). -/
def execCreditUpdateTimer (port pool : Nat) (s : State) : Host.Outcome State Fault Refusal :=
  actLight (isPort port && decide (pool ≤ 8)) s.runs (creditUpdateTimer port pool) s

/-- `CREDIT_REFRESH_TIMER` (R435). -/
def execCreditRefreshTimer (port : Nat) (s : State) : Host.Outcome State Fault Refusal :=
  actLight (isPort port) s.runs (creditRefreshTimer port) s

/-- `AUDIT_TIMER` (R437). -/
def execAuditTimer (port : Nat) (s : State) : Host.Outcome State Fault Refusal :=
  actLight (isPort port) s.runs (auditTimer port) s

/-- `LINK_RETRAIN` (R440). -/
def execLinkRetrain (master port : Nat) (s : State) : Host.Outcome State Fault Refusal :=
  actLight (isMaster master && isPort port) s.up (regRow (.linkRetrain master port) master (F.LNK_CTL_RETRAIN.addr port 0) (linkRetrain master port)) s

/-- `LINK_ENABLE` (R440). -/
def execLinkEnable (master port : Nat) (on : Bool) (s : State) : Host.Outcome State Fault Refusal :=
  actLight (isMaster master && isPort port) s.up (regRow (.linkEnable master port on) master (F.LNK_CTL_EN.addr port 0) (linkEnable master port on)) s

/-- `LANES_READY` (R441). -/
def execLanesReady (port : Nat) (s : State) : Host.Outcome State Fault Refusal :=
  actLight (isPort port) s.runs (lanesReady port) s

/-- `ALIGN_TIMEOUT` (R440). -/
def execAlignTimeout (port : Nat) (s : State) : Host.Outcome State Fault Refusal :=
  actLight (isPort port) s.runs (alignTimeout port) s

/-- `DRAIN_TIMEOUT` (R440). -/
def execDrainTimeout (port : Nat) (s : State) : Host.Outcome State Fault Refusal :=
  actLight (isPort port) s.runs (drainTimeout port) s

/-- `TIME_EXCHANGE_TIMER` (R444). -/
def execTimeExchangeTimer (port : Nat) (s : State) : Host.Outcome State Fault Refusal :=
  actLight (isPort port) s.runs (timeExchangeTimer port) s

/-- `SIGNAL_DETECT` (R454). -/
def execSignalDetect (group lane : Nat) (s : State) : Host.Outcome State Fault Refusal :=
  actLight (isLane group lane) s.runs (signalDetect group lane) s

/-- `ADAPT_CONVERGED` (R454). -/
def execAdaptConverged (group lane : Nat) (inverted : Bool) (s : State) : Host.Outcome State Fault Refusal :=
  actLight (isLane group lane) s.runs (adaptConverged group lane inverted) s

/-- `MARKER_LOCK` (R457). -/
def execMarkerLock (group lane : Nat) (first second : List Byte) (spacing skewPs : Nat) (s : State) : Host.Outcome State Fault Refusal :=
  actLight (isLane group lane) s.runs (markerLock group lane first second spacing skewPs) s

/-- `SIGNAL_LOST` (R454). -/
def execSignalLost (group lane : Nat) (s : State) : Host.Outcome State Fault Refusal :=
  actLight (isLane group lane) s.runs (signalLost group lane) s

/-- `LOCK_TIMEOUT` (R455). -/
def execLockTimeout (port : Nat) (s : State) : Host.Outcome State Fault Refusal :=
  actLight (isPort port) s.runs (lockTimeout port) s

/-- `LANE_LOSS` (R458). -/
def execLaneLoss (group lane : Nat) (s : State) : Host.Outcome State Fault Refusal :=
  actLight (isLane group lane) s.runs (laneLoss group lane) s

/-- `TRAINING_FRAMES_RX` (R456). -/
def execTrainingFramesRx (port : Nat) (s : State) : Host.Outcome State Fault Refusal :=
  actLight (isPort port) s.runs (trainingFramesRx port) s

/-- `PLL_UNLOCK` (R465). -/
def execPllUnlock (group : Nat) (s : State) : Host.Outcome State Fault Refusal :=
  actLight (decide (group < 32)) s.runs (pllUnlock group) s

/-- `SER_LIMIT` (R465). -/
def execSerLimit (group lane count : Nat) (s : State) : Host.Outcome State Fault Refusal :=
  actLight (isLane group lane) s.runs (serLimit group lane count) s

/-- `LANE_FENCE_WRITE` (R463). -/
def execLaneFenceWrite (master group lane : Nat) (fence : Bool) (s : State) : Host.Outcome State Fault Refusal :=
  actLight (isMaster master && isLane group lane) s.up (regRow (.laneFenceWrite master group lane fence) master (F.LAN_LANE_CTLl_FENCE.addr group lane) (laneFenceWrite master group lane fence)) s

/-- `LAN_TEST_WRITE` (R459). -/
def execLanTestWrite (master group lane value : Nat) (s : State) : Host.Outcome State Fault Refusal :=
  actLight (isMaster master && isLane group lane) s.up (regRow (.lanTestWrite master group lane value) master (F.LAN_TESTl_GEN.addr group lane) (lanTestWrite master group lane value)) s

/-- `INJECT_GO` (R461). -/
def execInjectGo (master group lane : Nat) (s : State) : Host.Outcome State Fault Refusal :=
  actLight (isMaster master && isLane group lane) s.up (regRow (.injectGo master group lane) master (F.LAN_INJECTl_GO.addr group lane) (laneInject master group lane)) s

/-- `MARGIN_START` (R462). -/
def execMarginStart (master group lane : Nat) (s : State) : Host.Outcome State Fault Refusal :=
  actLight (isMaster master && isLane group lane) s.up (regRow (.marginStart master group lane) master (F.LAN_MARGINl_START.addr group lane) (laneMargin master group lane)) s

/-- `MARGIN_SCAN_DONE` (R462). -/
def execMarginScanDone (group lane errors : Nat) (s : State) : Host.Outcome State Fault Refusal :=
  actLight (isLane group lane) s.runs (marginScanDone group lane errors) s

/-- `EYE_REFRESH` (R462). -/
def execEyeRefresh (group lane upper mid lower width snr : Nat) (s : State) : Host.Outcome State Fault Refusal :=
  actLight (isLane group lane) s.runs (eyeRefresh group lane upper mid lower width snr) s

/-- `LANE_PLL_LOCK` (R465). -/
def execLanePllLock (group : Nat) (s : State) : Host.Outcome State Fault Refusal :=
  actLight (decide (group < 32)) s.runs (lanePllLock group) s

/-- `NO_SIGNAL_TIMEOUT` (R455). -/
def execNoSignalTimeout (group lane : Nat) (s : State) : Host.Outcome State Fault Refusal :=
  actLight (isLane group lane) s.runs (noSignalTimeout group lane) s

/-- `PRBS_CHECKER_SYNC` (R460). -/
def execPrbsCheckerSync (group lane clean : Nat) (errs : List Nat) (more : Nat) (s : State) : Host.Outcome State Fault Refusal :=
  actLight (isLane group lane) s.runs (prbsCheckerSync group lane clean errs more) s

end Sys2Proof.Machine
end

