-- ==== Sys2Proof/Machine/MeanMgmt.lean ====
section
/-! DEFINITION. Machine/MeanMgmt.lean: the meanings of commands (18: the management core). -/

namespace Sys2Proof.Machine

/-- `TRIAL_CONFIRM` (R544). -/
def execTrialConfirm (s : State) : Host.Outcome State Fault Refusal :=
  actLight true s.up trialConfirm s

/-- `MGMT_QUERY` (R546). -/
def execMgmtQuery (path : ReqPath) (tag : Nat) (s : State) : Host.Outcome State Fault Refusal :=
  actLight true s.up (inTurn (.mgmtQuery path tag) path (mgmtQuery path tag)) s

/-- `ROLE_REQUEST` (R547). -/
def execRoleRequest (path : ReqPath) (tag fn : Nat) (takeover : Bool) (gen serial : Nat) (sig : List Byte) (s : State) :
    Host.Outcome State Fault Refusal :=
  actLight true s.up (inTurn (.roleRequest path tag fn takeover gen serial sig) path (roleRequest path tag fn takeover gen serial sig)) s

/-- `FM_KEY_ENROLL` (R468). -/
def execFmKeyEnroll (path : ReqPath) (tag : Nat) (key sig : List Byte) (s : State) : Host.Outcome State Fault Refusal :=
  actLight true s.up (inTurn (.fmKeyEnroll path tag key sig) path (fmKeyEnroll path tag key sig)) s

/-- `STAGE_BEGIN` (R549). -/
def execStageBegin (path : ReqPath) (tag bank : Nat) (hdr : List Byte) (s : State) : Host.Outcome State Fault Refusal :=
  actLight true s.up (inTurn (.stageBegin path tag bank hdr) path (stageBegin path tag bank hdr)) s

/-- `STAGE_DATA` (R549). -/
def execStageData (path : ReqPath) (tag off : Nat) (bytes : List Byte) (s : State) : Host.Outcome State Fault Refusal :=
  actLight true s.up (inTurn (.stageData path tag off bytes) path (stageData path tag off bytes)) s

/-- `STAGE_END` (R549). -/
def execStageEnd (path : ReqPath) (tag : Nat) (s : State) : Host.Outcome State Fault Refusal :=
  actLight true s.up (inTurn (.stageEnd path tag) path (stageEnd path tag)) s

/-- `STAGE_ABORT` (R549). -/
def execStageAbort (path : ReqPath) (tag : Nat) (s : State) : Host.Outcome State Fault Refusal :=
  actLight true s.up (inTurn (.stageAbort path tag) path (stageAbort path tag)) s

/-- `ACTIVATE` (R551). -/
def execActivate (path : ReqPath) (tag bank time : Nat) (s : State) : Host.Outcome State Fault Refusal :=
  actLight true s.up (inTurn (.activate path tag bank time) path (activate path tag bank time)) s

/-- `ACTIVATE_CANCEL` (R552). -/
def execActivateCancel (path : ReqPath) (tag : Nat) (s : State) : Host.Outcome State Fault Refusal :=
  actLight true s.up (inTurn (.activateCancel path tag) path (activateCancel path tag)) s

/-- `ACTIVATION_TIME` (R551). -/
def execActivationTime (s : State) : Host.Outcome State Fault Refusal :=
  actLight true s.up activationTime s

/-- `SVN_ADVANCE` (R546). -/
def execSvnAdvance (path : ReqPath) (tag : Nat) (s : State) : Host.Outcome State Fault Refusal :=
  actLight true s.up (inTurn (.svnAdvance path tag) path (svnAdvance path tag)) s

/-- `SETTINGS_READ` (R553). -/
def execSettingsRead (path : ReqPath) (tag type : Nat) (s : State) : Host.Outcome State Fault Refusal :=
  actLight true s.up (inTurn (.settingsRead path tag type) path (settingsRead path tag type)) s

/-- `SETTINGS_WRITE` (R556). -/
def execSettingsWrite (path : ReqPath) (tag type version : Nat) (body : List Byte) (s : State) : Host.Outcome State Fault Refusal :=
  actLight true s.up (inTurn (.settingsWrite path tag type version body) path (settingsWrite path tag type version body)) s

/-- `SETTINGS_ERASE` (R546). -/
def execSettingsErase (path : ReqPath) (tag type : Nat) (s : State) : Host.Outcome State Fault Refusal :=
  actLight true s.up (inTurn (.settingsErase path tag type) path (settingsErase path tag type)) s

/-- `MGMT_REG_READ` (R546). -/
def execMgmtRegRead (path : ReqPath) (tag off : Nat) (s : State) : Host.Outcome State Fault Refusal :=
  actLight true s.up (inTurn (.mgmtRegRead path tag off) path (mgmtRegRead path tag off)) s

/-- `MGMT_REG_WRITE` (R546). -/
def execMgmtRegWrite (path : ReqPath) (tag off value : Nat) (s : State) : Host.Outcome State Fault Refusal :=
  actLight true s.up (inTurn (.mgmtRegWrite path tag off value) path (mgmtRegWrite path tag off value)) s

/-- `EVENT_READ` (R559). -/
def execEventRead (path : ReqPath) (tag index : Nat) (s : State) : Host.Outcome State Fault Refusal :=
  actLight true s.up (inTurn (.eventRead path tag index) path (eventRead path tag index)) s

/-- `EVENT` (R559). -/
def execMgmtEvent (srcDid cls code : Nat) (body : List Byte) (s : State) : Host.Outcome State Fault Refusal :=
  actLight true s.up (mgmtEvent srcDid cls code body) s

/-- `FABRIC_EVENT_SEND` (R559). -/
def execFabricEventSend (delivered : Bool) (s : State) : Host.Outcome State Fault Refusal :=
  actLight true s.up (fabricEventSend delivered) s

/-- `RECOVER_BEGIN` (R558). -/
def execRecoverBegin (path : ReqPath) (tag bank len : Nat) (s : State) : Host.Outcome State Fault Refusal :=
  actLight true s.up (inTurn (.recoverBegin path tag bank len) path (recoverBegin path tag bank len)) s

/-- `RECOVER_DATA` (R558). -/
def execRecoverData (path : ReqPath) (tag off : Nat) (bytes : List Byte) (s : State) : Host.Outcome State Fault Refusal :=
  actLight true s.up (inTurn (.recoverData path tag off bytes) path (recoverData path tag off bytes)) s

/-- `RECOVER_BOOT` (R558). -/
def execRecoverBoot (path : ReqPath) (tag bank : Nat) (s : State) : Host.Outcome State Fault Refusal :=
  actLight true s.up (inTurn (.recoverBoot path tag bank) path (recoverBoot path tag bank)) s

/-- `RECOVER_ERASE_SETTINGS` (R558). -/
def execRecoverEraseSettings (path : ReqPath) (tag : Nat) (s : State) : Host.Outcome State Fault Refusal :=
  actLight true s.up (inTurn (.recoverEraseSettings path tag) path (recoverEraseSettings path tag)) s

/-- `RECOVER_REMOVE_FM_KEY` (R558). -/
def execRecoverRemoveFmKey (path : ReqPath) (tag : Nat) (s : State) : Host.Outcome State Fault Refusal :=
  actLight true s.up (inTurn (.recoverRemoveFmKey path tag) path (recoverRemoveFmKey path tag)) s

/-- A request that waited, served now. -/
def serveOne (i : Instr) (s : State) : State :=
  let r : Host.Outcome State Fault Refusal := match i with
    | .mgmtQuery path tag => execMgmtQuery path tag s
    | .roleRequest path tag fn takeover gen serial sig => execRoleRequest path tag fn takeover gen serial sig s
    | .fmKeyEnroll path tag key sig => execFmKeyEnroll path tag key sig s
    | .stageBegin path tag bank hdr => execStageBegin path tag bank hdr s
    | .stageData path tag off bytes => execStageData path tag off bytes s
    | .stageEnd path tag => execStageEnd path tag s
    | .stageAbort path tag => execStageAbort path tag s
    | .activate path tag bank time => execActivate path tag bank time s
    | .activateCancel path tag => execActivateCancel path tag s
    | .svnAdvance path tag => execSvnAdvance path tag s
    | .settingsRead path tag type => execSettingsRead path tag type s
    | .settingsWrite path tag type version body => execSettingsWrite path tag type version body s
    | .settingsErase path tag type => execSettingsErase path tag type s
    | .mgmtRegRead path tag off => execMgmtRegRead path tag off s
    | .mgmtRegWrite path tag off value => execMgmtRegWrite path tag off value s
    | .eventRead path tag index => execEventRead path tag index s
    | .recoverBegin path tag bank len => execRecoverBegin path tag bank len s
    | .recoverData path tag off bytes => execRecoverData path tag off bytes s
    | .recoverBoot path tag bank => execRecoverBoot path tag bank s
    | .recoverEraseSettings path tag => execRecoverEraseSettings path tag s
    | .recoverRemoveFmKey path tag => execRecoverRemoveFmKey path tag s
    | _ => .next s
  match r with
  | .next t => t
  | .fault _ => s
  | .refused _ => s

/-- The requests that waited, served in their order; one whose path is busy again waits on (R545). -/
def State.serveQueue (s : State) : State := s.mg.queue.foldl (fun s i => serveOne i s) { s with mg.queue := [] }

/-- `FLASH_OPERATION_DONE` (R549). -/
def execFlashOperationDone (ok : Bool) (s : State) : Host.Outcome State Fault Refusal :=
  actLight true s.up (fun s => (flashOperationDone ok s).serveQueue) s

end Sys2Proof.Machine
end

