-- ==== Sys2Proof/Machine/MeanPath.lean ====
section
/-! DEFINITION. Machine/MeanPath.lean: the meanings of commands (07 and 08: pathways and message matching). -/

namespace Sys2Proof.Machine

/-- A give-up deadline: that of a packet, or, where an operation is named, that of its `GET` or pull (R182, R216, R271). -/
def giveupRow (k : PwKey) (seq : Nat) (op : Option Nat) (s : State) : State :=
  match op with
  | none => giveupDeadline k seq s
  | some id =>
    match Tbl.get s.ops id with
    | none => s
    | some o =>
      match o.deadline with
      | none => s
      | some t =>
        let get := o.d.verb == vbGet && !o.recv
        let pull := o.recv && o.pull
        if o.ended.isSome || !(get || pull) then s
        else
          let owner : Owner := if get then .op id else .pull id
          let waits := s.inflight.any fun e => e.2.waiting && e.2.owner == owner
          let r := giveUpStatus none waits
          (s.reach t).failOwner owner r.1 r.2


/-- `SCHEDULE_SEGMENT` (R404). -/
def execScheduleSegment (pipe : Nat) (s : State) : Host.Outcome State Fault Refusal :=
  act (decide (pipe < 4)) s.runs (scheduleSegment pipe) s

/-- `PAYLOAD_READ_COMPLETE` (R114). -/
def execPayloadReadComplete (read : Nat) (s : State) : Host.Outcome State Fault Refusal :=
  act true s.runs (payloadReadComplete read) s

/-- `PACKET_VERIFY` (R486). -/
def execPacketVerify (junction : Nat) (s : State) : Host.Outcome State Fault Refusal :=
  act (isJunction junction) s.runs (packetVerify junction) s

/-- `PACKET_RECEIVE` (R208). -/
def execPacketReceive (s : State) : Host.Outcome State Fault Refusal :=
  act true s.runs packetReceive s

/-- `FLUSH_READ_COMPLETE` (R185). -/
def execFlushReadComplete (fn : Nat) (s : State) : Host.Outcome State Fault Refusal :=
  act (isFn fn) s.runs (flushReadComplete fn) s

/-- `CONTINUATION_TIMER` (R180). -/
def execContinuationTimer (op : Nat) (s : State) : Host.Outcome State Fault Refusal :=
  act true s.runs (continuationTimer op) s

/-- `ACK_DELAY_TIMER` (R210). -/
def execAckDelayTimer (loc rem tc lqp : Nat) (s : State) : Host.Outcome State Fault Refusal :=
  act true s.runs (ackDelayTimer { loc := loc, rem := rem, tc := tc, lqp := lqp }) s

/-- `ACK_RECEIVE` (R212). -/
def execAckReceive (s : State) : Host.Outcome State Fault Refusal :=
  act true s.runs ackReceive s

/-- `NOTICE_RECEIVE` (R219). -/
def execNoticeReceive (s : State) : Host.Outcome State Fault Refusal :=
  act true s.runs noticeReceive s

/-- `RETRANSMIT_TIMER` (R214). -/
def execRetransmitTimer (loc rem tc lqp seq : Nat) (s : State) : Host.Outcome State Fault Refusal :=
  act true s.runs (retransmitTimer { loc := loc, rem := rem, tc := tc, lqp := lqp } seq) s

/-- `GIVEUP_DEADLINE` (R216). -/
def execGiveupDeadline (loc rem tc lqp seq : Nat) (op : Option Nat) (s : State) : Host.Outcome State Fault Refusal :=
  act true s.runs (giveupRow { loc := loc, rem := rem, tc := tc, lqp := lqp } seq op) s

/-- `SEQ_PERIOD_ROLL` (R204). -/
def execSeqPeriodRoll (loc rem tc lqp : Nat) (s : State) : Host.Outcome State Fault Refusal :=
  act true s.runs (seqPeriodRoll { loc := loc, rem := rem, tc := tc, lqp := lqp }) s

/-- `IDLE_SPILL` (R201). -/
def execIdleSpill (loc rem tc : Nat) (s : State) : Host.Outcome State Fault Refusal :=
  act true s.runs (idleSpill { loc := loc, rem := rem, tc := tc, lqp := 0 }) s

/-- `RECALL_COMPLETE` (R225). -/
def execRecallComplete (loc rem tc : Nat) (s : State) : Host.Outcome State Fault Refusal :=
  act true s.runs (recallComplete { loc := loc, rem := rem, tc := tc, lqp := 0 }) s

/-- `FORGET_RECEIVE_STATE` (R220). -/
def execForgetReceiveState (loc rem tc : Nat) (s : State) : Host.Outcome State Fault Refusal :=
  act true s.runs (forgetReceiveState { loc := loc, rem := rem, tc := tc, lqp := 0 }) s

/-- `FORGET_SEND_STATE` (R221). -/
def execForgetSendState (loc rem tc : Nat) (s : State) : Host.Outcome State Fault Refusal :=
  act true s.runs (forgetSendState { loc := loc, rem := rem, tc := tc, lqp := 0 }) s

/-- `PWY_CONTEXT_UNCORRECTED` (R246). -/
def execPwyContextUncorrected (loc rem tc : Nat) (s : State) : Host.Outcome State Fault Refusal :=
  act true s.runs (pwyContextUncorrected { loc := loc, rem := rem, tc := tc, lqp := 0 }) s

/-- `PWY_KEY_UNCORRECTED` (R246). -/
def execPwyKeyUncorrected (s : State) : Host.Outcome State Fault Refusal :=
  act true s.runs pwyKeyUncorrected s

/-- `CONTEXT_LOST_EXPIRE` (R246). -/
def execContextLostExpire (loc rem tc : Nat) (s : State) : Host.Outcome State Fault Refusal :=
  act true s.runs (contextLostExpire { loc := loc, rem := rem, tc := tc, lqp := 0 }) s

/-- `LQP_CONTEXT_FETCH_DONE` (R242). -/
def execLqpContextFetchDone (lqp : Nat) (s : State) : Host.Outcome State Fault Refusal :=
  act true s.runs (lqpContextFetchDone lqp) s

/-- `RECV` (R258). -/
def execRecv (fn wq : Nat) (s : State) : Host.Outcome State Fault Refusal :=
  act (isFn fn) s.runs (recvPost fn wq) s

/-- `PROBE` (R275). -/
def execProbe (fn wq : Nat) (s : State) : Host.Outcome State Fault Refusal :=
  act (isFn fn) s.runs (probePost fn wq) s

/-- `MATCH_COPY_RETRY` (R284). -/
def execMatchCopyRetry (copy : Nat) (s : State) : Host.Outcome State Fault Refusal :=
  act true s.runs (matchCopyRetry copy) s

/-- `RDV_WAIT_EXPIRE` (R267). -/
def execRdvWaitExpire (op : Nat) (s : State) : Host.Outcome State Fault Refusal :=
  act true s.runs (rdvWaitExpire op) s

/-- `MSG_ABANDON` (R285). -/
def execMsgAbandon (loc rem tc lqp tag : Nat) (s : State) : Host.Outcome State Fault Refusal :=
  act true s.runs (msgAbandon { loc := loc, rem := rem, tc := tc, lqp := lqp } tag) s

/-- `LIST_READY` (R248). -/
def execListReady (fn list : Nat) (s : State) : Host.Outcome State Fault Refusal :=
  act (isFn fn) s.runs (listReady fn list) s

/-- `OVF_TAIL_WRITE` (R277). -/
def execOvfTailWrite (master fn tail : Nat) (s : State) : Host.Outcome State Fault Refusal :=
  act (isMaster master && isFn fn) s.up (regRow (.ovfTailWrite master fn tail) master (F.MTC_OVF_TAIL_TAIL.addr fn 0) (ovfTailWrite master fn tail)) s

/-- `FORGET_CHANGE_EFFECTIVE` (R223). -/
def execForgetChangeEffective (s : State) : Host.Outcome State Fault Refusal :=
  act true s.runs forgetChangeEffective s

/-- `RDV_CONTINUATION_EXPIRE` (R270). -/
def execRdvContinuationExpire (op : Nat) (s : State) : Host.Outcome State Fault Refusal :=
  act true s.runs (rdvContinuationExpire op) s

/-- `FETCH_RESPONSE_TIMEOUT` (R333). -/
def execFetchResponseTimeout (op : Nat) (s : State) : Host.Outcome State Fault Refusal :=
  act true s.runs (fetchResponseTimeout op) s

/-- `MEM_WRITE_COMPLETE` (R186). -/
def execMemWriteComplete (s : State) : Host.Outcome State Fault Refusal :=
  act true s.runs memWriteComplete s

end Sys2Proof.Machine
end

