-- ==== Sys2Proof/Machine/MeanReg.lean ====
section
/-! DEFINITION. Machine/MeanReg.lean: the meanings of commands (02: register accesses, resets B, shadows, errors). -/

namespace Sys2Proof.Machine

/-- A storage error of a page: a halted block reports none (R509). -/
def storageRow (page index unit locator : Nat) (s : State) : State :=
  match pageBlock page with
  | some (b, _) => if s.halted && !b.unfenceable then s else internalStorageError page index unit locator s
  | none => s


/-- `REG_WRITE` (R53). -/
def execRegWrite (master off size value : Nat) (s : State) : Host.Outcome State Fault Refusal :=
  actLight (isMaster master && isOff off) s.up (regWriteRow master off size value) s

/-- `REG_READ` (R414). -/
def execRegRead (master off size : Nat) (s : State) : Host.Outcome State Fault Refusal :=
  actLight (isMaster master && isOff off) s.up (regReadRow master off size) s

/-- `BLK_RST` (R38). -/
def execBlkRst (master page : Nat) (s : State) : Host.Outcome State Fault Refusal :=
  actLight (isMaster master && isPage page) s.up (regRow (.blkRst master page) master (F.BLK_CTL_RST.addr page 0) (blkRst master page)) s

/-- `BLOCK_RESET_COMPLETE` (R574). -/
def execBlockResetComplete (page : Nat) (s : State) : Host.Outcome State Fault Refusal :=
  act (isBlock page) s.runs (blockResetComplete page) s

/-- `BLK_FENCE_WRITE` (R40). -/
def execBlkFenceWrite (master page : Nat) (fence : Bool) (s : State) : Host.Outcome State Fault Refusal :=
  actLight (isMaster master && isPage page) s.up (regRow (.blkFenceWrite master page fence) master (F.BLK_CTL_FENCE.addr page 0) (blkFenceWrite master page fence)) s

/-- `SHADOW_CMT` (R47). -/
def execShadowCmt (master page : Nat) (s : State) : Host.Outcome State Fault Refusal :=
  actLight (isMaster master && isPage page) s.up (regRow (.shadowCmt master page) master (F.SHADOW_CMT_CMT.addr page 0) (shadowCmt master page)) s

/-- `SHADOW_COMMIT_DONE` (R48). -/
def execShadowCommitDone (page : Nat) (s : State) : Host.Outcome State Fault Refusal :=
  act (isBlock page) s.runs (shadowCommitDone page) s

/-- `SHADOW_DISCARD` (R49). -/
def execShadowDiscard (master page : Nat) (s : State) : Host.Outcome State Fault Refusal :=
  actLight (isMaster master && isPage page) s.up (regRow (.shadowDiscard master page) master (F.SHADOW_CMT_CMT.addr page 0) (shadowDiscard master page)) s

/-- `RTB_COPY_DONE` (R365). -/
def execRtbCopyDone (s : State) : Host.Outcome State Fault Refusal :=
  actLight true s.runs rtbCopyDone s

/-- `ERR_FIRST_REARM` (R46). -/
def execErrFirstRearm (master page : Nat) (s : State) : Host.Outcome State Fault Refusal :=
  actLight (isMaster master && isPage page) s.up (regRow (.errFirstRearm master page) master (F.ERR_FIRST_INFO_VALID.addr page 0) (errFirstRearm master page)) s

/-- `ERR_STAT_CLEAR` (R519). -/
def execErrStatClear (master page mask : Nat) (s : State) : Host.Outcome State Fault Refusal :=
  actLight (isMaster master && isPage page) s.up (regRow (.errStatClear master page mask) master (F.ERR_STAT_ERR.addr page 0) (errStatClear master page mask)) s

/-- `ERR_WINDOW_EXPIRE` (R498). -/
def execErrWindowExpire (page unit : Nat) (s : State) : Host.Outcome State Fault Refusal :=
  actLight (isBlock page) s.up (errWindowExpire page unit) s

/-- `FM_ROLE_RELEASE` (R57). -/
def execFmRoleRelease (master : Nat) (s : State) : Host.Outcome State Fault Refusal :=
  actLight (isMaster master) s.up (regRow (.fmRoleRelease master) master (F.DEV_FM_CTL_RELEASE.addr 0 0) (fmRoleRelease master)) s

/-- `FCL_STAT_CLEAR` (R497). -/
def execFclStatClear (master reg mask : Nat) (s : State) : Host.Outcome State Fault Refusal :=
  actLight (isMaster master && decide (reg < 4)) s.up (regRow (.fclStatClear master reg mask) master ([F.FCL_STAT_STAT, F.FCL_PORT_LO_PORT, F.FCL_PORT_HI_PORT].getD reg F.FCL_LANE_GROUP |>.addr 0 0) (fclStatClear master reg mask)) s

/-- `FCL_FIRST_REARM` (R497). -/
def execFclFirstRearm (master : Nat) (s : State) : Host.Outcome State Fault Refusal :=
  actLight (isMaster master) s.up (regRow (.fclFirstRearm master) master (F.FCL_FIRST_VALID.addr 0 0) (fclFirstRearm master)) s

/-- `SVC_REASON_CLEAR` (R516). -/
def execSvcReasonClear (master mask : Nat) (s : State) : Host.Outcome State Fault Refusal :=
  actLight (isMaster master) s.up (regRow (.svcReasonClear master mask) master (F.FCL_SVC_STAT_REASONS.addr 0 0) (svcReasonClear master mask)) s

/-- `FCL_SVC_REQ` (R515). -/
def execFclSvcReq (master code : Nat) (s : State) : Host.Outcome State Fault Refusal :=
  actLight (isMaster master) s.up (regRow (.fclSvcReq master code) master (F.FCL_SVC_REQ_RAISE.addr 0 0) (fclSvcReq master code)) s

/-- `ALIVE_KICK` (R517). -/
def execAliveKick (master : Nat) (s : State) : Host.Outcome State Fault Refusal :=
  actLight (isMaster master) s.up (regRow (.aliveKick master) master (F.FCL_ALIVE_KICK.addr 0 0) (aliveKick master)) s

/-- `ALIVE_TIMEOUT` (R517). -/
def execAliveTimeout (s : State) : Host.Outcome State Fault Refusal :=
  actLight true s.up aliveTimeout s

/-- `UNIT_FENCE_WRITE` (R508). -/
def execUnitFenceWrite (master mask : Nat) (s : State) : Host.Outcome State Fault Refusal :=
  actLight (isMaster master) s.up (regRow (.unitFenceWrite master mask) master (F.FCL_UNIT_FENCE_FENCE.addr 0 0) (unitFenceWrite master mask)) s

/-- `INTERNAL_STORAGE_ERROR` (R498). -/
def execInternalStorageError (page index unit locator : Nat) (s : State) : Host.Outcome State Fault Refusal :=
  act (isBlock page) s.up (storageRow page index unit locator) s

end Sys2Proof.Machine
end

