-- ==== Sys2Proof/Machine/MeanRoute.lean ====
section
/-! DEFINITION. Machine/MeanRoute.lean: the meanings of commands (11 and 12: routing, junctions and the tollgate). -/

namespace Sys2Proof.Machine

/-- `TRANSIT_FORWARD` (R357). -/
def execTransitForward (port vc : Nat) (s : State) : Host.Outcome State Fault Refusal :=
  actLight (isPort port && decide (vc ≤ 8)) s.runs (transitForward port vc) s

/-- `PATH_FAULT_RECEIVE` (R379). -/
def execPathFaultReceive (s : State) : Host.Outcome State Fault Refusal :=
  act true s.runs pathFaultReceive s

/-- `QUARANTINE_EXPIRE` (R381). -/
def execQuarantineExpire (s : State) : Host.Outcome State Fault Refusal :=
  act true s.runs quarantineExpire s

/-- `QUAR_CLR` (R381). -/
def execQuarClr (master : Nat) (s : State) : Host.Outcome State Fault Refusal :=
  act (isMaster master) s.up (regRow (.quarClr master) master (F.RTB_QUAR_CLR_CLR.addr 0 0) (quarClr master)) s

/-- `RTB_WIN_WRITE` (R366). -/
def execRtbWinWrite (master off size value : Nat) (s : State) : Host.Outcome State Fault Refusal :=
  actLight (isMaster master && isWin off) s.up (regRow (.rtbWinWrite master off size value) master off (rtbWinWrite master off size value)) s

/-- `OUTPUT_ARBITRATE` (R389). -/
def execOutputArbitrate (port : Nat) (s : State) : Host.Outcome State Fault Refusal :=
  actLight (isPort port) s.runs (outputArbitrate port) s

/-- `VCB_WAIT_EXPIRE` (R392). -/
def execVcbWaitExpire (port : Nat) (s : State) : Host.Outcome State Fault Refusal :=
  actLight (isPort port) s.runs (vcbWaitExpire port) s

/-- `EJECT_WAIT_EXPIRE` (R393). -/
def execEjectWaitExpire (junction : Nat) (s : State) : Host.Outcome State Fault Refusal :=
  actLight (isJunction junction) s.runs (ejectWaitExpire junction) s

/-- `TG_SEL_WRITE` (R413). -/
def execTgSelWrite (master slot : Nat) (s : State) : Host.Outcome State Fault Refusal :=
  actLight (isMaster master && decide (slot < 4096)) s.up (regRow (.tgSelWrite master slot) master (F.TMG_TG_SEL_SLOT.addr 0 0) (tgSelWrite master slot)) s

/-- `TG_ACT_WRITE` (R413). -/
def execTgActWrite (master value : Nat) (s : State) : Host.Outcome State Fault Refusal :=
  actLight (isMaster master) s.up (regRow (.tgActWrite master value) master (F.TMG_TG_ACT_EN.addr 0 0) (tgActWrite master value)) s

/-- `LINK_GRACE_EXPIRE` (R443). -/
def execLinkGraceExpire (port : Nat) (s : State) : Host.Outcome State Fault Refusal :=
  actLight (isPort port) s.runs (linkGraceExpire port) s

end Sys2Proof.Machine
end

