-- ==== Sys2Proof/Machine/MeanSec.lean ====
section
/-! DEFINITION. Machine/MeanSec.lean: the meanings of commands (15 to 17: security, on-package memory and performance). -/

namespace Sys2Proof.Machine

/-- `GENERATE` (R473). -/
def execSecGenerate (master slot : Nat) (s : State) : Host.Outcome State Fault Refusal :=
  actLight (isMaster master && decide (slot < 4096)) s.up (regRow (.secGenerate master slot) master (F.SEC_CMD_OP.addr 0 0) (secGenerate master slot)) s

/-- `WRAP` (R474). -/
def execSecWrap (master slot : Nat) (next : Bool) (s : State) : Host.Outcome State Fault Refusal :=
  actLight (isMaster master && decide (slot < 4096)) s.up (regRow (.secWrap master slot next) master (F.SEC_CMD_OP.addr 0 0) (secWrap master slot next)) s

/-- `INSTALL` (R476). -/
def execSecInstall (master slot : Nat) (s : State) : Host.Outcome State Fault Refusal :=
  actLight (isMaster master && decide (slot < 4096)) s.up (regRow (.secInstall master slot) master (F.SEC_CMD_OP.addr 0 0) (secInstall master slot)) s

/-- `ROLL` (R482). -/
def execSecRoll (master slot : Nat) (s : State) : Host.Outcome State Fault Refusal :=
  actLight (isMaster master && decide (slot < 4096)) s.up (regRow (.secRoll master slot) master (F.SEC_CMD_OP.addr 0 0) (secRoll master slot)) s

/-- `RETIRE` (R478). -/
def execSecRetire (master slot : Nat) (s : State) : Host.Outcome State Fault Refusal :=
  actLight (isMaster master && decide (slot < 4096)) s.up (regRow (.secRetire master slot) master (F.SEC_CMD_OP.addr 0 0) (secRetire master slot)) s

/-- `CREATE_OPEN` (R470). -/
def execSecCreateOpen (master slot : Nat) (s : State) : Host.Outcome State Fault Refusal :=
  actLight (isMaster master && decide (slot < 4096)) s.up (regRow (.secCreateOpen master slot) master (F.SEC_CMD_OP.addr 0 0) (secCreateOpen master slot)) s

/-- `SEC_CMD_COMPLETE` (R473). -/
def execSecCmdComplete (peer : Option Nat) (s : State) : Host.Outcome State Fault Refusal :=
  actLight true s.runs (secCmdComplete peer) s

/-- `KEY_ROLL_TIME` (R482). -/
def execKeyRollTime (slot : Nat) (s : State) : Host.Outcome State Fault Refusal :=
  actLight true s.runs (keyRollTime slot) s

/-- `OLD_KEY_ERASE` (R482). -/
def execOldKeyErase (slot : Nat) (s : State) : Host.Outcome State Fault Refusal :=
  actLight true s.runs (oldKeyErase slot) s

/-- `PIPE_SELF_TEST` (R494). -/
def execPipeSelfTest (pipe : Nat) (pass : Bool) (s : State) : Host.Outcome State Fault Refusal :=
  actLight (decide (pipe < 48)) s.runs (pipeSelfTest pipe pass) s

/-- `DBG_CHALLENGE` (R489). -/
def execDbgChallenge (s : State) : Host.Outcome State Fault Refusal :=
  actLight true s.up dbgChallenge s

/-- `DBG_TOKEN` (R490). -/
def execDbgToken (scope serial nonce : Nat) (sig : List Byte) (s : State) : Host.Outcome State Fault Refusal :=
  actLight true s.up (dbgToken scope serial nonce sig) s

/-- `SPDM_REQUEST` (R467). -/
def execSpdmRequest (path : ReqPath) (code : Nat) (s : State) : Host.Outcome State Fault Refusal :=
  actLight true s.up (spdmRequest path code) s

/-- `SCRUB` (R512). -/
def execScrub (ctrl addr : Nat) (r : EccResult) (s : State) : Host.Outcome State Fault Refusal :=
  act (decide (ctrl < 2)) s.runs (scrub ctrl addr r) s

/-- `ECC_READ` (R510). -/
def execEccRead (addr len : Nat) (user : MemUser) (r : EccResult) (s : State) : Host.Outcome State Fault Refusal :=
  act true s.runs (eccRead addr len user r) s

/-- `SPARE_FORCE` (R513). -/
def execSpareForce (master ctrl addr : Nat) (s : State) : Host.Outcome State Fault Refusal :=
  actLight (isMaster master && decide (ctrl < 2)) s.up (regRow (.spareForce master ctrl addr) master (F.MEM_SPARE_FORCE_GO.addr ctrl 0) (spareForce master ctrl addr)) s

/-- `ROW_SPARE_DONE` (R513). -/
def execRowSpareDone (ctrl : Nat) (s : State) : Host.Outcome State Fault Refusal :=
  actLight (decide (ctrl < 2)) s.runs (rowSpareDone ctrl) s

/-- `PMU_SNAP_GO` (R527). -/
def execPmuSnapGo (master : Nat) (s : State) : Host.Outcome State Fault Refusal :=
  actLight (isMaster master) s.up (regRow (.pmuSnapGo master) master (F.PMU_SNAP_GO.addr 0 0) (pmuSnapGo master)) s

/-- `PMU_SNAP_RELEASE` (R527). -/
def execPmuSnapRelease (master : Nat) (s : State) : Host.Outcome State Fault Refusal :=
  actLight (isMaster master) s.up (regRow (.pmuSnapRelease master) master (F.PMU_SNAP_RELEASE.addr 0 0) (pmuSnapRelease master)) s

/-- `SAMPLE_SEED` (R535). -/
def execSampleSeed (master fn seed : Nat) (s : State) : Host.Outcome State Fault Refusal :=
  actLight (isMaster master && isFn fn) s.up (regRow (.sampleSeed master fn seed) master (F.PMU_SR_SEED_SEED.addr fn 0) (sampleSeed master fn seed)) s

end Sys2Proof.Machine
end

