-- ==== Sys2Proof/Machine/MeanPower.lean ====
section
/-! DEFINITION. Machine/MeanPower.lean: the meanings of commands (19 and 20: power, resets, time). -/

namespace Sys2Proof.Machine

/-- Reset W: from the pin, or by a write of `CRP_RST_CTL.WARM` (R53, R573). -/
def resetWRow (pin : Bool) (m : Nat) (s : State) : State :=
  if !s.up then s
  else if pin then s.warmReset true
  else regRow (.resetW pin m) m (F.CRP_RST_CTL_WARM.addr 0 0) (globalWrite m Block.crp.page (F.CRP_RST_CTL_WARM.addr 0 0) fun s => s.warmReset false) s

/-- A held host access carried out after the wake (R565): every access to a register, each by its own meaning, since an access to a page's header
is held behind an earlier one to the same page (R36). -/
def replayed (i : Instr) (s : State) : Host.Outcome State Fault Refusal :=
  match i with
  | .regWrite m a n v => execRegWrite m a n v s
  | .regRead m a n => execRegRead m a n s
  | .bar2ReservedAccess fn off write => execBar2ReservedAccess fn off write s
  | .xltResume master fn wq => execXltResume master fn wq s
  | .xltAbort master fn wq => execXltAbort master fn wq s
  | .arbFencedClear master page mask => execArbFencedClear master page mask s
  | .adminDoorbell master fn tail => execAdminDoorbell master fn tail s
  | .acqEnable master fn => execAcqEnable master fn s
  | .wqDb fn wq value => execWqDb fn wq value s
  | .wqDirect fn wq w => execWqDirect fn wq w s
  | .cqDb fn cq consumer arm => execCqDb fn cq consumer arm s
  | .eqDb fn eq consumer arm => execEqDb fn eq consumer arm s
  | .cmdResumeResume master fn kind num => execCmdResumeResume master fn kind num s
  | .cmdResumeAbort master fn kind num => execCmdResumeAbort master fn kind num s
  | .trigCounterSet master fn counter value => execTrigCounterSet master fn counter value s
  | .trigAdd master fn counter addend => execTrigAdd master fn counter addend s
  | .ovfTailWrite master fn tail => execOvfTailWrite master fn tail s
  | .semAcquire master fn sem => execSemAcquire master fn sem s
  | .semTry master fn sem => execSemTry master fn sem s
  | .semRelease master fn sem => execSemRelease master fn sem s
  | .semForce master sem => execSemForce master sem s
  | .lockForce master off => execLockForce master off s
  | .quarClr master => execQuarClr master s
  | .rtbWinWrite master off size value => execRtbWinWrite master off size value s
  | .tgSelWrite master slot => execTgSelWrite master slot s
  | .tgActWrite master value => execTgActWrite master value s
  | .sampleSeed master fn seed => execSampleSeed master fn seed s
  | .powerOn master fn => execPowerOn master fn s
  | .removeReq master fn => execRemoveReq master fn s
  | .forceOff master fn => execForceOff master fn s
  | .cancel master fn => execCancel master fn s
  | .quiesced master fn => execQuiesced master fn s
  | .ideRequire master fn => execIdeRequire master fn s
  | .linkRetrain master port => execLinkRetrain master port s
  | .linkEnable master port on => execLinkEnable master port on s
  | .laneFenceWrite master group lane fence => execLaneFenceWrite master group lane fence s
  | .lanTestWrite master group lane value => execLanTestWrite master group lane value s
  | .injectGo master group lane => execInjectGo master group lane s
  | .marginStart master group lane => execMarginStart master group lane s
  | .blkRst master page => execBlkRst master page s
  | .blkFenceWrite master page fence => execBlkFenceWrite master page fence s
  | .shadowCmt master page => execShadowCmt master page s
  | .shadowDiscard master page => execShadowDiscard master page s
  | .errFirstRearm master page => execErrFirstRearm master page s
  | .errStatClear master page mask => execErrStatClear master page mask s
  | .fmRoleRelease master => execFmRoleRelease master s
  | .fclStatClear master reg mask => execFclStatClear master reg mask s
  | .fclFirstRearm master => execFclFirstRearm master s
  | .svcReasonClear master mask => execSvcReasonClear master mask s
  | .fclSvcReq master code => execFclSvcReq master code s
  | .aliveKick master => execAliveKick master s
  | .unitFenceWrite master mask => execUnitFenceWrite master mask s
  | .secGenerate master slot => execSecGenerate master slot s
  | .secWrap master slot next => execSecWrap master slot next s
  | .secInstall master slot => execSecInstall master slot s
  | .secRoll master slot => execSecRoll master slot s
  | .secRetire master slot => execSecRetire master slot s
  | .secCreateOpen master slot => execSecCreateOpen master slot s
  | .spareForce master ctrl addr => execSpareForce master ctrl addr s
  | .pmuSnapGo master => execPmuSnapGo master s
  | .pmuSnapRelease master => execPmuSnapRelease master s
  | _ => .next s

/-- One held access, carried out. -/
def replayOne (i : Instr) (s : State) : State :=
  match replayed i s with
  | .next t => t
  | .fault _ => s
  | .refused _ => s

/-- Every held access carried out, in the order of arrival (R565, R567). -/
def State.replayHeld (s : State) : State := s.pw.heldIo.foldl (fun s i => replayOne i s) { s with pw.heldIo := [], pw.heldAt := [] }

/-- A lay-by wake completes: held accesses, then the resets and the `TARGET` that waited (R565, R567, R572). -/
def laybyWakeRow (s : State) : State := if s.wakingFrom psLayby then s.laybyAwake.replayHeld.settled else s

/-- An effect that may end a lay-by wake, and the accesses held meanwhile. -/
def replayAfter (f : State → State) (s : State) : State :=
  let s := f s
  if s.power = psFull then s.replayHeld else s


/-- `PWR_REQ_WRITE` (R562). -/
def execPwrReqWrite (master target : Nat) (s : State) : Host.Outcome State Fault Refusal :=
  actLight (isMaster master) s.up (regRow (.pwrReqWrite master target) master (F.CRP_PWR_REQ_TARGET.addr 0 0) (pwrReqWrite master target)) s

/-- `AUTO_LAYBY_IDLE` (R562). -/
def execAutoLaybyIdle (s : State) : Host.Outcome State Fault Refusal :=
  actLight true s.runs autoLaybyIdle s

/-- `LAYBY_QUIET` (R562). -/
def execLaybyQuiet (s : State) : Host.Outcome State Fault Refusal :=
  actLight true s.runs laybyQuiet s

/-- `ENTRY_TIMEOUT` (R562). -/
def execEntryTimeout (s : State) : Host.Outcome State Fault Refusal :=
  actLight true s.runs entryTimeout s

/-- `LAYBY_WAKE` (R564). -/
def execLaybyWake (cause : Nat) (s : State) : Host.Outcome State Fault Refusal :=
  actLight true s.runs (laybyWake cause) s

/-- `PARKED_WAKE` (R571). -/
def execParkedWake (cause : Nat) (s : State) : Host.Outcome State Fault Refusal :=
  actLight true s.runs (parkedWake cause) s

/-- `WAKE_TIME` (R564). -/
def execWakeTime (s : State) : Host.Outcome State Fault Refusal :=
  actLight true s.runs wakeTime s

/-- `PARKED_QUIET` (R569). -/
def execParkedQuiet (s : State) : Host.Outcome State Fault Refusal :=
  actLight true s.runs parkedQuiet s

/-- `PARKED_WAKE_DONE` (R571). -/
def execParkedWakeDone (s : State) : Host.Outcome State Fault Refusal :=
  act true s.runs parkedWakeDone s

/-- `RESET_C` (R573). -/
def execResetC (s : State) : Host.Outcome State Fault Refusal :=
  actLight true true resetC s

/-- `RESET_W` (R573). -/
def execResetW (pin : Bool) (master : Nat) (s : State) : Host.Outcome State Fault Refusal :=
  actLight (pin || isMaster master) true (resetWRow pin master) s

/-- `RESET_M` (R573). -/
def execResetM (cause : Nat) (s : State) : Host.Outcome State Fault Refusal :=
  actLight (decide (1 ≤ cause) && decide (cause ≤ 6)) s.up (fun s => s.startResetM cause) s

/-- `CLAIM_WAIT_EXPIRE` (R579). -/
def execClaimWaitExpire (s : State) : Host.Outcome State Fault Refusal :=
  actLight true s.up claimWaitExpire s

/-- `MASTER_LOSS` (R579). -/
def execMasterLoss (port : Nat) (s : State) : Host.Outcome State Fault Refusal :=
  actLight (isPort port) s.up (masterLoss port) s

/-- `HOLDOVER_EXPIRE` (R582). -/
def execHoldoverExpire (s : State) : Host.Outcome State Fault Refusal :=
  actLight true s.up holdoverExpire s

/-- `PPS_IN_EDGE` (R584). -/
def execPpsInEdge (s : State) : Host.Outcome State Fault Refusal :=
  actLight true s.up ppsInEdge s

/-- `PPS_MISSING` (R584). -/
def execPpsMissing (s : State) : Host.Outcome State Fault Refusal :=
  actLight true s.up ppsMissing s

/-- `PPS_OUT_SECOND` (R584). -/
def execPpsOutSecond (s : State) : Host.Outcome State Fault Refusal :=
  actLight true s.up ppsOutSecond s

/-- `TIM_SET` (R585). -/
def execTimSet (master value : Nat) (s : State) : Host.Outcome State Fault Refusal :=
  actLight (isMaster master) s.up (regRow (.timSet master value) master (F.TIM_SET_TIME.addr 0 0) (timSet master value)) s

/-- `THERMAL_LEVEL` (R607). -/
def execThermalLevel (temp : Nat) (s : State) : Host.Outcome State Fault Refusal :=
  actLight true s.up (thermalLevel temp) s

/-- `AVS_STEP` (R599). -/
def execAvsStep (target read : Nat) (answered : Bool) (s : State) : Host.Outcome State Fault Refusal :=
  actLight true s.up (avsStep target read answered) s

/-- `CHIP_RST_RELEASE` (R597). -/
def execChipRstRelease (bootMode : Nat) (recovery routerOnly : Bool) (trained : Nat) (s : State) : Host.Outcome State Fault Refusal :=
  actLight true true (chipRstRelease bootMode recovery routerOnly trained) s

/-- `VDD_AON_LOSS` (R601). -/
def execVddAonLoss (s : State) : Host.Outcome State Fault Refusal :=
  actLight true true vddAonLoss s

/-- `ISLAND_CLOCK_UNLOCK` (R587). -/
def execIslandClockUnlock (island : Nat) (s : State) : Host.Outcome State Fault Refusal :=
  actLight (decide (island < 48)) s.up (islandClockUnlock island) s

/-- `DOMAIN_FAULT` (R587). -/
def execDomainFault (domain : Nat) (s : State) : Host.Outcome State Fault Refusal :=
  act (decide (domain < 36)) s.up (replayAfter (domainFault domain)) s

/-- `LAYBY_WAKE_DONE` (R567). -/
def execLaybyWakeDone (s : State) : Host.Outcome State Fault Refusal :=
  act true s.runs laybyWakeRow s

end Sys2Proof.Machine
end

