-- ==== Sys2Proof/Machine/Dispatch.lean ====
section
/-! DEFINITION. Machine/Dispatch.lean: each command and its meaning. -/

namespace Sys2Proof.Machine

def exec (i : Instr) (s : State) : Host.Outcome State Fault Refusal :=
  match i with
  | .regWrite master off size value => Sys2Proof.Machine.execRegWrite master off size value s
  | .blkRst master page => Sys2Proof.Machine.execBlkRst master page s
  | .blockResetComplete page => Sys2Proof.Machine.execBlockResetComplete page s
  | .blkFenceWrite master page fence => Sys2Proof.Machine.execBlkFenceWrite master page fence s
  | .shadowCmt master page => Sys2Proof.Machine.execShadowCmt master page s
  | .shadowCommitDone page => Sys2Proof.Machine.execShadowCommitDone page s
  | .shadowDiscard master page => Sys2Proof.Machine.execShadowDiscard master page s
  | .errFirstRearm master page => Sys2Proof.Machine.execErrFirstRearm master page s
  | .errStatClear master page mask => Sys2Proof.Machine.execErrStatClear master page mask s
  | .errWindowExpire page unit => Sys2Proof.Machine.execErrWindowExpire page unit s
  | .fmRoleRelease master => Sys2Proof.Machine.execFmRoleRelease master s
  | .hifLinkUp fn rate width flit => Sys2Proof.Machine.execHifLinkUp fn rate width flit s
  | .hifLinkDown fn => Sys2Proof.Machine.execHifLinkDown fn s
  | .presenceCounted fn => Sys2Proof.Machine.execPresenceCounted fn s
  | .absenceCounted fn => Sys2Proof.Machine.execAbsenceCounted fn s
  | .attnButton fn => Sys2Proof.Machine.execAttnButton fn s
  | .powerFault fn => Sys2Proof.Machine.execPowerFault fn s
  | .powerFaultCleared fn => Sys2Proof.Machine.execPowerFaultCleared fn s
  | .powerOn master fn => Sys2Proof.Machine.execPowerOn master fn s
  | .removeReq master fn => Sys2Proof.Machine.execRemoveReq master fn s
  | .forceOff master fn => Sys2Proof.Machine.execForceOff master fn s
  | .cancel master fn => Sys2Proof.Machine.execCancel master fn s
  | .quiesced master fn => Sys2Proof.Machine.execQuiesced master fn s
  | .quiesceTimeout fn => Sys2Proof.Machine.execQuiesceTimeout fn s
  | .perstAssert fn low => Sys2Proof.Machine.execPerstAssert fn low s
  | .flr fn => Sys2Proof.Machine.execFlr fn s
  | .resetHComplete fn => Sys2Proof.Machine.execResetHComplete fn s
  | .endpointHoldEnd fn => Sys2Proof.Machine.execEndpointHoldEnd fn s
  | .fnDstateChange fn d3 => Sys2Proof.Machine.execFnDstateChange fn d3 s
  | .bmeChange fn on sizes cfg => Sys2Proof.Machine.execBmeChange fn on sizes cfg s
  | .ideRequire master fn => Sys2Proof.Machine.execIdeRequire master fn s
  | .msixUnmask fn vector addr data enable fmask mask => Sys2Proof.Machine.execMsixUnmask fn vector addr data enable fmask mask s
  | .bar4Access fn off size write value => Sys2Proof.Machine.execBar4Access fn off size write value s
  | .bar2ReservedAccess fn off write => Sys2Proof.Machine.execBar2ReservedAccess fn off write s
  | .hostReadCompletion id off status bytes => Sys2Proof.Machine.execHostReadCompletion id off status bytes s
  | .hostCompletionTimeout id => Sys2Proof.Machine.execHostCompletionTimeout id s
  | .doeRequest fn len obj => Sys2Proof.Machine.execDoeRequest fn len obj s
  | .walkStep walk => Sys2Proof.Machine.execWalkStep walk s
  | .xltResume master fn wq => Sys2Proof.Machine.execXltResume master fn wq s
  | .xltAbort master fn wq => Sys2Proof.Machine.execXltAbort master fn wq s
  | .arbitrate page inst requests => Sys2Proof.Machine.execArbitrate page inst requests s
  | .arbWatchdog page inst => Sys2Proof.Machine.execArbWatchdog page inst s
  | .arbFencedClear master page mask => Sys2Proof.Machine.execArbFencedClear master page mask s
  | .adminDoorbell master fn tail => Sys2Proof.Machine.execAdminDoorbell master fn tail s
  | .acqEnable master fn => Sys2Proof.Machine.execAcqEnable master fn s
  | .createWq fn c => Sys2Proof.Machine.execCreateWq fn c s
  | .destroyWq fn c => Sys2Proof.Machine.execDestroyWq fn c s
  | .resetWq fn c => Sys2Proof.Machine.execResetWq fn c s
  | .wqDrainComplete fn wq => Sys2Proof.Machine.execWqDrainComplete fn wq s
  | .wqInval fn c => Sys2Proof.Machine.execWqInval fn c s
  | .createCq fn c => Sys2Proof.Machine.execCreateCq fn c s
  | .destroyCq fn c => Sys2Proof.Machine.execDestroyCq fn c s
  | .modifyCq fn c => Sys2Proof.Machine.execModifyCq fn c s
  | .createEq fn c => Sys2Proof.Machine.execCreateEq fn c s
  | .destroyEq fn c => Sys2Proof.Machine.execDestroyEq fn c s
  | .createAs fn c => Sys2Proof.Machine.execCreateAs fn c s
  | .destroyAs fn c => Sys2Proof.Machine.execDestroyAs fn c s
  | .createRegion fn c => Sys2Proof.Machine.execCreateRegion fn c s
  | .destroyRegion fn c => Sys2Proof.Machine.execDestroyRegion fn c s
  | .xltInval fn c => Sys2Proof.Machine.execXltInval fn c s
  | .xltInvalComplete fn => Sys2Proof.Machine.execXltInvalComplete fn s
  | .createList fn c => Sys2Proof.Machine.execCreateList fn c s
  | .destroyList fn c => Sys2Proof.Machine.execDestroyList fn c s
  | .joinTenancy fn c => Sys2Proof.Machine.execJoinTenancy fn c s
  | .leaveTenancy fn c => Sys2Proof.Machine.execLeaveTenancy fn c s
  | .createLqp fn c => Sys2Proof.Machine.execCreateLqp fn c s
  | .destroyLqp fn c => Sys2Proof.Machine.execDestroyLqp fn c s
  | .query fn c => Sys2Proof.Machine.execQuery fn c s
  | .wqDb fn wq value => Sys2Proof.Machine.execWqDb fn wq value s
  | .wqDirect fn wq w => Sys2Proof.Machine.execWqDirect fn wq w s
  | .cqDb fn cq consumer arm => Sys2Proof.Machine.execCqDb fn cq consumer arm s
  | .eqDb fn eq consumer arm => Sys2Proof.Machine.execEqDb fn eq consumer arm s
  | .descFetchComplete fn wq => Sys2Proof.Machine.execDescFetchComplete fn wq s
  | .admitDescriptor fn wq => Sys2Proof.Machine.execAdmitDescriptor fn wq s
  | .cmdResumeResume master fn kind num => Sys2Proof.Machine.execCmdResumeResume master fn kind num s
  | .cmdResumeAbort master fn kind num => Sys2Proof.Machine.execCmdResumeAbort master fn kind num s
  | .modTimerExpire fn kind num => Sys2Proof.Machine.execModTimerExpire fn kind num s
  | .trigCounterSet master fn counter value => Sys2Proof.Machine.execTrigCounterSet master fn counter value s
  | .trigAdd master fn counter addend => Sys2Proof.Machine.execTrigAdd master fn counter addend s
  | .scheduleSegment pipe => Sys2Proof.Machine.execScheduleSegment pipe s
  | .payloadReadComplete read => Sys2Proof.Machine.execPayloadReadComplete read s
  | .packetVerify junction => Sys2Proof.Machine.execPacketVerify junction s
  | .flushReadComplete fn => Sys2Proof.Machine.execFlushReadComplete fn s
  | .continuationTimer op => Sys2Proof.Machine.execContinuationTimer op s
  | .ackDelayTimer loc rem tc lqp => Sys2Proof.Machine.execAckDelayTimer loc rem tc lqp s
  | .retransmitTimer loc rem tc lqp seq => Sys2Proof.Machine.execRetransmitTimer loc rem tc lqp seq s
  | .giveupDeadline loc rem tc lqp seq op => Sys2Proof.Machine.execGiveupDeadline loc rem tc lqp seq op s
  | .seqPeriodRoll loc rem tc lqp => Sys2Proof.Machine.execSeqPeriodRoll loc rem tc lqp s
  | .idleSpill loc rem tc => Sys2Proof.Machine.execIdleSpill loc rem tc s
  | .recallComplete loc rem tc => Sys2Proof.Machine.execRecallComplete loc rem tc s
  | .forgetReceiveState loc rem tc => Sys2Proof.Machine.execForgetReceiveState loc rem tc s
  | .forgetSendState loc rem tc => Sys2Proof.Machine.execForgetSendState loc rem tc s
  | .pwyContextUncorrected loc rem tc => Sys2Proof.Machine.execPwyContextUncorrected loc rem tc s
  | .contextLostExpire loc rem tc => Sys2Proof.Machine.execContextLostExpire loc rem tc s
  | .lqpContextFetchDone lqp => Sys2Proof.Machine.execLqpContextFetchDone lqp s
  | .recv fn wq => Sys2Proof.Machine.execRecv fn wq s
  | .probe fn wq => Sys2Proof.Machine.execProbe fn wq s
  | .matchCopyRetry copy => Sys2Proof.Machine.execMatchCopyRetry copy s
  | .rdvWaitExpire op => Sys2Proof.Machine.execRdvWaitExpire op s
  | .msgAbandon loc rem tc lqp tag => Sys2Proof.Machine.execMsgAbandon loc rem tc lqp tag s
  | .listReady fn list => Sys2Proof.Machine.execListReady fn list s
  | .ovfTailWrite master fn tail => Sys2Proof.Machine.execOvfTailWrite master fn tail s
  | .convoyBegin op => Sys2Proof.Machine.execConvoyBegin op s
  | .contributionReadDone read => Sys2Proof.Machine.execContributionReadDone read s
  | .contributionRetry op => Sys2Proof.Machine.execContributionRetry op s
  | .roundTimer slot round => Sys2Proof.Machine.execRoundTimer slot round s
  | .roundWaitTimeout slot round => Sys2Proof.Machine.execRoundWaitTimeout slot round s
  | .windowSendTimer slot => Sys2Proof.Machine.execWindowSendTimer slot s
  | .resultWriteRetry slot round => Sys2Proof.Machine.execResultWriteRetry slot round s
  | .atomicReadComplete read => Sys2Proof.Machine.execAtomicReadComplete read s
  | .semAcquire master fn sem => Sys2Proof.Machine.execSemAcquire master fn sem s
  | .semTry master fn sem => Sys2Proof.Machine.execSemTry master fn sem s
  | .semAcquireTimeout master sem => Sys2Proof.Machine.execSemAcquireTimeout master sem s
  | .semKeepExpire master sem => Sys2Proof.Machine.execSemKeepExpire master sem s
  | .semRelease master fn sem => Sys2Proof.Machine.execSemRelease master fn sem s
  | .semForce master sem => Sys2Proof.Machine.execSemForce master sem s
  | .lockWaitTimeout op => Sys2Proof.Machine.execLockWaitTimeout op s
  | .lockLeaseExpire off => Sys2Proof.Machine.execLockLeaseExpire off s
  | .lockForce master off => Sys2Proof.Machine.execLockForce master off s
  | .transitForward port vc => Sys2Proof.Machine.execTransitForward port vc s
  | .quarClr master => Sys2Proof.Machine.execQuarClr master s
  | .rtbWinWrite master off size value => Sys2Proof.Machine.execRtbWinWrite master off size value s
  | .outputArbitrate port => Sys2Proof.Machine.execOutputArbitrate port s
  | .vcbWaitExpire port => Sys2Proof.Machine.execVcbWaitExpire port s
  | .ejectWaitExpire junction => Sys2Proof.Machine.execEjectWaitExpire junction s
  | .tgSelWrite master slot => Sys2Proof.Machine.execTgSelWrite master slot s
  | .tgActWrite master value => Sys2Proof.Machine.execTgActWrite master value s
  | .flitReceive port f => Sys2Proof.Machine.execFlitReceive port f s
  | .replayTimer port => Sys2Proof.Machine.execReplayTimer port s
  | .creditUpdateTimer port pool => Sys2Proof.Machine.execCreditUpdateTimer port pool s
  | .creditRefreshTimer port => Sys2Proof.Machine.execCreditRefreshTimer port s
  | .auditTimer port => Sys2Proof.Machine.execAuditTimer port s
  | .linkRetrain master port => Sys2Proof.Machine.execLinkRetrain master port s
  | .linkEnable master port on => Sys2Proof.Machine.execLinkEnable master port on s
  | .lanesReady port => Sys2Proof.Machine.execLanesReady port s
  | .alignTimeout port => Sys2Proof.Machine.execAlignTimeout port s
  | .drainTimeout port => Sys2Proof.Machine.execDrainTimeout port s
  | .linkGraceExpire port => Sys2Proof.Machine.execLinkGraceExpire port s
  | .timeExchangeTimer port => Sys2Proof.Machine.execTimeExchangeTimer port s
  | .signalDetect group lane => Sys2Proof.Machine.execSignalDetect group lane s
  | .adaptConverged group lane inverted => Sys2Proof.Machine.execAdaptConverged group lane inverted s
  | .markerLock group lane first second spacing skewPs => Sys2Proof.Machine.execMarkerLock group lane first second spacing skewPs s
  | .signalLost group lane => Sys2Proof.Machine.execSignalLost group lane s
  | .lockTimeout port => Sys2Proof.Machine.execLockTimeout port s
  | .laneLoss group lane => Sys2Proof.Machine.execLaneLoss group lane s
  | .trainingFramesRx port => Sys2Proof.Machine.execTrainingFramesRx port s
  | .pllUnlock group => Sys2Proof.Machine.execPllUnlock group s
  | .serLimit group lane count => Sys2Proof.Machine.execSerLimit group lane count s
  | .laneFenceWrite master group lane fence => Sys2Proof.Machine.execLaneFenceWrite master group lane fence s
  | .lanTestWrite master group lane value => Sys2Proof.Machine.execLanTestWrite master group lane value s
  | .injectGo master group lane => Sys2Proof.Machine.execInjectGo master group lane s
  | .marginStart master group lane => Sys2Proof.Machine.execMarginStart master group lane s
  | .marginScanDone group lane errors => Sys2Proof.Machine.execMarginScanDone group lane errors s
  | .eyeRefresh group lane upper mid lower width snr => Sys2Proof.Machine.execEyeRefresh group lane upper mid lower width snr s
  | .secGenerate master slot => Sys2Proof.Machine.execSecGenerate master slot s
  | .secWrap master slot next => Sys2Proof.Machine.execSecWrap master slot next s
  | .secInstall master slot => Sys2Proof.Machine.execSecInstall master slot s
  | .secRoll master slot => Sys2Proof.Machine.execSecRoll master slot s
  | .secRetire master slot => Sys2Proof.Machine.execSecRetire master slot s
  | .secCreateOpen master slot => Sys2Proof.Machine.execSecCreateOpen master slot s
  | .secCmdComplete peer => Sys2Proof.Machine.execSecCmdComplete peer s
  | .keyRollTime slot => Sys2Proof.Machine.execKeyRollTime slot s
  | .oldKeyErase slot => Sys2Proof.Machine.execOldKeyErase slot s
  | .pipeSelfTest pipe pass => Sys2Proof.Machine.execPipeSelfTest pipe pass s
  | .dbgToken scope serial nonce sig => Sys2Proof.Machine.execDbgToken scope serial nonce sig s
  | .spdmRequest path code => Sys2Proof.Machine.execSpdmRequest path code s
  | .fclStatClear master reg mask => Sys2Proof.Machine.execFclStatClear master reg mask s
  | .fclFirstRearm master => Sys2Proof.Machine.execFclFirstRearm master s
  | .svcReasonClear master mask => Sys2Proof.Machine.execSvcReasonClear master mask s
  | .fclSvcReq master code => Sys2Proof.Machine.execFclSvcReq master code s
  | .aliveKick master => Sys2Proof.Machine.execAliveKick master s
  | .unitFenceWrite master mask => Sys2Proof.Machine.execUnitFenceWrite master mask s
  | .scrub ctrl addr r => Sys2Proof.Machine.execScrub ctrl addr r s
  | .eccRead addr len user r => Sys2Proof.Machine.execEccRead addr len user r s
  | .spareForce master ctrl addr => Sys2Proof.Machine.execSpareForce master ctrl addr s
  | .rowSpareDone ctrl => Sys2Proof.Machine.execRowSpareDone ctrl s
  | .pmuSnapGo master => Sys2Proof.Machine.execPmuSnapGo master s
  | .pmuSnapRelease master => Sys2Proof.Machine.execPmuSnapRelease master s
  | .sampleSeed master fn seed => Sys2Proof.Machine.execSampleSeed master fn seed s
  | .mgmtQuery path tag => Sys2Proof.Machine.execMgmtQuery path tag s
  | .roleRequest path tag fn takeover gen serial sig => Sys2Proof.Machine.execRoleRequest path tag fn takeover gen serial sig s
  | .fmKeyEnroll path tag key sig => Sys2Proof.Machine.execFmKeyEnroll path tag key sig s
  | .stageBegin path tag bank hdr => Sys2Proof.Machine.execStageBegin path tag bank hdr s
  | .stageData path tag off bytes => Sys2Proof.Machine.execStageData path tag off bytes s
  | .stageEnd path tag => Sys2Proof.Machine.execStageEnd path tag s
  | .stageAbort path tag => Sys2Proof.Machine.execStageAbort path tag s
  | .activate path tag bank time => Sys2Proof.Machine.execActivate path tag bank time s
  | .activateCancel path tag => Sys2Proof.Machine.execActivateCancel path tag s
  | .svnAdvance path tag => Sys2Proof.Machine.execSvnAdvance path tag s
  | .settingsRead path tag type => Sys2Proof.Machine.execSettingsRead path tag type s
  | .settingsWrite path tag type version body => Sys2Proof.Machine.execSettingsWrite path tag type version body s
  | .settingsErase path tag type => Sys2Proof.Machine.execSettingsErase path tag type s
  | .mgmtRegRead path tag off => Sys2Proof.Machine.execMgmtRegRead path tag off s
  | .mgmtRegWrite path tag off value => Sys2Proof.Machine.execMgmtRegWrite path tag off value s
  | .eventRead path tag index => Sys2Proof.Machine.execEventRead path tag index s
  | .mgmtEvent srcDid cls code body => Sys2Proof.Machine.execMgmtEvent srcDid cls code body s
  | .fabricEventSend delivered => Sys2Proof.Machine.execFabricEventSend delivered s
  | .recoverBegin path tag bank len => Sys2Proof.Machine.execRecoverBegin path tag bank len s
  | .recoverData path tag off bytes => Sys2Proof.Machine.execRecoverData path tag off bytes s
  | .recoverBoot path tag bank => Sys2Proof.Machine.execRecoverBoot path tag bank s
  | .recoverEraseSettings path tag => Sys2Proof.Machine.execRecoverEraseSettings path tag s
  | .recoverRemoveFmKey path tag => Sys2Proof.Machine.execRecoverRemoveFmKey path tag s
  | .pwrReqWrite master target => Sys2Proof.Machine.execPwrReqWrite master target s
  | .laybyWake cause => Sys2Proof.Machine.execLaybyWake cause s
  | .parkedWake cause => Sys2Proof.Machine.execParkedWake cause s
  | .domainFault domain => Sys2Proof.Machine.execDomainFault domain s
  | .resetW pin master => Sys2Proof.Machine.execResetW pin master s
  | .resetM cause => Sys2Proof.Machine.execResetM cause s
  | .masterLoss port => Sys2Proof.Machine.execMasterLoss port s
  | .timSet master value => Sys2Proof.Machine.execTimSet master value s
  | .thermalLevel temp => Sys2Proof.Machine.execThermalLevel temp s
  | .avsStep target read answered => Sys2Proof.Machine.execAvsStep target read answered s
  | .regRead master off size => Sys2Proof.Machine.execRegRead master off size s
  | .chipRstRelease bootMode recovery routerOnly trained => Sys2Proof.Machine.execChipRstRelease bootMode recovery routerOnly trained s
  | .internalStorageError page index unit locator => Sys2Proof.Machine.execInternalStorageError page index unit locator s
  | .islandClockUnlock island => Sys2Proof.Machine.execIslandClockUnlock island s
  | .lanePllLock group => Sys2Proof.Machine.execLanePllLock group s
  | .noSignalTimeout group lane => Sys2Proof.Machine.execNoSignalTimeout group lane s
  | .prbsCheckerSync group lane clean errs more => Sys2Proof.Machine.execPrbsCheckerSync group lane clean errs more s
  | .rdvContinuationExpire op => Sys2Proof.Machine.execRdvContinuationExpire op s
  | .fetchResponseTimeout op => Sys2Proof.Machine.execFetchResponseTimeout op s
  | .flashOperationDone ok => Sys2Proof.Machine.execFlashOperationDone ok s
  | .rtbCopyDone => Sys2Proof.Machine.execRtbCopyDone s
  | .packetReceive => Sys2Proof.Machine.execPacketReceive s
  | .ackReceive => Sys2Proof.Machine.execAckReceive s
  | .noticeReceive => Sys2Proof.Machine.execNoticeReceive s
  | .pwyKeyUncorrected => Sys2Proof.Machine.execPwyKeyUncorrected s
  | .cvPartial => Sys2Proof.Machine.execCvPartial s
  | .cvResult => Sys2Proof.Machine.execCvResult s
  | .cvDone => Sys2Proof.Machine.execCvDone s
  | .cvWindow => Sys2Proof.Machine.execCvWindow s
  | .cvFail => Sys2Proof.Machine.execCvFail s
  | .cvRestart => Sys2Proof.Machine.execCvRestart s
  | .cvAbortReq => Sys2Proof.Machine.execCvAbortReq s
  | .cvAbort => Sys2Proof.Machine.execCvAbort s
  | .cvBroken => Sys2Proof.Machine.execCvBroken s
  | .cvFlood => Sys2Proof.Machine.execCvFlood s
  | .lockGrantReceive => Sys2Proof.Machine.execLockGrantReceive s
  | .pathFaultReceive => Sys2Proof.Machine.execPathFaultReceive s
  | .quarantineExpire => Sys2Proof.Machine.execQuarantineExpire s
  | .dbgChallenge => Sys2Proof.Machine.execDbgChallenge s
  | .aliveTimeout => Sys2Proof.Machine.execAliveTimeout s
  | .trialConfirm => Sys2Proof.Machine.execTrialConfirm s
  | .activationTime => Sys2Proof.Machine.execActivationTime s
  | .autoLaybyIdle => Sys2Proof.Machine.execAutoLaybyIdle s
  | .laybyQuiet => Sys2Proof.Machine.execLaybyQuiet s
  | .entryTimeout => Sys2Proof.Machine.execEntryTimeout s
  | .laybyWakeDone => Sys2Proof.Machine.execLaybyWakeDone s
  | .wakeTime => Sys2Proof.Machine.execWakeTime s
  | .resetC => Sys2Proof.Machine.execResetC s
  | .claimWaitExpire => Sys2Proof.Machine.execClaimWaitExpire s
  | .holdoverExpire => Sys2Proof.Machine.execHoldoverExpire s
  | .ppsInEdge => Sys2Proof.Machine.execPpsInEdge s
  | .ppsMissing => Sys2Proof.Machine.execPpsMissing s
  | .ppsOutSecond => Sys2Proof.Machine.execPpsOutSecond s
  | .vddAonLoss => Sys2Proof.Machine.execVddAonLoss s
  | .forgetChangeEffective => Sys2Proof.Machine.execForgetChangeEffective s
  | .memWriteComplete => Sys2Proof.Machine.execMemWriteComplete s
  | .parkedQuiet => Sys2Proof.Machine.execParkedQuiet s
  | .parkedWakeDone => Sys2Proof.Machine.execParkedWakeDone s

end Sys2Proof.Machine
end

