-- ==== Sys2Proof/WellFormed.lean ====
section
/-! DEFINITION. WellFormed.lean: which commands name something that the device has (02 R32, R52; 01 R28; 12 R395), and which control
blocks have fields that fit (13 R439). -/

namespace Sys2Proof

open Machine

/-- Do the operands of a command name masters, functions, pages, ports, lanes and registers that the device has? -/
def Instr.wf (i : Instr) : Bool :=
  match i with
  | .regWrite master off _ _ => isMaster master && isOff off
  | .blkRst master page => isMaster master && isPage page
  | .blockResetComplete page => isBlock page
  | .blkFenceWrite master page _ => isMaster master && isPage page
  | .shadowCmt master page => isMaster master && isPage page
  | .shadowCommitDone page => isBlock page
  | .shadowDiscard master page => isMaster master && isPage page
  | .errFirstRearm master page => isMaster master && isPage page
  | .errStatClear master page _ => isMaster master && isPage page
  | .errWindowExpire page _ => isBlock page
  | .fmRoleRelease master => isMaster master
  | .hifLinkUp fn _ _ _ => isFn fn
  | .hifLinkDown fn => isFn fn
  | .presenceCounted fn => isFn fn
  | .absenceCounted fn => isFn fn
  | .attnButton fn => isFn fn
  | .powerFault fn => isFn fn
  | .powerFaultCleared fn => isFn fn
  | .powerOn master fn => isMaster master && isFn fn
  | .removeReq master fn => isMaster master && isFn fn
  | .forceOff master fn => isMaster master && isFn fn
  | .cancel master fn => isMaster master && isFn fn
  | .quiesced master fn => isMaster master && isFn fn
  | .quiesceTimeout fn => isFn fn
  | .perstAssert fn _ => isFn fn
  | .flr fn => isFn fn
  | .resetHComplete fn => isFn fn
  | .endpointHoldEnd fn => isFn fn
  | .fnDstateChange fn _ => isFn fn
  | .bmeChange fn _ _ _ => isFn fn
  | .ideRequire master fn => isMaster master && isFn fn
  | .msixUnmask fn v _ _ _ _ _ => isFn fn && decide (v < 2048)
  | .bar4Access fn _ _ _ _ => isFn fn
  | .bar2ReservedAccess fn off write => isFn fn && bar2Plain off write
  | .hostReadCompletion _ _ _ _ => true
  | .hostCompletionTimeout _ => true
  | .doeRequest fn _ _ => isFn fn
  | .walkStep _ => true
  | .xltResume master fn _ => isMaster master && isFn fn
  | .xltAbort master fn _ => isMaster master && isFn fn
  | .arbitrate page inst _ => isArb page inst
  | .arbWatchdog page inst => isArb page inst
  | .arbFencedClear master page _ => isMaster master && isArb page 0
  | .adminDoorbell master fn _ => isMaster master && isFn fn
  | .acqEnable master fn => isMaster master && isFn fn
  | .createWq fn _ => isFn fn
  | .destroyWq fn _ => isFn fn
  | .resetWq fn _ => isFn fn
  | .wqDrainComplete fn _ => isFn fn
  | .wqInval fn _ => isFn fn
  | .createCq fn _ => isFn fn
  | .destroyCq fn _ => isFn fn
  | .modifyCq fn _ => isFn fn
  | .createEq fn _ => isFn fn
  | .destroyEq fn _ => isFn fn
  | .createAs fn _ => isFn fn
  | .destroyAs fn _ => isFn fn
  | .createRegion fn _ => isFn fn
  | .destroyRegion fn _ => isFn fn
  | .xltInval fn _ => isFn fn
  | .xltInvalComplete fn => isFn fn
  | .createList fn _ => isFn fn
  | .destroyList fn _ => isFn fn
  | .joinTenancy fn _ => isFn fn
  | .leaveTenancy fn _ => isFn fn
  | .createLqp fn _ => isFn fn
  | .destroyLqp fn _ => isFn fn
  | .query fn _ => isFn fn
  | .wqDb fn _ _ => isFn fn
  | .wqDirect fn _ w => isFn fn && decide (w.off + w.bytes.length ≤ 256)
  | .cqDb fn _ _ _ => isFn fn
  | .eqDb fn _ _ _ => isFn fn
  | .descFetchComplete fn _ => isFn fn
  | .admitDescriptor fn _ => isFn fn
  | .cmdResumeResume master fn kind _ => isMaster master && isFn fn && isKind kind
  | .cmdResumeAbort master fn kind _ => isMaster master && isFn fn && isKind kind
  | .modTimerExpire fn kind _ => isFn fn && isKind kind
  | .trigCounterSet master fn counter _ => isMaster master && isFn fn && decide (counter < 512)
  | .trigAdd master fn counter _ => isMaster master && isFn fn && decide (counter < 512)
  | .scheduleSegment pipe => decide (pipe < 4)
  | .payloadReadComplete _ => true
  | .packetVerify junction => isJunction junction
  | .flushReadComplete fn => isFn fn
  | .continuationTimer _ => true
  | .ackDelayTimer _ _ _ _ => true
  | .retransmitTimer _ _ _ _ _ => true
  | .giveupDeadline _ _ _ _ _ _ => true
  | .seqPeriodRoll _ _ _ _ => true
  | .idleSpill _ _ _ => true
  | .recallComplete _ _ _ => true
  | .forgetReceiveState _ _ _ => true
  | .forgetSendState _ _ _ => true
  | .pwyContextUncorrected _ _ _ => true
  | .contextLostExpire _ _ _ => true
  | .lqpContextFetchDone _ => true
  | .recv fn _ => isFn fn
  | .probe fn _ => isFn fn
  | .matchCopyRetry _ => true
  | .rdvWaitExpire _ => true
  | .msgAbandon _ _ _ _ _ => true
  | .listReady fn _ => isFn fn
  | .ovfTailWrite master fn _ => isMaster master && isFn fn
  | .convoyBegin _ => true
  | .contributionReadDone _ => true
  | .contributionRetry _ => true
  | .roundTimer _ _ => true
  | .roundWaitTimeout _ _ => true
  | .windowSendTimer _ => true
  | .resultWriteRetry _ _ => true
  | .atomicReadComplete _ => true
  | .semAcquire master fn sem => isMaster master && isFn fn && isSem sem
  | .semTry master fn sem => isMaster master && isFn fn && isSem sem
  | .semAcquireTimeout master sem => isMaster master && isSem sem
  | .semKeepExpire master sem => isMaster master && isSem sem
  | .semRelease master fn sem => isMaster master && isFn fn && isSem sem
  | .semForce master sem => isMaster master && isSem sem
  | .lockWaitTimeout _ => true
  | .lockLeaseExpire _ => true
  | .lockForce master _ => isMaster master
  | .transitForward port vc => isPort port && decide (vc ≤ 8)
  | .quarClr master => isMaster master
  | .rtbWinWrite master off _ _ => isMaster master && isWin off
  | .outputArbitrate port => isPort port
  | .vcbWaitExpire port => isPort port
  | .ejectWaitExpire junction => isJunction junction
  | .tgSelWrite master slot => isMaster master && decide (slot < 4096)
  | .tgActWrite master _ => isMaster master
  | .flitReceive port _ => isPort port
  | .replayTimer port => isPort port
  | .creditUpdateTimer port pool => isPort port && decide (pool ≤ 8)
  | .creditRefreshTimer port => isPort port
  | .auditTimer port => isPort port
  | .linkRetrain master port => isMaster master && isPort port
  | .linkEnable master port _ => isMaster master && isPort port
  | .lanesReady port => isPort port
  | .alignTimeout port => isPort port
  | .drainTimeout port => isPort port
  | .linkGraceExpire port => isPort port
  | .timeExchangeTimer port => isPort port
  | .signalDetect group lane => isLane group lane
  | .adaptConverged group lane _ => isLane group lane
  | .markerLock group lane _ _ _ _ => isLane group lane
  | .signalLost group lane => isLane group lane
  | .lockTimeout port => isPort port
  | .laneLoss group lane => isLane group lane
  | .trainingFramesRx port => isPort port
  | .pllUnlock group => decide (group < 32)
  | .serLimit group lane _ => isLane group lane
  | .laneFenceWrite master group lane _ => isMaster master && isLane group lane
  | .lanTestWrite master group lane _ => isMaster master && isLane group lane
  | .injectGo master group lane => isMaster master && isLane group lane
  | .marginStart master group lane => isMaster master && isLane group lane
  | .marginScanDone group lane _ => isLane group lane
  | .eyeRefresh group lane _ _ _ _ _ => isLane group lane
  | .secGenerate master slot => isMaster master && decide (slot < 4096)
  | .secWrap master slot _ => isMaster master && decide (slot < 4096)
  | .secInstall master slot => isMaster master && decide (slot < 4096)
  | .secRoll master slot => isMaster master && decide (slot < 4096)
  | .secRetire master slot => isMaster master && decide (slot < 4096)
  | .secCreateOpen master slot => isMaster master && decide (slot < 4096)
  | .secCmdComplete _ => true
  | .keyRollTime _ => true
  | .oldKeyErase _ => true
  | .pipeSelfTest pipe _ => decide (pipe < 48)
  | .dbgToken _ _ _ _ => true
  | .spdmRequest _ _ => true
  | .fclStatClear master reg _ => isMaster master && decide (reg < 4)
  | .fclFirstRearm master => isMaster master
  | .svcReasonClear master _ => isMaster master
  | .fclSvcReq master _ => isMaster master
  | .aliveKick master => isMaster master
  | .unitFenceWrite master _ => isMaster master
  | .scrub ctrl _ _ => decide (ctrl < 2)
  | .eccRead _ _ _ _ => true
  | .spareForce master ctrl _ => isMaster master && decide (ctrl < 2)
  | .rowSpareDone ctrl => decide (ctrl < 2)
  | .pmuSnapGo master => isMaster master
  | .pmuSnapRelease master => isMaster master
  | .sampleSeed master fn _ => isMaster master && isFn fn
  | .mgmtQuery _ _ => true
  | .roleRequest _ _ _ _ _ _ _ => true
  | .fmKeyEnroll _ _ _ _ => true
  | .stageBegin _ _ _ _ => true
  | .stageData _ _ _ _ => true
  | .stageEnd _ _ => true
  | .stageAbort _ _ => true
  | .activate _ _ _ _ => true
  | .activateCancel _ _ => true
  | .svnAdvance _ _ => true
  | .settingsRead _ _ _ => true
  | .settingsWrite _ _ _ _ _ => true
  | .settingsErase _ _ _ => true
  | .mgmtRegRead _ _ _ => true
  | .mgmtRegWrite _ _ _ _ => true
  | .eventRead _ _ _ => true
  | .mgmtEvent _ _ _ _ => true
  | .fabricEventSend _ => true
  | .recoverBegin _ _ _ _ => true
  | .recoverData _ _ _ _ => true
  | .recoverBoot _ _ _ => true
  | .recoverEraseSettings _ _ => true
  | .recoverRemoveFmKey _ _ => true
  | .pwrReqWrite master _ => isMaster master
  | .laybyWake _ => true
  | .parkedWake _ => true
  | .domainFault domain => decide (domain < 36)
  | .resetW pin master => pin || isMaster master
  | .resetM cause => decide (1 ≤ cause) && decide (cause ≤ 6)
  | .masterLoss port => isPort port
  | .timSet master _ => isMaster master
  | .thermalLevel _ => true
  | .avsStep _ _ _ => true
  | .regRead master off _ => isMaster master && isOff off
  | .chipRstRelease _ _ _ _ => true
  | .internalStorageError page _ _ _ => isBlock page
  | .islandClockUnlock island => decide (island < 48)
  | .lanePllLock group => decide (group < 32)
  | .noSignalTimeout group lane => isLane group lane
  | .prbsCheckerSync group lane _ _ _ => isLane group lane
  | .rdvContinuationExpire _ => true
  | .fetchResponseTimeout _ => true
  | .flashOperationDone _ => true
  | .rtbCopyDone => true
  | .packetReceive => true
  | .ackReceive => true
  | .noticeReceive => true
  | .pwyKeyUncorrected => true
  | .cvPartial => true
  | .cvResult => true
  | .cvDone => true
  | .cvWindow => true
  | .cvFail => true
  | .cvRestart => true
  | .cvAbortReq => true
  | .cvAbort => true
  | .cvBroken => true
  | .cvFlood => true
  | .lockGrantReceive => true
  | .pathFaultReceive => true
  | .quarantineExpire => true
  | .dbgChallenge => true
  | .aliveTimeout => true
  | .trialConfirm => true
  | .activationTime => true
  | .autoLaybyIdle => true
  | .laybyQuiet => true
  | .entryTimeout => true
  | .laybyWakeDone => true
  | .wakeTime => true
  | .resetC => true
  | .claimWaitExpire => true
  | .holdoverExpire => true
  | .ppsInEdge => true
  | .ppsMissing => true
  | .ppsOutSecond => true
  | .vddAonLoss => true
  | .forgetChangeEffective => true
  | .memWriteComplete => true
  | .parkedQuiet => true
  | .parkedWakeDone => true

/-- The values that the fields of a control block can hold (R439). -/
def Ctl.fits : Ctl → Bool
  | .none => true
  | .init fec _ width port did tTx resid => decide (fec < 4 ∧ width < 32 ∧ port < 128 ∧ did < 2 ^ 18 ∧ tTx < 2 ^ 32 ∧ resid < 2 ^ 32)
  | .credit a b _ hdrA dataA hdrB dataB => decide (a < 16 ∧ b < 16 ∧ hdrA < 2 ^ 16 ∧ dataA < 2 ^ 16 ∧ hdrB < 2 ^ 16 ∧ dataB < 2 ^ 16)
  | .audit pool at_ freeHdr freeData retHdr retData =>
    decide (pool < 16 ∧ at_ < 2 ^ 12 ∧ freeHdr < 2 ^ 16 ∧ freeData < 2 ^ 16 ∧ retHdr < 2 ^ 16 ∧ retData < 2 ^ 16)
  | .vcbOnOff _ gap => decide (gap < 2 ^ 9)
  | .time num echo _ resid tTx => decide (num < 256 ∧ echo < 256 ∧ resid < 2 ^ 32 ∧ tTx < 2 ^ 64)
  | .timeInfo prio did steps state _ seq estErr =>
    decide (prio < 256 ∧ did < 2 ^ 18 ∧ steps < 256 ∧ state < 4 ∧ seq < 2 ^ 16 ∧ estErr < 2 ^ 32)
  | .drain => true

end Sys2Proof
end

