-- ==== Sys2Proof/Safety.lean ====
section
/-! DEFINITION. Safety.lean: what counts as a safe state and a safe step, in the terms that claims use. -/

namespace Sys2Proof.Machine

/-- The canonical form of on-package memory: addresses strictly rising, no byte listed that an unlisted one equals. -/
def Memory.wf (m : List Host.Cell) : Bool := Sparse.wf memDefault m

/-- No effect of an earlier command is left to be carried out, and no error of one can still be the lowest of its cycle: a command ends with
everything that it brings about. -/
def State.atRest (s : State) : Prop := s.todo = [] ∧ s.caught = []

/-- What a step may answer, in a safe run: a next state that is at rest. -/
def Outcome.safe (o : Host.Outcome State Fault Refusal) : Prop := ∃ t : State, o = .next t ∧ t.atRest

/-- Is a command an event or a request of the blocks that a chip-fatal fault halts (R509)? The rest are register accesses, host links, pins,
resets, the management core, the lane tests of a register, time, and faults. -/
def dataPlane (i : Instr) : Bool :=
  match i with
  | .blockResetComplete .. | .shadowCommitDone .. | .rtbCopyDone | .attnButton .. | .quiesceTimeout .. | .bar4Access ..
  | .bar2ReservedAccess .. | .hostReadCompletion .. | .hostCompletionTimeout .. | .walkStep .. | .arbitrate .. | .arbWatchdog ..
  | .createWq .. | .destroyWq .. | .resetWq .. | .wqDrainComplete .. | .wqInval .. | .createCq ..
  | .destroyCq .. | .modifyCq .. | .createEq .. | .destroyEq .. | .createAs .. | .destroyAs ..
  | .createRegion .. | .destroyRegion .. | .xltInval .. | .xltInvalComplete .. | .createList .. | .destroyList ..
  | .joinTenancy .. | .leaveTenancy .. | .createLqp .. | .destroyLqp .. | .query .. | .wqDb ..
  | .wqDirect .. | .cqDb .. | .eqDb .. | .descFetchComplete .. | .admitDescriptor .. | .modTimerExpire ..
  | .scheduleSegment .. | .payloadReadComplete .. | .packetVerify .. | .packetReceive | .flushReadComplete .. | .continuationTimer ..
  | .ackDelayTimer .. | .ackReceive | .noticeReceive | .retransmitTimer .. | .giveupDeadline .. | .seqPeriodRoll ..
  | .idleSpill .. | .recallComplete .. | .forgetReceiveState .. | .forgetSendState .. | .pwyContextUncorrected .. | .pwyKeyUncorrected
  | .contextLostExpire .. | .lqpContextFetchDone .. | .recv .. | .probe .. | .matchCopyRetry .. | .rdvWaitExpire ..
  | .msgAbandon .. | .listReady .. | .forgetChangeEffective | .rdvContinuationExpire .. | .fetchResponseTimeout .. | .memWriteComplete
  | .convoyBegin .. | .contributionReadDone .. | .contributionRetry .. | .cvPartial | .cvResult | .cvDone
  | .cvWindow | .cvFail | .cvRestart | .cvAbortReq | .cvAbort | .cvBroken
  | .cvFlood | .roundTimer .. | .roundWaitTimeout .. | .windowSendTimer .. | .resultWriteRetry .. | .atomicReadComplete ..
  | .semAcquireTimeout .. | .semKeepExpire .. | .lockGrantReceive | .lockWaitTimeout .. | .lockLeaseExpire .. | .transitForward ..
  | .pathFaultReceive | .quarantineExpire | .outputArbitrate .. | .vcbWaitExpire .. | .ejectWaitExpire .. | .linkGraceExpire ..
  | .flitReceive .. | .replayTimer .. | .creditUpdateTimer .. | .creditRefreshTimer .. | .auditTimer .. | .lanesReady ..
  | .alignTimeout .. | .drainTimeout .. | .timeExchangeTimer .. | .signalDetect .. | .adaptConverged .. | .markerLock ..
  | .signalLost .. | .lockTimeout .. | .laneLoss .. | .trainingFramesRx .. | .pllUnlock .. | .serLimit ..
  | .marginScanDone .. | .eyeRefresh .. | .lanePllLock .. | .noSignalTimeout .. | .prbsCheckerSync .. | .secCmdComplete ..
  | .keyRollTime .. | .oldKeyErase .. | .pipeSelfTest .. | .scrub .. | .eccRead .. | .rowSpareDone ..
  | .autoLaybyIdle | .laybyQuiet | .entryTimeout | .laybyWake .. | .parkedWake .. | .wakeTime
  | .parkedQuiet | .parkedWakeDone | .laybyWakeDone => true
  | _ => false

/-- Is a command a pin, a power rail or a reset, which act also in reset and without power (R87, R573, R601)? -/
def pinOrReset (i : Instr) : Bool :=
  match i with
  | .presenceCounted .. | .absenceCounted .. | .powerFault .. | .powerFaultCleared .. | .perstAssert .. | .resetC | .resetW ..
  | .chipRstRelease .. | .vddAonLoss => true
  | _ => false

/-! ## How a command reaches the state that it acts on -/

/-- A register write of a master to an offset takes effect in `n`: its path is open, lay-by does not hold it, and the register is reached, also
while the device is halted where R509 says so; `n` is the state with the access counted (R41, R509, R565). -/
def State.access (s : State) (m a : Nat) (n : State) : Prop :=
  s.busOpen m = true ∧ s.laybyHolds m (a / 65536) (a % 65536) = false ∧ s.noteAccess m (a / 65536) = n ∧ n.gated (a / 65536) (a % 65536) = false ∧
    (n.halted = false ∨ a / 65536 = Block.fcl.page ∨ a / 8 * 8 = F.CRP_RST_CTL_WARM.addr 0 0)

/-- A host's access to BAR2 takes effect in `n`: its path is open and the device is awake (R562, R565). -/
def State.hostAccess (s : State) (fn : Nat) (n : State) : Prop :=
  s.busOpen fn = true ∧ s.power ≠ psLayby ∧ s.wakingFrom psLayby = false ∧ n = { s with pw.hostAt := s.now }

/-- A host's write to BAR2 takes effect in `n`, where it is counted (R529, R562, R565). -/
def State.hostPost (s : State) (fn : Nat) (n : State) : Prop := ∃ m, s.hostAccess fn m ∧ n = m.tally .hif 7 1 fn

/-- The admin engine of a function begins a command in `n`: it is the one just read from the queue, the opcode is `op`, no command is in
progress, both queues are open, and its reserved bytes are 0 (R127 to R129). -/
def State.begins (s : State) (fn op : Nat) (c : AdminCmd) (n : State) : Prop :=
  ∃ id r b, s.reads.find? (fun e => e.2.use == .admin fn) = some (id, r) ∧ r.result = some (.ok b) ∧ parseAdmin b = c ∧ c.opcode = op ∧
    Tbl.has s.admin fn = false ∧ s.acqOpen fn = true ∧ s.on F.CMD_AQ_CTL_EN fn = true ∧ c.rsvZero = true ∧
    n = (s.takeRead id).1.roll F.CMD_AQ_HEAD_HEAD 1 fn

/-- A management request is served in `n`: it arrives outside recovery, with the fabric manager's authority where `fm` asks for it, and with
on-package memory at hand where `mem` asks for it (R546 to R558). -/
def State.served (s : State) (fm mem : Bool) (path : ReqPath) (n : State) : Prop :=
  s.arrives path = true ∧ s.countReq path = n ∧ n.recovering = false ∧ (fm = true → n.fmPath path = true) ∧ (mem = true → n.parkedNow = false) ∧
    s.pathBusy path = false

/-- A recovery request is served in `n`: in recovery mode, on a host's mailbox or on I3C without a session (R558). -/
def State.recovery (s : State) (path : ReqPath) (n : State) : Prop :=
  s.arrives path = true ∧ s.countReq path = n ∧ n.recovering = true ∧ ((∃ fn, path = .doe fn) ∨ ∃ fm, path = .i3c false fm) ∧
    s.pathBusy path = false

/-- A convoy packet of a kind is taken in `n`: the oldest such packet `rx` is well formed, and came from the parent (`down`) or from a child on
the tree in use of its slot, `c` in `n`; a packet from the parent carries the window on (R304, R306). -/
def State.convoyPacket (s : State) (kind : Nat) (down : Bool) (n : State) (c : CvSlot) (rx : RxPkt) : Prop :=
  ∃ rest c0, takeRx (fun r => r.isCv kind) s.rx = some (rx, rest) ∧ rx.cv.rsvZero = true ∧ rx.cv.ver = 1 ∧
    rx.cv.payloadLen = rx.cvBody.length ∧ rx.cv.payloadLen ≤ 4096 ∧ 1 ≤ rx.cv.ckind ∧ rx.cv.ckind ≤ 10 ∧ Tbl.get s.convoys rx.cv.slot = some c0 ∧ rx.slot = c0.cfg.slot ∧
    c0.state ≠ 3 ∧ rx.cv.alt = (c0.state == 2) ∧ (c0.tree.parent == some rx.port) = down ∧ (down || c0.tree.children.contains rx.port) = true ∧
    n = (if down then ({ s with rx := rest } : State).modCv rx.cv.slot fun c => c.rebase rx.cv.wbase else { s with rx := rest }) ∧
    Tbl.get n.convoys rx.cv.slot = some c

/-- Nothing is left to settle: no effect waits, and no work queue and no admin command exists. -/
def State.still (s : State) : Prop := s.todo = [] ∧ s.caught = [] ∧ s.wqs = [] ∧ s.admin = []

end Sys2Proof.Machine
end

