-- ==== Sys2Proof/Certificates/Slice0/Obligations.lean ====
section
/-! DEFINITION. Certificates/Slice0/Obligations.lean: what the model is to be proved to do, in the order of the spec's sections. A statement about a
command gives the next state that it answers, whole: what the expression does not name is unchanged. `settle` and `calm` carry out the effects that
the command brings about in other blocks; on a state in which none waits, and no operation of a queue can complete, they change nothing. -/

open Sys2Proof Sys2Proof.Machine

/-! ## The machine (all sections) -/

/-- A step takes the command at the front of the queue, the oldest, and carries it out on the state with the rest of the queue. With no command waiting,
one period of `REFCLK_AON` passes, and nothing happens without power: the idle step is the model's choice (log entry 20). -/
def Obligations.StepCarriesOutTheFrontCommand : Prop :=
  (∀ (c : Instr) (rest : List Instr) (s : State), s.pending = c :: rest → step s = exec c { s with pending := rest }) ∧
  (∀ s : State, s.pending = [] → step s = .next s.idle) ∧
  (∀ s : State, s.pending = [] → s.off = true → step s = .next s)

/-- What reset leaves: every field of every register reads its Reset column (R5), device time is 0 (R577), the power state is `FULL` (R561), no queue,
region, address space, operation, pathway, slot or convoy exists, nothing is halted, and on-package memory reads as never written (log entry 5);
reset C is in force until `CHIP_RST_RELEASE` (R597). -/
def Obligations.ResetLeavesTheResetColumns : Prop :=
  (∀ (b : Block) (f : Fld) (i j : Nat), f ∈ allFields b → State.reset.rd f i j = f.rst) ∧
  State.reset.now = 0 ∧ State.reset.nowFrac = 0 ∧ State.reset.power = psFull ∧ State.reset.inReset = true ∧ State.reset.off = false ∧
  State.reset.halted = false ∧ State.reset.pending = [] ∧ State.reset.todo = [] ∧ State.reset.out = [] ∧ State.reset.wqs = [] ∧
  State.reset.cqs = [] ∧ State.reset.eqs = [] ∧ State.reset.spaces = [] ∧ State.reset.regions = [] ∧ State.reset.ops = [] ∧
  State.reset.pws = [] ∧ State.reset.slots = [] ∧ State.reset.convoys = [] ∧ State.reset.lists = [] ∧ State.reset.locks = [] ∧
  Memory.wf State.reset.mem = true ∧ ∀ a : Nat, State.reset.byte a = memDefault

/-- Every command completes: no command faults or is refused, and one whose operands name nothing that the device has changes nothing (R162; the model's
reading, log entry 27). -/
def Obligations.CommandsCompleteWhereTheirOperandsName : Prop :=
  ∀ (c : Instr) (s : State),
    (∃ t : State, exec c s = .next t) ∧ (c.wf = false → exec c s = .next s)

/-- The effects of a command in other blocks are carried out before the command ends: from a state in which none waits, a step that answers a next state
leaves none waiting. -/
def Obligations.StepsLeaveNoEffectWaiting : Prop :=
  ∀ s t : State, s.atRest → step s = .next t → t.atRest

/-- A chip-fatal fault halts the blocks other than `DEV`, `FCL`, `CRP`, `TIM` and `MGT` and the host links: no command of theirs has an effect, and it
changes no state. -/
def Obligations.HaltedBlocksChangeNothing : Prop :=
  ∀ (c : Instr) (s : State), s.halted = true → c.wf = true → dataPlane c = true → exec c s = .next s

/-- In reset C or W, and without power, only pins, rails and resets act: every other command leaves the state as it is. -/
def Obligations.OnlyPinsAndResetsActInReset : Prop :=
  ∀ (c : Instr) (s : State), s.up = false → c.wf = true → pinOrReset c = false → exec c s = .next s

/-- Device time advances with every idle step of a powered device, by 40 ns within 1,100 ppm, and never decreases (R577), while no list is being
fetched; that an idle step is one period of `REFCLK_AON`, and that a list fetch ends in one, is the model's choice (log entries 20 and 54). -/
def Obligations.DeviceTimeAlwaysAdvances : Prop :=
  ∀ s : State, s.pending = [] → s.off = false → s.listFetch = [] →
    ∃ t : State, step s = .next t ∧ t.mem = s.mem ∧
      (s.now * 2 ^ 32 + s.nowFrac) * 1000000 + 40 * 2 ^ 32 * 998900 ≤ (t.now * 2 ^ 32 + t.nowFrac) * 1000000 + 2000000 ∧
      (t.now * 2 ^ 32 + t.nowFrac) * 1000000 ≤ (s.now * 2 ^ 32 + s.nowFrac) * 1000000 + 40 * 2 ^ 32 * 1001100 ∧
      s.now * 2 ^ 32 + s.nowFrac < t.now * 2 ^ 32 + t.nowFrac ∧ t.nowFrac < 2 ^ 32

/-! ## Register accesses and errors (02, 16) -/

/-- Register writes (R34, R35, R53, R54): what a write to BAR0 that reaches its page comes to. A narrow or unaligned write is discarded and recorded as
index 30 of its page; so is one to a reserved page, in the `DEV` page, and one to a global register by a master that may not; a foreign function
window discards it in silence. An accepted write takes effect: `putReg` writes each field of the register by its access code (R2), `writeHdr` acts
on the common header, and `writeBlock` on the registers of each block. Answers a next state (`exec ... = .next ...`): `regWrite`. -/
def Obligations.RegisterWriteTakesEffectOrIsRefused : Prop :=
  (∀ (s : State) (x : Place) (w : Put) (f : Fld) (j : Nat),
    (w.has f = false → s.putField x w f j = s) ∧
    (w.has f = true → (f.acc = .rw → s.putField x w f j = s.wr f (w.onto f (s.rd f (x.index f) j)) (x.index f) j) ∧
      (f.acc = .rws → f ≠ F.ARB_PRIr_PRIO → s.putField x w f j = s.wrShadow f (w.onto f (s.shadow f (x.index f) j)) (x.index f) j) ∧
      (f.acc = .w1c → s.putField x w f j = s.wr f (s.rd f (x.index f) j - (s.rd f (x.index f) j &&& w.val f)) (x.index f) j) ∧
      (f.acc = .w1s → s.putField x w f j = s.wr f (s.rd f (x.index f) j ||| w.val f) (x.index f) j) ∧
      (f.acc = .ro ∨ f.acc = .wo ∨ f.acc = .rc → s.putField x w f j = s))) ∧
  ∀ (s n : State) (m a size v : Nat), isMaster m = true → isOff a = true → s.atRest → s.access m a n →
    (goodAccess a size = false →
      exec (.regWrite m a size v) s = .next (n.refuse m (if (place a).isNone then 0 else a / 65536) a true).calm) ∧
    (goodAccess a size = true → place (a / 8 * 8) = none → exec (.regWrite m a size v) s = .next (n.refuse m 0 a true).calm) ∧
    ∀ x, goodAccess a size = true → place (a / 8 * 8) = some x →
      (x.win = true → mayWindow m x.inst = false → exec (.regWrite m a size v) s = .next n) ∧
      (x.win = false → n.mayWrite m = false → exec (.regWrite m a size v) s = .next (n.refuse m x.p a true).calm) ∧
      ((x.win = true ∧ mayWindow m x.inst = true) ∨ (x.win = false ∧ n.mayWrite m = true) → ∀ w : Put, w = putOf a size v →
        (x.off < 0x100 → exec (.regWrite m a size v) s = .next (n.writeHdr m x w).calm) ∧
        (0x800 ≤ x.off → x.off < 0x1000 → x.off ≠ 0x810 → x.b.arb = true → exec (.regWrite m a size v) s = .next (n.putReg x w)) ∧
        (x.off = 0x810 → x.b.arb = true → exec (.regWrite m a size v) s = .next (arbFencedClear x.p (w.val F.ARB_FENCED_FENCED) n).calm) ∧
        (0x100 ≤ x.off → x.b.arb = false ∨ x.off < 0x800 ∨ 0x1000 ≤ x.off →
          exec (.regWrite m a size v) s = .next (n.writeBlock m a size v x w).calm ∧
          ([Block.mgt, .txe, .rxe, .pwy, .xbr].contains x.b = true → exec (.regWrite m a size v) s = .next (n.putReg x w))))

/-- Register reads (R33 to R35, R54, R414): a read that reaches its page is answered: with 0 where it is narrow or unaligned (and recorded), in a
reserved page or in a foreign window; else with the register, whose read-to-clear fields in the half read are then cleared. Answers a next state
(`exec ... = .next ...`): `regRead`. -/
def Obligations.RegisterReadIsAnswered : Prop :=
  ∀ (s n : State) (m a size : Nat), isMaster m = true → isOff a = true → s.atRest → s.access m a n →
    (n.halted = false ∨ haltRead a = false) →
    (goodAccess a size = false → exec (.regRead m a size) s =
      .next ((n.refuse m (if (place a).isNone then 0 else a / 65536) a false).emit (.readReply m a 0)).calm) ∧
    (goodAccess a size = true → place (a / 8 * 8) = none → exec (.regRead m a size) s = .next (n.emit (.readReply m a 0))) ∧
    ∀ x, goodAccess a size = true → place (a / 8 * 8) = some x → semOf a = none →
      (x.win = true → mayWindow m x.inst = false → exec (.regRead m a size) s = .next (n.emit (.readReply m a 0))) ∧
      (x.win = false ∨ mayWindow m x.inst = true →
        ∀ t w lo, (n.raiseHighs x).readPlace x = (t, w) → lo = (if size = 8 ∨ a % 8 = 0 then 0 else 32) →
          exec (.regRead m a size) s =
            .next ((t.clearRead x lo (if size = 8 then 64 else lo + 32)).emit (.readReply m a (partOf a size w))).calm)

/-- R41: while a block's power domain is gated or in retention, or the block is in reset B, a read of a block-specific register returns 0, a write is
discarded, whichever command writes (`regRow` is the access of each of them), and `GATED_ACCESS` is set; the header (offsets below 0x100) remains
accessible. Answers a next state (`exec ... = .next ...`): `regRead`, `regWrite`. -/
def Obligations.GatedBlockAnswersZeroAndDiscardsWrites : Prop :=
  (∀ (s : State) (p o : Nat), s.gated p o = true ↔
    0x100 ≤ o ∧ (s.pageDom p = 1 ∨ s.pageDom p = 2 ∨ s.on F.BLK_STAT_RESET_BUSY p = true)) ∧
  ∀ (s n : State) (m a size v : Nat), isMaster m = true → isOff a = true → s.atRest → s.busOpen m = true →
    s.laybyHolds m (a / 65536) (a % 65536) = false → s.noteAccess m (a / 65536) = n → n.gated (a / 65536) (a % 65536) = true →
    exec (.regRead m a size) s = .next ((n.wr F.BLK_STAT_GATED_ACCESS 1 (a / 65536)).emit (.readReply m a 0)) ∧
    exec (.regWrite m a size v) s = .next (n.wr F.BLK_STAT_GATED_ACCESS 1 (a / 65536)) ∧
    ∀ (i : Instr) (f : State → State), regRow i m a f s = n.wr F.BLK_STAT_GATED_ACCESS 1 (a / 65536)

/-- Reset B (R38, R39, R574): a write of 1 to `BLK_CTL.RST` starts it where the page supports it and is disabled or fenced, and is recorded as index 30
otherwise; at its end the block's caches and in-flight state are discarded, no field of the page that lists B holds anything but its reset value, no
shadow copy of the page differs from the value in effect, no counting window of the page is open, and `RESET_BUSY` is 0. Answers a next state (`exec
... = .next ...`): `blkRst`, `blockResetComplete`. -/
def Obligations.BlockResetStartsAndCompletes : Prop :=
  (∀ (s n : State) (m p : Nat) (b : Block) (k : Nat), isMaster m = true → s.atRest → s.access m (F.BLK_CTL_RST.addr p 0) n →
    pageBlock p = some (b, k) →
    exec (.blkRst m p) s = .next (if n.mayWrite m && b.brst && (!n.on F.BLK_CTL_EN p || n.fenced p) then n.wr F.BLK_STAT_RESET_BUSY 1 p
      else (n.refuse m p (F.BLK_CTL_RST.addr p 0) true).calm)) ∧
  ∀ (s : State) (p : Nat) (b : Block) (k : Nat), s.runs = true → pageBlock p = some (b, k) → s.on F.BLK_STAT_RESET_BUSY p = true →
    ∃ u : State, exec (.blockResetComplete p) s = .next u.settle ∧ u = ((s.blockDiscard b k).clearB p).wr F.BLK_STAT_RESET_BUSY 0 p ∧
      (∀ e ∈ u.regs, ∀ c f i j, fieldAt e.1 = some (c, f, i, j) → Fld.addr f i j / 65536 = p → f.clr.contains .b = false) ∧
      (∀ e ∈ u.sh.vals, keyPage e.1 ≠ p) ∧ Tbl.get u.sh.commits p = none ∧ ∀ e ∈ u.wins, e.1.1 ≠ p

/-- R40: a write of 1 to `BLK_CTL.FENCE` fences the block; a write of 0 is refused, and the bit stays 1, while an `ERR_STAT` bit is set whose reaction
fences the whole block, and lifts the fence otherwise. Answers a next state (`exec ... = .next ...`): `blkFenceWrite`. -/
def Obligations.FenceIsLiftedOnlyWithoutAFencingError : Prop :=
  (∀ (s : State) (p : Nat) (b : Block) (k : Nat), pageBlock p = some (b, k) →
    (s.fenceHeld p = true ↔ ∃ i, i < 32 ∧ bitOf (s.rd F.ERR_STAT_ERR p) i = true ∧
      (bitsOf (s.rd F.ERR_CLASS_REACT p) (2 * i) 2 = 2 ∨
        (bitsOf (s.rd F.ERR_CLASS_REACT p) (2 * i) 2 = 1 ∧ b ≠ .mem ∧ (b.units = 0 ∨ perUnit p i = false))))) ∧
  ∀ (s n : State) (m p : Nat) (b : Block) (k : Nat), isMaster m = true → s.atRest → s.access m (F.BLK_CTL_FENCE.addr p 0) n →
    pageBlock p = some (b, k) → n.mayWrite m = true →
    (b.unfenceable = false → n.fenced p = false →
      exec (.blkFenceWrite m p true) s = .next ((n.wr F.BLK_CTL_FENCE 1 p).later (.fence p)).settle) ∧
    (n.fenced p = true → n.fenceHeld p = true → exec (.blkFenceWrite m p false) s = .next n) ∧
    (n.fenced p = true → n.fenceHeld p = false →
      exec (.blkFenceWrite m p false) s = .next (((n.wr F.BLK_CTL_FENCE 0 p).wr F.BLK_STAT_FAULT_FENCED 0 p).later (.unfence p)).settle)

/-- Commits and discards begin (R47, R49, R365): a `CMT` takes the page's shadow copies and sets `BUSY`, a `DISCARD` reloads every one of them (the road
book then copies its active bank); while `BUSY` each is remembered once, in the order of the first writes. Commits end (R48, R365): refused by the
block's check, no value takes effect, the shadow copies stay, `REFUSED` and `REFUSE_CODE` are set; accepted, the new values are in effect and
`REFUSED` is clear; either way `BUSY` ends and `COUNT` goes up by one, for the road book only after the active bank has been copied. Answers a next
state (`exec ... = .next ...`): `shadowCmt`, `shadowDiscard`, `shadowCommitDone`, `rtbCopyDone`. -/
def Obligations.CommitsAndDiscardsBeginAndEnd : Prop :=
  (∀ (s n : State) (m p : Nat) (b : Block) (k : Nat), isMaster m = true → s.atRest → s.access m (F.SHADOW_CMT_CMT.addr p 0) n →
    pageBlock p = some (b, k) → n.mayWrite m = true →
    (Tbl.get n.sh.commits p = none → ∀ c : Commit, c = { snap := n.sh.vals.filter fun e => keyPage e.1 == p, slot := n.rd F.COL_SLOT_SEL_SLOT } →
      exec (.shadowCmt m p) s = .next (State.wr { n with sh.commits := Tbl.set n.sh.commits p c } F.SHADOW_STAT_BUSY 1 p)) ∧
    (Tbl.get n.sh.commits p = none → p ≠ Block.rtb.page →
      exec (.shadowDiscard m p) s = .next { n with sh.vals := n.sh.vals.filter fun e => keyPage e.1 != p }) ∧
    (Tbl.get n.sh.commits p = none → p = Block.rtb.page → exec (.shadowDiscard m p) s = .next (State.wr { n with
      sh := { n.sh with vals := n.sh.vals.filter (fun e => keyPage e.1 != p), commits := Tbl.set n.sh.commits p { phase := 2 } } }
      F.SHADOW_STAT_BUSY 1 p)) ∧
    ∀ c, Tbl.get n.sh.commits p = some c →
      exec (.shadowCmt m p) s = .next (if c.next.contains true then n
        else { n with sh.commits := Tbl.set n.sh.commits p { c with next := c.next ++ [true] } }) ∧
      exec (.shadowDiscard m p) s = .next (if c.next.contains false then n
        else { n with sh.commits := Tbl.set n.sh.commits p { c with next := c.next ++ [false] } })) ∧
  ((∀ (s a : State) (p : Nat) (b : Block) (k : Nat) (c : Commit), s.runs = true → pageBlock p = some (b, k) → Tbl.get s.sh.commits p = some c →
    c.phase = 0 → c.next = [] → s.applySnap c = a → s.commitWaits a p c = false →
    (commitCode s a p c ≠ 0 → exec (.shadowCommitDone p) s = .next (((({ (s.wr F.SHADOW_STAT_REFUSED 1 p).wr F.SHADOW_STAT_REFUSE_CODE
      (commitCode s a p c) p with sh.commits := Tbl.del s.sh.commits p } : State).wr F.SHADOW_STAT_BUSY 0 p).roll F.SHADOW_STAT_COUNT 1 p)).settle) ∧
    (commitCode s a p c = 0 → p ≠ Block.rtb.page → ∀ t, (committed s a p c).wr F.SHADOW_STAT_REFUSED 0 p = t →
      exec (.shadowCommitDone p) s = .next ((({ t with sh.commits := Tbl.del t.sh.commits p } : State).wr F.SHADOW_STAT_BUSY 0 p).roll
        F.SHADOW_STAT_COUNT 1 p).settle) ∧
    (commitCode s a p c = 0 → p = Block.rtb.page → ∀ t, (committed s a p c).wr F.SHADOW_STAT_REFUSED 0 p = t →
      exec (.shadowCommitDone p) s = .next ({ t with sh.commits := Tbl.set t.sh.commits p { c with phase := 1, snap := [] } } : State).settle)) ∧
  ∀ (s t : State) (c : Commit), s.runs = true → Tbl.get s.sh.commits Block.rtb.page = some c → c.phase ≠ 0 → c.next = [] → s.copyBank = t →
    exec .rtbCopyDone s = .next ((({ t with sh.commits := Tbl.del t.sh.commits Block.rtb.page } : State).wr F.SHADOW_STAT_BUSY 0
      Block.rtb.page).roll F.SHADOW_STAT_COUNT 1 Block.rtb.page).calm)

/-- R59: a commit of `DEV_DID` is accepted only while the value in effect is 0x3FFFF; any later one is refused with code 0x01, and the value in effect
stays. Answers a next state (`exec ... = .next ...`): `shadowCommitDone`. -/
def Obligations.DeviceIdentifierIsCommittedOnce : Prop :=
  ∀ (s : State) (c : Commit), s.runs = true → Tbl.get s.sh.commits 0 = some c → c.phase = 0 → c.next = [] →
    (s.did ≠ 0x3FFFF → exec (.shadowCommitDone 0) s = .next (((({ (s.wr F.SHADOW_STAT_REFUSED 1).wr F.SHADOW_STAT_REFUSE_CODE 1 with
      sh.commits := Tbl.del s.sh.commits 0 } : State).wr F.SHADOW_STAT_BUSY 0).roll F.SHADOW_STAT_COUNT)).settle) ∧
    (s.did = 0x3FFFF → ∀ a, (s.applySnap c).wr F.SHADOW_STAT_REFUSED 0 = a → exec (.shadowCommitDone 0) s =
      .next ((({ a with sh.commits := Tbl.del a.sh.commits 0 } : State).wr F.SHADOW_STAT_BUSY 0).roll F.SHADOW_STAT_COUNT).settle)

/-- R46: a write of 1 to `ERR_FIRST_INFO.VALID` always clears `VALID` and `MORE` and so re-arms the capture; it changes nothing else, `ERR_STAT` among
it. R45: the capture registers are loaded only while `VALID` is 0: with address, master, access type, index and time; any error while `VALID` is 1
sets `MORE` and leaves the capture as it was, unless it was raised by the same command and has the lower index. Answers a next state (`exec ... =
.next ...`): `errFirstRearm`. -/
def Obligations.FirstErrorIsCapturedKeptAndRearmed : Prop :=
  (∀ (s n : State) (m p : Nat) (b : Block) (k : Nat), isMaster m = true → s.atRest → s.access m (F.ERR_FIRST_INFO_VALID.addr p 0) n →
    pageBlock p = some (b, k) → n.mayWrite m = true →
    exec (.errFirstRearm m p) s = .next ((n.wr F.ERR_FIRST_INFO_VALID 0 p).wr F.ERR_FIRST_INFO_MORE 0 p)) ∧
  (∀ (s : State) (p i : Nat) (e : ErrAt),
    (s.on F.ERR_FIRST_INFO_VALID p = true → p ∉ s.caught ∨ s.rd F.ERR_FIRST_INFO_INDEX p ≤ i → s.capture p i e = s.wr F.ERR_FIRST_INFO_MORE 1 p) ∧
    (s.on F.ERR_FIRST_INFO_VALID p = true → p ∈ s.caught → i < s.rd F.ERR_FIRST_INFO_INDEX p →
      s.capture p i e = (s.loadCapture p i e).wr F.ERR_FIRST_INFO_MORE 1 p) ∧
    (s.on F.ERR_FIRST_INFO_VALID p = false → s.capture p i e = { s.loadCapture p i e with caught := p :: s.caught }) ∧
    (s.loadCapture p i e =
      ((((((s.wr F.ERR_FIRST_ADDR_ADDR e.addr p).wr F.ERR_FIRST_INFO_MASTER (e.master.getD (blockMaster p)) p).wr F.ERR_FIRST_INFO_ACCESS
        e.access p).wr F.ERR_FIRST_INFO_INDEX i p).wr F.ERR_FIRST_INFO_REMOTE_EPA (if e.master = some 0x80 then e.remote else 0) p).wr
        F.ERR_FIRST_TIME_TIME s.now p).wr F.ERR_FIRST_INFO_VALID 1 p))

/-- Error status, windows and storage errors (R498, R499, R519): a write of 1 to an `ERR_STAT` bit clears it unless its cause persists; a counting
window that reaches its length closes; an internal storage error of a block is recorded with the identity of the unit, and what was stored there is
lost. Answers a next state (`exec ... = .next ...`): `errStatClear`, `errWindowExpire`, `internalStorageError`. -/
def Obligations.ErrorStatusIsClearedAndErrorsAreRecorded : Prop :=
  (∀ (s n : State) (m p mask : Nat) (b : Block) (k : Nat), isMaster m = true → s.atRest → s.access m (F.ERR_STAT_ERR.addr p 0) n →
    pageBlock p = some (b, k) → n.mayWrite m = true →
    exec (.errStatClear m p mask) s = .next ((List.range 32).foldl (fun (t : State) i =>
      if bitOf mask i && !t.persists p i then t.wr F.ERR_STAT_ERR (clearBit (t.rd F.ERR_STAT_ERR p) i) p else t) n)) ∧
  (∀ (s : State) (p u : Nat) (b : Block) (k : Nat) (w : Win), s.up = true → s.atRest → pageBlock p = some (b, k) → Tbl.get s.wins (p, u) = some w →
    exec (.errWindowExpire p u) s =
      .next { s.reach (w.start + 1000 * s.rd F.ERR_WINDOW_LENGTH p) with wins := Tbl.del s.wins (p, u) }) ∧
  ∀ (s : State) (p idx unit x : Nat) (b : Block) (k : Nat), s.up = true → s.halted = false → pageBlock p = some (b, k) →
    (storageIndices b).contains idx = true →
    (b ≠ .pwy → b ≠ .hif → ¬(b = .crp ∧ idx = 6) → exec (.internalStorageError p idx unit x) s =
      .next ((s.err p idx { access := 0xB, master := some (unitMaster p unit) }).storageLost b k idx x).settle) ∧
    (b = .hif → ∀ t, s.err p idx { access := 0xB, master := some (unitMaster p unit) } = t → exec (.internalStorageError p idx unit x) s =
      .next (if idx = 12 then t.aerUnc k aeInternal 0 else t.aerCor k acInternal).settle)

/-- Fault collector commands (R497, R515, R516, R508): latches clear unless their cause stands, the first record is re-armed, a replacement reason
clears unless it still holds (the last one raises `SVC_REQ_N`), firmware raises reason 10 with its code, and unit fences are written. The heartbeat
(R517): a kick by the management core restarts the timer and, after a stop, drives `ALIVE` again; when the timer runs out, `ALIVE` stops, index 2 of
`FCL` is recorded, and with `AUTO_M` a reset M with cause 4 follows. Answers a next state (`exec ... = .next ...`): `fclStatClear`, `fclFirstRearm`,
`svcReasonClear`, `fclSvcReq`, `unitFenceWrite`, `aliveKick`, `aliveTimeout`. -/
def Obligations.FaultCollectorIsWrittenAndTheHeartbeatKept : Prop :=
  ((∀ (s n : State) (m mask : Nat), isMaster m = true → s.atRest → s.access m (F.FCL_STAT_STAT.addr 0 0) n → n.mayWrite m = true →
    exec (.fclStatClear m 0 mask) s = .next ((List.range 64).foldl (fun (t : State) b =>
      if bitOf mask b && !n.statHeld b then t.clrBit F.FCL_STAT_STAT b else t) n)) ∧
  (∀ (s n : State) (m : Nat), isMaster m = true → s.atRest → s.access m (F.FCL_FIRST_VALID.addr 0 0) n → n.mayWrite m = true →
    exec (.fclFirstRearm m) s = .next (n.wr F.FCL_FIRST_VALID 0)) ∧
  (∀ (s n t : State) (m mask : Nat), isMaster m = true → s.atRest → s.access m (F.FCL_SVC_STAT_REASONS.addr 0 0) n → n.mayWrite m = true →
    (List.range F.FCL_SVC_STAT_REASONS.width).foldl (fun (t : State) b =>
      if bitOf mask b && !n.reasonHeld (b + 1) then t.clrBit F.FCL_SVC_STAT_REASONS b else t) n = t →
    exec (.svcReasonClear m mask) s =
      .next (if n.on F.FCL_SVC_STAT_REASONS && !t.on F.FCL_SVC_STAT_REASONS then t.emit (.pin .svcReqN true) else t)) ∧
  (∀ (s n : State) (m code : Nat), isMaster m = true → s.atRest → s.access m (F.FCL_SVC_REQ_RAISE.addr 0 0) n → n.mayWrite m = true →
    exec (.fclSvcReq m code) s = .next ((n.wr F.FCL_SVC_STAT_FW_CODE code).svc 10).calm) ∧
  ∀ (s n : State) (m mask p g : Nat), isMaster m = true → s.atRest → s.access m (F.FCL_UNIT_FENCE_FENCE.addr 0 0) n → n.mayWrite m = true →
    n.rd F.FCL_UNIT_SEL_PAGE = p → pageBlock p = some (.lan, g) →
    exec (.unitFenceWrite m mask) s = .next ((((n.writeUnit p 0 (bitOf mask 0)).writeUnit p 1 (bitOf mask 1)).writeUnit p 2 (bitOf mask 2)).writeUnit
      p 3 (bitOf mask 3)).calm) ∧
  ((∀ (s n : State), s.atRest → s.access 4 (F.FCL_ALIVE_KICK.addr 0 0) n →
    exec (.aliveKick 4) s = .next (if n.on F.FCL_ALIVE_STOPPED && !n.halted
      then ((State.tally { n with aliveAt := n.now } .mgt 4).wr F.FCL_ALIVE_STOPPED 0).emit (.pin .alive true)
      else State.tally { n with aliveAt := n.now } .mgt 4)) ∧
  ∀ (s t : State), s.up = true → s.halted = false → s.on F.FCL_ALIVE_STOPPED = false →
    (((s.reach (s.aliveAt + 1000000 * (if s.rd F.FCL_ALIVE_TMO_MS = 0 then 1 else s.rd F.FCL_ALIVE_TMO_MS))).wr F.FCL_ALIVE_STOPPED 1).emit
      (.pin .alive false)).err 1 2 = t →
    exec .aliveTimeout s = .next (if t.on F.FCL_ALIVE_AUTO_M then t.later (.resetM 4) else t).calm)

/-! ## Host ports, translation and arbiters (03, 04, 12) -/

/-- A slot is filled, powered and attached (R61, R86, R87): presence in an `EMPTY` slot gives `PRESENT_OFF` with the event `INSERTED`, and power where
`AUTO_POWER` is 1; `POWER_ON` powers a slot in `PRESENT_OFF` and is recorded as index 30 in any other state; a data link that comes up within the
limits in force attaches a slot in `POWERING`. A pin is seen also where the device does not run. Answers a next state (`exec ... = .next ...`):
`presenceCounted`, `powerOn`, `hifLinkUp`. -/
def Obligations.SlotIsFilledPoweredAndAttached : Prop :=
  (∀ (s u w t : State) (fn : Nat), isFn fn = true → s.runs = true → s.routerOnly = false → (s.hf fn).present = false →
    s.reach ((s.hf fn).pinAt + ms (orWhenZero (s.rd F.HIF_SLOT_TMO_DEBOUNCE fn) 1)) = u →
    (u.modHf fn fun h => { h with present := true, pinAt := u.now }) = w → w.slot fn = slEmpty → w.hifLive fn = true →
    (w.setSlot fn slOff).slotEvent F.HIF_SLOT_STAT_INSERTED fn = t →
    exec (.presenceCounted fn) s = .next (if t.on F.HIF_SLOT_CTL_AUTO_POWER fn then t.slotPower fn else t).settle) ∧
  (∀ (s : State) (fn : Nat), isFn fn = true → s.runs = false →
    exec (.presenceCounted fn) s = .next (s.modHf fn fun h => { h with present := true }).settle) ∧
  (∀ (s n : State) (m fn : Nat), isMaster m = true → isFn fn = true → s.access m (F.HIF_SLOT_CTL_POWER_ON.addr fn 0) n → n.mayWrite m = true →
    (n.slot fn = slOff → ∀ t, n.setSlot fn slPowering = t →
      exec (.powerOn m fn) s = .next (if (t.hf fn).pwrFlt then t.slotFault fn else t).settle) ∧
    (n.slot fn ≠ slOff → exec (.powerOn m fn) s = .next (n.refuse m (8 + fn) (F.HIF_SLOT_CTL_POWER_ON.addr fn 0) true).settle)) ∧
  ∀ (s : State) (fn rate width : Nat) (flit : Bool), isFn fn = true → s.up = true → s.mayTrain fn rate width flit = true →
    exec (.hifLinkUp fn rate width flit) s = .next ((((((s.wr F.HIF_LINK_STAT_RATE rate fn).wr F.HIF_LINK_STAT_WIDTH width fn).wr
      F.HIF_LINK_STAT_FLIT (b2n flit) fn).wr F.HIF_LINK_STAT_UP 1 fn).modHf fn fun h => { h with up := true }).setSlot fn slAttached).settle

/-- An orderly removal (R87, R91): the button with `BUTTON_EN`, or `REMOVE_REQ`, takes an `ATTACHED` slot to `QUIESCING`, where the function is asked to
quiesce; `CANCEL`, or a second press within 5 s of the first, takes it back to `ATTACHED`; `QUIESCED`, `FORCE_OFF` and the timeout (recorded, with
its event) take it to `DETACHING`. Surprise removal and power faults (R87): absence of a powered sled, and `PWR_FLT_N` low while powered, set their
event, are recorded as index 1 or 2 and take the slot to `DETACHING`; absence leaves `EMPTY` of `PRESENT_OFF` and of `FAULT`; a fault that has been
gone for the debounce time leaves `PRESENT_OFF`. Answers a next state (`exec ... = .next ...`): `attnButton`, `removeReq`, `cancel`, `forceOff`,
`quiesced`, `quiesceTimeout`, `absenceCounted`, `powerFault`, `powerFaultCleared`. -/
def Obligations.SlotIsRemovedOrLost : Prop :=
  ((∀ (s u n : State) (fn : Nat), isFn fn = true → s.runs = true → (((s.hf fn).pressAt.map fun t => s.reach (t + 20000000)).getD s) = u →
    (u.modHf fn fun h => { h with pressAt := some u.now }) = n → n.routerOnly = false → n.on F.HIF_SLOT_CTL_BUTTON_EN fn = true →
    (n.slot fn = slAttached → exec (.attnButton fn) s = .next (n.quiesce fn (some n.now)).settle) ∧
    (∀ t, n.slot fn = slQuiescing → (n.hf fn).buttonAt = some t → n.now ≤ t + 5000000000 →
      exec (.attnButton fn) s = .next (((n.modHf fn fun h => { h with buttonAt := none, quiesceAt := none }).wr F.HIF_FN_STAT_QUIESCE_REQ 0
        fn).setSlot fn slAttached).settle)) ∧
  (∀ (s n : State) (m fn : Nat), isMaster m = true → isFn fn = true → n.mayWrite m = true →
    (s.access m (F.HIF_SLOT_CTL_REMOVE_REQ.addr fn 0) n → n.slot fn = slAttached →
      exec (.removeReq m fn) s = .next (n.quiesce fn none).settle) ∧
    (s.access m (F.HIF_SLOT_CTL_CANCEL.addr fn 0) n → n.slot fn = slQuiescing →
      exec (.cancel m fn) s = .next (((n.modHf fn fun h => { h with buttonAt := none, quiesceAt := none }).wr F.HIF_FN_STAT_QUIESCE_REQ 0
        fn).setSlot fn slAttached).settle) ∧
    (s.access m (F.HIF_SLOT_CTL_FORCE_OFF.addr fn 0) n → n.slot fn = slQuiescing →
      exec (.forceOff m fn) s = .next (n.detach fn 1).settle)) ∧
  (∀ (s n : State) (m fn : Nat), isMaster m = true → isFn fn = true → mayWindow m fn = true → s.access m (F.HIF_FN_CTL_QUIESCED.addr fn 0) n →
    (n.wr F.HIF_FN_CTL_QUIESCED 1 fn).slot fn = slQuiescing →
    exec (.quiesced m fn) s = .next ((n.wr F.HIF_FN_CTL_QUIESCED 1 fn).detach fn 1).settle) ∧
  ∀ (s : State) (fn t : Nat), isFn fn = true → s.runs = true → (s.hf fn).quiesceAt = some t → s.slot fn = slQuiescing →
    exec (.quiesceTimeout fn) s =
      .next ((((s.reach t).slotEvent F.HIF_SLOT_STAT_QUIESCE_TIMEOUT fn).err (8 + fn) 10).detach fn 1).settle) ∧
  ((∀ (s u t : State) (fn : Nat), isFn fn = true → s.runs = true → s.routerOnly = false → (s.hf fn).present = true →
    s.reach ((s.hf fn).pinAt + us 100) = u → (u.modHf fn fun h => { h with present := false, pinAt := u.now }) = t →
    (t.slot fn = slOff ∨ t.slot fn = slFault → exec (.absenceCounted fn) s = .next (t.setSlot fn slEmpty).settle) ∧
    (2 ≤ t.slot fn → t.slot fn ≤ 4 → exec (.absenceCounted fn) s =
      .next (((t.slotEvent F.HIF_SLOT_STAT_REMOVED_SURPRISE fn).err (8 + fn) 1).detach fn 2).settle)) ∧
  (∀ (s t : State) (fn : Nat), isFn fn = true → s.runs = true → s.routerOnly = false → (s.modHf fn fun h => { h with pwrFlt := true, fltAt := s.now }) = t →
    exec (.powerFault fn) s = .next (if t.powered fn
      then ((t.slotEvent F.HIF_SLOT_STAT_POWER_FAULT fn).err (8 + fn) 2).detach fn 3 else t).settle) ∧
  ∀ (s t : State) (fn : Nat), isFn fn = true → s.runs = true → s.routerOnly = false →
    ((s.reach ((s.hf fn).fltAt + ms (orWhenZero (s.rd F.HIF_SLOT_TMO_DEBOUNCE fn) 1))).modHf fn fun h => { h with pwrFlt := false }) = t →
    exec (.powerFaultCleared fn) s = .next (if t.slot fn = slFault ∧ (t.hf fn).present = true then t.setSlot fn slOff else t).settle)

/-- Reset H (R88 to R90): `PERST_N` low and an FLR with the link up start it, a further trigger is absorbed by one in progress or waiting; a link that
goes down takes an `ATTACHED` slot to `POWERING` and starts it, with index 0 recorded unless `PERST_N` is low; at its end the objects and windows of
the function are gone and the endpoint hold starts; the hold ends at its time. Answers a next state (`exec ... = .next ...`): `perstAssert`, `flr`,
`hifLinkDown`, `resetHComplete`, `endpointHoldEnd`. -/
def Obligations.ResetOfAFunctionRunsOnce : Prop :=
  (∀ (s : State) (fn : Nat), ((s.hf fn).resetH = true ∨ (s.hf fn).resetWait = true → s.startResetH fn = s) ∧
    ((s.hf fn).resetH = false → (s.hf fn).resetWait = false → s.rd F.CRP_PWR_STAT_STATE = 0 → s.startResetH fn = s.beginResetH fn)) ∧
  (∀ (s t : State) (fn : Nat), isFn fn = true → s.runs = true → s.routerOnly = false → (s.modHf fn fun h => { h with perst := true }) = t →
    exec (.perstAssert fn true) s = .next (t.startResetH fn).settle) ∧
  (∀ (s : State) (fn : Nat), isFn fn = true → s.runs = true → s.routerOnly = false →
    exec (.perstAssert fn false) s = .next (s.modHf fn fun h => { h with perst := false }).settle) ∧
  (∀ (s : State) (fn : Nat), isFn fn = true → s.up = true → s.routerOnly = false → s.linkUp fn = true →
    exec (.flr fn) s = .next (s.startResetH fn).settle) ∧
  (∀ (s t : State) (fn : Nat), isFn fn = true → s.up = true → s.routerOnly = false → s.linkUp fn = true → s.slot fn = slAttached →
    (s.cutHostLink fn).ideCheck fn = t →
    exec (.hifLinkDown fn) s = .next (((if (t.hf fn).perst then t else t.err (8 + fn) 0).setSlot fn slPowering).startResetH fn).settle) ∧
  (∀ (s t : State) (fn : Nat), isFn fn = true → s.up = true → (s.hf fn).resetH = true → ((s.clearFn fn).clearConfig fn) = t →
    exec (.resetHComplete fn) s =
      .next ((if (t.hf fn).fencedAway then t.wr F.HIF_FN_STAT_EP_HOLD 1 fn else t.holdEndpoint fn).slotDetached fn).settle) ∧
  ∀ (s : State) (fn : Nat), isFn fn = true → s.up = true → s.on F.HIF_FN_STAT_EP_HOLD fn = true → (s.hf fn).resetH = false →
    (s.hf fn).fencedAway = false →
    exec (.endpointHoldEnd fn) s = .next ((s.reach (Tbl.getD s.holds fn 0)).wr F.HIF_FN_STAT_EP_HOLD 0 fn).settle

/-- What a host configures of its function (R69, R75, R76, R79, R80, R84): D3hot and Bus Master Enable 0 hold its traffic, and their end lets what was
held go, in order; `REQUIRE` halts the function while its stream is not Secure; a pending bit is sent once when its vector may go. Answers a next
state (`exec ... = .next ...`): `fnDstateChange`, `bmeChange`, `ideRequire`, `msixUnmask`. -/
def Obligations.FunctionIsConfiguredByItsHost : Prop :=
  (∀ (s : State) (fn : Nat), isFn fn = true → s.up = true → s.routerOnly = false → s.linkUp fn = true →
    exec (.fnDstateChange fn true) s = .next (s.wr F.HIF_FN_STAT_DSTATE 3 fn).settle ∧
    ∀ t, ((s.wr F.HIF_FN_STAT_DSTATE 0 fn).release fn).issueReads fn = t →
      exec (.fnDstateChange fn false) s = .next (if t.rd F.CRP_PWR_STAT_STATE = 2 then t.later (.wake 6) else t).settle) ∧
  (∀ (s u : State) (fn mps mrrs : Nat) (ops : List CfgOp), isFn fn = true → mpsOk mps = true → mrrsOk mrrs = true → s.up = true →
    cfgAccess fn ops s = u → u.routerOnly = false → u.linkUp fn = true →
    (∀ t, ((u.wr F.HIF_FN_STAT_BME 1 fn).modHf fn fun h => { h with mps := mps, mrrs := mrrs }) = t →
      exec (.bmeChange fn true ⟨mps, mrrs⟩ ops) s = .next ((t.release fn).issueReads fn).settle) ∧
    ∀ t, ((u.wr F.HIF_FN_STAT_BME 0 fn).modHf fn fun h => { h with mps := mps, mrrs := mrrs }) = t → (t.hf fn).resetH = false →
      exec (.bmeChange fn false ⟨mps, mrrs⟩ ops) s = .next t.settle) ∧
  (∀ (s n t : State) (m fn : Nat), isMaster m = true → isFn fn = true → s.access m (F.HIF_IDE_CTL_REQUIRE.addr fn 0) n → n.mayWrite m = true →
    n.wr F.HIF_IDE_CTL_REQUIRE 1 fn = t → t.on F.HIF_IDE_CTL_REQUIRE fn = true → t.on F.HIF_IDE_STAT_SECURE fn = false →
    exec (.ideRequire m fn) s = .next ((t.wr F.HIF_IDE_STAT_HALTED 1 fn).wr F.HIF_FN_STAT_IDE_HALT 1 fn).settle) ∧
  ∀ (s t : State) (fn v addr data : Nat) (en fm mk : Bool), isFn fn = true → v < 2048 → s.up = true → s.atRest → s.fnAbsent fn = false →
    s.on F.HIF_IDE_STAT_HALTED fn = false →
    (s.modHf fn fun h => { h with msixEnable := en, msixFmask := fm, msix := Tbl.set h.msix v { addr := addr, data := data, masked := mk } }) = t →
    (((t.hf fn).pba = [] ∨ en = false ∨ fm = true) → exec (.msixUnmask fn v addr data en fm mk) s =
      .next t) ∧
    ((t.hf fn).pba = [v] → en = true → fm = false → mk = false → exec (.msixUnmask fn v addr data en fm mk) s =
      .next ((t.modHf fn fun h => { h with pba := [] }).msix fn v).calm)

/-- BAR2 and BAR4 (R64 to R66): a write of a reserved BAR2 offset is discarded and recorded as index 9, and a read of BAR2 is answered; a BAR4 access
inside the window of `HIF_COMMONS_CTL` reads or writes the commons, a write only with `WRITE_EN`; any other read returns 0 and any other write is
discarded, with index 8 recorded. Completions of host reads (R70, R72, R93): a piece of a request is kept until all have come; an error or poisoned
completion, and a completion timeout, fail the request, end the read, and are recorded as index 4, 5 or 3; an error of the host link is recorded
with its index (R77). Answers a next state (`exec ... = .next ...`): `bar2ReservedAccess`, `bar4Access`, `hostReadCompletion`,
`hostCompletionTimeout`. -/
def Obligations.HostWindowsAndHostReadsAreAnswered : Prop :=
  ((∀ (s n : State) (fn off : Nat), isFn fn = true → s.runs = true → s.hostAccess fn n → n.barOpen fn = true →
    (bar2Plain off true = true → exec (.bar2ReservedAccess fn off true) s =
      .next ((n.tally .hif 7 1 fn).err (8 + fn) 9 { access := 8, addr := off, master := some fn }).calm) ∧
    (s.atRest → bar2Plain off false = true →
      exec (.bar2ReservedAccess fn off false) s = .next (n.emit (.barReply fn 2 off (n.bar2Val fn off))))) ∧
  ∀ (s t : State) (fn off size v : Nat), isFn fn = true → s.runs = true → s.busOpen fn = true → s.barOpen fn = true →
    s.tally .hif 8 size fn = t →
    (∀ a, t.bar4 fn off size = some a → t.memOk (.hif fn) a size = true →
      exec (.bar4Access fn off size false v) s = .next ((t.memBursts (.hif fn) a size false).emit (.barReply fn 4 off (t.word a size))).settle) ∧
    (∀ a, t.bar4 fn off size = some a → t.on F.HIF_COMMONS_CTL_WRITE_EN fn = true → t.memFenced = false →
      exec (.bar4Access fn off size true v) s = .next (t.commonsWrite a (leBytes size v) (.hif fn)).settle) ∧
    (t.bar4 fn off size = none → exec (.bar4Access fn off size false v) s =
      .next ((t.err (8 + fn) 8 { access := 4, addr := off + 2 ^ 63, master := some fn }).emit (.barReply fn 4 off 0)).settle) ∧
    (t.bar4 fn off size = none ∨ t.on F.HIF_COMMONS_CTL_WRITE_EN fn = false → exec (.bar4Access fn off size true v) s =
      .next (t.err (8 + fn) 8 { access := 5, addr := off + 2 ^ 63, master := some fn }).settle)) ∧
  ((∀ (s : State) (id off : Nat) (r : HostRead) (req : Nat × Nat) (b : List Byte), s.runs = true → Tbl.get s.reads id = some r →
    s.on F.HIF_IDE_STAT_HALTED r.fn = false →
    (r.sent.find? fun p => decide (p.1 ≤ off) && (decide (off < p.1 + p.2) || p.2 == 0)) = some req →
    (∀ q q' : HostRead, off + b.length ≤ req.1 + req.2 → b ≠ [] → { r with parts := r.parts ++ [(off, b)] } = q →
      (if q.answered req then { q with sent := r.sent.filter fun p => p != req } else q) = q' →
      exec (.hostReadCompletion id off .ok b) s = .next (({ s with reads := Tbl.set s.reads id q' } : State).closeRead id).settle) ∧
    exec (.hostReadCompletion id off .error b) s = .next (s.failReq id r req 4 aeUnsupported).settle ∧
    exec (.hostReadCompletion id off .abort b) s = .next (s.failReq id r req 4 aeAbort).settle ∧
    exec (.hostReadCompletion id off .poisoned b) s = .next (s.failReq id r req 5 aePoisoned).settle ∧
    exec (.hostReadCompletion id off .malformed b) s =
      .next ((s.berr .hif 6 { master := some r.fn } r.fn).aerUnc r.fn aeMalformed id).settle ∧
    exec (.hostReadCompletion id off .ideCheck b) s = .next ((s.berr .hif 7 { master := some r.fn } r.fn).aerUnc r.fn aeIde id).settle ∧
    exec (.hostReadCompletion id off .badTlp b) s = .next ((((s.berr .hif 11 { master := some r.fn } r.fn).tally .hif 12 1 r.fn).tally .hif 13 1
      r.fn).aerCor r.fn acBadTlp).settle) ∧
  (∀ (s : State) (id off fn : Nat) (e : LinkError) (b : List Byte), s.runs = true → fn < 6 → s.linkUp fn = true →
    exec (.hostReadCompletion id off (.link fn e) b) s = .next (linkError fn e s).settle) ∧
  ∀ (s : State) (id : Nat) (r : HostRead) (req : Nat × Nat) (rest : List (Nat × Nat)), s.runs = true → Tbl.get s.reads id = some r →
    r.sent = req :: rest → exec (.hostCompletionTimeout id) s =
      .next ((s.reach (r.sentAt + cplTimeoutMin (s.cfg r.fn 0x098))).failReq id r req 3 aeTimeout).settle)

/-- One step of a walk (R97, R98, R100): an entry that is not valid faults `NOT_PRESENT`; a leaf whose page is not aligned, and a table entry at level
1, fault `BAD_ENTRY`; a leaf maps its page with its rights, is cached, and ends the walk for every access that waits; a table entry goes one level
down; a failed read faults `BUS_ERROR`. A suspended work queue (R115, R117): a resume makes it `ACTIVE` and it goes on; an abort of one stopped at a
descriptor fetch puts it in `ERROR`; a request for a queue that is not suspended is refused. Answers a next state (`exec ... = .next ...`):
`walkStep`, `xltResume`, `xltAbort`. -/
def Obligations.WalksAndSuspendedQueuesGoOn : Prop :=
  ((∀ (s : State) (w : Walk) (b : List Byte), (s.walkEntry w .failed = .fault xkBusError w.level) ∧
    (bitOf (leNat b) 0 = false → s.walkEntry w (.ok b) = .fault xkNotPresent w.level) ∧
    (bitOf (leNat b) 0 = true → bitOf (leNat b) 1 = true → leNat b / 4096 * 4096 % 2 ^ (12 + 9 * (w.level - 1)) ≠ 0 →
      s.walkEntry w (.ok b) = .fault xkBadEntry w.level) ∧
    (bitOf (leNat b) 0 = true → bitOf (leNat b) 1 = false → w.level = 1 → s.walkEntry w (.ok b) = .fault xkBadEntry 1) ∧
    (bitOf (leNat b) 0 = true → bitOf (leNat b) 1 = false → w.level ≠ 1 → bitOf (leNat b) 4 = false →
      s.inSeWindow w.fn (leNat b / 4096 * 4096) = false → s.walkEntry w (.ok b) = .descend (w.level - 1) (leNat b / 4096 * 4096))) ∧
  ∀ (s : State) (id rd : Nat) (w : Walk) (r : HostRead) (x : BusResult), s.runs = true → Tbl.get s.walks id = some w → w.read = some rd →
    Tbl.get s.reads rd = some r → r.result = some x → ∀ t, { s with reads := Tbl.del s.reads rd } = t →
    (∀ l, t.walkEntry w x = .leaf l →
      exec (.walkStep id) s = .next ((if w.cache then t.fillLeaf l else t).endWalk id w l w.level).settle) ∧
    (∀ level table (e : TableRef), t.walkEntry w x = .descend level table → w.cache = true →
      e = ⟨w.fn, w.as, w.level, w.iova / 2 ^ (12 + 9 * (w.level - 1)), table⟩ →
      exec (.walkStep id) s = .next (({ t.fillTable e with walks := Tbl.set (t.fillTable e).walks id { w with
        level := level, table := table, read := none } } : State).walkers).settle) ∧
    (∀ kind level, t.walkEntry w x = .fault kind level → exec (.walkStep id) s = .next (t.failWalk id w kind level).settle)) ∧
  (∀ (s n : State) (m fn wq : Nat), isMaster m = true → isFn fn = true → mayWindow m fn = true → s.access m (F.XLT_FN_RESUME_WQ.addr fn 0) n →
    (∀ q t, Tbl.get n.wqs (fn, wq) = some q → q.state = .suspended →
      (n.modWq fn wq fun q => { q with state := .active, fetchFault := false, faultOp := none }) = t →
      exec (.xltResume m fn wq) s = .next ((t.kickLocal (t.ops.length + 1) fn wq).fetchNext fn wq).settle) ∧
    (∀ q, Tbl.get n.wqs (fn, wq) = some q → q.state = .suspended → q.fetchFault = true → exec (.xltAbort m fn wq) s =
      .next ((n.modWq fn wq fun q => { q with fetchFault := false, faultOp := none, part := [] }).wqError fn wq dtFetchXlt (some q.fetchPos)).settle) ∧
    ((∀ q, Tbl.get n.wqs (fn, wq) = some q → q.state ≠ .suspended) →
      exec (.xltResume m fn wq) s = .next (n.resumeRefused fn).settle ∧ exec (.xltAbort m fn wq) s = .next (n.resumeRefused fn).settle))

/-- The common arbiter (R396, R399, R400): with no requester nothing is granted; with one that is not fenced, it holds the instance from now on, the
grant is counted and its age ends; the watchdog releases a holder that kept it too long, discards its unfinished unit, fences the requester and
records index 31; a write of `ARB_FENCED` admits the requesters whose bits it gives. Answers a next state (`exec ... = .next ...`): `arbitrate`,
`arbWatchdog`, `arbFencedClear`. -/
def Obligations.ArbiterGrantsWatchesAndFences : Prop :=
  (∀ (s : State) (p inst : Nat), isArb p inst = true → s.runs = true → s.atRest →
    exec (.arbitrate p inst 0) s = .next (s.setArb p inst { s.arb p inst with waits := [], holder := none })) ∧
  (∀ (s : State) (p inst r : Nat), isArb p inst = true → s.runs = true → s.atRest → s.rd F.ARB_FENCED_FENCED p = 0 →
    s.grantableArb p inst = true → r < arbCount p inst →
    ∃ t : State, exec (.arbitrate p inst (2 ^ r)) s = .next t ∧ (t.arb p inst).holder = some r ∧ (t.arb p inst).since = s.now ∧
      (t.arb p inst).grants = (s.arb p inst).grants + 1 ∧ (t.arb p inst).waits = []) ∧
  (∀ (s : State) (p inst r t0 : Nat), isArb p inst = true → s.runs = true → (s.arb p inst).holder = some r → s.on F.ARB_CTL_WDOG_EN p = true →
    (p = Block.xlt.page → s.walkersRead r = false ∧ s.walkersBusy r = true) →
    t0 = (if p = Block.xlt.page then max (s.arb p inst).since (s.walkersSince r) else (s.arb p inst).since) →
    ∀ t : State, ((((s.reach (t0 + arbNs p (max 1024 (s.rd F.ARB_CTL_WDOG_LIMIT p)))).setArb p inst
        { s.arb p inst with holder := none }).orBits F.ARB_FENCED_FENCED (2 ^ r) p).wr F.ARB_WDOG_LAST r p).bump F.ARB_WDOG_TRIPS 1 p = t →
    ∀ u v mst, (t.dropUnit p inst r).when (p == Block.xlt.page) State.refuseWalks = u → u.arbMaster p inst r = (v, mst) →
    exec (.arbWatchdog p inst) s = .next (v.err p 31 { addr := inst * 64 + r, master := some mst }).calm) ∧
  ∀ (s n : State) (m p mask : Nat), isMaster m = true → isArb p 0 = true → s.atRest → s.access m (F.ARB_FENCED_FENCED.addr p 0) n →
    n.mayWrite m = true → exec (.arbFencedClear m p mask) s =
      .next (n.wr F.ARB_FENCED_FENCED (n.rd F.ARB_FENCED_FENCED p - (n.rd F.ARB_FENCED_FENCED p &&& mask)) p)

/-! ## Queues and their commands (05, 04, 06, 07, 08, 15) -/

/-- The admin queues (R127, R128, R134): a tail within the ring is taken and the next command is read; any other value is recorded as index 3; enabling
the admin completion queue lets a command that waits for room complete. A completion record carries status, opcode, result and the command's
`USER_CTX`, lies at the tail of the ring with the lap's phase, moves the tail on by one, and lets the next command be read. Answers a next state
(`exec ... = .next ...`): `adminDoorbell`, `acqEnable`. -/
def Obligations.AdminQueuesAreServedInOrder : Prop :=
  (∀ (s n t : State) (m fn v size : Nat), isMaster m = true → isFn fn = true → mayWindow m fn = true →
    s.access m (F.CMD_AQ_TAIL_TAIL.addr fn 0) n → v < 2 ^ 32 → size = adminSize (n.rd F.CMD_AQ_CTL_LOG2_SIZE fn) → n.tally .cmd 0 = t →
    (wrapSub 32 v (n.rd F.CMD_AQ_HEAD_HEAD fn) ≤ size ∧ wrapSub 32 v (n.rd F.CMD_AQ_TAIL_TAIL fn) ≤
        size - wrapSub 32 (n.rd F.CMD_AQ_TAIL_TAIL fn) (n.rd F.CMD_AQ_HEAD_HEAD fn) →
      exec (.adminDoorbell m fn v) s = .next ((t.wr F.CMD_AQ_TAIL_TAIL v fn).adminFetch fn).settle) ∧
    (¬(wrapSub 32 v (n.rd F.CMD_AQ_HEAD_HEAD fn) ≤ size ∧ wrapSub 32 v (n.rd F.CMD_AQ_TAIL_TAIL fn) ≤
        size - wrapSub 32 (n.rd F.CMD_AQ_TAIL_TAIL fn) (n.rd F.CMD_AQ_HEAD_HEAD fn)) → exec (.adminDoorbell m fn v) s =
      .next (t.err 0x11 3 { access := 8, addr := F.CMD_AQ_TAIL_TAIL.addr fn 0, master := some m }).settle)) ∧
  (∀ (s n t : State) (m fn : Nat), isMaster m = true → isFn fn = true → mayWindow m fn = true → s.access m (F.CMD_ACQ_CTL_EN.addr fn 0) n →
    n.wr F.CMD_ACQ_CTL_EN 1 fn = t → (∀ a, Tbl.get t.admin fn = some a → a.wait = .room →
        exec (.acqEnable m fn) s = .next (t.adminDone fn a).settle) ∧
      (Tbl.get t.admin fn = none → exec (.acqEnable m fn) s = .next (t.adminFetch fn).settle)) ∧
  ∀ (s t : State) (fn at_ size : Nat) (a : AdminOp), s.acqOpen fn = true → size = adminSize (s.rd F.CMD_ACQ_CTL_LOG2_SIZE fn) →
    at_ = s.rd F.CMD_ACQ_BASE_BASE fn * 4096 + 32 * (s.rd F.CMD_ACQ_TAIL_TAIL fn % size) →
    (({ s with admin := Tbl.del s.admin fn } : State).roll F.CMD_ACQ_TAIL_TAIL 1 fn).tally .cmd 12 = t → t.busGone fn = false →
    (t.hostWrite 9 fn at_ (leBytes 1 a.status ++ leBytes 1 (128 * b2n (s.rd F.CMD_ACQ_TAIL_TAIL fn / size % 2 == 0)) ++ leBytes 1 a.cmd.opcode ++
      leBytes 1 0 ++ leBytes 4 a.result ++ leBytes 8 a.cmd.userCtx ++ leBytes 8 a.data0 ++ leBytes 8 a.data1)).on F.CMD_ACQ_CTL_IRQ_EN fn = false →
    s.adminDone fn a = (t.hostWrite 9 fn at_ (leBytes 1 a.status ++ leBytes 1 (128 * b2n (s.rd F.CMD_ACQ_TAIL_TAIL fn / size % 2 == 0)) ++
      leBytes 1 a.cmd.opcode ++ leBytes 1 0 ++ leBytes 4 a.result ++ leBytes 8 a.cmd.userCtx ++ leBytes 8 a.data0 ++ leBytes 8 a.data1)).adminFetch fn

/-- Work queues made, emptied and ended (R129, R138, R160, R472): `CREATE_WQ` binds a new queue to its address space, completion queue, list and tenancy
slot, and an existing number completes with `EXISTS`; `DESTROY_WQ` and `RESET_WQ` drain, and complete when the drain is over, the queue then gone or
empty; `WQ_INVAL` drops the cached descriptors and sets `HOLD`. Answers a next state (`exec ... = .next ...`): `createWq`, `destroyWq`, `resetWq`,
`wqDrainComplete`, `wqInval`. -/
def Obligations.WorkQueuesAreMadeDrainedAndEmptied : Prop :=
  (∀ (s n : State) (fn : Nat) (c : AdminCmd) (l : MList), isFn fn = true → s.runs = true → s.begins fn 1 c n →
    onlyBits c.p0 [(12, 36)] = true → onlyBits c.p1 [(0, 14), (16, 4), (20, 12), (32, 14), (46, 1), (48, 12)] = true →
    onlyBits c.p2 [(0, 12), (12, 4), (16, 9), (25, 1)] = true → onlyBits c.p3 [(0, 16), (16, 1), (32, 16), (48, 16)] = true → c.p4 = 0 → c.p5 = 0 →
    bitsOf c.p1 16 4 ≤ 10 → (bitOf c.p3 16 = true → bitsOf c.p3 32 16 ≠ 0 ∧ 17 ≤ bitsOf c.p3 48 16) →
    (Tbl.has n.wqs (fn, bitsOf c.p1 0 14) = true → exec (.createWq fn c) s = .next (n.adminEnd fn c 3).settle) ∧
    (Tbl.has n.wqs (fn, bitsOf c.p1 0 14) = false → Tbl.has n.spaces (fn, bitsOf c.p1 20 12) = true →
      Tbl.has n.cqs (fn, bitsOf c.p1 32 14) = true → (bitOf c.p1 46 = true → Tbl.get n.lists (fn, bitsOf c.p1 48 12) = some l ∧ l.closing = false) →
      (n.member (bitsOf c.p2 0 12) fn = false → exec (.createWq fn c) s = .next (n.adminEnd fn c 8).settle) ∧
      (n.member (bitsOf c.p2 0 12) fn = true → ∀ q : Wq, q =
        { base := c.p0, log2 := bitsOf c.p1 16 4 + 6, as := bitsOf c.p1 20 12,
          cq := bitsOf c.p1 32 14, recv := bitOf c.p1 46, list := bitsOf c.p1 48 12, slot := bitsOf c.p2 0 12, tcMask := bitsOf c.p2 12 4,
          counter := bitsOf c.p2 16 9, countEn := bitOf c.p2 25, sched := c.p3 } →
        exec (.createWq fn c) s = .next (({ n.freshEntity fn (bitsOf c.p1 0 14) with
          wqs := Tbl.set n.wqs (fn, bitsOf c.p1 0 14) q } : State).adminEnd fn c 0 (bitsOf c.p1 0 14)).settle))) ∧
  (∀ (s n : State) (fn : Nat) (c : AdminCmd) (op : Nat), isFn fn = true → s.runs = true → s.begins fn op c n → onlyBits c.p0 [(0, 14)] = true →
    c.p1 = 0 → c.p2 = 0 → c.p3 = 0 → c.p4 = 0 → c.p5 = 0 → Tbl.has n.wqs (fn, bitsOf c.p0 0 14) = true →
    (op = 2 → exec (.destroyWq fn c) s = .next (((n.adminHold fn c (.drain (bitsOf c.p0 0 14))).drainBegin fn (bitsOf c.p0 0 14) true).drainStep
      65536 fn (bitsOf c.p0 0 14)).settle) ∧
    (op = 3 → exec (.resetWq fn c) s = .next (((n.adminHold fn c (.drain (bitsOf c.p0 0 14))).drainBegin fn (bitsOf c.p0 0 14) false).drainStep
      65536 fn (bitsOf c.p0 0 14)).settle)) ∧
  (∀ (s t : State) (fn wq : Nat) (a : AdminOp) (q : Wq), isFn fn = true → s.runs = true → Tbl.get s.admin fn = some a → a.wait = .drain wq →
    Tbl.get s.wqs (fn, wq) = some q → s.drainStep 65536 fn wq = t → t.drained fn wq = true →
    (q.destroy = true → exec (.wqDrainComplete fn wq) s = .next (({ t with wqs := Tbl.del t.wqs (fn, wq) } : State).adminDone fn a).settle) ∧
    (q.destroy = false → exec (.wqDrainComplete fn wq) s = .next ((t.modWq fn wq fun q =>
      { q with state := .active, prod := 0, cons := 0, cache := [], part := [], errAt := none }).adminDone fn a).settle)) ∧
  ∀ (s n : State) (fn : Nat) (c : AdminCmd) (q : Wq), isFn fn = true → s.runs = true → s.begins fn 4 c n → onlyBits c.p0 [(0, 14), (16, 1)] = true →
    c.p1 = 0 → c.p2 = 0 → c.p3 = 0 → c.p4 = 0 → c.p5 = 0 → Tbl.get n.wqs (fn, bitsOf c.p0 0 14) = some q →
    exec (.wqInval fn c) s = .next (((n.modWq fn (bitsOf c.p0 0 14) fun q =>
      { q with cache := [], part := [], fetching := none, fetchWait := false, hold := bitOf c.p0 16, gather := [] }).adminEnd fn c 0 q.cons).fetchNext fn
        (bitsOf c.p0 0 14)).settle

/-- Completion and event queues made, changed and ended (R129, R155): a new queue stands at its base with its size, vector and moderation; an event
queue remembers the order in which it was made; a completion queue to which a work queue is bound, and an event queue that something names, complete
with `BUSY` and stay. Answers a next state (`exec ... = .next ...`): `createCq`, `destroyCq`, `modifyCq`, `createEq`, `destroyEq`. -/
def Obligations.CompletionAndEventQueuesAreMadeAndEnded : Prop :=
  (∀ (s n : State) (fn : Nat) (c : AdminCmd), isFn fn = true → s.runs = true → s.begins fn 5 c n → onlyBits c.p0 [(12, 36)] = true →
    onlyBits c.p1 [(0, 14), (16, 5), (24, 12)] = true → onlyBits c.p2 modBits = true → c.p3 = 0 → c.p4 = 0 → c.p5 = 0 →
    6 ≤ bitsOf c.p1 16 5 → bitsOf c.p1 16 5 ≤ 22 → Tbl.has n.cqs (fn, bitsOf c.p1 0 14) = false → Tbl.has n.spaces (fn, bitsOf c.p1 24 12) = true →
    ∀ q : Cq, q =
      { base := c.p0, log2 := bitsOf c.p1 16 5, as := bitsOf c.p1 24 12, vector := bitsOf c.p2 0 11, irqEn := bitOf c.p2 11,
        modCount := bitsOf c.p2 16 16, modTime := bitsOf c.p2 32 16 } →
      exec (.createCq fn c) s = .next (({ n with cqs := Tbl.set n.cqs (fn, bitsOf c.p1 0 14) q } : State).adminEnd fn c 0 (bitsOf c.p1 0 14)).settle) ∧
  (∀ (s n : State) (fn : Nat) (c : AdminCmd), isFn fn = true → s.runs = true → s.begins fn 6 c n → onlyBits c.p0 [(0, 14)] = true →
    c.p1 = 0 → c.p2 = 0 → c.p3 = 0 → c.p4 = 0 → c.p5 = 0 → Tbl.has n.cqs (fn, bitsOf c.p0 0 14) = true →
    exec (.destroyCq fn c) s = .next (if n.wqs.any fun e => e.1.1 == fn && e.2.cq == bitsOf c.p0 0 14 then n.adminEnd fn c 5
      else ({ n with cqs := Tbl.del n.cqs (fn, bitsOf c.p0 0 14) } : State).adminEnd fn c 0).settle) ∧
  (∀ (s n : State) (fn : Nat) (c : AdminCmd) (q q' : Cq), isFn fn = true → s.runs = true → s.begins fn 7 c n → onlyBits c.p0 [(0, 14)] = true →
    c.p1 = 0 → onlyBits c.p2 modBits = true → c.p3 = 0 → c.p4 = 0 → c.p5 = 0 → Tbl.get n.cqs (fn, bitsOf c.p0 0 14) = some q →
    q' = { q with vector := bitsOf c.p2 0 11, irqEn := bitOf c.p2 11, modCount := bitsOf c.p2 16 16, modTime := bitsOf c.p2 32 16 } →
    exec (.modifyCq fn c) s = .next (({ n with cqs := Tbl.set n.cqs (fn, bitsOf c.p0 0 14) q' } : State).adminEnd fn c 0).settle) ∧
  (∀ (s n : State) (fn : Nat) (c : AdminCmd), isFn fn = true → s.runs = true → s.begins fn 8 c n → onlyBits c.p0 [(12, 36)] = true →
    onlyBits c.p1 [(0, 10), (16, 5), (24, 12), (40, 1)] = true → onlyBits c.p2 modBits = true → c.p3 = 0 → c.p4 = 0 → c.p5 = 0 →
    6 ≤ bitsOf c.p1 16 5 → bitsOf c.p1 16 5 ≤ 16 → Tbl.has n.eqs (fn, bitsOf c.p1 0 10) = false → Tbl.has n.spaces (fn, bitsOf c.p1 24 12) = true →
    ∀ q : Sys2Proof.Machine.Eq, q =
      { base := c.p0, log2 := bitsOf c.p1 16 5, as := bitsOf c.p1 24 12, vector := bitsOf c.p2 0 11,
        irqEn := bitOf c.p2 11, modCount := bitsOf c.p2 16 16, modTime := bitsOf c.p2 32 16, async := bitOf c.p1 40, order := n.nextEq } →
      exec (.createEq fn c) s = .next (({ n with eqs := Tbl.set n.eqs (fn, bitsOf c.p1 0 10) q, nextEq := n.nextEq + 1 } : State).adminEnd fn c 0
        (bitsOf c.p1 0 10)).settle) ∧
  ∀ (s n : State) (fn k : Nat) (c : AdminCmd), isFn fn = true → s.runs = true → s.begins fn 9 c n → onlyBits c.p0 [(0, 10)] = true →
    c.p1 = 0 → c.p2 = 0 → c.p3 = 0 → c.p4 = 0 → c.p5 = 0 → k = bitsOf c.p0 0 10 → Tbl.has n.eqs (fn, k) = true →
    exec (.destroyEq fn c) s = .next (if n.regions.any (fun e => e.1.1 == fn && e.2.eqEn && e.2.eq == k) ||
        n.lists.any (fun e => e.1.1 == fn && e.2.eqEn && e.2.eq == k) || n.convoys.any (fun e => e.2.cfg.eqEn && e.2.cfg.owner == fn && e.2.cfg.eq == k) || n.cregNames fn k
      then n.adminEnd fn c 5 else ({ n with eqs := Tbl.del n.eqs (fn, k) } : State).adminEnd fn c 0).settle

/-- Address spaces, regions and invalidations (R31, R94, R107 to R109, R130, R164, R165): a space has its root; a new region takes the index free
longest, its next generation (1 to 255) and answers the key made of both; a space to which something is bound stays with `BUSY`; an invalidation
sweeps the caches and completes when the accesses it waits for are over. Answers a next state (`exec ... = .next ...`): `createAs`, `destroyAs`,
`createRegion`, `destroyRegion`, `xltInval`, `xltInvalComplete`. -/
def Obligations.AddressSpacesAndRegionsAreMadeAndEnded : Prop :=
  (∀ (s n : State) (fn : Nat) (c : AdminCmd), isFn fn = true → s.runs = true → s.begins fn 0xA c n → c.p0 % 4096 = 0 →
    onlyBits c.p1 [(0, 12)] = true → c.p2 = 0 → c.p3 = 0 → c.p4 = 0 → c.p5 = 0 → Tbl.has n.spaces (fn, bitsOf c.p1 0 12) = false →
    exec (.createAs fn c) s = .next (({ n with spaces := Tbl.set n.spaces (fn, bitsOf c.p1 0 12) { root := c.p0 } } : State).adminEnd fn c 0
      (bitsOf c.p1 0 12)).settle) ∧
  (∀ (s n : State) (fn : Nat) (c : AdminCmd), isFn fn = true → s.runs = true → s.begins fn 0xB c n → c.p0 = 0 → onlyBits c.p1 [(0, 12)] = true →
    c.p2 = 0 → c.p3 = 0 → c.p4 = 0 → c.p5 = 0 → Tbl.has n.spaces (fn, bitsOf c.p1 0 12) = true →
    exec (.destroyAs fn c) s = .next (if n.asBound fn (bitsOf c.p1 0 12) then n.adminEnd fn c 5
      else ({ n with spaces := Tbl.del n.spaces (fn, bitsOf c.p1 0 12) } : State).invalidate fn c 1 (bitsOf c.p1 0 12) 0 0).settle) ∧
  (∀ (s n : State) (fn i g : Nat) (c : AdminCmd) (r : Region), isFn fn = true → s.runs = true → s.begins fn 0xC c n → c.p0 < 2 ^ 48 → c.p1 ≠ 0 → c.p1 ≤ 2 ^ 42 →
    c.p0 + c.p1 ≤ 2 ^ 48 → bitsOf c.p2 36 4 ≠ 0 → onlyBits c.p2 [(0, 12), (12, 12), (24, 10), (34, 1), (36, 4)] = true → c.p3 = 0 → c.p4 = 0 →
    c.p5 = 0 → Tbl.has n.spaces (fn, bitsOf c.p2 0 12) = true → (bitOf c.p2 34 = true → Tbl.has n.eqs (fn, bitsOf c.p2 24 10) = true) →
    n.member (bitsOf c.p2 12 12) fn = true → n.regBytes fn + c.p1 ≤ 2 ^ 42 → n.freeIndex fn = some i →
    g = Tbl.getD n.regionGen (fn, i) 0 % 255 + 1 → r =
    { gen := g, base := c.p0, len := c.p1, as := bitsOf c.p2 0 12, slot := bitsOf c.p2 12 12,
      eq := bitsOf c.p2 24 10, eqEn := bitOf c.p2 34, rights := bitsOf c.p2 36 4 } →
    exec (.createRegion fn c) s = .next (({ n with
      regions := Tbl.set n.regions (fn, i) r, regionGen := Tbl.set n.regionGen (fn, i) g, freed := n.freed.filter fun e => e != (fn, i) } : State).adminEnd fn c 0 (i * 256 + g)).settle) ∧
  (∀ (s n : State) (fn : Nat) (c : AdminCmd) (r : Region), isFn fn = true → s.runs = true → s.begins fn 0xD c n → onlyBits c.p0 [(0, 32)] = true →
    c.p1 = 0 → c.p2 = 0 → c.p3 = 0 → c.p4 = 0 → c.p5 = 0 → Tbl.get n.regions (fn, bitsOf c.p0 8 24) = some r → r.gen = c.p0 % 256 → r.closing = false →
    n.regionPlacing fn (bitsOf c.p0 8 24) = false → exec (.destroyRegion fn c) s = .next (({ n with
      regions := Tbl.del n.regions (fn, bitsOf c.p0 8 24), freed := n.freed ++ [(fn, bitsOf c.p0 8 24)] } : State).adminEnd fn c 0).settle) ∧
  (∀ (s n : State) (fn : Nat) (c : AdminCmd), isFn fn = true → s.runs = true → s.begins fn 0xE c n → onlyBits c.p0 [(0, 2), (16, 12)] = true →
    onlyBits c.p2 [(0, 32)] = true → c.p3 = 0 → c.p4 = 0 → c.p5 = 0 → bitsOf c.p0 0 2 ≠ 3 →
    (bitsOf c.p0 0 2 ≠ 0 → Tbl.has n.spaces (fn, bitsOf c.p0 16 12) = true) →
    exec (.xltInval fn c) s = .next (n.invalidate fn c (bitsOf c.p0 0 2) (bitsOf c.p0 16 12) c.p1 c.p2).settle) ∧
  ∀ (s : State) (fn : Nat) (a : AdminOp) (i : Inval), isFn fn = true → s.runs = true → Tbl.get s.admin fn = some a → Tbl.get s.invals fn = some i →
    a.wait = .inval → exec (.xltInvalComplete fn) s = .next (if s.invalOver i
      then ({ s with invals := Tbl.del s.invals fn } : State).adminDone fn a else s).settle

/-- Match lists, tenancies, queue pairs and queries (R129, R236, R241, R247, R249, R477): a list is made for a member of its slot and, with no work
queue bound and no cancel outstanding, ended; a function joins with the digest and the mode that the slot asks for, its ticket then read, and leaves
with its locks given up; a queue pair is ended with its pathway when no packet of it flies; a query answers the state of an object. `CREATE_LQP`
(R236): a free pair number, bound to a send queue of its class and a receive queue that are bound to no other and have nothing outstanding, is made
with its context, its pathway starts at the sequence numbers given, and both queues are bound to it. Answers a next state (`exec ... = .next ...`):
`createList`, `destroyList`, `joinTenancy`, `leaveTenancy`, `destroyLqp`, `query`, `createLqp`. -/
def Obligations.ListsTenanciesAndPairsAreMadeAndEnded : Prop :=
  ((∀ (s n : State) (fn : Nat) (c : AdminCmd), isFn fn = true → s.runs = true → s.begins fn 0xF c n → onlyBits c.p0 [(0, 12)] = true →
    onlyBits c.p1 [(0, 12), (12, 10), (22, 1)] = true → c.p2 = 0 → c.p3 = 0 → c.p4 = 0 → c.p5 = 0 → Tbl.has n.lists (fn, bitsOf c.p0 0 12) = false →
    (bitOf c.p1 22 = true → Tbl.has n.eqs (fn, bitsOf c.p1 12 10) = true) →
    (n.member (bitsOf c.p1 0 12) fn = false → exec (.createList fn c) s = .next (n.adminEnd fn c 8).settle) ∧
    (n.member (bitsOf c.p1 0 12) fn = true → ∀ l : MList, l = { slot := bitsOf c.p1 0 12, eq := bitsOf c.p1 12 10, eqEn := bitOf c.p1 22 } →
      exec (.createList fn c) s = .next (({ n with lists := Tbl.set n.lists (fn, bitsOf c.p0 0 12) l } : State).adminEnd fn c 0 (bitsOf c.p0 0 12)).settle)) ∧
  (∀ (s n t : State) (fn k : Nat) (c : AdminCmd) (l l' : MList), isFn fn = true → s.runs = true → s.begins fn 0x10 c n → onlyBits c.p0 [(0, 12)] = true →
    c.p1 = 0 → c.p2 = 0 → c.p3 = 0 → c.p4 = 0 → c.p5 = 0 → k = bitsOf c.p0 0 12 → Tbl.get n.lists (fn, k) = some l →
    ((n.wqs.any fun e => e.1.1 == fn && e.2.recv && e.2.list == k) = true → exec (.destroyList fn c) s = .next (n.adminEnd fn c 5).settle) ∧
    ((n.wqs.any fun e => e.1.1 == fn && e.2.recv && e.2.list == k) = false → l' = { l with closing := true } →
      ({ n with lists := Tbl.set n.lists (fn, k) l' } : State).dropUnexp fn k (fun s u => s.cancelPull u fn k) = t →
      exec (.destroyList fn c) s = .next (if t.listCancels fn k then t.adminHold fn c (.list k)
        else ({ t with lists := Tbl.del t.lists (fn, k) } : State).adminEnd fn c 0).settle)) ∧
  (∀ (s n : State) (fn : Nat) (c : AdminCmd) (x : TenSlot), isFn fn = true → s.runs = true → s.begins fn 0x11 c n → onlyBits c.p0 [(0, 12)] = true →
    onlyBits c.p2 [(0, 12)] = true → c.p4 = 0 → c.p5 = 0 → c.p1 % 8 = 0 → Tbl.get n.slots (bitsOf c.p0 0 12) = some x → x.keyLost = false →
    Tbl.has n.spaces (fn, bitsOf c.p2 0 12) = true → bitOf x.members fn = false →
    (ownerDigest x.owner ≠ c.p3 → exec (.joinTenancy fn c) s = .next (n.adminEnd fn c 8 1).settle) ∧
    (ownerDigest x.owner = c.p3 → x.requireIde = true → n.on F.HIF_IDE_CTL_REQUIRE fn = false →
      exec (.joinTenancy fn c) s = .next (n.adminEnd fn c 8 5).settle) ∧
    (ownerDigest x.owner = c.p3 → (x.requireIde = true → n.on F.HIF_IDE_CTL_REQUIRE fn = true ∧ n.on F.HIF_IDE_STAT_SECURE fn = true) →
      n.timeLocked = true → exec (.joinTenancy fn c) s = .next ((n.adminHold fn c .ticket).readTicket fn).settle)) ∧
  (∀ (s n t : State) (fn k : Nat) (c : AdminCmd) (x x' : TenSlot), isFn fn = true → s.runs = true → s.begins fn 0x12 c n → onlyBits c.p0 [(0, 12)] = true →
    c.p1 = 0 → c.p2 = 0 → c.p3 = 0 → c.p4 = 0 → c.p5 = 0 → k = bitsOf c.p0 0 12 → Tbl.get n.slots k = some x → bitOf x.members fn = true →
    x' = { x with members := clearBit x.members fn } → ({ n with slots := Tbl.set n.slots k x' } : State).abandonLocks fn (some k) = t →
    exec (.leaveTenancy fn c) s = .next (((n.heldLocks.filterMap fun h => if h.fn = fn && h.slot = k then h.op else none).foldl
      (fun s id => s.endOp id stTenancy dtTenancyMismatch 0 0) t).adminEnd fn c 0).settle) ∧
  (∀ (s n t : State) (fn k : Nat) (c : AdminCmd) (q : Lqp), isFn fn = true → s.runs = true → s.begins fn 0x14 c n → onlyBits c.p0 [(0, 18)] = true →
    c.p1 = 0 → c.p2 = 0 → c.p3 = 0 → c.p4 = 0 → c.p5 = 0 → k = bitsOf c.p0 0 18 → Tbl.get n.lqps k = some q → q.fn = fn →
    ((n.lqpEnterError k).modLqp k fun q => { q with destroying := true }) = t → exec (.destroyLqp fn c) s =
      .next (if t.lqpFlying k then t.adminHold fn c (.lqp k) else (t.dropLqp k).adminEnd fn c 0).settle) ∧
  ∀ (s n : State) (fn : Nat) (c : AdminCmd), isFn fn = true → s.runs = true → s.begins fn 0x15 c n → onlyBits c.p0 [(0, 4), (16, 14)] = true →
    c.p1 = 0 → c.p2 = 0 → c.p3 = 0 → c.p4 = 0 → c.p5 = 0 →
    (∀ q, bitsOf c.p0 0 4 = 1 → Tbl.get n.wqs (fn, bitsOf c.p0 16 14) = some q → exec (.query fn c) s = .next (n.adminEnd fn c 0 0
      (q.state.code + 8 * b2n q.hold + q.prod * 2 ^ 32) (q.cons + n.outstandingOps fn (bitsOf c.p0 16 14) * 2 ^ 32)).settle) ∧
    (∀ q, bitsOf c.p0 0 4 = 2 → Tbl.get n.cqs (fn, bitsOf c.p0 16 14) = some q → exec (.query fn c) s = .next (n.adminEnd fn c 0 0
      (q.state.code + q.written * 2 ^ 32) (q.consumer + q.reserved * 2 ^ 32)).settle) ∧
    (∀ q, bitsOf c.p0 0 4 = 3 → bitsOf c.p0 16 14 < 1024 → Tbl.get n.eqs (fn, bitsOf c.p0 16 14) = some q → exec (.query fn c) s =
      .next (n.adminEnd fn c 0 0 (q.state.code + q.written * 2 ^ 32) (q.consumer + q.lostAll * 2 ^ 32)).settle) ∧
    (∀ a, bitsOf c.p0 0 4 = 4 → bitsOf c.p0 16 14 < 4096 → Tbl.get n.spaces (fn, bitsOf c.p0 16 14) = some a → exec (.query fn c) s =
      .next (n.adminEnd fn c 0 0 1 a.root).settle)) ∧
  (∀ (s n d e t : State) (fn k sw rw : Nat) (c : AdminCmd) (sq rq : Wq) (q : Lqp) (key : PwKey) (w : Snd) (x : Pathway), isFn fn = true → s.runs = true →
    s.begins fn 0x13 c n → onlyBits c.p0 [(8, 40)] = true → onlyBits c.p1 [(0, 18), (20, 12)] = true →
    onlyBits c.p2 [(0, 21), (32, 18), (56, 2)] = true → onlyBits c.p3 [(0, 14), (16, 14), (30, 1)] = true → c.p5 = 0 → bitsOf c.p2 0 21 % 8 < 4 →
    k = bitsOf c.p1 0 18 → sw = bitsOf c.p3 0 14 → rw = bitsOf c.p3 16 14 → Tbl.get n.wqs (fn, sw) = some sq → Tbl.get n.wqs (fn, rw) = some rq →
    sq.recv = false → bitOf sq.tcMask (bitsOf c.p2 56 2) = true → rq.recv = true → sq.lqp = 0 → rq.lqp = 0 → Tbl.has n.lqps k = false →
    Tbl.has n.spaces (fn, bitsOf c.p1 20 12) = true → n.outstandingOps fn sw = 0 → n.outstandingOps fn rw = 0 →
    (n.ops.any fun e => e.2.fn == fn && e.2.wq == sw && e.2.phase == .held) = false → n.lqpEvict = d →
    (if Tbl.has d.epochs fn then d else { d with epochs := Tbl.set d.epochs fn d.now }) = e →
    q =
        { fn := fn, ctx := c.p0, as := bitsOf c.p1 20 12, rem := bitsOf c.p2 0 21, remLqp := bitsOf c.p2 32 18, tc := bitsOf c.p2 56 2,
          sendWq := sw, recvWq := rw, recvEn := bitOf c.p3 30 } →
    key = { loc := e.epa fn, rem := bitsOf c.p2 0 21, tc := bitsOf c.p2 56 2, lqp := k + 1 } →
    w = { e.newSnd with next := bitsOf c.p4 0 32, una := bitsOf c.p4 0 32 } →
    x = { snd := some w, rcv := some { expect := bitsOf c.p4 32 32, peerEpoch := 0 }, lastUse := e.now } →
    { e with lqps := Tbl.set e.lqps k q, pws := Tbl.set e.pws key x } = t →
    exec (.createLqp fn c) s =
      .next (((t.modWq fn sw fun q => { q with lqp := k + 1 }).modWq fn rw fun q => { q with lqp := k + 1 }).adminEnd fn c 0 k).settle)

/-- Doorbells (R134, R135, R161): a producer value within the ring is taken and descriptors are fetched, one that is equal has no effect, any other is
recorded as index 3; a completed direct post acts as a doorbell; a consumer value within what was written is taken, and arming with records waiting
sends the message at once. Records and counters (R152, R157, R158, R161, R162): a suspended completion or event queue resumes and its waiting
records are written, or is put in `ERROR`; a request for one that is not suspended is recorded as index 30; the moderation timer sends the message
of an armed queue with records; a trigger counter is set or added to, and what it releases fires. Answers a next state (`exec ... = .next ...`):
`wqDb`, `wqDirect`, `cqDb`, `eqDb`, `cmdResumeResume`, `cmdResumeAbort`, `modTimerExpire`, `trigCounterSet`, `trigAdd`. -/
def Obligations.DoorbellsRecordQueuesAndCountersAct : Prop :=
  ((∀ (s n : State) (fn k v : Nat) (q : Wq), isFn fn = true → s.runs = true → s.hostPost fn n → Tbl.get n.wqs (fn, k) = some q →
    q.state ≠ .draining → v < 2 ^ 32 →
    (v ≠ q.prod → wrapSub 32 v q.cons ≤ 2 ^ q.log2 → wrapSub 32 v q.prod ≤ 2 ^ q.log2 - wrapSub 32 q.prod q.cons → exec (.wqDb fn k v) s =
      .next (((n.modWq fn k fun q => { q with prod := v, doors := q.doors ++ [(v, n.now)] }).tally .cmd 0).fetchNext fn k).settle) ∧
    (v = q.prod → q.accepts v = true → exec (.wqDb fn k v) s = .next n.settle) ∧
    (¬(wrapSub 32 v q.cons ≤ 2 ^ q.log2 ∧ wrapSub 32 v q.prod ≤ 2 ^ q.log2 - wrapSub 32 q.prod q.cons) → exec (.wqDb fn k v) s =
      .next (n.err 0x11 3 { access := 8, addr := k * 4096, master := some fn }).settle)) ∧
  (∀ (s n : State) (fn k v off : Nat) (q : Wq) (b : List Byte), isFn fn = true → s.runs = true → s.hostPost fn n → Tbl.get n.wqs (fn, k) = some q →
    q.state ≠ .draining → off + b.length ≤ 256 →
    (∀ f : Wq → List (Nat × Byte), f = (fun q => (b.mapIdx fun i x => (off + i, x)) ++ q.gather.filter fun e => e.1 < off || off + b.length ≤ e.1) →
      q.direct off b = none → exec (.wqDirect fn k ⟨off, b⟩) s = .next (n.modWq fn k fun q => { q with gather := f q }).settle) ∧
    (∀ (post : List Byte) (t u : State), q.direct off b = some post → (n.modWq fn k fun q => { q with gather := [] }) = t →
      v = wrapAdd 32 q.prod (orWhenZero (wrapSub 16 ((q.parse post).postIdx + (q.parse post).slots) q.prod) 65536) → t.tally .cmd 1 = u →
      (q.accepts v = false → exec (.wqDirect fn k ⟨off, b⟩) s =
        .next (t.err 0x11 3 { access := 8, addr := k * 4096 + 256, master := some fn }).settle) ∧
      (q.accepts v = true → u.on F.CMD_CTL_DP_EN = false ∨ q.state ≠ .active ∨ q.hold = true ∨ (q.parse post).postIdx ≠ q.prod % 65536 ∨
          u.cacheRoom fn q = false → exec (.wqDirect fn k ⟨off, b⟩) s = .next (u.ring fn k v).settle) ∧
      (q.accepts v = true → u.on F.CMD_CTL_DP_EN = true → q.state = .active → q.hold = false → (q.parse post).postIdx = q.prod % 65536 →
        u.cacheRoom fn q = true → exec (.wqDirect fn k ⟨off, b⟩) s =
          .next (((u.cacheDesc fn k { pos := q.prod, d := q.parse post }).tally .cmd 2).ring fn k v).settle))) ∧
  (∀ (s n : State) (fn k off : Nat) (b : List Byte), isFn fn = true → s.runs = true → s.hostPost fn n → Tbl.get n.wqs (fn, k) = none →
    off + b.length ≤ 256 → exec (.wqDirect fn k ⟨off, b⟩) s =
      .next (n.err 0x11 5 { access := 8, addr := k * 4096 + 256, master := some fn }).settle) ∧
  (∀ (s n : State) (fn k v : Nat) (arm : Bool) (q q' : Cq), isFn fn = true → s.runs = true → s.hostPost fn n → Tbl.get n.cqs (fn, k) = some q →
    v < 2 ^ 32 → q' = { q with consumer := v, armed := q.armed || arm } →
    (wrapSub 32 q.written q.consumer < wrapSub 32 v q.consumer → exec (.cqDb fn k v arm) s =
      .next (n.err 0x11 3 { access := 8, addr := k * 4096 + 64, master := some fn }).settle) ∧
    (wrapSub 32 v q.consumer ≤ wrapSub 32 q.written q.consumer → arm = true ∧ q.irqEn = true ∧ q.written ≠ v →
      exec (.cqDb fn k v arm) s = .next (((({ n with cqs := Tbl.set n.cqs (fn, k) { q' with armed := false, since := 0 } } : State).msix fn
        q.vector).tally .cmd 10).cqKick fn k).settle) ∧
    (wrapSub 32 v q.consumer ≤ wrapSub 32 q.written q.consumer → ¬(arm = true ∧ q.irqEn = true ∧ q.written ≠ v) →
      exec (.cqDb fn k v arm) s = .next ((({ n with cqs := Tbl.set n.cqs (fn, k) q' } : State).cqIrq fn k).cqKick fn k).settle)) ∧
  ∀ (s n : State) (fn k v : Nat) (arm : Bool) (q q' : Sys2Proof.Machine.Eq), isFn fn = true → s.runs = true → s.hostPost fn n →
    Tbl.get n.eqs (fn, k) = some q → v < 2 ^ 32 → q' = { q with consumer := v, armed := q.armed || arm } →
    (wrapSub 32 q.written q.consumer < wrapSub 32 v q.consumer → exec (.eqDb fn k v arm) s =
      .next (n.err 0x11 3 { access := 8, addr := k * 4096 + 128, master := some fn }).settle) ∧
    (wrapSub 32 v q.consumer ≤ wrapSub 32 q.written q.consumer → ¬(arm = true ∧ q.irqEn = true ∧ q.written ≠ v) →
      exec (.eqDb fn k v arm) s = .next (((({ n with eqs := Tbl.set n.eqs (fn, k) q' } : State).eqIrq fn k).eqKick fn k).eqLost fn k).settle)) ∧
  ((∀ (s n : State) (m fn k : Nat), isMaster m = true → isFn fn = true → mayWindow m fn = true → s.access m (F.CMD_RESUME_NUMBER.addr fn 0) n →
    (∀ (q : Cq), Tbl.get n.cqs (fn, k) = some q → q.state = .suspended →
      exec (.cmdResumeResume m fn 1 k) s = .next (({ n with cqs := Tbl.set n.cqs (fn, k) { q with state := .active } } : State).cqKick fn k).settle ∧
      exec (.cmdResumeAbort m fn 1 k) s = .next (n.cqError fn k).settle) ∧
    (∀ (q : Sys2Proof.Machine.Eq), Tbl.get n.eqs (fn, k) = some q → q.state = .suspended →
      exec (.cmdResumeResume m fn 2 k) s =
        .next ((({ n with eqs := Tbl.set n.eqs (fn, k) { q with state := .active } } : State).eqKick fn k).eqLost fn k).settle ∧
      exec (.cmdResumeAbort m fn 2 k) s = .next (n.eqError fn k).settle) ∧
    (Tbl.get n.cqs (fn, k) = none →
      exec (.cmdResumeResume m fn 1 k) s = .next (n.refuse m 0x11 (F.CMD_RESUME_NUMBER.addr fn 0) true).settle ∧
      exec (.cmdResumeAbort m fn 1 k) s = .next (n.refuse m 0x11 (F.CMD_RESUME_NUMBER.addr fn 0) true).settle)) ∧
  (∀ (s : State) (fn k : Nat) (q : Cq), isFn fn = true → s.runs = true → Tbl.get s.cqs (fn, k) = some q → q.irqEn = true → q.armed = true →
    q.since ≠ 0 → q.modTime ≠ 0 → exec (.modTimerExpire fn 1 k) s = .next ((((
    { s.reach (q.firstAt + 1000 * q.modTime) with
      cqs := Tbl.set s.cqs (fn, k) { q with armed := false, since := 0 } } : State).msix fn q.vector).tally .cmd 10)).settle) ∧
  (∀ (s t : State) (fn k : Nat) (q q' : Sys2Proof.Machine.Eq), isFn fn = true → s.runs = true → Tbl.get s.eqs (fn, k) = some q → q.irqEn = true → q.armed = true →
    q.since ≠ 0 → q.modTime ≠ 0 → q' = { q with armed := false, since := 0 } → { s.reach (q.firstAt + 1000 * q.modTime) with eqs := Tbl.set s.eqs (fn, k) q' } = t →
    exec (.modTimerExpire fn 2 k) s = .next (((t.msix fn q.vector).tally .cmd 10)).settle) ∧
  ∀ (s n : State) (m fn k v : Nat), isMaster m = true → isFn fn = true → mayWindow m fn = true → k < 512 →
    (s.access m (F.CMD_TRIGk_COUNT.addr fn k) n →
      exec (.trigCounterSet m fn k v) s = .next ((n.wr F.CMD_TRIGk_COUNT v fn k).fireAll fn k).kickQueues.settle) ∧
    (s.access m (F.CMD_TRIG_ADD_COUNTER.addr fn 0) n → exec (.trigAdd m fn k v) s =
      .next ((n.wr F.CMD_TRIGk_COUNT (wrapAdd 32 (n.rd F.CMD_TRIGk_COUNT fn k) v) fn k).fireAll fn k).kickQueues.settle))

/-- Descriptors (R132, R133, R140): a fetched descriptor enters the queue's cache, the first half of a long one waits for the second, a failed fetch
puts the queue in `ERROR` with detail `FETCH_FAILED`, and in a draining queue the drain goes on. The descriptor at the consumer index of an open
queue that its pipe schedules is admitted: it takes its slots, an operation tag and a completion entry; where a check, the tenancy or an absent
target ends it, it ends at once; a triggered one is held, a `LOCK` takes its place in the table. A queue that may not admit stays as it is. Answers
a next state (`exec ... = .next ...`): `descFetchComplete`, `admitDescriptor`. -/
def Obligations.DescriptorsAreFetchedAndAdmitted : Prop :=
  (∀ (s t : State) (fn k id : Nat) (q : Wq) (r : HostRead), isFn fn = true → s.runs = true → Tbl.get s.wqs (fn, k) = some q →
    q.fetching = some id → s.dropStray fn k (some id) = t → Tbl.get t.reads id = some r →
    ∀ u, (({ t with reads := Tbl.del t.reads id } : State).modWq fn k fun q => { q with fetching := none }) = u →
    (r.result = some .failed → q.state ≠ .draining → exec (.descFetchComplete fn k) s =
      .next ((u.modWq fn k fun q => { q with part := [] }).wqError fn k dtFetchFailed (some q.fetchPos)).settle) ∧
    (r.result = some .failed → q.state = .draining → exec (.descFetchComplete fn k) s = .next (((u.modWq fn k fun q => { q with part := [] }).modWq fn k
      fun x => x.put { pos := q.fetchPos, d := { verb := 0xFF } }).drainStep 65536 fn k).settle) ∧
    (∀ b, r.result = some (.ok b) →
      (q.part ≠ [] → exec (.descFetchComplete fn k) s =
        .next ((u.modWq fn k fun q => { q with part := [] }).fetched fn k q.fetchPos (parseDescr (q.part ++ b))).settle) ∧
      (q.part = [] → ((q.parse b).long && (q.parse b).adv advInline && q.fetchPos % 4 = 0 && !q.recv && q.state ≠ .draining) = true →
        exec (.descFetchComplete fn k) s = .next ((u.modWq fn k fun q => { q with part := b }).fetchNext fn k).settle) ∧
      (q.part = [] → ((q.parse b).long && (q.parse b).adv advInline && q.fetchPos % 4 = 0 && !q.recv && q.state ≠ .draining) = false →
        exec (.descFetchComplete fn k) s = .next (u.fetched fn k q.fetchPos (q.parse b)).settle))) ∧
  (∀ (s t : State) (fn k pos : Nat) (d : Descr) (q : Wq), s.cacheDesc fn k { pos := pos, d := d, miss := true } = t → Tbl.get t.wqs (fn, k) = some q →
    (q.state = .draining → s.fetched fn k pos d = t.drainStep 65536 fn k) ∧
    (q.state ≠ .draining → pos = q.cons → d.postIdx ≠ pos % 65536 → s.fetched fn k pos d = t.descrRefused fn k pos dtPostIdx) ∧
    (q.state ≠ .draining → pos ≠ q.cons ∨ d.postIdx = pos % 65536 → s.fetched fn k pos d = t.fetchNext fn k)) ∧
  (∀ (s : State) (fn k : Nat), isFn fn = true → s.runs = true → s.scheduled fn k = false ∨ s.admissible fn k = none →
    exec (.admitDescriptor fn k) s = .next s.settle) ∧
  (∀ (s : State) (fn k : Nat) (q : Wq) (c : Cached), isFn fn = true → s.runs = true → s.scheduled fn k = true → s.admissible fn k = some (q, c) →
    (∀ dt, q.recv = false → q.check c.pos c.d = some (true, dt) → exec (.admitDescriptor fn k) s = .next (s.descrRefused fn k c.pos dt).settle) ∧
    (∀ t id, q.recv = true → c.d.verb = 0 → s.aimed q c.d = c.d → q.check c.pos c.d = none → s.atOnce q fn c.d none = none →
      s.takeSlot fn k q c c.d false = (t, id) → ∀ u, t.endOp id stOk 0 0 0 = u →
      exec (.admitDescriptor fn k) s = .next ((u.kickLocal (u.ops.length + 1) fn k).fetchNext fn k).settle) ∧
    ∀ d : Descr, s.aimed q c.d = d → q.recv = false → q.check c.pos c.d = none → (d.adv advTriggered = true → s.trigHeld fn < 2048) →
      ((targets d.verb || d.verb == vbConvoy) = true → s.hasDid = true ∧ s.on F.HIF_FN_STAT_EP_HOLD fn = false) →
      (∀ t id st dt, s.atOnce q fn d (q.check2 d) = some (st, dt) → s.takeSlot fn k q c d false = (t, id) → ∀ u, t.endOp id st dt 0 0 = u →
        exec (.admitDescriptor fn k) s = .next ((u.kickLocal (u.ops.length + 1) fn k).fetchNext fn k).settle) ∧
      (∀ t id, s.atOnce q fn d (q.check2 d) = none → d.verb ≠ vbLock → s.takeSlot fn k q c d (d.adv advTriggered) = (t, id) →
        (d.adv advTriggered = false →
          exec (.admitDescriptor fn k) s = .next ((t.kickLocal (t.ops.length + 1) fn k).fetchNext fn k).settle) ∧
        (d.adv advTriggered = true → ∀ u, t.holdOp fn id d = u →
          exec (.admitDescriptor fn k) s = .next ((u.kickLocal (u.ops.length + 1) fn k).fetchNext fn k).settle)) ∧
      ∀ t id, s.atOnce q fn d (q.check2 d) = none → d.verb = vbLock → d.adv advTriggered = false → s.heldLocks.length < 16384 →
        s.takeSlot fn k q c d false = (t, id) → ∀ u : State, { t with heldLocks := t.heldLocks ++ [{
          fn := fn, slot := q.slot, epa := d.targetEpa, key := d.key, remote := d.remote, op := some id : HeldLock }] } = u →
        exec (.admitDescriptor fn k) s = .next ((u.kickLocal (u.ops.length + 1) fn k).fetchNext fn k).settle)

/-! ## Segments, packets and pathways (06, 07, 12, 15) -/

/-- Segments chosen and read (R114, R270, R404): each pipe serves the entity that its scheduler chooses, unless the entity's output is full, and none
while its engine or the traffic manager is not serving; a payload read fills its segment, which is then sent in order; a failed one stops the
operation with `ABORTED` and `PAYLOAD_BUS_ERROR`; the read of a retransmission launches the copy, and that of a served request sends its response or
reports its failure; what waited for no one changes nothing else. Answers a next state (`exec ... = .next ...`): `scheduleSegment`,
`payloadReadComplete`. -/
def Obligations.SegmentsAreScheduledAndRead : Prop :=
  (∀ (s t : State) (p : Nat), p < 4 → s.runs = true →
    (s.serves .txe = false ∨ s.serves .tmg = false → exec (.scheduleSegment p) s = .next s.settle) ∧
    (s.serves .txe = true → s.serves .tmg = true → (s.chooseEnt p = (t, none) → exec (.scheduleSegment p) s = .next t.settle) ∧
      ∀ e, s.chooseEnt p = (t, some e) →
        exec (.scheduleSegment p) s = .next (if e.full then t else t.serveEnt p e).settle)) ∧
  ∀ (s t : State) (rd : Nat) (r : HostRead), s.runs = true → Tbl.get s.reads rd = some r → { s with reads := Tbl.del s.reads rd } = t →
    (∀ id seg o, r.use = .payload id seg → Tbl.get t.ops id = some o →
      (∀ d, r.result = some (.ok d) → exec (.payloadReadComplete rd) s = .next ((((t.modSend o.fn o.wq id seg fun y => { y with data := some d }).modOp id
        fun o => o.stamp fun m => { m with read := some (m.read.getD s.now) })).flushSends 64 o.fn o.wq).settle) ∧
      (r.result = some .failed → exec (.payloadReadComplete rd) s = .next (((((t.dropSends id).modOp id fun o =>
        { o with fail := some (o.fail.getD (stAborted, dtPayloadBus)), stop := true })).checkOp id).flushSends 64 o.fn o.wq).settle)) ∧
    (∀ k seq f, r.use = .retx k seq → Tbl.get t.inflight (k, seq) = some f →
      (∀ d h b, r.result = some (.ok d) → f.pkt.body = .data h b → exec (.payloadReadComplete rd) s =
        .next ((t.modRec k seq fun f => match f.pkt.body with
          | .data h _ => { f with reading := none, pkt := { f.pkt with body := .data h d } }
          | _ => { f with reading := none }).launch k seq f.cand).settle) ∧
      (r.result = some .failed → exec (.payloadReadComplete rd) s = .next (t.respLost k seq f).settle)) ∧
    (∀ id n g, r.use = .serve id n → Tbl.get t.gets id = some g →
      (∀ d, r.result = some (.ok d) → exec (.payloadReadComplete rd) s = .next (t.sendResp id g d).settle) ∧
      (r.result = some .failed → exec (.payloadReadComplete rd) s = .next (t.serveFault id { g with chosen := false } 0 0 0 true).settle)) ∧
    ((∃ id seg, r.use = .payload id seg ∧ Tbl.get t.ops id = none) ∨ (∃ k seq, r.use = .retx k seq ∧ Tbl.get t.inflight (k, seq) = none) ∨
        (∃ id n, r.use = .serve id n ∧ Tbl.get t.gets id = none) → r.result.isSome = true →
      exec (.payloadReadComplete rd) s = .next t.settle)

/-- Ejected packets (R486, R563): a packet accepted by `SEC` and passed by the tollgate waits for its engine with the slot that verified it; one not
accepted is discarded, counted by its cause and gets no notice, and `TAG_FAIL` is recorded as index 3. Asleep, an endpoint's packet is counted and
discarded, and wakes the device; a fenced `SEC` discards each packet as a crossing one, and a pool whose requester the watchdog fenced refuses it
(R12, R400). The verdict on a packet (R486): nothing is accepted before the device's time is locked; a path fault then is; the fabric's own exchange
only between selectors 5; else the slot must be there and active, the epoch its present or its next one, the age within the window, and the tag
right, unless the slot is open. Answers a next state (`exec ... = .next ...`): `packetVerify`. -/
def Obligations.EjectedPacketsAreVerifiedOrDiscarded : Prop :=
  (∀ (s t : State) (j : Nat) (rx : RxPkt) (rest : List RxPkt), j < 16 → s.runs = true → Tbl.getD s.eject j [] = rx :: rest →
    { s with eject := Tbl.set s.eject j rest } = t →
    ([1, 2, 5].contains (s.rd F.CRP_PWR_STAT_STATE) = true → Pkt.forEndpoint rx.pkt = true → exec (.packetVerify j) s =
      .next ((t.bump F.CRP_WAKE_DISCARDED).later (.wake 3)).settle) ∧
    ([1, 2, 5].contains (s.rd F.CRP_PWR_STAT_STATE) = false → t.shutdown = true → Pkt.forEndpoint rx.pkt = true →
      exec (.packetVerify j) s = .next (t.bump F.FCL_DROP_ENDPOINT).settle) ∧
    ([1, 2, 5].contains (s.rd F.CRP_PWR_STAT_STATE) = false → t.shutdown = false → t.fenced Block.sec.page = true →
      exec (.packetVerify j) s = .next (t.bump F.FCL_DROP_CROSSING).settle) ∧
    ([1, 2, 5].contains (s.rd F.CRP_PWR_STAT_STATE) = false → t.shutdown = false → t.fenced Block.sec.page = false → t.serves .sec = true →
      t.fenced Block.col.page = false → t.poolRefuses j = true → exec (.packetVerify j) s = .next (t.refusedReq Block.sec.page 1 j).settle) ∧
    ([1, 2, 5].contains (s.rd F.CRP_PWR_STAT_STATE) = false → t.shutdown = false → t.fenced Block.sec.page = false → t.serves .sec = true →
      t.fenced Block.col.page = false → t.poolRefuses j = false →
      (∀ slot u a, t.verify rx.pkt = .accept slot → (((t.tally .sec 1).tally .sec 3 (pktLen rx.pkt)).tollgate { rx with slot := slot }) = (u, a) →
        (∀ x, a = some x → exec (.packetVerify j) s = .next ({ u with rx := u.rx ++ [x] } : State).settle) ∧
        (a = none → exec (.packetVerify j) s = .next u.settle)) ∧
      (t.verify rx.pkt = .notLocked → exec (.packetVerify j) s = .next ((t.bump F.SEC_DROP_NOT_LOCKED).tally .sec 6).settle) ∧
      (t.verify rx.pkt = .unknownTenancy → exec (.packetVerify j) s =
        .next (((t.bump F.SEC_DROP_UNKNOWN_TENANCY).tally .sec 7).cvVerifyFailed rx.pkt rx.port rx.vc).settle) ∧
      (t.verify rx.pkt = .staleEpoch → exec (.packetVerify j) s =
        .next (((t.bump F.SEC_DROP2_STALE_EPOCH).tally .sec 8).cvVerifyFailed rx.pkt rx.port rx.vc).settle) ∧
      (t.verify rx.pkt = .notFresh → exec (.packetVerify j) s =
        .next (((t.bump F.SEC_DROP2_NOT_FRESH).tally .sec 9).cvVerifyFailed rx.pkt rx.port rx.vc).settle) ∧
      (t.verify rx.pkt = .tagFail → exec (.packetVerify j) s =
        .next ((((t.bump F.SEC_DROP3_TAG_FAIL).tally .sec 10).berr .sec 3 (rxErr rx.pkt rx.port rx.vc)).cvVerifyFailed rx.pkt rx.port rx.vc).settle))) ∧
  (∀ (s : State) (p : Pkt) (did tref epoch time ctr : Nat), Body.seal p.body = (did, tref, epoch, time, ctr) →
    (s.timeLocked = false → s.verify p = .notLocked) ∧
    (∀ f, s.timeLocked = true → p.body = .pathFault f → s.verify p = .accept 0) ∧
    (s.timeLocked = true → (∀ f, p.body ≠ .pathFault f) →
      (tref = 0xFFFF → s.verify p = if Body.selectors p.body = (5, 5) then .accept mgmtSlot else .unknownTenancy) ∧
      (tref ≠ 0xFFFF → s.slots.find? (fun e => e.2.tnum == tref) = none → s.verify p = .unknownTenancy) ∧
      ∀ slot t, tref ≠ 0xFFFF → s.slots.find? (fun e => e.2.tnum == tref) = some (slot, t) → t.keyLost = false →
        (epoch ≠ t.curEpoch → ¬(t.nextValid = true ∧ epoch = t.nextEpoch) → s.verify p = .staleEpoch) ∧
        ∀ k, (epoch = t.curEpoch ∧ k = t.curKey) ∨ (epoch ≠ t.curEpoch ∧ t.nextValid = true ∧ epoch = t.nextEpoch ∧ k = t.nextKey) →
          (time + s.freshNs < s.now ∨ s.now + 1000 * s.rd F.SEC_FRESH_FUTURE_US < time → s.verify p = .notFresh) ∧
          (s.now ≤ time + s.freshNs → time ≤ s.now + 1000 * s.rd F.SEC_FRESH_FUTURE_US →
            s.verify p = if t.mode = 2 ∨ p.tag = Config.gcmTag k (ivOf did epoch ctr) t.mode p.body then .accept slot else .tagFail)))

/-- The engines take the oldest packet of their kind (R185, R186, R208, R212, R219, R333, R180): a request or response that is well formed is received
on its pathway, a malformed one is recorded; acknowledgements and notices act on the sender's pathway; with no packet, nothing happens. A
continuation timer asks for the bytes that are missing; a `FETCH_ATOMIC` whose value does not come completes with `TIMEOUT` and `NO_RESPONSE`;
completed writes into the commons acknowledge the flushes that they cover. Answers a next state (`exec ... = .next ...`): `packetReceive`,
`ackReceive`, `noticeReceive`, `flushReadComplete`, `continuationTimer`, `fetchResponseTimeout`, `memWriteComplete`. -/
def Obligations.PacketsAndRepliesAreReceived : Prop :=
  (∀ (s : State), s.runs = true → s.serves .pwy = true →
    (∀ kind c, (kind = 0 ∧ c = Instr.packetReceive) ∨ (kind = 1 ∧ c = .ackReceive) ∨ (kind = 2 ∧ c = .noticeReceive) →
      takeRx (fun r => r.isKind kind) s.rx = none → exec c s = .next s.settle) ∧
    (∀ rx rest p t, takeRx (fun r => r.isKind 0) s.rx = some (rx, rest) → rx.hdr.ver = 1 → rx.hdr.rsvZero = true →
      rx.hdr.payloadLen ≤ 4096 → rx.hdr.payloadLen = (payloadOf rx.pkt).length → rx.hdr.lqp = false → ({ s with rx := rest } : State).tally .pwy 0 = t →
      Tbl.get t.pws (rxKey rx.hdr) = some p → t.closed (rxKey rx.hdr) = false → p.state = .cached →
      exec .packetReceive s = .next (t.receiveAt (rxKey rx.hdr) rx).settle) ∧
    (∀ rx rest, takeRx (fun r => r.isKind 0) s.rx = some (rx, rest) → rx.hdr.ver ≠ 1 ∨ rx.hdr.rsvZero = false ∨ 4096 < rx.hdr.payloadLen ∨
      rx.hdr.payloadLen ≠ (payloadOf rx.pkt).length →
      exec .packetReceive s = .next (({ s with rx := rest } : State).err 0x14 7 (rxErr rx.pkt rx.port rx.vc)).settle) ∧
    (∀ rx rest t, takeRx (fun r => r.isKind 0) s.rx = some (rx, rest) → rx.hdr.ver = 1 → rx.hdr.rsvZero = true → rx.hdr.payloadLen ≤ 4096 →
      rx.hdr.payloadLen = (payloadOf rx.pkt).length → rx.hdr.lqp = false → ({ s with rx := rest } : State).tally .pwy 0 = t →
      Tbl.get t.pws (rxKey rx.hdr) = none → t.storeFull = false →
      exec .packetReceive s = .next (((t.tally .pwy 1).createPw (rxKey rx.hdr)).receiveAt (rxKey rx.hdr) rx).settle) ∧
    (∀ rx rest a k p, takeRx (fun r => r.isKind 1) s.rx = some (rx, rest) → rx.pkt.body = .ack a → s.replyKey a.dstEpa a.srcEpa a.tc 0 = k →
      a.lqp = 0 → k.lqp = 0 → Tbl.get s.pws k = some p → p.state = .cached → a.ver = 1 → a.rsvZero = true →
      exec .ackReceive s = .next ((({ s with rx := rest } : State).tally .pwy 10).onPwAck k a).settle) ∧
    ∀ rx rest n k p, takeRx (fun r => r.isKind 2) s.rx = some (rx, rest) → rx.pkt.body = .notice n → s.replyKey n.dstEpa n.srcEpa n.tc 0 = k →
      n.lqp = 0 → k.lqp = 0 → Tbl.get s.pws k = some p → p.state = .cached → n.ver = 1 → n.rsvZero = true →
      exec .noticeReceive s = .next ((({ s with rx := rest } : State).tally .pwy 12).onNotice k n).settle) ∧
  (∀ (s t : State) (fn id : Nat) (r : HostRead), isFn fn = true → s.runs = true →
    s.reads.find? (fun e => e.2.use == .flush fn && e.2.result.isSome) = some (id, r) → Tbl.get s.reads id = some r →
    ({ s with reads := Tbl.del s.reads id, flushes := Tbl.set s.flushes fn ((s.flushesOf fn).filter fun f => !f.sent) } : State) = t →
    (∀ b, r.result = some (.ok b) → exec (.flushReadComplete fn) s = .next ((((s.flushesOf fn).filter fun f => f.sent).foldl (fun (s : State) f =>
      s.outcome f.key f.rx .placed) t).flushRead fn).settle) ∧
    (r.result = some .failed → exec (.flushReadComplete fn) s = .next ((((s.flushesOf fn).filter fun f => f.sent).foldl (fun (s : State) f =>
      s.outcome f.key f.rx (.refused stAborted dtFlushReadFailed)) (t.err 0x13 4 { access := 0, addr := r.failedAt, master := some (0x14 + fn % 4) })).flushRead fn).settle)) ∧
  (∀ (s : State) (id t off : Nat) (o : Op), s.runs = true → Tbl.get s.ops id = some o → o.contAt = some (t, off) → o.ended = none → off < o.wanted →
    exec (.continuationTimer id) s = .next ((((s.reach t).modOp id fun o => { o with contAt := none })).sendRequest
      ((((s.reach t).modOp id fun o => { o with contAt := none })).dataKey o) o.slot (if o.recv then .pull id else .op id)
      { o.request id off o.wanted with cont := true } []).settle) ∧
  (∀ (s : State) (id t : Nat) (o : Op), s.runs = true → Tbl.get s.ops id = some o → o.deadline = some t → o.d.verb = vbFetch → o.recv = false →
    o.acked = true → o.value = none → o.ended = none →
    exec (.fetchResponseTimeout id) s = .next ((s.reach t).endOp id stTimeout dtNoResponse 0 0).settle) ∧
  ∀ (s : State), s.runs = true → exec .memWriteComplete s =
    .next (s.memFlushes.foldl (fun (s : State) f => s.outcome f.key f.rx .placed) { s with memBusy := false, memFlushes := [] }).settle

/-- Timers of a pathway (R201, R204, R210, R214, R216, R225): the delayed acknowledgement is sent; a packet's timer sends its copy, or recalls the
stored entry first; at the give-up deadline the operation ends with the status of the last refusal; a period ends with its count at 0; an idle entry
is stored; a recalled one is cached and its parked packets are processed in order, or its context is lost where the store is refused. The give-up
table (R216), row by row. Contexts forgotten and lost (R220, R221, R223, R242, R246): a receive state with nothing held and a send state with
nothing unsettled and nobody waiting are forgotten at their times, and the entry with them once both are; an uncorrectable context closes its
pathway, an uncorrectable key forgets every one; a pathway closed long enough is gone; the context of a queue pair is cached by its fetch, which if
it fails puts the pair in `ERROR` with index 6. Answers a next state (`exec ... = .next ...`): `ackDelayTimer`, `retransmitTimer`, `giveupDeadline`,
`seqPeriodRoll`, `idleSpill`, `recallComplete`, `forgetReceiveState`, `forgetSendState`, `pwyContextUncorrected`, `contextLostExpire`,
`pwyKeyUncorrected`, `forgetChangeEffective`, `lqpContextFetchDone`. -/
def Obligations.PathwaysActInTimeAndAreForgotten : Prop :=
  (∀ (s : State) (loc rem tc lqp : Nat) (k : PwKey), s.runs = true → k = { loc := loc, rem := rem, tc := tc, lqp := lqp } →
    (∀ w rx, s.rcv k = some w → w.cause = some rx →
      exec (.ackDelayTimer loc rem tc lqp) s = .next ((s.reach (w.firstUnacked + s.rd F.PWY_CTL_ACK_DELAY_NS)).sendAck k rx false none).settle) ∧
    (∀ seq r p t, Tbl.get s.inflight (k, seq) = some r → Tbl.get s.pws k = some p → r.waiting = false → r.fetching = false →
      r.reading = none → s.walkWaits (.retx k seq) = false → s.reach r.timer = t → t.now < r.giveup →
      (p.state ≠ .cached → exec (.retransmitTimer loc rem tc lqp seq) s = .next (t.modPw k fun p => { p with state := .recalling }).settle) ∧
      (p.state = .cached → ∀ u v, t.tally .pwy 14 = u → (u.modWindow k fun w => if u.on F.PWY_CC_CTL_EN && decide (w.lastCut < r.last)
          then { w with cwnd := max (256 * u.rd F.PWY_CC_WIN_MIN) (w.cwnd / 2), lastCut := u.now } else w) = v →
        (r.cand = none → exec (.retransmitTimer loc rem tc lqp seq) s = .next (v.recopy k seq).settle) ∧
        ∀ c, r.cand = some c → exec (.retransmitTimer loc rem tc lqp seq) s = .next ((v.onFailed (epaDid rem) c r.bgen).recopy k seq).settle)) ∧
    (∀ seq r u all gone, Tbl.get s.inflight (k, seq) = some r → ((s.reach r.giveup).tally .pwy 15).survey (epaDid rem) tc (List.range 16) = (u, all) →
      gone = (r.waiting || (epaDid rem != u.did && all != [] && all.all fun c => u.quarantined c.ms)) →
      ∀ v, (u.failOwner r.owner (giveUpStatus r.refusal gone).1 (giveUpStatus r.refusal gone).2).when r.owner.marked (fun s => s.err 0x17 5 {}) = v →
        exec (.giveupDeadline loc rem tc lqp seq none) s = .next (if lqp = 0 then v else v.later (.lqpError (lqp - 1))).settle) ∧
    (∀ w t, s.snd k = some w → s.reach (w.periodStart + s.periodNs) = t → exec (.seqPeriodRoll loc rem tc lqp) s =
      .next (t.modPw k fun p => { p with snd := p.snd.map fun w => { w with periodStart := t.now, periodCount := 0 } }).settle) ∧
    ∀ p, lqp = 0 → Tbl.get s.pws k = some p →
      (p.state = .cached → exec (.idleSpill loc rem tc) s =
        .next ((s.reach (p.lastUse + 1000 * orWhenZero (s.rd F.PWY_CTL_IDLE_SPILL_US) 1)).spill k).settle) ∧
      (p.state = .recalling → (s.memFenced = true ∨ s.memDenied .pwy (s.storeAt k) = true) → exec (.recallComplete loc rem tc) s =
        .next (((pwyContextUncorrected k s).modPw k fun p => { p with state := .cached }).unpark k).settle) ∧
      (p.state = .recalling → s.memFenced = false → s.memDenied .pwy (s.storeAt k) = false → exec (.recallComplete loc rem tc) s =
        .next ((((((s.evict.modPw k fun p => { p with state := .cached, lastUse := s.now }).tally .pwy 4)).unpark k).lateTimers
          k).dropIfForgotten k).settle)) ∧
  (giveUpStatus none false = (stTimeout, dtNoResponse) ∧ giveUpStatus none true = (stPathLost, 0) ∧
  ∀ (w : Bool) (reason : Nat), giveUpStatus (some (1, reason)) w = (stNotReady, dtTargetBusy) ∧
    giveUpStatus (some (4, reason)) w = (stNotReady, dtReceiverNotReady) ∧ giveUpStatus (some (2, nrSourceBus)) w = (stRemoteXlt, dtTargetBus) ∧
    (reason ≠ nrSourceBus → giveUpStatus (some (2, reason)) w = (stRemoteXlt, 0)) ∧ giveUpStatus (some (0, reason)) w = (faultStatus reason, 0)) ∧
  ((∀ (s : State) (loc rem tc : Nat) (k : PwKey), s.runs = true → k = { loc := loc, rem := rem, tc := tc, lqp := 0 } →
    (∀ w, s.rcv k = some w → w.held = [] → s.recalling k = false → exec (.forgetReceiveState loc rem tc) s =
      .next (((((s.reach (w.lastAct + s.forgetNs)).forgetMsgs k).modPw k fun p => { p with rcv := none })).dropIfForgotten k).settle) ∧
    (∀ w, s.snd k = some w → w.una = w.next → s.chosenCharges k = [] → s.awaits k = false → s.recalling k = false → exec (.forgetSendState loc rem tc) s =
      .next ((((s.reach (w.lastAct + s.forgetNs + s.freshNs + 65000000)).modPw k fun p => { p with snd := none, sticky := none })).dropIfForgotten
        k).settle) ∧
    (∀ p t, Tbl.get s.pws k = some p → (((s.err 0x14 1 {}).loseOwners fun x => x == k).forgetMsgs k) = t → exec (.pwyContextUncorrected loc rem tc) s =
      .next (t.modPw k fun p => { p with snd := none, rcv := none, sticky := none, closedAt := some t.now }).settle) ∧
    (∀ p t, Tbl.get s.pws k = some p → p.closedAt = some t → exec (.contextLostExpire loc rem tc) s =
      .next (((s.reach (t + s.forgetNs + s.freshNs + 65000000)).modPw k fun p => { p with closedAt := none }).dropIfForgotten k).settle)) ∧
  (∀ (s : State), s.runs = true → exec .pwyKeyUncorrected s = .next (s.err 0x14 2 {}).forgetAll.settle) ∧
  (∀ (s : State) (old t : Nat), s.runs = true → s.forgetOld = some (old, t) →
    exec .forgetChangeEffective s = .next ({ s.reach t with forgetOld := none } : State).settle) ∧
  ∀ (s : State) (n id : Nat) (q : Lqp) (r : HostRead) (b : List Byte), s.runs = true → Tbl.get s.lqps n = some q → q.fetching = some id →
    Tbl.get s.reads id = some r →
    (r.result = some .failed → ∀ t, ({ s with reads := Tbl.del s.reads id } : State).modLqp n (fun q => { q with fetching := none, cached := true }) = t →
      exec (.lqpContextFetchDone n) s = .next ((t.err 0x14 6 { access := 0, addr := r.failedAt }).later (.lqpError n)).settle) ∧
    (r.result = some (.ok b) → exec (.lqpContextFetchDone n) s = .next (((({ s with reads := Tbl.del s.reads id } : State).lqpEvict.modLqp n fun q => { q with cached := true, fetching := none })).unpark
        { loc := ((({ s with reads := Tbl.del s.reads id } : State).lqpEvict.modLqp n fun q => { q with cached := true, fetching := none })).epa q.fn,
          rem := q.rem, tc := q.tc, lqp := n + 1 }).settle))

/-- Receives and probes (R258, R275): a receive that finds an eligible unexpected header takes it, and else is appended to its list with the list's next
number; a probe completes at once, with `OK` and the header's length and bits or with `ABORTED` and `PROBE_NO_MATCH`; a posted `RECV` or `PROBE`
takes its place in its queue and then does just this. Answers a next state (`exec ... = .next ...`): `recv`, `probe`. -/
def Obligations.ReceivesAndProbesSearchTheirList : Prop :=
  (∀ (s t : State) (id fn list : Nat) (o : Op) (l : MList), Tbl.get s.ops id = some o → Tbl.get s.lists (fn, list) = some l →
    s.tally .mtc 1 1 (list % 2) = t →
    (∀ u, t.lqpRecv o = false → t.findUnexp fn list o.d = some u → s.onPost id fn list = t.bindUnexp id u) ∧
    (t.lqpRecv o = true ∨ t.findUnexp fn list o.d = none → t.memDenied (.mtc list) (t.planBase 5) = true →
      s.onPost id fn list = (t.memDeny (.mtc list) (t.planBase 5) 64 true).failRecv id stAborted dtEntryLost) ∧
    (t.lqpRecv o = true ∨ t.findUnexp fn list o.d = none → t.memDenied (.mtc list) (t.planBase 5) = false → s.onPost id fn list = ({ t with
      posted := t.posted ++ [({ fn := fn, list := list, seq := l.pseq, op := id } : Posted)],
      lists := Tbl.set t.lists (fn, list) { l with pseq := l.pseq + 1 } } : State).mtcHigh)) ∧
  (∀ (s : State) (id fn list : Nat) (o : Op), Tbl.get s.ops id = some o →
    (∀ u, (s.tally .mtc 14 1 (list % 2)).findUnexp fn list o.d = some u → s.onProbe id fn list =
      ((s.tally .mtc 14 1 (list % 2)).modOp id fun o => { o with src := u.src }).endOp id stOk 0 u.len u.bits) ∧
    ((s.tally .mtc 14 1 (list % 2)).findUnexp fn list o.d = none → s.onProbe id fn list =
      (s.tally .mtc 14 1 (list % 2)).endOp id stAborted dtProbeNoMatch 0 0)) ∧
  ∀ (s t : State) (fn k id : Nat) (q : Wq) (c : Cached) (d : Descr), isFn fn = true → s.runs = true → s.admissible fn k = some (q, c) → q.recv = true →
    q.check c.pos c.d = none → q.lqp = 0 → s.aimed q c.d = d → d.verb = c.d.verb → s.tenancyFail q fn = none →
    s.takeSlot fn k q c d false = (t, id) → t.fenced Block.mtc.page = false →
    (c.d.verb = 0x40 → s.posted.length < s.storeCap →
      exec (.recv fn k) s = .next (((t.onPost id fn q.list).kickLocal ((t.onPost id fn q.list).ops.length + 1) fn k).fetchNext fn k).settle) ∧
    (c.d.verb = 0x41 →
      exec (.probe fn k) s = .next (((t.onProbe id fn q.list).kickLocal ((t.onProbe id fn q.list).ops.length + 1) fn k).fetchNext fn k).settle)

/-- Messages and lists in time (R248, R267, R270, R277, R284, R285): a copy that met a fault is tried again, and past the give-up time ends with the
fault's status; a rendezvous with no pull ends with `RDV_NO_PULL`, one pulled and then left with the fault of its source; a message that stops
coming is abandoned; a list becomes `READY` with its event once headers are free; the overflow tail is taken within its ring. Answers a next state
(`exec ... = .next ...`): `matchCopyRetry`, `rdvWaitExpire`, `rdvContinuationExpire`, `msgAbandon`, `listReady`, `ovfTailWrite`. -/
def Obligations.MessagesAndListsMoveOnInTime : Prop :=
  (∀ (s : State) (id t0 kind : Nat) (c : Copy), s.runs = true → Tbl.get s.copies id = some c → c.fault = some (t0, kind) →
    (t0 + 1000 * s.rd F.PWY_TIMERS_GIVEUP ≤ (s.reach c.retryAt).now → exec (.matchCopyRetry id) s =
      .next (((s.reach c.retryAt).copyDone id c).failRecv c.op (faultStatus kind) 0).settle) ∧
    ((s.reach c.retryAt).now < t0 + 1000 * s.rd F.PWY_TIMERS_GIVEUP → exec (.matchCopyRetry id) s = .next ((s.reach c.retryAt).copyRun 64 id).settle)) ∧
  (∀ (s : State) (id t : Nat) (o : Op), s.runs = true → Tbl.get s.ops id = some o → o.deadline = some t → o.ended = none → o.recv = false →
    o.d.verb = vbSend →
    (o.pulled = none → exec (.rdvWaitExpire id) s = .next ((s.reach t).endOp id stTimeout dtRdvNoPull 0 0).settle) ∧
    (o.pulled ≠ none → o.localFault ≠ 0 → exec (.rdvContinuationExpire id) s = .next ((s.reach t).endOp id (faultStatus o.localFault) 0 0 0).settle) ∧
    (o.pulled ≠ none → o.localFault = 0 → exec (.rdvContinuationExpire id) s = .next ((s.reach t).endOp id stRemoteXlt 0 0 0).settle)) ∧
  (∀ (s t : State) (loc rem tc lqp tag : Nat) (k : PwKey) (r : MRec), s.runs = true → k = { loc := loc, rem := rem, tc := tc, lqp := lqp } →
    Tbl.get s.recs (k, tag) = some r → r.rdv = false → r.whole = false → ({ s.reach (r.lastAt + 1000 * s.rd F.PWY_TIMERS_GIVEUP + s.freshNs) with
      recs := Tbl.del s.recs (k, tag), closedMsgs := s.closedMsgs ++ [(k, tag)] } : State) = t →
    (∀ id, r.op = some id → r.fault = 0 → exec (.msgAbandon loc rem tc lqp tag) s = .next (t.failRecv id stAborted dtMsgAbandoned).settle) ∧
    (∀ id, r.op = some id → r.fault ≠ 0 → exec (.msgAbandon loc rem tc lqp tag) s = .next (t.failRecv id (faultStatus r.fault) 0).settle) ∧
    (∀ u, r.op = none → s.unexpOfMsg k tag = some u → exec (.msgAbandon loc rem tc lqp tag) s =
      .next (({ t with unexp := t.unexp.filter fun x => !(x.fn == u.fn && x.list == u.list && x.seq == u.seq) } : State).releaseOvf u.fn u.list u.src u.ovf).settle)) ∧
  (∀ (s : State) (fn list : Nat) (l l' : MList), isFn fn = true → s.runs = true → Tbl.get s.lists (fn, list) = some l → l.ready = false →
    s.rd F.MTC_CTL_RESUME_FREE * 1024 ≤ s.freeHeaders → s.hdrQuota fn = false → s.poolQuota fn = false → l' = { l with ready := true } →
    exec (.listReady fn list) s = .next (({ s with lists := Tbl.set s.lists (fn, list) l' } : State).listEvent fn list
      { type := 0x11, value := list, data := ({ s with lists := Tbl.set s.lists (fn, list) l' } : State).freeHeaders }).settle) ∧
  ∀ (s n : State) (m fn v : Nat), isMaster m = true → isFn fn = true → mayWindow m fn = true → s.access m (F.MTC_OVF_TAIL_TAIL.addr fn 0) n → v < 2 ^ 32 →
    (wrapSub 32 v (n.rd F.MTC_OVF_HEAD_HEAD fn) ≤ n.ovfSize fn ∧ wrapSub 32 v (n.rd F.MTC_OVF_TAIL_TAIL fn) ≤
        n.ovfSize fn - wrapSub 32 (n.rd F.MTC_OVF_TAIL_TAIL fn) (n.rd F.MTC_OVF_HEAD_HEAD fn) →
      exec (.ovfTailWrite m fn v) s = .next ((n.wr F.MTC_OVF_TAIL_TAIL v fn).ovfFetch fn).settle) ∧
    (¬(wrapSub 32 v (n.rd F.MTC_OVF_HEAD_HEAD fn) ≤ n.ovfSize fn ∧ wrapSub 32 v (n.rd F.MTC_OVF_TAIL_TAIL fn) ≤
        n.ovfSize fn - wrapSub 32 (n.rd F.MTC_OVF_TAIL_TAIL fn) (n.rd F.MTC_OVF_HEAD_HEAD fn)) → exec (.ovfTailWrite m fn v) s =
      .next (n.err 0x11 3 { access := 8, addr := F.MTC_OVF_TAIL_TAIL.addr fn 0, master := some m }).settle)

/-! ## Convoys and atomics (09, 10) -/

/-- Contributions (R298, R299, R300): a descriptor that fails a check completes with that check's status, the checks in their order: no slot, not a
contributor, not a member, broken, below the window, given twice; one that passes opens its round and is read; the read fills the stage, a failed
one is tried again, and past the give-up time ends the operation and aborts the round with `CONTRIB_FAULT`. Answers a next state (`exec ... = .next
...`): `convoyBegin`, `contributionReadDone`, `contributionRetry`. -/
def Obligations.ContributionsAreCheckedReadAndStaged : Prop :=
  (∀ (s t : State) (id k r data : Nat) (o : Op), s.runs = true → Tbl.get s.ops id = some o → o.d.verb = vbConvoy → o.recv = false → s.turn id o = true → s.busHeld o.fn = false →
    k = cvSlotOf o.d → r = cvRoundOf o.d → data = cvData r 0 0 → s.fenced Block.col.page = false →
    (s.modOp id fun o => { o with phase := .sent, round := some r, startAt := s.now }) = t →
    (Tbl.get s.convoys k = none → exec (.convoyBegin id) s = .next (t.endOp id stAborted dtNoSlot 0 data).settle) ∧
    ∀ c, Tbl.get s.convoys k = some c →
      (bitOf c.cfg.fns o.fn = false → exec (.convoyBegin id) s = .next (t.endOp id stAborted dtNotContributor 0 data).settle) ∧
      (bitOf c.cfg.fns o.fn = true → s.member c.cfg.slot o.fn = false →
        exec (.convoyBegin id) s = .next (t.endOp id stTenancy dtTenancyMismatch 0 data).settle) ∧
      (bitOf c.cfg.fns o.fn = true → s.member c.cfg.slot o.fn = true →
        (c.state = 3 → exec (.convoyBegin id) s = .next (t.endOp id stBroken dtTreesFailed 0 data).settle) ∧
        (c.state ≠ 3 → c.below r = true → exec (.convoyBegin id) s = .next (t.endOp id stAborted dtOutOfWindow 0 data).settle) ∧
        (c.state ≠ 3 → c.below r = false → c.inWindow r = false → exec (.convoyBegin id) s = .next s.settle) ∧
        (c.state ≠ 3 → c.below r = false → c.inWindow r = true → ∀ x, s.cvRound k r = some x → (x.locals.any fun m => m.fn == o.fn) = true →
          exec (.convoyBegin id) s = .next (t.endOp id stAborted dtDuplicate 0 data).settle) ∧
        (c.state ≠ 3 → c.below r = false → c.inWindow r = true → s.cvRound k r = none → ∀ u v x,
          (t.cvOpen k r).modRound k r (fun x => { x with locals := x.locals ++ [cvLocal o.fn id o.d] }) = u → u.cvRound k r = some x → x.res = none →
          cvValid (cvParams o.d) (cvLocal o.fn id o.d) o.d c.cfg.participants = true → c.need (cvParams o.d) ≤ c.cfg.stage →
          u.cvAgree k r (cvParams o.d) = (v, true) → (cvParams o.d).operation ≠ 4 →
          exec (.convoyBegin id) s = .next (if (cvParams o.d).operation = 0 ∨ ((cvParams o.d).operation = 1 ∧ (cvLocal o.fn id o.d).source = false)
            then v.cvStaged id [] else v.cvFetch id).settle))) ∧
  (∀ (s t : State) (rd id : Nat) (r : HostRead) (o : Op), s.runs = true → Tbl.get s.reads rd = some r → r.use = .contribution id →
    { s with reads := Tbl.del s.reads rd } = t → Tbl.get t.ops id = some o → o.ended = none →
    (∀ b, r.result = some (.ok b) → exec (.contributionReadDone rd) s = .next (t.cvStaged id b).settle) ∧
    (r.result = some .failed → exec (.contributionReadDone rd) s = .next (t.cvReadFault id o 0 0 o.d.localAddr).settle)) ∧
  ∀ (s t : State) (id t0 kind : Nat) (o : Op), s.runs = true → Tbl.get s.ops id = some o → o.readFault = some (t0, kind) → o.ended = none →
    o.reading = none → s.reach o.retryAt = t →
    (t.now < t0 + 1000 * t.rd F.PWY_TIMERS_GIVEUP → exec (.contributionRetry id) s = .next (t.cvFetch id).settle) ∧
    (t0 + 1000 * t.rd F.PWY_TIMERS_GIVEUP ≤ t.now → exec (.contributionRetry id) s = .next ((t.endOp id
      (if kind = 0 then stAborted else faultStatus kind) (if kind = 0 then dtPayloadBus else 0) o.bytes (cvData (cvRoundOf o.d) 0 0)).cvBad (cvSlotOf o.d)
        (cvRoundOf o.d) dtContribFault).settle)

/-- Packets from the children (R306, R307, R313, R319): a packet for a round in the window acts on the round; below it, nothing happens; above, it is
counted in `COL_DROP.NO_SLOT`. A `PARTIAL` is an input of its child; a `DONE` marks the child and may retire the round; a `FAIL` is handled by the
root and passed up elsewhere; the root aborts the round of an `ABORT_REQ`, any other device passes it up. Packets from the parent and floods (R305,
R307, R309, R316, R318, R319): a `RESULT` or an `ABORT` takes its round down with the result or the detail, a `RESULT` that does not fit the round
with `ROUND_MISMATCH`; `WINDOW` goes on to the children with the new base; `RESTART` on the alternate tree puts the slot in `ALTERNATE`, is
forwarded there and rebuilds the rounds; `BROKEN` breaks the slot and its children; a `FLOOD` is forwarded on every other port and held once, and
one of no input of the round, of an input given here or of other bytes ends the round. Answers a next state (`exec ... = .next ...`): `cvPartial`,
`cvDone`, `cvFail`, `cvAbortReq`, `cvResult`, `cvAbort`, `cvWindow`, `cvBroken`, `cvRestart`, `cvFlood`. -/
def Obligations.ConvoyPacketsAct : Prop :=
  ((∀ (s n : State) (c : CvSlot) (rx : RxPkt) (kind : Nat) (i : Instr), s.runs = true → s.convoyPacket kind false n c rx →
    (kind = 1 ∧ i = .cvPartial) ∨ (kind = 3 ∧ i = .cvDone) ∨ (kind = 7 ∧ i = .cvAbortReq) → c.inWindow rx.cv.round = false →
    (c.below rx.cv.round = true → exec i s = .next n.settle) ∧
    (c.below rx.cv.round = false → exec i s = .next (n.bump F.COL_DROP_NO_SLOT).settle)) ∧
  (∀ (s n t u : State) (c : CvSlot) (rx : RxPkt) (x : CvRound), s.runs = true → s.convoyPacket 1 false n c rx → c.inWindow rx.cv.round = true →
    (n.cvOpen rx.cv.slot rx.cv.round).tally .col 2 1 (rx.cv.slot % 2) = t → t.cvRound rx.cv.slot rx.cv.round = some x →
    (x.state ≠ .opened → exec .cvPartial s = .next t.settle) ∧
    (x.state = .opened → t.cvAgree rx.cv.slot rx.cv.round (cvParamsOf rx.cv) = (u, false) →
      exec .cvPartial s = .next (u.cvBad rx.cv.slot rx.cv.round dtRoundMismatch).settle) ∧
    (x.state = .opened → t.cvAgree rx.cv.slot rx.cv.round (cvParamsOf rx.cv) = (u, true) → (cvParamsOf rx.cv).fits rx.cvBody.length = true →
      rx.cv.hasAcc = (cvParamsOf rx.cv).exact → rx.cv.operation ≠ 4 → exec .cvPartial s =
        .next (u.cvInput rx.cv.slot rx.cv.round { src := .port rx.port, count := rx.cv.count, data := rx.cvBody }).settle)) ∧
  (∀ (s n : State) (c : CvSlot) (rx : RxPkt), s.runs = true → s.convoyPacket 3 false n c rx → c.inWindow rx.cv.round = true →
    exec .cvDone s = .next ((n.modRound rx.cv.slot rx.cv.round fun x =>
      { x with dones := Tbl.set x.dones rx.port (if rx.cv.missed then some (rx.cv.missingDid, rx.cv.missingPort) else none) }).cvCheckDone rx.cv.slot rx.cv.round).settle) ∧
  (∀ (s n : State) (c : CvSlot) (rx : RxPkt), s.runs = true → s.convoyPacket 5 false n c rx →
    exec .cvFail s = .next (n.cvFailPort rx.cv.slot (cvReported rx.cv)).settle) ∧
  ∀ (s n : State) (c : CvSlot) (rx : RxPkt), s.runs = true → s.convoyPacket 7 false n c rx → c.inWindow rx.cv.round = true →
    (c.root = true → exec .cvAbortReq s = .next (n.cvRootAbort rx.cv.slot rx.cv.round rx.cv.detail rx.cv.missingDid).settle) ∧
    (c.root = false → exec .cvAbortReq s = .next (n.cvUp rx.cv.slot (cvSay (cvReported rx.cv)
      { cvHdr 7 rx.cv.round (some (cvParamsOf rx.cv)) with detail := rx.cv.detail }) []).settle)) ∧
  ((∀ (s n : State) (c : CvSlot) (rx : RxPkt), s.runs = true → s.convoyPacket 2 true n c rx → c.inWindow rx.cv.round = true →
    ∀ u agrees, (n.cvOpen rx.cv.slot rx.cv.round).cvAgree rx.cv.slot rx.cv.round (cvParamsOf rx.cv) = (u, agrees) → exec .cvResult s =
      .next (u.cvGoDown rx.cv.slot rx.cv.round (if agrees = true ∧ rx.cv.operation ≠ 4 ∧ rx.cvBody.length = (cvParamsOf rx.cv).outLen
        then { abort := none, data := rx.cvBody, count := rx.cv.count } else { abort := some dtRoundMismatch })).settle) ∧
  (∀ (s n : State) (c : CvSlot) (rx : RxPkt), s.runs = true → s.convoyPacket 8 true n c rx → c.inWindow rx.cv.round = true →
    exec .cvAbort s = .next (n.cvGoDown rx.cv.slot rx.cv.round { abort := some rx.cv.detail }).settle) ∧
  (∀ (s n : State) (c : CvSlot) (rx : RxPkt), s.runs = true → s.convoyPacket 4 true n c rx →
    exec .cvWindow s = .next (n.cvDown rx.cv.slot c.tree.children true (cvHdr 4 c.wbase none) []).1.settle) ∧
  (∀ (s n : State) (c : CvSlot) (rx : RxPkt), s.runs = true → s.convoyPacket 9 true n c rx → exec .cvBroken s =
    .next ((n.modCv rx.cv.slot fun c => { c with report := (match cvReported rx.cv with
      | some r => some r
      | none => c.report) }).cvBreak rx.cv.slot rx.cv.detail c.tree.children).settle) ∧
  (∀ (s t : State) (c d : CvSlot) (rx : RxPkt) (rest : List RxPkt), s.runs = true → takeRx (fun r => r.isCv 6) s.rx = some (rx, rest) → rx.cv.ckind = 6 →
    rx.cv.rsvZero = true → rx.cv.ver = 1 → rx.cv.payloadLen = rx.cvBody.length → rx.cv.payloadLen ≤ 4096 → Tbl.get s.convoys rx.cv.slot = some c → rx.slot = c.cfg.slot →
    c.state = 1 → rx.cv.alt = true → c.cfg.onAlt = true → c.cfg.alt.parent = some rx.port →
    (({ s with rx := rest } : State).modCv rx.cv.slot fun c => c.rebase rx.cv.wbase) = t → Tbl.get t.convoys rx.cv.slot = some d → d.state = 1 →
    exec .cvRestart s = .next (((t.modCv rx.cv.slot fun c => { c with state := 2 }).cvDown rx.cv.slot d.cfg.alt.children true
      (cvHdr 6 d.wbase none) []).1.cvRebuild rx.cv.slot).settle) ∧
  ∀ (s n t u : State) (c : CvSlot) (rx : RxPkt) (x : CvRound) (down : Bool), s.runs = true → s.convoyPacket 10 down n c rx →
    c.inWindow rx.cv.round = true → ((n.cvOpen rx.cv.slot rx.cv.round).tally .col 6 1 (rx.cv.slot % 2)).cvFlood rx.cv.slot rx.cv.round
      (cvParamsOf rx.cv) rx.cv.index rx.cvBody (some rx.port) = t → t.cvAgree rx.cv.slot rx.cv.round (cvParamsOf rx.cv) = (u, true) →
    u.cvRound rx.cv.slot rx.cv.round = some x → x.state = .opened →
    (c.floodOk rx.cv rx.cvBody = false ∨ x.locals.any (fun l => l.ready && l.index == rx.cv.index) = true →
      exec .cvFlood s = .next (u.cvBad rx.cv.slot rx.cv.round dtRoundMismatch).settle) ∧
    (c.floodOk rx.cv rx.cvBody = true → x.locals.any (fun l => l.ready && l.index == rx.cv.index) = false →
      (Tbl.get x.floods rx.cv.index = none → exec .cvFlood s = .next (u.cvHold rx.cv.slot rx.cv.round rx.cv.index rx.cvBody).settle) ∧
      ∀ d, Tbl.get x.floods rx.cv.index = some d →
        exec .cvFlood s = .next (if d = rx.cvBody then u else u.cvBad rx.cv.slot rx.cv.round dtRoundMismatch).settle))

/-- Timers of a convoy (R302, R305, R315, R320): the round timer of a round that went down makes the root act as on a failure; a round that waits too
long asks for an abort or ends here; the root's new base is sent after its 1 µs; a parked result write is tried again. Answers a next state (`exec
... = .next ...`): `roundTimer`, `roundWaitTimeout`, `windowSendTimer`, `resultWriteRetry`. -/
def Obligations.ConvoyTimersAct : Prop :=
  (∀ (s : State) (k r t : Nat) (c : CvSlot) (x : CvRound), s.runs = true → Tbl.get s.convoys k = some c → s.cvRound k r = some x → x.timerAt = some t →
    x.state = .down →
    exec (.roundTimer k r) s = .next (((s.reach (t + 1000 * orWhenZero (s.rd F.COL_CTL_ROUND_TMO_US) 1)).modRound k r fun x =>
      { x with timerAt := none }).later (.cvTrigger k c.state none)).settle) ∧
  (∀ (s : State) (k r : Nat) (x : CvRound), s.runs = true → s.cvRound k r = some x → x.waited = false → x.live = true → s.rd F.COL_CTL_WAIT_TMO_MS ≠ 0 →
    exec (.roundWaitTimeout k r) s = .next ((s.reach (x.openedAt + 1000000 * s.rd F.COL_CTL_WAIT_TMO_MS)).cvExpire k r dtWaitTimeout dtOrphaned).settle) ∧
  (∀ (s : State) (k t : Nat) (c : CvSlot), s.runs = true → Tbl.get s.convoys k = some c → c.windowDue = some t → exec (.windowSendTimer k) s =
    .next ((((s.reach t).modCv k fun c => { c with windowDue := none })).cvDown k c.tree.children true (cvHdr 4 c.wbase none) []).1.settle) ∧
  ∀ (s : State) (k r : Nat) (w : CvWrite), s.runs = true → (s.cvWrites.find? fun w => w.slot == k && w.round == r && w.fault.isSome) = some w →
    exec (.resultWriteRetry k r) s = .next ((s.reach w.retryAt).cvRetry fun w => w.slot == k && w.round == r && w.fault.isSome).settle

/-- Semaphores read (R335, R336): a master's read of a free semaphore nobody waits on takes it; of its own answers with `AGAIN`; a waiting read of one
that is held joins the tail of the queue, with one place per master, a trying one answers 0 at once; the read of a place whose grant is held
collects it. Where the form is held by another the state is otherwise unchanged. Semaphores released, forced and timed (R337 to R340): only the
holder's release passes the semaphore on, any other is recorded as index 3; a forced one passes on broken; an acquiring read ends with `TIMED_OUT`
after 10 µs, and its place is kept for the keep time; a grant not collected in it passes on without the flag. Passed on with nobody waiting, the
semaphore is free and the flag is latched. Answers a next state (`exec ... = .next ...`): `semAcquire`, `semTry`, `semRelease`, `semForce`,
`semAcquireTimeout`, `semKeepExpire`. -/
def Obligations.SemaphoresAreTakenAndPassedOn : Prop :=
  ((∀ (s n t : State) (m fn k a : Nat), isMaster m = true → isFn fn = true → k < 256 → mayWindow m fn = true →
    a = F.ATM_SEM_ACQk_GRANTED.addr fn k → s.access m a n → n.halted = false → n.fenced Block.atm.page = false → n.tally .atm 4 = t →
    (t.semWaits k = [] → t.on F.ATM_SEM_STATk_HELD 0 k = false → t.on F.ATM_SEM_STATk_BROKEN 0 k = false →
      exec (.semAcquire m fn k) s = .next ((t.semTake k m).emit (.readReply m a ((t.semTake k m).semValue k m true false false false))).calm) ∧
    (t.semWaits k = [] → t.on F.ATM_SEM_STATk_HELD 0 k = false → t.on F.ATM_SEM_STATk_BROKEN 0 k = true → ∀ u,
      ((t.bump F.ATM_BROKEN_SEM).tally .atm 10).semTake k m = u →
      exec (.semAcquire m fn k) s = .next (u.emit (.readReply m a (u.semValue k m true true false false))).calm) ∧
    ((t.semWaits k).find? (fun w => w.master == m) = none → t.on F.ATM_SEM_STATk_HELD 0 k = true →
      (t.rd F.ATM_SEM_STATk_HOLDER 0 k = m → exec (.semAcquire m fn k) s = .next (t.emit (.readReply m a (t.semValue k m true false true false))).calm) ∧
      (t.rd F.ATM_SEM_STATk_HOLDER 0 k ≠ m → exec (.semAcquire m fn k) s =
        .next ((t.tally .atm 5).setSem k (t.semWaits k ++ [{ master := m, reads := [(a, 8)], since := t.now }])).calm)) ∧
    ∀ w, (t.semWaits k).find? (fun w => w.master == m) = some w → (w.held = true → ∀ u, t.setSem k ((t.semWaits k).filter fun x => x.master != m) = u →
      exec (.semAcquire m fn k) s = .next (u.emit (.readReply m a (u.semValue k m true w.broken false false))).calm) ∧
      (w.held = false → exec (.semAcquire m fn k) s = .next (t.setSem k ((t.semWaits k).map fun x => if x.master = m then { x with
        reads := x.reads ++ [(a, 8)], since := if x.reads = [] then t.now else x.since, keep := none } else x)).calm)) ∧
  ∀ (s n t : State) (m fn k a : Nat), isMaster m = true → isFn fn = true → k < 256 → mayWindow m fn = true →
    a = F.ATM_SEM_TRYk_VALUE.addr fn k → s.access m a n → n.halted = false → n.fenced Block.atm.page = false → n.tally .atm 4 = t →
    (t.semWaits k = [] → t.on F.ATM_SEM_STATk_HELD 0 k = false → t.on F.ATM_SEM_STATk_BROKEN 0 k = false →
      exec (.semTry m fn k) s = .next ((t.semTake k m).emit (.readReply m a ((t.semTake k m).semValue k m true false false false))).calm) ∧
    (t.semWaits k = [] → t.on F.ATM_SEM_STATk_HELD 0 k = false → t.on F.ATM_SEM_STATk_BROKEN 0 k = true → ∀ u,
      ((t.bump F.ATM_BROKEN_SEM).tally .atm 10).semTake k m = u →
      exec (.semTry m fn k) s = .next (u.emit (.readReply m a (u.semValue k m true true false false))).calm) ∧
    ((t.semWaits k).find? (fun w => w.master == m) = none → t.on F.ATM_SEM_STATk_HELD 0 k = true →
      (t.rd F.ATM_SEM_STATk_HOLDER 0 k = m → exec (.semTry m fn k) s = .next (t.emit (.readReply m a (t.semValue k m true false true false))).calm) ∧
      (t.rd F.ATM_SEM_STATk_HOLDER 0 k ≠ m → exec (.semTry m fn k) s =
        .next (t.emit (.readReply m a (t.semValue k m false false false false))).calm)) ∧
    ∀ w, (t.semWaits k).find? (fun w => w.master == m) = some w → (w.held = true → ∀ u, t.setSem k ((t.semWaits k).filter fun x => x.master != m) = u →
      exec (.semTry m fn k) s = .next (u.emit (.readReply m a (u.semValue k m true w.broken false false))).calm) ∧
      (w.held = false → exec (.semTry m fn k) s = .next (t.emit (.readReply m a (t.semValue k m false false false false))).calm)) ∧
  ((∀ (s n : State) (m fn k : Nat), isMaster m = true → isFn fn = true → k < 256 → mayWindow m fn = true → s.access m (F.ATM_SEM_RELk_REL.addr fn k) n →
    (n.on F.ATM_SEM_STATk_HELD 0 k = true ∧ n.rd F.ATM_SEM_STATk_HOLDER 0 k = m → exec (.semRelease m fn k) s =
      .next ((n.setSem k ((n.semWaits k).filter fun w => w.master != m)).semPass k false).calm) ∧
    (¬(n.on F.ATM_SEM_STATk_HELD 0 k = true ∧ n.rd F.ATM_SEM_STATk_HOLDER 0 k = m) → exec (.semRelease m fn k) s =
      .next (n.err 0x17 3 { access := 8, addr := F.ATM_SEM_RELk_REL.addr fn k, master := some m }).calm)) ∧
  (∀ (s n : State) (m k : Nat), isMaster m = true → k < 256 → s.access m (F.ATM_SEM_FORCE_GO.addr 0 0) n → n.mayWrite m = true →
    (n.on F.ATM_SEM_STATk_HELD 0 k = true → exec (.semForce m k) s = .next ((n.setSem k ((n.semWaits k).filter fun w => !w.held)).semPass k true).calm) ∧
    (n.on F.ATM_SEM_STATk_HELD 0 k = false → exec (.semForce m k) s = .next n.calm)) ∧
  (∀ (s t u : State) (m k : Nat) (w : SemWait), isMaster m = true → k < 256 → s.runs = true → (s.semWaits k).find? (fun w => w.master == m) = some w →
    (w.reads ≠ [] → (s.reach (w.since + 10000)).tally .atm 6 = t → t.semReply m w.reads (t.semValue k m false false false true) = u →
      (u.rd F.ATM_CTL_SEM_KEEP_US = 0 → exec (.semAcquireTimeout m k) s = .next (u.setSem k ((s.semWaits k).filter fun x => x.master != m)).calm) ∧
      (u.rd F.ATM_CTL_SEM_KEEP_US ≠ 0 → exec (.semAcquireTimeout m k) s = .next (u.setSem k ((s.semWaits k).map fun x =>
        if x.master = m then { x with reads := [], keep := some (u.now + 1000 * u.rd F.ATM_CTL_SEM_KEEP_US) } else x)).calm)) ∧
    (∀ e, w.keep = some e → (s.reach e).setSem k ((s.semWaits k).filter fun x => x.master != m) = t → exec (.semKeepExpire m k) s =
      .next (if w.held then t.semPass k false else t).calm)) ∧
  ∀ (s : State) (k : Nat) (broken : Bool), s.semWaits k = [] → s.on F.ATM_SEM_STATk_BROKEN 0 k = false → s.semPass k broken =
    ((s.wr F.ATM_SEM_STATk_HELD 0 0 k).wr F.ATM_SEM_STATk_HOLDER 0xFF 0 k).wr F.ATM_SEM_STATk_BROKEN (b2n broken) 0 k)

/-- Atomics and locks (R331, R333, R347, R350): when the word has been read, the new value is written where it differs, the prior value is returned and
the request placed; a grant is received as a packet of its kind; a `LOCK` without a grant in time is withdrawn and ends with `LOCK_WAIT_TIMEOUT`; a
lease that ends and a forced release pass the lock on broken; a lock with no holder is left as it is. Answers a next state (`exec ... = .next ...`):
`atomicReadComplete`, `lockGrantReceive`, `lockWaitTimeout`, `lockLeaseExpire`, `lockForce`. -/
def Obligations.AtomicsAndLocksAreCarriedOut : Prop :=
  (∀ (s t : State) (rd id old new : Nat) (r : HostRead) (j : AtomJob) (b : List Byte), s.runs = true → Tbl.get s.reads rd = some r → r.use = .atomic id →
    r.result = some (.ok b) → Tbl.get s.atomics id = some j → s.busHeld j.fn = false → old = leNat b →
    new = atomicNew j.rx.hdr.msgLen old (leNat ((payloadOf j.rx.pkt).take 8)) (leNat (((payloadOf j.rx.pkt).drop 8).take 8)) →
    ({ s with reads := Tbl.del s.reads rd, atomics := Tbl.del s.atomics id } : State) = t →
    ∀ u, (if new = old then t else t.placeWrite 12 j.fn [(j.addr, 0, j.width)] (leBytes j.width new)) = u →
    (j.sig = none → exec (.atomicReadComplete rd) s = .next (((u.fetchReply j.key j.rx old).outcome j.key j.rx .placed)).retryWords.settle) ∧
    ∀ fn eq, j.sig = some (fn, eq) →
      exec (.atomicReadComplete rd) s = .next ((((u.signalEvent fn eq j.rx.hdr).fetchReply j.key j.rx old).outcome j.key j.rx .placed)).retryWords.settle) ∧
  (∀ (s t : State) (rd id : Nat) (r : HostRead) (j : AtomJob), s.runs = true → Tbl.get s.reads rd = some r → r.use = .atomic id →
    r.result = some .failed → Tbl.get s.atomics id = some j → s.busHeld j.fn = false →
    ({ s with reads := Tbl.del s.reads rd, atomics := Tbl.del s.atomics id } : State) = t → exec (.atomicReadComplete rd) s =
      .next ((((t.releaseSignal j.sig).err 0x17 4 { access := 6, addr := r.iova.getD j.addr, master := some 0x1F, remote := j.rx.hdr.srcEpa }).outcome
        j.key j.rx (.notice ntFault nrSourceBus)).retryWords).settle) ∧
  (∀ (s : State), s.runs = true → s.serves .pwy = true → exec .lockGrantReceive s = .next (match takeRx (fun r => r.isKind 4) s.rx with
      | some (rx, rest) => ({ s with rx := rest } : State).takeData rx
      | none => s).settle) ∧
  (∀ (s t : State) (id : Nat) (o : Op), s.runs = true → Tbl.get s.ops id = some o → o.d.verb = vbLock → o.recv = false → o.ended = none → o.value = none →
    o.phase = .sent → o.d.operand0 % 2 ^ 32 ≠ 0 → (s.reach (o.startAt + 1000 * (o.d.operand0 % 2 ^ 32))) = t → exec (.lockWaitTimeout id) s =
      .next ((t.sendUnlock (t.opKey o) o.slot o.d.key o.d.remote 0 1).endOp id stTimeout dtLockWaitTimeout 0 0).settle) ∧
  (∀ (s : State) (off t : Nat) (l : Lock), s.runs = true → Tbl.get s.locks off = some l → l.leaseEnd = some t →
    exec (.lockLeaseExpire off) s = .next ((s.reach t).lockPass off true).settle) ∧
  (∀ (s n : State) (m off : Nat) (l : Lock), isMaster m = true → s.access m (F.ATM_LOCK_FORCE_GO.addr 0 0) n → n.mayWrite m = true →
    Tbl.get n.locks off = some l → (∀ h, l.holder = some h → exec (.lockForce m off) s = .next (n.lockPass off true).settle) ∧
      (l.holder = none → exec (.lockForce m off) s = .next n.settle)) ∧
  ∀ (s : State) (off : Nat) (l : Lock) (broken : Bool), Tbl.get s.locks off = some l → l.waiters = [] →
    s.lockPass off broken = s.putLock off { l with holder := none, broken := broken || l.broken, leaseEnd := none }

/-! ## Routing, ports and lanes (11 to 14) -/

/-- Transit (R357, R358, R363, R443): a packet whose hops are consumed is ejected here if it is this device's or for no device, and else discarded and
counted; one that fails the transit check or whose output is dead past its grace is dropped with a path fault; any other waits for the output that
its milestone names, also while it is still being received; the oldest packet of the port and VC is handled. Grants and waits at a junction (R389,
R392, R393, R425, R440, R443): at a packet boundary the earliest waiting VCB packet is granted before any other, until the burst is used up, then
the set whose turn it is; a packet that is being sent goes on, with null flits while its bytes are missing; no packet starts in `DRAIN`; a VCB
packet or an ejected one that waits past its time is discarded, counted and recorded; at the end of the grace period a packet that waits for the
port is dropped with its path fault. Answers a next state (`exec ... = .next ...`): `transitForward`, `outputArbitrate`, `vcbWaitExpire`,
`ejectWaitExpire`, `linkGraceExpire`. -/
def Obligations.PacketsAreForwardedGrantedOrDropped : Prop :=
  (∀ (s : State) (port vc j : Nat) (b : BufPkt) (rest : List BufPkt) (r : Route), port < 128 → vc ≤ 8 → j = port / 8 → s.runs = true →
    takeFirst (fun b => b.vc == vc && b.out == none) (s.port port).buf = some (b, rest) → s.fenced (0x20 + j) = false → r = b.pkt.route → r.rver = 1 →
    r.hops ≤ 10 → r.hopPtr ≤ r.hops → r.rsvZero = true → r.ms.length = r.hops →
    (r.hopPtr = r.hops → r.dstDid ≠ 0x3FFFF → r.dstDid ≠ s.did →
      exec (.transitForward port vc) s = .next ((s.dropBuf port b).misrouted j b port).calm) ∧
    (r.hopPtr = r.hops → (r.dstDid = 0x3FFFF ∨ r.dstDid = s.did) → b.live = none → s.ejectBytes j + b.len ≤ 65536 →
      exec (.transitForward port vc) s = .next ((s.dropBuf port b).ejectTo j b.pkt port vc).calm) ∧
    ∀ h, r.hopPtr < r.hops → r.ms[r.hopPtr]? = some h →
      (∀ x, vc < 8 → s.transitCheck b = some x → exec (.transitForward port vc) s = .next ((s.dropBuf port b).dropFault port b r.hopPtr x 0).calm) ∧
      (∀ x, vc < 8 → s.transitCheck b = none → s.deadOutput h.port = some x →
        exec (.transitForward port vc) s = .next ((s.dropBuf port b).dropFault port b r.hopPtr x 0).calm) ∧
      (∀ b', vc < 8 → s.transitCheck b = none → s.deadOutput h.port = none → b' = { b with out := some (h.port, h.vc, r.hopPtr), since := s.now } →
        exec (.transitForward port vc) s = .next ((s.modPort port fun q =>
          { q with buf := q.buf.replace b b' }).noteBacklog h.port).calm) ∧
      (vc = 8 → (s.configured h.port = false ∨ s.portState h.port ≠ 3) →
        exec (.transitForward port vc) s = .next ((s.dropBuf port b).vcbDiscard j b port).calm) ∧
      (∀ b', vc = 8 → s.configured h.port = true → s.portState h.port = 3 →
        b' = { b with out := some (h.port, 8, r.hopPtr), since := s.now } → exec (.transitForward port vc) s =
          .next (s.modPort port fun q => { q with buf := q.buf.replace b b' }).calm)) ∧
  ((∀ (s : State) (o src : Nat) (b : BufPkt), o < 128 → s.runs = true → s.portState o = 3 → (s.port o).tx = none →
    earliest (s.grantable o 8) = some (src, b) →
    (s.nextVc o 4 (s.port o).rrE = none ∧ s.nextVc o 0 (s.port o).rrG = none ∨ (s.port o).vcbRun < orWhenZero (s.rd F.XBR_ARB_VCB_BURST (o / 8)) 1) →
    exec (.outputArbitrate o) s = .next ((s.modPort o fun q => { q with vcbRun := q.vcbRun + 1 }).grant o src b).calm) ∧
  (∀ (s : State) (o v src : Nat) (b : BufPkt) (q : PortSt) (ex ge : Option (Nat × Nat × BufPkt)), o < 128 → s.runs = true → s.portState o = 3 →
    (s.port o).tx = none → s.nextVc o 4 (s.port o).rrE = ex → s.nextVc o 0 (s.port o).rrG = ge →
    earliest (s.grantable o 8) = none ∨ ((ex.isSome || ge.isSome) = true ∧ orWhenZero (s.rd F.XBR_ARB_VCB_BURST (o / 8)) 1 ≤ (s.port o).vcbRun) →
    (drr 512 (256 * s.rd F.XBR_ARB_EXP_QUANTUM (o / 8)) (256 * s.rd F.XBR_ARB_GEN_QUANTUM (o / 8)) (ex.map fun e => e.2.2.len)
        (ge.map fun e => e.2.2.len) { s.port o with vcbRun := 0 } = (q, some true) → ex = some (v, src, b) →
      exec (.outputArbitrate o) s = .next ((s.modPort o fun _ => { q with rrE := v }).grant o src b).calm) ∧
    (drr 512 (256 * s.rd F.XBR_ARB_EXP_QUANTUM (o / 8)) (256 * s.rd F.XBR_ARB_GEN_QUANTUM (o / 8)) (ex.map fun e => e.2.2.len)
        (ge.map fun e => e.2.2.len) { s.port o with vcbRun := 0 } = (q, some false) → ge = some (v, src, b) →
      exec (.outputArbitrate o) s = .next ((s.modPort o fun _ => { q with rrG := v }).grant o src b).calm)) ∧
  (∀ (s t : State) (o : Nat), o < 128 → s.runs = true → s.portState o = 3 ∨ s.portState o = 4 → s.pumpOut o = t →
    ((s.port o).tx ≠ none → (t.port o).tx ≠ (s.port o).tx → exec (.outputArbitrate o) s = .next t.calm) ∧
    ((s.port o).tx ≠ none → (t.port o).tx = (s.port o).tx → exec (.outputArbitrate o) s = .next (s.sendNull o []).calm) ∧
    ((s.port o).tx = none → s.portState o = 4 → exec (.outputArbitrate o) s =
      .next (if (s.port o).fillLen = 0 then s.sendNull o [] else s.padFlit o).calm)) ∧
  (∀ (s : State) (o : Nat), o < 128 → s.runs = true → s.portState o ≠ 3 → s.portState o ≠ 4 → exec (.outputArbitrate o) s = .next s.calm) ∧
  (∀ (s : State) (o src : Nat) (b : BufPkt), o < 128 → s.runs = true → earliest ((s.waiting o).filter fun e => e.2.outVc == 8) = some (src, b) →
    exec (.vcbWaitExpire o) s = .next (((s.reach (b.since + 1000 * orWhenZero (s.rd F.XBR_CTL_VCB_WAIT_US (srcJunction src)) 1)).dropBuf src b).vcbDiscard
      (srcJunction src) b (if src < 128 then src else 0x80)).calm) ∧
  (∀ (s t : State) (j : Nat) (r : RxPkt) (rest : List RxPkt), j < 16 → s.runs = true → Tbl.getD s.eject j [] = r :: rest →
    { s.reach (r.at_ + 1000 * orWhenZero (s.rd F.XBR_CTL_EJECT_WAIT_US j) 1) with eject := Tbl.set s.eject j rest } = t →
    exec (.ejectWaitExpire j) s = .next ((((t.bump F.XBR_DROP_EJECT_DISCARD 1 j).tally .xbr 10 1 j).err (0x20 + j) 6 (rxErr r.pkt r.port r.vc)).trace j 3
      r.pkt (r.port, r.vc) (0x80, 9) 0x12 r.pkt.route.cong r.at_).calm) ∧
  ∀ (s t : State) (o e : Nat), o < 128 → s.runs = true → (s.port o).graceEnd = some e → s.portState o ≠ 3 → s.reach e = t →
    (t.waiting o = [] → exec (.linkGraceExpire o) s = .next t.calm) ∧
    ∀ src b i vc k, t.waiting o = [(src, b)] → b.out = some (i, vc, k) → vc ≠ 8 → exec (.linkGraceExpire o) s = .next ((t.dropBuf src b).dropFault src b k
      pfLinkDown (((t.dropBuf src b).now - max (t.port o).leftAt b.since) / 1000)).calm)

/-- Road book, quarantines and tollgate (R364, R366, R379, R381, R413): a write to the window changes the shadow bank's bytes, unless a commit is in
progress; a path fault that fits its candidate quarantines the prefix up to the dead port, any other is counted as stale; a quarantine ends in time
or when cleared; the tollgate's slot is loaded and its staged meter applied and refilled, and refused where its sizes do not fit. Answers a next
state (`exec ... = .next ...`): `rtbWinWrite`, `pathFaultReceive`, `quarantineExpire`, `quarClr`, `tgSelWrite`, `tgActWrite`. -/
def Obligations.RoadBookQuarantinesAndTollgateAreDriven : Prop :=
  (∀ (s n : State) (m a size v k : Nat), isMaster m = true → isWin a = true → s.access m a n → goodAccess a size = true → n.mayWrite m = true →
    (n.on F.SHADOW_STAT_BUSY 0x19 = true → exec (.rtbWinWrite m a size v) s = .next (n.refuse m 0x19 a true).calm) ∧
    (n.on F.SHADOW_STAT_BUSY 0x19 = false → n.winAddr (a % 65536) = some k →
      exec (.rtbWinWrite m a size v) s = .next (n.memWrite .rtb (k + a % 8) (leBytes size v)).calm)) ∧
  (∀ (s : State) (u : MemUser) (a : Nat) (b : List Byte), b ≠ [] → s.memBarred u a b.length true = false →
    s.memWrite u a b = (s.setBytes a b).memBursts u a b.length true) ∧
  (∀ (s : State) (rx : RxPkt) (rest : List RxPkt) (h : FaultHdr), s.runs = true → s.serves .rtb = true →
    takeRx (fun r => r.isKind 3) s.rx = some (rx, rest) → rx.pkt.body = .pathFault h → h.ver = 1 → h.rsvZero = true →
    exec .pathFaultReceive s = .next (({ s with rx := rest } : State).pathFault h (some (rx.port, rx.pkt.route.hops))).settle) ∧
  (∀ (s : State) (h : FaultHdr) (port hops : Nat) (ms : List Milestone) (x : Nat), s.compose h.dDstDid 0 h.dCand = .route ms x →
    (h.dBgen = s.bgen ∧ ms.length = h.dHops ∧ h.hop < h.dHops ∧ (ms[h.hop]?.map Milestone.port) = some h.deadPort ∧ hops = h.hop ∧
        (h.hop = 0 ∨ ms.head?.map Milestone.port = some port) → s.pathFault h (some (port, hops)) =
      ((s.bump F.RTB_FAULTS_ACCEPTED).tally .rtb 6).quarantine ((ms.map Milestone.port).take (h.hop + 1))) ∧
    (h.dBgen ≠ s.bgen ∨ ms.length ≠ h.dHops ∨ h.dHops ≤ h.hop ∨ hops ≠ h.hop → s.pathFault h (some (port, hops)) = s.bump F.RTB_FAULTS_STALE)) ∧
  (∀ (s t : State) (q : Quar) (rest : List Quar), s.runs = true → s.quars = q :: rest →
    s.reach (firstEnd s.quars) = t →
    exec .quarantineExpire s = .next (({ t with quars := t.quars.filter fun x => decide (t.now < x.until_) } : State).later .offer).settle) ∧
  (∀ (s n : State) (m : Nat), isMaster m = true → s.access m (F.RTB_QUAR_CLR_CLR.addr 0 0) n → n.mayWrite m = true →
    exec (.quarClr m) s = .next (({ n with quars := [] } : State).later .offer).settle) ∧
  (∀ (s n : State) (m slot : Nat), isMaster m = true → slot < 4096 → s.access m (F.TMG_TG_SEL_SLOT.addr 0 0) n → n.mayWrite m = true →
    exec (.tgSelWrite m slot) s = .next ((n.wr F.TMG_TG_SEL_SLOT slot).loadMeter slot).calm) ∧
  ∀ (s n : State) (m v cir cbs pir pbs slot : Nat), isMaster m = true → s.access m (F.TMG_TG_ACT_EN.addr 0 0) n → n.mayWrite m = true →
    cir = n.rd F.TMG_TG_CIR_CIR → cbs = n.rd F.TMG_TG_CIR_CBS → pir = n.rd F.TMG_TG_PIR_PIR → pbs = n.rd F.TMG_TG_PIR_PBS →
    slot = n.rd F.TMG_TG_SEL_SLOT →
    (bitOf v 0 = true → pir < cir ∨ cbs < 4176 ∨ pbs < 4176 → exec (.tgActWrite m v) s = .next (n.refuse m 0x18 (F.TMG_TG_ACT_EN.addr 0 0) true).calm) ∧
    ((bitOf v 0 = true → cir ≤ pir ∧ 4176 ≤ cbs ∧ 4176 ≤ pbs) → ∀ k : Meter, k =
      { n.meter slot with en := bitOf v 0, cir := cir, pir := pir, cbs := cbs, pbs := pbs, green := bitsOf v 2 2, yellow := bitsOf v 4 2,
                          red := bitsOf v 6 2, tc := cbs * 8000, tp := pbs * 8000, stamp := n.now } →
      exec (.tgActWrite m v) s = .next (({ n with meters := Tbl.set n.meters slot k } : State).loadMeter slot).calm)

/-- Flits (R421, R424, R427, R429, R430, R431, R439): one whose codeword or `CRC` fails is counted, recorded as index 1 and answered with a NAK; a good
one acts through its control blocks and its acknowledgement, also where it is a duplicate or leaves a gap; only the next in order has its part of
the stream taken, a gap is answered with a NAK. In mode `L` each flit is a codeword, in mode `S` two share one. A malformed block is ignored and
recorded. The NAK is sent if armed or old enough; the replay timer sends what the replay buffer holds again. Answers a next state (`exec ... = .next
...`): `flitReceive`, `replayTimer`. -/
def Obligations.FlitsAreReceivedInOrderAndReplayed : Prop :=
  (∀ (s t : State) (p : Nat) (a : Arrival) (ok : Bool), p < 128 → s.runs = true → 2 ≤ s.portState p → s.portState p ≤ 4 →
    s.takeCodeword p a.errs = (t, ok) →
    (ok = false ∨ Flit.crcOk a.flit = false → exec (.flitReceive p a) s =
      .next (((t.bump F.LNK_CNT_FLITS_BAD 1 p).err (0x40 + p) 1 (flitErr p)).nak p).calm) ∧
    (ok = true → Flit.crcOk a.flit = true → exec (.flitReceive p a) s = .next (t.goodFlit p a).calm)) ∧
  (∀ (s t : State) (p d : Nat) (a : Arrival) (f : Flit), a.flit = f → (f.ctl.foldl (fun s b => s.onBlock p a.answers b) s).onAck p f = t →
    d = wrapSub 12 f.seq (wrapAdd 12 (t.port p).last 1) →
    (f.seqd = false → s.goodFlit p a = t) ∧
    (f.seqd = true → 2 ≤ t.portState p → t.portState p ≤ 4 →
      (d = 0 → s.goodFlit p a = (t.modPort p fun q => { q with last := f.seq, gotSeq := true, nakArmed := true }).onStream p f 0 f.data) ∧
      (2048 ≤ d → s.goodFlit p a = t) ∧ (d ≠ 0 → d < 2048 → s.goodFlit p a = t.nak p))) ∧
  (∀ (s : State) (p : Nat) (errs : List Nat), (s.port p).rxHalf = none →
    (s.rd F.LNK_STAT_FEC_ACTIVE p = 0 → 7 < errs.sum → s.takeCodeword p errs = (s.bump F.LNK_FEC_CW_UNCORRECTABLE 1 p, false)) ∧
    (s.rd F.LNK_STAT_FEC_ACTIVE p = 0 → errs.sum ≤ 7 → s.takeCodeword p errs = (s.onCodeword p errs, true)) ∧
    (s.rd F.LNK_STAT_FEC_ACTIVE p ≠ 0 → errs.sum ≤ 15 →
      s.takeCodeword p errs = ((s.modPort p fun q => { q with rxHalf := some true }).onCodeword p errs, true)) ∧
    (s.rd F.LNK_STAT_FEC_ACTIVE p ≠ 0 → 15 < errs.sum → s.takeCodeword p errs =
      ((s.modPort p fun q => { q with rxHalf := some false }).bump F.LNK_FEC_CW_UNCORRECTABLE 1 p, false))) ∧
  (∀ (s : State) (p n : Nat) (b : List Byte), (ctlOf b = none → s.onBlock p n b = s.err (0x40 + p) 6 (flitErr p)) ∧
    ∀ c, ctlOf b = some c → s.onBlock p n b = s.onCtl p n c) ∧
  (∀ (s : State) (p : Nat), ((s.port p).nakArmed = true ∨ (s.port p).nakAt + s.replayNs p ≤ s.now →
      s.nak p = (s.modPort p fun q => { q with nakArmed := false, nakAt := s.now }).sendNak p) ∧
    ((s.port p).fails < orWhenZero (s.rd F.LNK_CTL_REPLAY_MAX p) 1 → ∀ t, (((s.modPort p fun q => { q with
        fails := q.fails + 1, replayFrom := q.una, replayAt := s.now, progress := s.now }).bump F.LNK_CNT_REPLAYS 1 p).tally .lnk 2
        (s.port p).replayBuf.length p) = t → s.replay p = (s.port p).replayBuf.foldl (fun s f => s.sendFlit p f) t)) ∧
  ∀ (s : State) (p : Nat), p < 128 → s.runs = true → s.portState p = 3 ∨ s.portState p = 4 → (s.port p).una ≠ (s.port p).next →
    exec (.replayTimer p) s = .next ((s.reach ((s.port p).progress + s.replayNs p)).replay p).calm

/-- Control blocks (R439): every block, with each field at any value that the field can hold, spells 16 bytes that are read back as that block. -/
def Obligations.ControlBlocksReadBackAsTheyAreSent : Prop :=
  ∀ c : Ctl, c.fits = true → (Ctl.bytes c).length = 16 ∧ ctlOf (Ctl.bytes c) = some c

/-- Credits, audits and time (R435, R437, R444): a changed pool's counts are sent in time, all nine at every refresh, with the peer's back-pressure; an
audit sends nine blocks, and a retrain that is due begins at its end, or waits for software; the time exchange is sent while `UP`. Answers a next
state (`exec ... = .next ...`): `creditUpdateTimer`, `creditRefreshTimer`, `auditTimer`, `timeExchangeTimer`. -/
def Obligations.CreditsAuditsAndTimeAreSent : Prop :=
  (∀ (s : State) (p k j t : Nat), p < 128 → k ≤ 8 → s.runs = true → s.portState p = 3 ∨ s.portState p = 4 →
    (s.port p).changed.find? (fun c => c.1 == k) = some (j, t) → ∀ u, s.reach (t + s.rd F.LNK_CREDIT_CTL_UPDATE_NS p) = u →
    exec (.creditUpdateTimer p k) s = .next ((u.modPort p fun q => { q with changed := q.changed.filter fun c => c.1 != k }).sendNull p
      [.credit k 0xF false ((s.port p).retd.getD k (0, 0)).1 ((s.port p).retd.getD k (0, 0)).2 0 0]).calm) ∧
  (∀ (s t : State) (p : Nat) (q : PortSt) (c : Nat → Nat × Nat), p < 128 → s.runs = true → s.portState p = 3 ∨ s.portState p = 4 → s.port p = q →
    (∀ k, c k = q.retd.getD k (0, 0)) → s.reach (q.refreshAt + orWhenZero (s.rd F.LNK_CREDIT_CTL_REFRESH_NS p) 1000) = t →
    exec (.creditRefreshTimer p) s = .next ((t.modPort p fun q => { q with refreshAt := t.now, changed := [] }).sendNull p
      [.credit 0 1 false (c 0).1 (c 0).2 (c 1).1 (c 1).2, .credit 2 3 false (c 2).1 (c 2).2 (c 3).1 (c 3).2,
       .credit 4 5 false (c 4).1 (c 4).2 (c 5).1 (c 5).2, .credit 6 7 false (c 6).1 (c 6).2 (c 7).1 (c 7).2,
       .credit 8 0xF false (c 8).1 (c 8).2 0 0, .vcbOnOff q.xoff q.gap]).calm) ∧
  (∀ (s t u : State) (p : Nat), p < 128 → s.runs = true → s.portState p = 3 → s.rd F.LNK_CREDIT_CTL_AUDIT_US p ≠ 0 →
    s.reach ((s.port p).auditAt + 1000 * s.rd F.LNK_CREDIT_CTL_AUDIT_US p) = t →
    (t.modPort p fun q => { q with auditAt := t.now, due := false }).sendNull p ((List.range 9).map fun k => .audit k (t.port p).last
      ((t.port p).free k).1 ((t.port p).free k).2 ((t.port p).retd.getD k (0, 0)).1 ((t.port p).retd.getD k (0, 0)).2) = u →
    ((t.port p).due = false → exec (.auditTimer p) s = .next u.calm) ∧
    ((t.port p).due = true → u.on F.LNK_CTL_HOLD_RETRAIN p = true → exec (.auditTimer p) s = .next (u.wr F.LNK_STAT_RETRAIN_DUE 1 p).calm) ∧
    ((t.port p).due = true → u.on F.LNK_CTL_HOLD_RETRAIN p = false → exec (.auditTimer p) s = .next ((u.err (0x40 + p) 4 {}).enterDrain p 5).calm)) ∧
  ∀ (s : State) (p : Nat), p < 128 → s.runs = true → s.portState p = 3 → s.rd F.LNK_TIME_CTL_PERIOD_US p ≠ 0 →
    exec (.timeExchangeTimer p) s = .next ((s.reach ((s.port p).timeAt + 1000 * s.rd F.LNK_TIME_CTL_PERIOD_US p)).later (.sendTime p)).calm

/-- Link transitions (R437, R440, R441): `RETRAIN` and `EN` written 0 take an `UP` port to `DRAIN`; `EN` written 1 takes a configured, unfenced port
from `DOWN` to `TRAIN`, written 0 one in `TRAIN` or `ALIGN` to `DOWN`; lanes ready take `TRAIN` to `ALIGN`, unless a reservation waits for the
buffer to empty; `ALIGN` returns to `TRAIN` and `DRAIN` ends when their times pass. Answers a next state (`exec ... = .next ...`): `linkRetrain`,
`linkEnable`, `lanesReady`, `alignTimeout`, `drainTimeout`. -/
def Obligations.LinkStatesChangeOnTheirTriggers : Prop :=
  (∀ (s n : State) (m p : Nat), isMaster m = true → p < 128 → s.access m (F.LNK_CTL_RETRAIN.addr p 0) n → n.mayWrite m = true →
    (n.portState p = 3 → n.on F.LNK_STAT_RETRAIN_DUE p = false → exec (.linkRetrain m p) s = .next (n.enterDrain p 1).calm) ∧
    (n.portState p = 3 → n.on F.LNK_STAT_RETRAIN_DUE p = true →
      exec (.linkRetrain m p) s = .next (((n.err (0x40 + p) 4 {}).wr F.LNK_STAT_RETRAIN_DUE 0 p).enterDrain p 1).calm) ∧
    (n.portState p ≠ 3 → exec (.linkRetrain m p) s = .next n.calm)) ∧
  (∀ (s n t : State) (m p : Nat) (on : Bool), isMaster m = true → p < 128 → s.access m (F.LNK_CTL_EN.addr p 0) n → n.mayWrite m = true →
    n.wr F.LNK_CTL_EN (b2n on) p = t →
    (t.portState p = 0 → on = true → t.configured p = true → t.portFenced p = false →
      exec (.linkEnable m p on) s = .next (t.enterTrain p true).calm) ∧
    (t.portState p = 3 → on = false → exec (.linkEnable m p on) s = .next ((t.enterDrain p 1).checkDrain p).calm) ∧
    (t.portState p = 1 ∨ t.portState p = 2 → on = false → exec (.linkEnable m p on) s = .next (t.enterIdle p 0).calm)) ∧
  ∀ (s : State) (p : Nat), p < 128 → s.runs = true →
    (s.portState p = 1 → (s.port p).chosen = true → (s.port p).set ≠ [] →
      ((s.port p).set.all fun i => s.laneState (p / 4) (((s.portLanes p).getD []).getD i 0) == 5) = true →
      ((s.port p).rsvNext = none → exec (.lanesReady p) s = .next (s.enterAlign p).calm) ∧
      (∀ r, (s.port p).rsvNext = some r → (s.port p).buf = [] → ((s.applyRsv p).port p).rsvNext = none →
        exec (.lanesReady p) s = .next ((s.applyRsv p).enterAlign p).calm) ∧
      (∀ r, (s.port p).rsvNext = some r → (s.port p).buf ≠ [] → exec (.lanesReady p) s = .next s.calm)) ∧
    (s.portState p = 2 → exec (.alignTimeout p) s =
      .next ((s.reach ((s.port p).since + 1000 * orWhenZero (s.rd F.LNK_TMO_ALIGN_TMO_US p) 1)).enterTrain p false).calm) ∧
    (s.portState p = 4 → ∀ t, s.reach ((s.port p).since + 1000 * orWhenZero (s.rd F.LNK_TMO_DRAIN_TMO_US p) 1) = t → t.portState p = 4 →
      exec (.drainTimeout p) s = .next (if t.on F.LNK_CTL_EN p then t.enterTrain p false else t.enterIdle p 0).calm)

/-- Lane transitions (R452, R454 to R458, R465): signal, convergence and two markers 4,096 symbols apart with the peer's `RX_READY` take a lane forward
and may let its port decide; a wrong plane or a skew above 60 ns is recorded and leaves it; lost signal and lost lock take it back; training frames,
and a PLL that unlocks, take the ports that are up back to `TRAIN`; a port decides late when the lock time has passed. Answers a next state (`exec
... = .next ...`): `signalDetect`, `adaptConverged`, `signalLost`, `laneLoss`, `noSignalTimeout`, `markerLock`, `lockTimeout`, `trainingFramesRx`,
`lanePllLock`, `pllUnlock`. -/
def Obligations.LanesMoveOnTheirTriggers : Prop :=
  (∀ (s : State) (g l : Nat), g < 32 → l < 4 → s.runs = true →
    (s.laneState g l = 2 → exec (.signalDetect g l) s = .next ((s.wr F.LAN_LANE_STATl_SIGNAL 1 g l).setLane g l 3).calm) ∧
    (∀ inv, s.laneState g l = 3 → exec (.adaptConverged g l inv) s = .next ((s.wr F.LAN_LANE_STATl_POL_INV (b2n inv) g l).setLane g l 4).calm) ∧
    (3 ≤ s.laneState g l → s.laneState g l ≤ 5 → ∀ t, (s.wr F.LAN_LANE_STATl_SIGNAL 0 g l).setLane g l 2 = t → exec (.signalLost g l) s =
      .next ((t.modLane (4 * g + l) fun k => { k with quietAt := t.now - 1000 * orWhenZero (t.rd F.LAN_TMO_SQUELCH_US g) 1 }).loseLane g l true).calm) ∧
    (3 ≤ s.laneState g l → s.laneState g l ≤ 5 → exec (.laneLoss g l) s =
      .next (((s.setLane g l 3).modLane (4 * g + l) fun k => { k with passed := false, peerPort := none }).loseLane g l true).calm) ∧
    (s.laneState g l = 2 → s.on F.LAN_LANE_STATl_SIGNAL g l = false → exec (.noSignalTimeout g l) s =
      .next ((s.reach ((s.lane (4 * g + l)).quietAt + 1000 * orWhenZero (s.rd F.LAN_TMO_SQUELCH_US g) 1)).decideFor g l).calm)) ∧
  (∀ (s t : State) (g l p i skew : Nat) (a b : List Byte) (m n : Marker), g < 32 → l < 4 → s.runs = true → s.laneState g l = 4 →
    markerOf a = some m → markerOf b = some n → s.portOfLane g l = some (p, i) → s.wr F.LAN_LANE_STATl_PEER_RX_READY (b2n n.ready) g l = t →
    (m.plane ≠ i ∨ n.plane ≠ i ∨ m.port ≠ n.port ∨ (∃ x ∈ t.peerPorts p l, x ≠ n.port) →
      exec (.markerLock g l a b 4096 skew) s = .next (t.laneErr g l 5).calm) ∧
    (m.plane = i → n.plane = i → m.port = n.port → (∀ x ∈ t.peerPorts p l, x = n.port) → 60000 < skew →
      exec (.markerLock g l a b 4096 skew) s = .next ((t.wr F.LAN_LANE_STATl_SKEW_PS (min skew 65535) g l).laneErr g l 2).calm) ∧
    (m.plane = i → n.plane = i → m.port = n.port → (∀ x ∈ t.peerPorts p l, x = n.port) → skew ≤ 60000 → ∀ u,
      ((t.wr F.LAN_LANE_STATl_SKEW_PS (min skew 65535) g l).modLane (4 * g + l) fun k => { k with passed := true, peerPort := some n.port }).showTx
        g l = u →
      (n.ready = false → exec (.markerLock g l a b 4096 skew) s = .next u.calm) ∧
      (n.ready = true → exec (.markerLock g l a b 4096 skew) s = .next (((u.wr F.LAN_LANE_STATl_LOCK_TIME_US
        (min ((u.now - (u.lane (4 * g + l)).detectAt) / 1000) 65535) g l).setLane g l 5).decideFor g l).calm))) ∧
  (∀ (s : State) (g l spacing skew : Nat) (a b : List Byte), g < 32 → l < 4 → s.runs = true →
    markerOf a = none ∨ markerOf b = none ∨ spacing ≠ 4096 → exec (.markerLock g l a b spacing skew) s = .next s.calm) ∧
  (∀ (plane port : Nat) (ready training : Bool), plane < 4 → port < 128 →
    markerOf (markerBytes plane ready training port) = some { plane := plane, ready := ready, training := training, port := port }) ∧
  (∀ (s : State) (p : Nat), p < 128 → s.runs = true →
    (s.portState p = 1 → (s.port p).chosen = false → exec (.lockTimeout p) s =
      .next ((s.reach ((s.port p).since + 1000 * orWhenZero (s.rd F.LAN_TMO_LOCK_TMO_US (p / 4)) 1)).decideSet p true).calm) ∧
    (s.portState p = 2 → exec (.trainingFramesRx p) s = .next ((s.wr F.LNK_STAT_LAST_CAUSE 2 p).enterTrain p false).calm) ∧
    (s.portState p = 3 → ∀ t, s.err (0x40 + p) 7 {} = t → t.portState p = 3 →
      exec (.trainingFramesRx p) s = .next ((t.leftUp p 2).enterTrain p false).calm)) ∧
  ∀ (s : State) (g : Nat), g < 32 → s.runs = true →
    exec (.lanePllLock g) s = .next (s.wr F.LAN_STAT_PLL_LOCK 1 g).calm ∧
    exec (.pllUnlock g) s = .next ((List.range 4).foldl (fun s k => trainingFramesRx (4 * g + k) s) ((List.range 4).foldl (fun s l =>
      if 3 ≤ s.laneState g l ∧ s.laneState g l ≤ 5 then s.setLane g l 3 else s) ((s.wr F.LAN_STAT_PLL_LOCK 0 g).when
        ((List.range 4).any fun k => (s.wr F.LAN_STAT_PLL_LOCK 0 g).on F.LNK_CTL_EN (4 * g + k)) fun s => s.err (0xC0 + g) 4 { addr := 0 }))).calm

/-- Lanes tested, injected, measured and fenced (R459 to R463, R465): a test of a lane in `OFF` or `SQUELCHED` takes it to `TEST`, one elsewhere is
refused, all modes 0 return it to `OFF`; injected symbols are counted; a scan runs where the lane measures, and ends elsewhere with all ones; the
eye is refreshed and valid where it is measured; the checker's counts accumulate; a fence is set once, with what it brings about. Answers a next
state (`exec ... = .next ...`): `lanTestWrite`, `injectGo`, `marginStart`, `marginScanDone`, `eyeRefresh`, `prbsCheckerSync`, `serLimit`,
`laneFenceWrite`. -/
def Obligations.LanesAreTestedMeasuredAndFenced : Prop :=
  (∀ (s n : State) (m g l v : Nat), isMaster m = true → g < 32 → l < 4 → s.access m (F.LAN_TESTl_GEN.addr g l) n → n.mayWrite m = true →
    ∀ t, ((n.wr F.LAN_TESTl_GEN (bitsOf v 0 3) g l).wr F.LAN_TESTl_CHK (bitsOf v 4 3) g l).wr F.LAN_TESTl_LOOP (bitsOf v 8 2) g l = t →
    (bitsOf v 0 3 = 0 → bitsOf v 4 3 = 0 → bitsOf v 8 2 = 0 → n.laneState g l = 6 →
      n.laneFenced g l = false → exec (.lanTestWrite m g l v) s = .next (((t.wr F.LAN_PRBS_CNTl_SYNC 0 g l).unlock g l).setLane g l 0).calm) ∧
    (¬(bitsOf v 0 3 = 0 ∧ bitsOf v 4 3 = 0 ∧ bitsOf v 8 2 = 0) → 1 < n.laneState g l →
      exec (.lanTestWrite m g l v) s = .next (n.refuse m (0xC0 + g) (F.LAN_TESTl_GEN.addr g l) true).calm) ∧
    (¬(bitsOf v 0 3 = 0 ∧ bitsOf v 4 3 = 0 ∧ bitsOf v 8 2 = 0) → n.laneState g l ≤ 1 → bitsOf v 0 3 ≠ 7 → bitsOf v 4 3 ≠ 7 →
      exec (.lanTestWrite m g l v) s = .next ((t.unlock g l).setLane g l 6).calm)) ∧
  (∀ (s n : State) (m g l : Nat), isMaster m = true → g < 32 → l < 4 → s.access m (F.LAN_INJECTl_GO.addr g l) n → n.mayWrite m = true →
    ∀ k, k = (if n.rd F.LAN_INJECTl_MODE g l = 1 then 1 else if n.rd F.LAN_INJECTl_MODE g l = 2 then orWhenZero (n.rd F.LAN_INJECTl_LEN g l) 1 else 0) →
    (∀ p i, n.portOfLane g l = some (p, i) → 2 ≤ n.portState p → n.portState p ≤ 4 → (n.port p).set.contains i = true → exec (.injectGo m g l) s =
      .next ((n.modLane (4 * g + l) fun x => { x with inject := k }).injectOut p (4 * g + l) 16).calm) ∧
    (n.portOfLane g l = none ∨ (∃ p i, n.portOfLane g l = some (p, i) ∧ n.portState p < 2) → exec (.injectGo m g l) s =
      .next (n.bump F.LAN_INJECTl_INJECTED k g l).calm)) ∧
  (∀ (s n : State) (m g l : Nat), isMaster m = true → g < 32 → l < 4 → s.access m (F.LAN_MARGINl_START.addr g l) n → n.mayWrite m = true →
    (n.on F.LAN_MARGINl_BUSY g l = true → exec (.marginStart m g l) s = .next n.calm) ∧
    (n.on F.LAN_MARGINl_BUSY g l = false → (n.laneState g l = 5 ∨ n.laneState g l = 6) →
      exec (.marginStart m g l) s = .next (n.wr F.LAN_MARGINl_BUSY 1 g l).calm) ∧
    (n.on F.LAN_MARGINl_BUSY g l = false → n.laneState g l ≠ 5 → n.laneState g l ≠ 6 →
      exec (.marginStart m g l) s = .next (n.wr F.LAN_MARGINl_ERRORS 0xFFFFFFFF g l).calm)) ∧
  (∀ (s : State) (g l errors : Nat), g < 32 → l < 4 → s.runs = true → s.on F.LAN_MARGINl_BUSY g l = true →
    (s.laneState g l = 5 ∨ s.laneState g l = 6) → errors < 2 ^ 32 → ∀ t, s.wr F.LAN_MARGINl_BUSY 0 g l = t → t.laneState g l = s.laneState g l →
    exec (.marginScanDone g l errors) s = .next (t.wr F.LAN_MARGINl_ERRORS errors g l).calm) ∧
  (∀ (s : State) (g l upper mid lower width snr : Nat), g < 32 → l < 4 → s.runs = true →
    ((s.laneState g l = 5 ∨ s.laneState g l = 6) → s.rd F.LAN_CFG_RATE g ≠ 3 → exec (.eyeRefresh g l upper mid lower width snr) s =
      .next ((((((s.wr F.LAN_EYEl_H_UPPER upper g l).wr F.LAN_EYEl_H_MID mid g l).wr F.LAN_EYEl_H_LOWER lower g l).wr F.LAN_EYEl_WIDTH width g l).wr
        F.LAN_EYEl_SNR snr g l).wr F.LAN_EYEl_VALID 1 g l).calm) ∧
    (s.laneState g l ≠ 5 → s.laneState g l ≠ 6 → exec (.eyeRefresh g l upper mid lower width snr) s = .next (s.wr F.LAN_EYEl_VALID 0 g l).calm)) ∧
  (∀ (s t : State) (g l clean more : Nat) (errs : List Nat), g < 32 → l < 4 → s.runs = true → s.laneState g l = 6 → s.on F.LAN_TESTl_CHK g l = true →
    errs.foldl (fun s e => s.checkSymbol g l e) (s.checkClean g l clean) = t →
    exec (.prbsCheckerSync g l clean errs more) s = .next (t.checkClean g l more).calm) ∧
  (∀ (s : State) (g l n : Nat) (k : LaneSt), s.lane (4 * g + l) = k →
    (s.on F.LAN_PRBS_CNTl_SYNC g l = false → k.clean + n < 64 → s.checkClean g l n = s.modLane (4 * g + l) fun k => { k with clean := k.clean + n }) ∧
    (s.on F.LAN_PRBS_CNTl_SYNC g l = true → s.checkClean g l n = (s.modLane (4 * g + l) fun k => { k with
      clean := 0, checked := k.checked + n, bits := (k.bits + 10 * n) % 10 ^ 9 }).bump F.LAN_PRBS_CNTl_GBITS ((k.bits + 10 * n) / 10 ^ 9) g l)) ∧
  (∀ (s : State) (g l count : Nat), g < 32 → l < 4 → s.runs = true → exec (.serLimit g l count) s =
    .next (if s.rd F.LAN_SER_CTL_SER_LIMIT g ≠ 0 ∧ s.rd F.LAN_SER_CTL_SER_LIMIT g < count then s.laneErr g l 3 else s).calm) ∧
  ∀ (s n : State) (m g l : Nat), isMaster m = true → g < 32 → l < 4 → s.access m (F.LAN_LANE_CTLl_FENCE.addr g l) n → n.mayWrite m = true →
    bitOf (n.units (0xC0 + g)) l = false →
    exec (.laneFenceWrite m g l true) s = .next ((n.setUnit (0xC0 + g) l true).later (.unitFence (0xC0 + g) l true)).calm ∧
    exec (.laneFenceWrite m g l false) s = .next n.calm

/-! ## Keys, memory and the management core (02, 15 to 18) -/

/-- Key commands (R470, R473, R478): one starts with its arguments and sets `BUSY`; one written while another is in progress changes nothing and is
recorded as index 4 with code 1; on completion `BUSY` clears, `RESULT` and `COUNT` are written, and a result other than `OK` is recorded. Retiring
needs an unbound slot, rolling a next key and a time far enough ahead, an open slot the fuse. Answers a next state (`exec ... = .next ...`):
`secGenerate`, `secWrap`, `secInstall`, `secRoll`, `secRetire`, `secCreateOpen`, `secCmdComplete`. -/
def Obligations.KeyCommandsStartAndComplete : Prop :=
  (∀ (s n : State) (m slot : Nat) (next : Bool), isMaster m = true → slot < 4096 → s.access m (F.SEC_CMD_OP.addr 0 0) n → n.mayWrite m = true →
    (∀ c t, n.secCmd = some c → (n.err 5 4 { access := accInternal, addr := 1 }).calm = t →
      exec (.secGenerate m slot) s = .next t ∧
      exec (.secWrap m slot next) s = .next t ∧
      exec (.secInstall m slot) s = .next t ∧
      exec (.secRoll m slot) s = .next t ∧
      exec (.secRetire m slot) s = .next t ∧
      exec (.secCreateOpen m slot) s = .next t) ∧
    (n.secCmd = none → ∀ (cmd : Nat → Bool → KeyCmd) (start : Nat → Bool → State),
      (∀ op next, cmd op next =
        { op := op, slot := slot, next := next, tnum := n.rd F.SEC_CMD_ARG_TNUM, epoch := n.rd F.SEC_CMD_ARG_EPOCH,
          mode := n.rd F.SEC_CMD_ARG_MODE, requireIde := n.on F.SEC_CMD_ARG_REQUIRE_IDE, target := n.rd F.SEC_CMD_ARG_TARGET_DID,
          time := n.rd F.SEC_CMD_TIME_TIME, blob := n.secBlob }) →
      (∀ op next, start op next = (({ n with secCmd := some (cmd op next) } : State).wr F.SEC_CMD_STAT_BUSY 1).calm) →
      exec (.secGenerate m slot) s = .next (start 1 false) ∧
      exec (.secWrap m slot next) s = .next (start 2 next) ∧
      exec (.secInstall m slot) s = .next (start 3 false) ∧
      exec (.secRoll m slot) s = .next (start 4 false) ∧
      exec (.secRetire m slot) s = .next (start 5 false) ∧
      exec (.secCreateOpen m slot) s = .next (start 6 false))) ∧
  (∀ (s t u : State) (c : KeyCmd) (peer : Option Nat) (r : Nat), s.runs = true → s.secCmd = some c → { s with secCmd := none } = t →
    (c.op = 1 ∧ t.doGenerate c = (u, r)) ∨ (c.op = 2 ∧ t.doWrap c peer = (u, r)) ∨ (c.op = 3 ∧ t.doInstall c peer = (u, r)) ∨
      (c.op = 4 ∧ t.doRoll c = (u, r)) ∨ (c.op = 5 ∧ t.doRetire c = (u, r)) ∨ (c.op = 6 ∧ t.doCreateOpen c = (u, r)) →
    ∀ v, (((u.wr F.SEC_CMD_STAT_BUSY 0).wr F.SEC_CMD_STAT_RESULT r).roll F.SEC_CMD_STAT_COUNT).tally .sec 11 = v →
    exec (.secCmdComplete peer) s = .next (if r = 0 then v else v.err 5 4 { access := accInternal, addr := r }).calm) ∧
  ∀ (s : State) (c : KeyCmd),
    (∀ t, Tbl.get s.slots c.slot = some t → s.doRetire c = if s.bound c.slot = 0 then ({ s with slots := Tbl.del s.slots c.slot }, 0) else (s, 5)) ∧
    (∀ t t', s.activeSlot c.slot = some t → t.nextValid = true → t.rolled = false → t' = { t with rollAt := c.time } → s.doRoll c =
      if c.time < s.now + 100000 then (s, 2) else ({ s with slots := Tbl.set s.slots c.slot t' }, 0)) ∧
    (s.on F.SEC_STAT_DEBUG_UNLOCKED = false → s.fuses.openAllowed = false → s.doCreateOpen c = (s, 0x0B))

/-- Keys rolled, pipelines tested, debug and attestation (R467, R482, R489, R490, R494): at its time a slot seals under the next key, with an event;
when the window has passed the old key is gone and the next one is current; a failed self-test is recorded as index 2; a challenge keeps its nonce
and a token spends it, opens its scope if it is good and nothing otherwise; scope 2 first loses every key and the Secure streams. Answers a next
state (`exec ... = .next ...`): `keyRollTime`, `oldKeyErase`, `pipeSelfTest`, `dbgChallenge`, `dbgToken`, `spdmRequest`. -/
def Obligations.KeysRollAndDebugIsGuarded : Prop :=
  (∀ (s : State) (n : Nat) (t : TenSlot), s.runs = true → Tbl.get s.slots n = some t →
    (t.rollAt ≠ 0 → t.rolled = false → t.nextValid = true → ∀ u t', s.reach t.rollAt = u → t' = { t with rolled := true } →
      exec (.keyRollTime n) s = .next (({ u with slots := Tbl.set u.slots n t' } : State).tenancyEvent n t' 0x20 t.nextEpoch).calm) ∧
    (t.rolled = true → ∀ u t', s.reach (t.rollAt + s.freshNs + 100000) = u → t' =
        { t with curEpoch := t.nextEpoch, curKey := t.nextKey, nextValid := false, nextEpoch := 0, nextKey := 0, rollAt := 0, rolled := false } →
      exec (.oldKeyErase n) s = .next ({ u with slots := Tbl.set u.slots n t' } : State).calm)) ∧
  (∀ (s t : State) (u : Nat) (pass : Bool), u < 48 → s.runs = true → { s with pipeTest := s.pipeTest.filter fun k => k != u } = t →
    exec (.pipeSelfTest u pass) s = .next (if pass then t else s.err 5 2 { addr := u, unit := some u }).calm) ∧
  (∀ (s t : State) (n : Nat), s.up = true → n = Config.free s.fresh % 2 ^ 256 → { s with dbgNonce := some n, fresh := s.fresh + 1 } = t →
    exec .dbgChallenge s = .next (t.emit (.tap s.fuses.serial n)).calm) ∧
  (∀ (s t : State) (scope serial nonce : Nat) (sig : List Byte), s.up = true → { s with dbgNonce := none } = t →
    (s.dbgNonce ≠ some nonce ∨ serial ≠ s.fuses.serial ∨ (scope ≠ 1 ∧ scope ≠ 2) ∨ Config.debugToken scope serial nonce sig = false →
      exec (.dbgToken scope serial nonce sig) s = .next t.calm) ∧
    (s.dbgNonce = some nonce → serial = s.fuses.serial → Config.debugToken scope serial nonce sig = true →
      (scope = 1 → exec (.dbgToken scope serial nonce sig) s = .next ({ t with scanOpen := true } : State).calm) ∧
      (scope = 2 → ∀ u, (List.range 4).foldl (fun s fn => (s.wr F.HIF_IDE_STAT_SECURE 0 fn).ideCheck fn) (t.loseAllKeys 3) = u →
        exec (.dbgToken scope serial nonce sig) s = .next (({ u with jtagOpen := true } : State).wr F.SEC_STAT_DEBUG_UNLOCKED 1).calm))) ∧
  ∀ (s t : State) (path : ReqPath) (code : Nat), s.up = true → s.arrives path = true → s.recovering = false → s.tally .sec 12 = t →
    exec (.spdmRequest path code) s = .next ((t.emit (if spdmServed.contains code then .spdm path (code - 0x80) (s.spdmAnswer code)
      else .spdm path 0x7F .bare)).drawn).calm

/-- On-package memory and counters (R510, R512, R513, R514, R527, R535): a corrected word is counted against its row, an uncorrectable one is poisoned
and its consumer acts; scrubbing moves on by 256 bytes; a row is spared into a free one and its copy ends with index 4, with none free index 5 is
recorded; the map is written to the settings area (body: log entry 12), and spare rows run low for service reason 5; all counters are latched at
once and released; a sampler's seed is loaded, 0 as 1. Answers a next state (`exec ... = .next ...`): `eccRead`, `scrub`, `spareForce`,
`rowSpareDone`, `pmuSnapGo`, `pmuSnapRelease`, `sampleSeed`. -/
def Obligations.MemoryIsCorrectedSparedAndCounted : Prop :=
  (∀ (s : State) (a len k g : Nat) (user : MemUser) (r : EccResult), s.runs = true → k = s.memCtrl a → s.memRuns k = true →
    (s.regionOf a len = none ∨ s.ownsMem user a len false = false → exec (.eccRead a len user r) s =
      .next (s.err (0xE0 + k) 6 { access := accMemRead, addr := a, master := some (userMaster user) }).settle) ∧
    (s.regionOf a len = some g → s.ownsMem user a len false = true → ∀ e : ErrAt,
        e = { access := accMemRead, addr := a, master := some (userMaster user) } →
      (r = .clean → exec (.eccRead a len user r) s = .next s.settle) ∧
      (r = .corrected → exec (.eccRead a len user r) s = .next (((s.bump F.MEM_ECC_CNT_CORRECTED 1 k).err (0xE0 + k) 0 e).countRow k a).settle) ∧
      (r = .uncorrectable → ∀ t, { s with poison := if s.poison.contains (a / 32) then s.poison else s.poison ++ [a / 32] } = t →
        exec (.eccRead a len user r) s = .next (((t.bump F.MEM_ECC_CNT_UNCORRECTED 1 k).err (0xE0 + k) 1 e).poisonedAt g a).settle))) ∧
  (∀ (s n : State) (k a next : Nat), k < 2 → s.runs = true → s.on F.MEM_SCRUB_CTL_EN k = true → s.memRuns k = true → s.memCtrl a = k →
    s.reqFenced (0xE0 + k) 11 = false → (s.tally .mem 0 1 k).tally .mem 15 1 k = n →
    next = (if n.rd F.DEV_MEM_CAP_STACKS = 2 then a / 8192 * 4096 + a % 4096 else a) / 256 * 256 + 256 →
    exec (.scrub k a .clean) s = .next (if n.memShare ≤ next then (n.roll F.MEM_SCRUB_STAT_PASSES 1 k).wr F.MEM_SCRUB_STAT_POS_MIB 0 k
      else n.wr F.MEM_SCRUB_STAT_POS_MIB (next / 2 ^ 20) k).settle) ∧
  (∀ (s n : State) (m k a row : Nat), isMaster m = true → k < 2 → s.access m (F.MEM_SPARE_FORCE_GO.addr k 0) n → n.mayWrite m = true →
    n.memRuns k = true → row = Config.memRow a →
    (n.rowCopies.contains (k, row) = true → exec (.spareForce m k a) s = .next n.calm) ∧
    (n.rowCopies.contains (k, row) = false → n.spareTotal ≤ n.spareUsed k + (n.rowCopies.filter fun e => e.1 == k).length →
      exec (.spareForce m k a) s = .next (n.err (0xE0 + k) 5 { access := accMemRead, addr := a }).calm) ∧
    (n.rowCopies.contains (k, row) = false → n.spareUsed k + (n.rowCopies.filter fun e => e.1 == k).length < n.spareTotal →
      exec (.spareForce m k a) s = .next (({ n with rowCopies := n.rowCopies ++ [(k, row)] } : State).wr F.MEM_SPARE_STAT_BUSY 1 k).calm)) ∧
  (∀ (s t u v : State) (k : Nat) (e : Nat × Nat), k < 2 → s.runs = true → s.rowCopies.find? (fun e => e.1 == k) = some e →
    { s with rowCopies := s.rowCopies.erase e, spareMap := s.spareMap ++ [e], spareSaved := s.spareMap ++ [e],
             rowCounts := s.rowCounts.filter fun c => !(c.ctrl == k && c.row == e.2) } = t →
    t.writeSetting (2 + k) typeVersion ((Config.spareMapBody ((t.spareMap.filter fun e => e.1 == k).map Prod.snd)).take 65536) = v →
    (v.wr F.MEM_SPARE_STAT_BUSY (b2n ((s.rowCopies.erase e).any fun x => x.1 == k)) k).err (0xE0 + k) 4 { access := accMemRead, addr := Config.rowAddr k e.2 } = u →
    exec (.rowSpareDone k) s = .next (if u.spareLow k then u.svc 5 else u).calm) ∧
  ∀ (s n : State) (m : Nat), isMaster m = true →
    (s.access m (F.PMU_SNAP_GO.addr 0 0) n → n.mayWrite m = true → exec (.pmuSnapGo m) s =
      .next ((((({ n with snap := n.ctrs } : State).wr F.PMU_SNAP_TIME_TIME n.now).wr F.PMU_SNAP_FROZEN 1).roll F.PMU_SNAP_COUNT).tally .pmu 4).calm) ∧
    (s.access m (F.PMU_SNAP_RELEASE.addr 0 0) n → n.mayWrite m = true →
      exec (.pmuSnapRelease m) s = .next (({ n with snap := [] } : State).wr F.PMU_SNAP_FROZEN 0).calm) ∧
    ∀ fn seed, isFn fn = true → mayWindow m fn = true → s.access m (F.PMU_SR_SEED_SEED.addr fn 0) n →
      exec (.sampleSeed m fn seed) s = .next ({ n with lfsr := Tbl.set n.lfsr fn (if seed % 2 ^ 32 = 0 then 1 else seed % 2 ^ 32) } : State).calm

/-- Authority (R546, R558): on a path that reaches the management core, a request that needs the fabric manager's authority and comes without it is
answered `DENIED` and recorded as index 8; in recovery every other request gets `BAD_STATE`, out of it a recovery request does. Recovery (R558): in
recovery mode a bank is begun as `STAGING` and erased, written as it is stored, and booted as `STAGED` and active without a trial; the settings are
erased, or the fabric manager's key superseded by an empty record. Answers a next state (`exec ... = .next ...`): `recoverBegin`, `recoverData`,
`recoverBoot`, `recoverEraseSettings`, `recoverRemoveFmKey`. -/
def Obligations.RequestsAreDeniedOrServedInRecovery : Prop :=
  ((∀ (s n : State) (path : ReqPath) (tag k v : Nat) (b : List Byte) (i : Instr), s.up = true → s.arrives path = true → s.countReq path = n →
    s.pathBusy path = false → 4 + b.length ≤ pathLimit path →
    (i = .stageBegin path tag k b ∨ i = .stageData path tag k b ∨ i = .stageEnd path tag ∨ i = .stageAbort path tag ∨ i = .activate path tag k v ∨
      i = .activateCancel path tag ∨ i = .svnAdvance path tag ∨ i = .settingsWrite path tag k v b ∨ i = .settingsErase path tag k ∨
      i = .mgmtRegWrite path tag k v ∨ i = .eventRead path tag k) →
    (n.recovering = true → exec i s = .next (n.emit (.mgmt path tag 3 [])).calm) ∧
    (n.recovering = false → n.fmPath path = false →
      exec i s = .next (((n.bump F.MGT_MBOX_STAT_DENIED).err 4 8 {}).emit (.mgmt path tag 2 [])).calm)) ∧
  ∀ (s n : State) (path : ReqPath) (tag k v : Nat) (b : List Byte) (i : Instr), s.up = true → s.arrives path = true → s.countReq path = n →
    s.pathBusy path = false → 4 + b.length ≤ pathLimit path → n.recovering = false → (i = .recoverBegin path tag k v ∨ i = .recoverData path tag k b ∨ i = .recoverBoot path tag k ∨
      i = .recoverEraseSettings path tag ∨ i = .recoverRemoveFmKey path tag) → exec i s = .next (n.emit (.mgmt path tag 3 [])).calm) ∧
  (∀ (s n : State) (path : ReqPath) (tag : Nat), s.up = true → s.recovery path n →
    (∀ bank len t, bank ≤ 1 → len ≤ bankSize →
      { n with mg.ops := n.mg.ops ++ [FlashOp.erase path tag bank], mg.recoverBank := some bank } = t → exec (.recoverBegin path tag bank len) s =
        .next ((t.writeBootRec (t.flash.bootRec.setBank bank 1)).flashBusy.emit (.flash 0 bank)).calm) ∧
    (∀ off bytes b t, 4 + bytes.length ≤ pathLimit path → off + bytes.length ≤ bankSize → n.mg.recoverBank = some b →
      { n with mg.ops := n.mg.ops ++ [FlashOp.write path tag b off bytes] } = t →
      exec (.recoverData path tag off bytes) s = .next (t.flashBusy.emit (.flash 1 b)).calm) ∧
    (∀ bank t, bank ≤ 1 → n.emit (.mgmt path tag 0 []) = t → exec (.recoverBoot path tag bank) s =
      .next ((t.writeBootRec { t.flash.bootRec.setBank bank 2 with active := bank, trialValid := false }).doResetM 3 true).calm) ∧
    (∀ t, ({ n with flash.settings := [], flash.used := 32, flash.gen := 0, flash.image := [], spareSaved := [] } : State) = t →
      exec (.recoverEraseSettings path tag) s = .next (t.settingsShow.emit (.mgmt path tag 0 [])).calm) ∧
    exec (.recoverRemoveFmKey path tag) s = .next ((n.writeSetting 4 typeVersion []).emit (.mgmt path tag 0 [])).calm)

/-- Queries, roles and keys (R57, R58, R468, R546, R547): a query returns six registers, and waits while an earlier request of its path is in hand; a
role request that names its own function, this serial and the present generation, signed by the enrolled key, takes an unheld role, or a held one as
a takeover; a key is enrolled unsigned only where none is; the holder's release ends the role; a change of the holder changes nothing but the role's
own register; a register read answers 8 bytes, a settings read the record's body; DOE answers what it knows. Answers a next state (`exec ... = .next
...`): `mgmtQuery`, `roleRequest`, `fmKeyEnroll`, `fmRoleRelease`, `mgmtRegRead`, `settingsRead`, `doeRequest`. -/
def Obligations.QueriesRolesAndKeysAreAnswered : Prop :=
  (∀ (s n : State) (path : ReqPath) (tag : Nat), s.up = true → s.arrives path = true → s.countReq path = n → s.pathBusy path = false → exec (.mgmtQuery path tag) s =
    .next (n.emit (.mgmt path tag 0 ([n.rd F.MGT_FW_VER_VERSION, n.fwSvn, n.bankStat, n.stageStat, n.rd F.MGT_ACT_CTL_ARMED +
      n.rd F.MGT_ACT_CTL_BANK * 2, n.rd F.MGT_ACT_TIME_TIME].flatMap fun v => leBytes 8 v))).calm) ∧
  (∀ (s : State) (path : ReqPath) (tag : Nat), s.up = true → s.arrives path = true → s.pathBusy path = true →
    exec (.mgmtQuery path tag) s = .next ({ s with mg.queue := s.mg.queue ++ [.mgmtQuery path tag] } : State).calm) ∧
  (∀ (s : State) (holder cause : Nat), ({ s.setRole holder cause with regs := s.regs } : State) = s ∧
    ∀ (f : Fld) (i j : Nat), f.key i j ≠ F.DEV_FM_ROLE_HOLDER.key 0 0 → f.key i j ≠ F.DEV_FM_ROLE_GEN.key 0 0 →
      f.key i j ≠ F.DEV_FM_ROLE_LAST_CAUSE.key 0 0 → (s.setRole holder cause).rd f i j = s.rd f i j) ∧
  (∀ (s n : State) (fn tag gen serial : Nat) (takeover : Bool) (key sig : List Byte), s.up = true → s.served false false (.doe fn) n →
    serial = n.fuses.serial → n.fmKey = some key →
    (gen ≠ n.rd F.DEV_FM_ROLE_GEN → exec (.roleRequest (.doe fn) tag fn takeover gen serial sig) s = .next (n.emit (.mgmt (.doe fn) tag 0xA [])).calm) ∧
    (gen = n.rd F.DEV_FM_ROLE_GEN →
      Config.ecdsaVerify key (leBytes 1 (fn % 4 + b2n takeover * 128) ++ leBytes 1 gen ++ leBytes 6 0 ++ leBytes 8 serial) sig = true →
      (n.rd F.DEV_FM_ROLE_HOLDER = 7 → exec (.roleRequest (.doe fn) tag fn takeover gen serial sig) s =
        .next ((((n.wr F.DEV_FM_ROLE_HOLDER fn).roll F.DEV_FM_ROLE_GEN).wr F.DEV_FM_ROLE_LAST_CAUSE 1).emit (.mgmt (.doe fn) tag 0 [])).calm) ∧
      (n.rd F.DEV_FM_ROLE_HOLDER ≠ 7 → takeover = true → exec (.roleRequest (.doe fn) tag fn takeover gen serial sig) s =
        .next ((((n.wr F.DEV_FM_ROLE_HOLDER fn).roll F.DEV_FM_ROLE_GEN).wr F.DEV_FM_ROLE_LAST_CAUSE 3).emit (.mgmt (.doe fn) tag 0 [])).calm) ∧
      (n.rd F.DEV_FM_ROLE_HOLDER ≠ 7 → takeover = false → exec (.roleRequest (.doe fn) tag fn takeover gen serial sig) s =
        .next (n.emit (.mgmt (.doe fn) tag 0xB [])).calm))) ∧
  (∀ (s n : State) (path : ReqPath) (tag : Nat) (key sig : List Byte), s.up = true → s.served false false path n → key.length = 49 → 49 + sig.length ≤ pathLimit path →
    (n.fmKey = none → (∀ k, path ≠ .inband k) →
      exec (.fmKeyEnroll path tag key sig) s = .next ((n.writeSetting 4 typeVersion key).emit (.mgmt path tag 0 [])).calm) ∧
    (∀ cur, n.fmKey = some cur → exec (.fmKeyEnroll path tag key sig) s = .next (if Config.ecdsaVerify cur key sig
      then (n.writeSetting 4 typeVersion key).emit (.mgmt path tag 0 []) else n.emit (.mgmt path tag 2 [])).calm)) ∧
  (∀ (s n : State) (m : Nat), isMaster m = true → s.access m (F.DEV_FM_CTL_RELEASE.addr 0 0) n →
    (n.rd F.DEV_FM_ROLE_HOLDER = m → exec (.fmRoleRelease m) s =
      .next (((n.wr F.DEV_FM_ROLE_HOLDER 7).roll F.DEV_FM_ROLE_GEN).wr F.DEV_FM_ROLE_LAST_CAUSE 2).calm) ∧
    (n.rd F.DEV_FM_ROLE_HOLDER ≠ m → exec (.fmRoleRelease m) s = .next (n.refuse m 0 (F.DEV_FM_CTL_RELEASE.addr 0 0) true).calm)) ∧
  (∀ (s n t : State) (path : ReqPath) (tag a v : Nat), s.up = true → s.arrives path = true → s.countReq path = n → s.pathBusy path = false → a % 8 = 0 → a < 0x4000000 →
    semOf a = none → n.gated (a / 65536) (a % 65536) = false → n.halted = false → n.regFetch 4 a 8 = (t, v) →
    exec (.mgmtRegRead path tag a) s = .next (t.emit (.mgmt path tag 0 (leBytes 8 v))).calm) ∧
  (∀ (s n : State) (path : ReqPath) (tag type : Nat) (r : Setting), s.up = true → s.served false false path n → knownType type = true →
    Tbl.get n.flash.settings type = some r → r.valid = true →
    exec (.settingsRead path tag type) s = .next (n.emit (.mgmt path tag 0 r.body)).calm) ∧
  ∀ (s t : State) (fn len : Nat), isFn fn = true → s.up = true → s.arrives (.doe fn) = true → len ≤ 65536 → s.tally .hif 9 1 fn = t →
    exec (.doeRequest fn len .discovery) s = .next (t.emit (.doeTypes fn (doeTypes t.recovering))).settle ∧
    (∀ vendor type, exec (.doeRequest fn len (.unknown vendor type)) s = .next (t.emit (.doe fn false (.unknown vendor type))).settle) ∧
    (t.recovering = false → exec (.doeRequest fn len .spdm) s = .next (t.emit (.doe fn true .spdm)).settle) ∧
    (t.recovering = false → exec (.doeRequest fn len .secured) s = .next (t.emit (.doe fn true .secured)).settle) ∧
    (∀ stream keySet u good, t.recovering = false → t.ideKeys fn stream keySet = (u, good) →
      exec (.doeRequest fn len (.ideKeys stream keySet)) s = .next (u.emit (.doe fn good (.ideKeys stream keySet))).settle) ∧
    (∀ off tag, t.recovering = true → exec (.doeRequest fn len (.recovery off tag)) s = .next (t.emit (.doe fn true (.recovery off tag))).settle) ∧
    (∀ op tag n, t.recovering = false → knownOpcode op = true → n ≤ 61440 →
      exec (.doeRequest fn len (.mailbox 1 op tag n)) s = .next (t.emit (.doe fn true (.mailbox 1 op tag n))).settle)

/-- Staging and activation (R544, R549, R551, R552): staging begins only for a bank that is not running, with nothing staged or armed, and marks it
`STAGING`; data must come in order; its end programs the flash; an abort leaves it `STAGING`; activation arms a staged, preloaded bank in its time,
replaces an earlier arming, fires as a reset M, and is cancelled until 1 ms before; a trial that has run confirms itself. Answers a next state
(`exec ... = .next ...`): `stageBegin`, `stageData`, `stageEnd`, `stageAbort`, `activate`, `activateCancel`, `activationTime`, `trialConfirm`. -/
def Obligations.StagingAndActivationFollowTheirOrder : Prop :=
  (∀ (s n : State) (path : ReqPath) (tag bank : Nat) (hdr : List Byte), s.up = true → s.served true true path n →
    (n.mg.staging.isSome = true ∨ n.on F.MGT_ACT_CTL_ARMED = true → exec (.stageBegin path tag bank hdr) s = .next (n.emit (.mgmt path tag 3 [])).calm) ∧
    (n.mg.staging = none → n.on F.MGT_ACT_CTL_ARMED = false →
      (bank = n.rd F.MGT_BOOT_STAT_BANK → exec (.stageBegin path tag bank hdr) s = .next (n.emit (.mgmt path tag 1 [])).calm) ∧
      (bank ≤ 1 → bank ≠ n.rd F.MGT_BOOT_STAT_BANK → hdr.length = 128 → hdrAt hdr 0 2 = 1 → hdrAt hdr 4 4 ≤ bankSize →
        (hdr.drop 72).any (· != 0) = false → ((hdr.drop 8).take 48).all (· == 0) = true → ∀ t u st,
        st = { bank := bank, targetLen := hdrAt hdr 4 4, hasBase := false, ctrIv := (hdr.drop 56).take 16 } →
        { n with mg.staging := some st, flash.banks := Tbl.set n.flash.banks bank [] } = t →
        (t.writeBootRec (t.flash.bootRec.setBank bank 1)).wr F.MGT_BANK_STAT_PRELOAD_VALID 0 = u →
        exec (.stageBegin path tag bank hdr) s = .next (((((u.wr F.MGT_STAGE_STAT_STATE 1).wr F.MGT_STAGE_STAT_BANK bank).wr F.MGT_STAGE_STAT_BYTES
          0).emit (.flash 0 bank)).emit (.mgmt path tag 0 [])).calm))) ∧
  (∀ (s n : State) (path : ReqPath) (tag off : Nat) (b : List Byte) (g : Staging), s.up = true → s.served true true path n → n.mg.staging = some g →
    n.rd F.MGT_STAGE_STAT_STATE = 1 →
    (4 + b.length ≤ pathLimit path → off ≠ g.nextOff → exec (.stageData path tag off b) s = .next (n.emit (.mgmt path tag 1 [])).calm) ∧
    (4 + b.length ≤ pathLimit path → off = g.nextOff → ∀ g1 g2, g1 = { g with nextOff := off + b.length, rest := g.rest ++ crypt n.fuses.fuseRev g.ctrIv (off - 128) b } →
      (n.applyOps (g1.rest.length + 1) g1 = .more g2 → exec (.stageData path tag off b) s =
        .next ((({ n with mg.staging := some g2 } : State).wr F.MGT_STAGE_STAT_BYTES g2.made.length).emit (.mgmt path tag 0 [])).calm) ∧
      (n.applyOps (g1.rest.length + 1) g1 = .bad → exec (.stageData path tag off b) s = .next (n.endStaging.emit (.mgmt path tag 1 [])).calm)) ∧
    (g.ended = true → ∀ t, { n with mg.ops := n.mg.ops ++ [FlashOp.program path tag] } = t → exec (.stageEnd path tag) s =
      .next (((t.wr F.MGT_FLASH_STAT_BUSY 1).wr F.MGT_STAGE_STAT_STATE 2).emit (.flash 1 g.bank)).calm) ∧
    (n.mg.ops = [] → exec (.stageAbort path tag) s =
      .next ((({ n with mg.staging := none }.wr F.MGT_FLASH_STAT_BUSY 0).wr F.MGT_STAGE_STAT_STATE 0).emit (.mgmt path tag 0 [])).calm)) ∧
  (∀ (s n : State) (path : ReqPath) (tag bank time : Nat), s.up = true → s.served true false path n →
    (bank ≤ 1 → n.flash.bootRec.bank bank = 2 → n.on F.MGT_BANK_STAT_PRELOAD_VALID = true → n.on F.DEV_STRAPS_BOOT_MODE = false →
      n.timeLocked = true →
      (n.now + 100000000 ≤ time → time ≤ n.now + 2592000000000000 → exec (.activate path tag bank time) s =
        .next ((((n.wr F.MGT_ACT_CTL_ARMED 1).wr F.MGT_ACT_CTL_BANK bank).wr F.MGT_ACT_TIME_TIME time).emit (.mgmt path tag 0 [])).calm) ∧
      (time < n.now + 100000000 → exec (.activate path tag bank time) s = .next (n.emit (.mgmt path tag 1 [])).calm)) ∧
    (n.on F.MGT_ACT_CTL_ARMED = true → n.now + 1000000 ≤ n.rd F.MGT_ACT_TIME_TIME →
      exec (.activateCancel path tag) s = .next ((n.wr F.MGT_ACT_CTL_ARMED 0).emit (.mgmt path tag 0 [])).calm) ∧
    (n.on F.MGT_ACT_CTL_ARMED = true → n.rd F.MGT_ACT_TIME_TIME < n.now + 1000000 →
      exec (.activateCancel path tag) s = .next (n.emit (.mgmt path tag 5 [])).calm)) ∧
  (∀ (s : State), s.up = true → s.on F.MGT_ACT_CTL_ARMED = true →
    exec .activationTime s = .next ((s.reach (s.rd F.MGT_ACT_TIME_TIME)).startResetM 5).calm) ∧
  ∀ (s : State) (r : BootRec), s.up = true → s.flash.bootRec = r → s.recovering = false → s.rd F.MGT_BOOT_STAT_RESULT = brTrial →
    r.trialValid = true → s.on F.FCL_ALIVE_STOPPED = false → exec .trialConfirm s =
      .next (((s.reach (s.mg.bootAt + 1000000000)).writeBootRec { r.setBank r.trial 3 with active := r.trial, trialValid := false }).fwEvent 7).calm

/-- Settings, events and flash (R546, R549, R553, R556, R559): a written record of a known type that is not the device's own takes the next sequence
number, unless a newer version is present; an erased one is gone; the floor rises to the running version; an event is logged and told to the fabric
manager; an undelivered one is counted as lost; an operation of the flash completes and answers (an image programmed is read back, and one read back
is `STAGED` and preloaded), or fails as `FLASH_FAILED`. Answers a next state (`exec ... = .next ...`): `settingsErase`, `settingsWrite`,
`svnAdvance`, `mgmtRegWrite`, `eventRead`, `mgmtEvent`, `fabricEventSend`, `flashOperationDone`. -/
def Obligations.SettingsEventsAndFlashAreServed : Prop :=
  (∀ (s n : State) (path : ReqPath) (tag type : Nat) (b : List Byte), s.up = true → s.served true false path n → knownType type = true →
    (ownType type = true → exec (.settingsErase path tag type) s = .next (n.emit (.mgmt path tag 2 [])).calm) ∧
    (ownType type = false → ∀ t, ({ n with flash.settings := Tbl.del n.flash.settings type } : State) = t →
      exec (.settingsErase path tag type) s = .next (t.settingsShow.emit (.mgmt path tag 0 [])).calm) ∧
    (4 + b.length ≤ pathLimit path → ownType type = true → exec (.settingsWrite path tag type typeVersion b) s = .next (n.emit (.mgmt path tag 2 [])).calm) ∧
    (4 + b.length ≤ pathLimit path → ownType type = false → Tbl.get n.flash.settings type = none →
      exec (.settingsWrite path tag type typeVersion b) s = .next ((n.writeSetting type typeVersion b).emit (.mgmt path tag 0 [])).calm) ∧
    ∀ r, 4 + b.length ≤ pathLimit path → ownType type = false → Tbl.get n.flash.settings type = some r → r.valid = true → Setting.newer type r = true →
      exec (.settingsWrite path tag type typeVersion b) s = .next (n.emit (.mgmt path tag 7 [])).calm) ∧
  (∀ (s n : State) (path : ReqPath) (tag : Nat), s.up = true → s.served true false path n → n.rd F.MGT_FW_SVN_SVN ≤ 64 → ∀ t,
    { n with fuses := { n.fuses with svnFloor := max n.fuses.svnFloor (n.rd F.MGT_FW_SVN_SVN) } } = t →
    exec (.svnAdvance path tag) s = .next (t.emit (.mgmt path tag 0 [])).calm) ∧
  (∀ (s n : State) (path : ReqPath) (tag a v : Nat), s.up = true → s.served true false path n → a % 8 = 0 → a < 0x4000000 →
    exec (.mgmtRegWrite path tag a v) s = .next (regWriteRow 4 a 8 v (n.emit (.mgmt path tag 0 []))).calm) ∧
  (∀ (s n : State) (path : ReqPath) (tag index : Nat) (e : LogEntry), s.up = true → s.served true true path n → Tbl.get n.mg.log index = some e →
    exec (.eventRead path tag index) s = .next (n.emit (.mgmt path tag 0 (leBytes 4 e.srcDid ++ leBytes 2 e.cls ++ leBytes 2 e.code ++ e.body))).calm) ∧
  (∀ (s t : State) (src cls code h : Nat) (b : List Byte) (e : LogEntry), s.up = true → s.arrives (.inband false) = true → s.recovering = false →
    e = { srcDid := src, cls := cls, code := code, body := b } →
    { s with mg.log := Tbl.set s.mg.log s.mg.logNext e, mg.logNext := (s.mg.logNext + 1) % 65536 } = t → h = t.rd F.DEV_FM_ROLE_HOLDER →
    exec (.mgmtEvent src cls code b) s = .next (if isFn h
      then t.asyncEvent h { type := 0x40, subtype := cls, value := src, offset := s.mg.logNext, data := code } else t).calm) ∧
  (∀ (s t : State) (e : FabEvent) (rest : List FabEvent), s.up = true → s.recovering = false → s.events = e :: rest →
    s.on F.MGT_EVT_DEST_EN = false → { s with events := rest } = t →
    exec (.fabricEventSend true) s = .next (t.emit (.event 0x3FFFF true e.cls e.code)).calm ∧
    exec (.fabricEventSend false) s = .next ((t.bump F.MGT_EVT_STAT_LOST).err 4 9 {}).calm) ∧
  ∀ (s t : State) (op : FlashOp) (rest : List FlashOp) (p : ReqPath) (tag b : Nat), s.up = true → s.mg.ops = op :: rest →
    ({ s with mg.ops := rest } : State).wr F.MGT_FLASH_STAT_BUSY (b2n (rest != [])) = t →
    (∀ off bytes, op = .write p tag b off bytes → exec (.flashOperationDone true) s =
      .next (((({ t with flash.banks := Tbl.set t.flash.banks b (overlay (Tbl.getD t.flash.banks b []) off bytes) } : State).tally .mgt 3
        bytes.length).emit (.mgmt p tag 0 []))).serveQueue.calm) ∧
    (∀ g img u, op = .program p tag → t.mg.staging = some g → t.bankImage g.made = img →
      { t with flash.banks := Tbl.set t.flash.banks g.bank img, mg.ops := FlashOp.readBack p tag :: t.mg.ops } = u → exec (.flashOperationDone true) s =
      .next ((((u.wr F.MGT_FLASH_STAT_BUSY 1).tally .mgt 3 img.length).wr F.MGT_STAGE_STAT_STATE 3).emit (.flash 2 g.bank)).serveQueue.calm) ∧
    (∀ g u, op = .readBack p tag → t.mg.staging = some g → (t.memWrite .mgt preloadAt (t.bankBytes g.bank g.targetLen)).tally .mgt 3 g.targetLen = u →
      exec (.flashOperationDone true) s = .next ((((u.writeBootRec (u.flash.bootRec.setBank g.bank 2)).wr F.MGT_BANK_STAT_PRELOAD_VALID 1).endStaging.emit
        (.mgmt p tag 0 []))).serveQueue.calm) ∧
    (op = .program p tag ∨ op = .readBack p tag → exec (.flashOperationDone false) s =
      .next (((((t.bump F.MGT_FLASH_STAT_ERRORS).err 4 3 {}).fwReport 3).endStaging).emit (.mgmt p tag 6 [])).serveQueue.calm) ∧
    (op = .erase p tag b →
    exec (.flashOperationDone true) s = .next (({ t with flash.banks := Tbl.set t.flash.banks b [] } : State).emit (.mgmt p tag 0 [])).serveQueue.calm ∧
    exec (.flashOperationDone false) s = .next (((t.bump F.MGT_FLASH_STAT_ERRORS).err 4 3 {}).fwReport 3 |>.emit (.mgmt p tag 6 [])).serveQueue.calm)

/-! ## Power, resets and time (19, 20) -/

/-- Power states (R562, R564, R567 to R572, R587): an accepted `TARGET` acts by the present state; lay-by and parked are entered when the device is
quiet, and left back, with `BUSY`, when their time passes first; each wake trigger is recorded and begins the wake, whose end is `FULL`, the held
accesses then carried out in their order; a domain that does not power is recorded, and its pages fenced. Answers a next state (`exec ... = .next
...`): `pwrReqWrite`, `laybyQuiet`, `parkedQuiet`, `autoLaybyIdle`, `entryTimeout`, `laybyWake`, `parkedWake`, `wakeTime`, `laybyWakeDone`,
`parkedWakeDone`, `domainFault`. -/
def Obligations.PowerStatesChangeOnTheirTriggers : Prop :=
  (∀ (s n t : State) (m v : Nat), isMaster m = true → v < 3 → s.access m (F.CRP_PWR_REQ_TARGET.addr 0 0) n → n.mayWrite m = true →
    n.wr F.CRP_PWR_REQ_TARGET v = t →
    (t.power = psFull → v = 0 → exec (.pwrReqWrite m v) s = .next t.calm) ∧
    (t.power = psFull → v = 1 → exec (.pwrReqWrite m v) s =
      .next (({ t with pw.at_ := t.now, pw.wakeFrom := psFull } : State).setPower psEnterLayby).calm) ∧
    (t.power = psFull → v = 2 → t.parkRefusal ≠ 0 → exec (.pwrReqWrite m v) s = .next (t.wr F.CRP_PWR_STAT_LAST_REFUSAL t.parkRefusal).calm) ∧
    (t.power = psLayby → v = 0 → exec (.pwrReqWrite m v) s = .next (t.beginWake 1 0).calm) ∧
    (t.power ≠ psFull → t.power ≠ psLayby → t.power ≠ psParked → exec (.pwrReqWrite m v) s = .next ({ t with pw.next := some v } : State).calm)) ∧
  (∀ (s : State), s.runs = true → s.quietNow = true →
    (s.power = psEnterLayby → exec .laybyQuiet s = .next ((s.dropCaches.gateLayby.setPower psLayby).tally .crp 2).settled.calm) ∧
    (s.power = psEnterParked → ∀ t, ({ s with pw.ports := (List.range 128).filter fun p => s.on F.LNK_CTL_EN p } : State).dropPorts = t →
      exec .parkedQuiet s = .next (t.parkErase.dropCaches.gateParked.setPower psParked).settled.calm) ∧
    (s.power = psFull → s.on F.CRP_PWR_CTL_AUTO_LAYBY = true → ∀ t, s.reach (s.pw.hostAt + 1000 * orWhenZero (s.rd F.CRP_PWR_CTL_IDLE_US) 1) = t →
      exec .autoLaybyIdle s = .next (({ t with pw.at_ := t.now, pw.wakeFrom := t.power } : State).setPower psEnterLayby).calm)) ∧
  (∀ (s t : State), s.runs = true → s.quietNow = false → s.reach (s.pw.at_ + 1000 * orWhenZero (s.rd F.CRP_PWR_CTL_ENTRY_TMO_US) 1) = t →
    (s.power = psEnterLayby → t.power = psEnterLayby → exec .entryTimeout s =
      .next ((t.setPower psFull).wr F.CRP_PWR_STAT_LAST_REFUSAL 1).settled.calm) ∧
    (s.power = psEnterParked → t.power = psEnterParked → exec .entryTimeout s =
      .next ((t.setPower t.pw.wakeFrom).wr F.CRP_PWR_STAT_LAST_REFUSAL 1).settled.calm)) ∧
  (∀ (s : State) (cause : Nat), s.runs = true →
    (s.power = psLayby → exec (.laybyWake cause) s = .next (s.beginWake cause 0).calm) ∧
    (s.power = psParked → exec (.parkedWake cause) s = .next (s.beginWake cause (if cause = 1 ∧ s.rd F.CRP_PWR_REQ_TARGET = 1 then 1 else 0)).calm) ∧
    (s.power = psLayby ∨ s.power = psParked → ∀ t, s.rd F.CRP_WAKE_TIME_TIME ≠ 0 → s.now ≤ s.rd F.CRP_WAKE_TIME_TIME →
      s.reach (s.rd F.CRP_WAKE_TIME_TIME) = t → t.power = s.power → exec .wakeTime s = .next (t.beginWake 5 0).calm)) ∧
  (∀ (s : State), s.runs = true →
    (s.wakingFrom psLayby = true → exec .laybyWakeDone s = .next s.laybyAwake.replayHeld.settled.settle) ∧
    (s.wakingFrom psParked = true → exec .parkedWakeDone s = .next s.parkedAwake.settle)) ∧
  ∀ (s t : State) (d : Nat), d < 36 → s.up = true → (domPages d).foldl (fun s p => if s.fenced p then s else (s.wr F.BLK_CTL_FENCE 1 p).later (.fence p))
      (s.err 2 4 { access := accInternal, addr := d }) = t → t.wakingFrom psLayby = false → t.wakingFrom psParked = false →
    exec (.domainFault d) s = .next (if t.power = psFull then t.replayHeld else t).settle

/-- Resets and power (R57, R573, R597, R601): reset C leaves only what no reset touches, with the pins at their reset levels; reset W keeps device time
and what the survival table gives, and counts itself; reset M acts at once in `FULL`, and else waits for the wake; loss of the always-on rail leaves
the device without power; the release of the reset pin samples the straps and boots; activation is its cause 5. Answers a next state (`exec ... =
.next ...`): `resetC`, `vddAonLoss`, `resetW`, `resetM`, `chipRstRelease`. -/
def Obligations.ResetsActAndTheDeviceComesUp : Prop :=
  (∀ (s : State), exec .resetC s = .next ((((((((s.kept.emit (.pin .alive false)).emit (.pin .svcReqN true)).emit (.pin .fatalN true)).emit (.pin .ppsOut
    false)).emit (.pin (.pwrEn 0) false)).emit (.pin (.pwrEn 1) false)).emit (.pin (.pwrEn 2) false)).emit (.pin (.pwrEn 3) false)).calm) ∧
  (∀ (s : State), exec .vddAonLoss s = .next ({ s.kept with off := true } : State).calm) ∧
  (∀ (s : State), s.up = true → exec (.resetW true 0) s = .next (s.warmReset true).calm) ∧
  (∀ (s n : State) (m : Nat), isMaster m = true → s.access m (F.CRP_RST_CTL_WARM.addr 0 0) n → n.mayWrite m = true →
    exec (.resetW false m) s = .next (n.warmReset false).calm) ∧
  (∀ (s : State) (pin : Bool), (s.warmReset pin).inReset = true ∧ (s.warmReset pin).now = s.now ∧ (s.warmReset pin).resetAt = s.now ∧
    (s.warmReset pin).pending = s.pending ∧ (s.warmReset pin).flash = s.flash ∧ (s.warmReset pin).fuses = s.fuses ∧ (s.warmReset pin).ops = [] ∧
    (s.warmReset pin).slots = [] ∧ (s.warmReset pin).mem = []) ∧
  (∀ (s : State) (cause : Nat), 1 ≤ cause → cause ≤ 6 → s.up = true →
    (s.rd F.CRP_PWR_STAT_STATE = 0 → exec (.resetM cause) s = .next (s.doResetM cause false).calm) ∧
    (s.rd F.CRP_PWR_STAT_STATE ≠ 0 → exec (.resetM cause) s = .next (({ s with pw.waitM := some cause } : State).later (.wake 7)).calm)) ∧
  (∀ (s : State) (mode n : Nat) (rec_ ro : Bool), s.off = true ∨ s.inReset = false → exec (.chipRstRelease mode rec_ ro n) s = .next s.calm) ∧
  ∀ (s t u : State) (mode n : Nat) (rec_ : Bool), s.off = false → s.inReset = true → bitOf n 0 = true → bitOf n 1 = true →
    ((({ s with inReset := false, resetAt := s.now, aliveAt := s.now, solo := 0 } : State).wr F.DEV_STRAPS_BOOT_MODE mode).wr F.DEV_STRAPS_RECOVERY (b2n rec_)).wr
      F.DEV_STRAPS_ROUTER_ONLY 0 = t →
    (((((((t.wr F.CRP_CLK_STAT_LOCKED (2 ^ 48 - 1)).wr F.CRP_AVS_VOUT_MV s.fuses.avsMv).emit (.avs s.fuses.avsMv)).wr F.DEV_MEM_CAP_STACKS 2).wr
      F.DEV_MEM_CAP_CAP_GIB (2 * if s.fuses.c48 then 24 else 12)).wr F.MGT_FLASH_STAT_PRESENT 1).wr F.MGT_FLASH_STAT_JEDEC_ID (Config.free s.fresh)).drawn.emit
      (.pin .alive true) = u → (u.boot (if u.rd F.CRP_RST_STAT_LAST = 0 then bcC else bcW) false).routerOnly = false →
    exec (.chipRstRelease mode rec_ false n) s =
      .next ((List.range 4).foldl (fun s fn => s.holdEndpoint fn) (u.boot (if u.rd F.CRP_RST_STAT_LAST = 0 then bcC else bcW) false)).calm

/-- Time, clocks and heat (R579, R582, R584, R585, R587, R599, R607): an election follows the claim wait and the loss of a source; a holdover past its
error is `UNLOCKED`, with index 0; an edge of the second is captured, steers a master and is recorded where it is off; a missing one is recorded;
the master's time is stepped forward only; levels of heat and an unlocked island are recorded as they are reached; the voltage moves by at most 10
mV, within its bounds. Answers a next state (`exec ... = .next ...`): `claimWaitExpire`, `masterLoss`, `holdoverExpire`, `ppsInEdge`, `ppsMissing`,
`ppsOutSecond`, `timSet`, `thermalLevel`, `islandClockUnlock`, `avsStep`. -/
def Obligations.TimeClocksAndHeatAreFollowed : Prop :=
  (∀ (s : State), s.up = true → exec .claimWaitExpire s = .next (s.reach (s.resetAt + 1000000 * s.rd F.TIM_CTL_CLAIM_WAIT_MS)).elect.calm) ∧
  (∀ (s u : State) (p t : Nat) (x : TimeNb), p < 128 → s.up = true → (s.nb p).fresh = some t → s.reach (t + s.lossNs) = u → x = { u.nb p with fresh := none } →
    exec (.masterLoss p) s = .next ({ u with nbs := Tbl.set u.nbs p x } : State).elect.calm) ∧
  (∀ (s t : State), s.up = true → s.timState = tsHoldover → s.rd F.TIM_HOLD_HOLD_ERR_NS < s.holdErr →
    s.reach (s.holdAt + (s.rd F.TIM_HOLD_HOLD_ERR_NS - s.holdErr) * 1000000000 / max (s.rd F.TIM_HOLD_HOLD_PPB) 1) = t →
    exec .holdoverExpire s = .next ((t.setTimState tsUnlocked t.estErr).err 3 0 {}).calm) ∧
  (∀ (s t : State), s.up = true → (s.wr F.TIM_PPS_IN_TIME s.now).tally .tim 3 = t →
    (t.timState ≠ tsMaster ∨ t.on F.TIM_CTL_PPS_IN_EN = false → exec .ppsInEdge s = .next t.calm) ∧
    (t.timState = tsMaster → t.on F.TIM_CTL_PPS_IN_EN = true → t.now % 1000000000 < 500000000 → ∀ u,
      { t with slew := -((t.now % 1000000000 : Nat) : Int) * (2 ^ 32 : Nat), ppsRef := true } = u →
      exec .ppsInEdge s = .next (if t.rd F.TIM_SERVO_LOCK_NS < t.now % 1000000000 then u.err 3 4 {} else u).calm)) ∧
  (∀ (s : State), s.up = true → s.on F.TIM_CTL_PPS_IN_EN = true → ∀ t, s.reach (s.rd F.TIM_PPS_IN_TIME + 2000000000) = t →
    exec .ppsMissing s = .next (({ t with ppsRef := false, slew := 0 } : State).err 3 3 {}).calm) ∧
  (∀ (s t : State), s.up = true → s.on F.TIM_CTL_PPS_OUT_EN = true → s.timState ≠ tsUnlocked → s.reach ((s.now / 1000000000 + 1) * 1000000000) = t →
    exec .ppsOutSecond s = .next ({ t.emit (.pin .ppsOut true) with
      ppsLowAt := some (t.now + 1000 * orWhenZero (t.rd F.TIM_PPS_CTL_OUT_WIDTH_US) 1) } : State).calm) ∧
  (∀ (s n : State) (m v : Nat), isMaster m = true → s.access m (F.TIM_SET_TIME.addr 0 0) n → n.mayWrite m = true →
    (n.timState = tsMaster → n.now < v → exec (.timSet m v) s = .next ((n.reach v).bump F.TIM_CNT_STEPS_FWD).calm) ∧
    (n.timState ≠ tsMaster ∨ v ≤ n.now → exec (.timSet m v) s = .next (n.refuse m 3 (F.TIM_SET_TIME.addr 0 0) true).calm)) ∧
  (∀ (s t : State) (temp : Nat), s.up = true → (s.wr F.CRP_THERM_TEMP_C temp).high F.CRP_THERM_PEAK_C (temp % 256) = t →
    (temp < s.rd F.CRP_THERM_WARN_C → temp < min 115 (s.rd F.CRP_THERM_CRIT_C) → exec (.thermalLevel temp) s = .next t.calm) ∧
    (s.rd F.CRP_THERM_TEMP_C < s.rd F.CRP_THERM_WARN_C → s.rd F.CRP_THERM_WARN_C ≤ temp → temp < min 115 (s.rd F.CRP_THERM_CRIT_C) →
      exec (.thermalLevel temp) s = .next (t.err 2 2 {}).calm) ∧
    (s.rd F.CRP_THERM_WARN_C ≤ s.rd F.CRP_THERM_TEMP_C → s.rd F.CRP_THERM_TEMP_C < min 115 (s.rd F.CRP_THERM_CRIT_C) →
      min 115 (s.rd F.CRP_THERM_CRIT_C) ≤ temp → exec (.thermalLevel temp) s = .next (t.err 2 3 {}).calm)) ∧
  (∀ (s : State) (i : Nat), i < 48 → s.up = true → exec (.islandClockUnlock i) s =
    .next ((s.clrBit F.CRP_CLK_STAT_LOCKED i).err 2 0 { access := accInternal, addr := i }).calm) ∧
  (∀ (s : State) (target read : Nat), s.up = true →
    exec (.avsStep target read false) s = .next ((s.wr F.CRP_AVS_AVS_OK 0).err 2 1 {}).calm) ∧
  ∀ (s : State) (target read v : Nat), s.up = true → s.pw.avsAt = none → s.rd F.CRP_AVS_OFFSET_MV = 0 → 650 ≤ s.rd F.CRP_AVS_VOUT_MV →
    s.rd F.CRP_AVS_VOUT_MV ≤ 850 → v = max (s.rd F.CRP_AVS_VOUT_MV - 10) (min (s.rd F.CRP_AVS_VOUT_MV + 10) (max 650 (min 850 target))) → ∀ t,
    ((s.wr F.CRP_AVS_VOUT_MV v).wr F.CRP_AVS_READ_MV read).wr F.CRP_AVS_AVS_OK 1 = t →
    exec (.avsStep target read true) s = .next ((({ t with pw.avsAt := some t.now } : State).tally .crp 1).emit (.avs v)).calm
end

