-- ==== Sys2Proof/Laws/Commands.lean ====
section
/-! SUPPORT. Laws/Commands.lean: what a command's form comes to where it acts: one lemma for each way in which a command reaches its effect. -/

namespace Sys2Proof.Machine

/-- A command whose operands name something, in a state that takes it. -/
theorem act_runs {ok takes : Bool} (f : State → State) (s : State) (h : ok = true) (t : takes = true) :
    act ok takes f s = .next (f s).settle := by simp [act, h, t]

theorem actLight_runs {ok takes : Bool} (f : State → State) (s : State) (h : ok = true) (t : takes = true) :
    actLight ok takes f s = .next (f s).calm := by simp [actLight, h, t]

/-- A command always answers a next state: that of its effect, or the state as it was. -/
theorem act_cases (ok takes : Bool) (f : State → State) (s : State) :
    act ok takes f s = .next (f s).settle ∨ act ok takes f s = .next s := by
  unfold act; split <;> simp

theorem actLight_cases (ok takes : Bool) (f : State → State) (s : State) :
    actLight ok takes f s = .next (f s).calm ∨ actLight ok takes f s = .next s := by
  unfold actLight; split <;> simp

/-- An open register path means power, and no reset C or W. -/
theorem busOpen_up {s : State} {m : Nat} (h : s.busOpen m = true) : s.up = true := by
  simp only [State.busOpen, Bool.and_eq_true] at h
  simp [State.up, h.1.1, h.1.2]

theorem access_up {s n : State} {m a : Nat} (h : s.access m a n) : s.up = true := busOpen_up h.1

theorem hostAccess_up {s n : State} {fn : Nat} (h : s.hostAccess fn n) : s.up = true := busOpen_up h.1

theorem hostPost_up {s n : State} {fn : Nat} (h : s.hostPost fn n) : s.up = true := let ⟨_, h, _⟩ := h; hostAccess_up h

/-- A register write that reaches its register is its effect on the state with the access counted. -/
theorem regRow_of_access {s n : State} {m a : Nat} (i : Instr) (f : State → State) (h : s.access m a n) : regRow i m a f s = f n := by
  obtain ⟨hb, hl, hn, hg, hh⟩ := h
  subst hn
  simp only [regRow, regGate, hb, hl, hg]
  rcases hh with h | h | h <;> simp [h]

/-- A register read, of any kind, that reaches its register. -/
theorem regGate_of_access {s n : State} {m a : Nat} (i : Instr) (halt : Bool) (no f : State → State) (h : s.access m a n)
    (hh : n.halted = false) : regGate i m a halt no f s = f n := by
  obtain ⟨hb, hl, hn, hg, -⟩ := h
  subst hn
  simp [regGate, hb, hl, hg, hh]

theorem bar2Row_of_hostAccess {s n : State} {fn : Nat} (i : Instr) (f : State → State) (h : s.hostAccess fn n) : bar2Row i fn f s = f n := by
  obtain ⟨hb, hp, hw, rfl⟩ := h
  simp [bar2Row, hb, hp, hw]

theorem bar2Write_of_hostPost {s n : State} {fn : Nat} (i : Instr) (f : State → State) (h : s.hostPost fn n) : bar2Write i fn f s = f n := by
  obtain ⟨m, h, rfl⟩ := h
  exact bar2Row_of_hostAccess i _ h

theorem adminRow_of_begins {s n : State} {fn op : Nat} {c : AdminCmd} (f : State → State) (h : s.begins fn op c n) (h0 : op ≠ 0)
    (h1 : op ≤ 0x15) : s.adminRow fn op c f = f n := by
  obtain ⟨id, r, b, hf, hr, hp, ho, ha, hq, he, hz, rfl⟩ := h
  have : ¬ 0x15 < op := by omega
  simp [State.adminRow, hf, hr, hp, ho, ha, hq, he, hz, h0, this]

/-- A request on a path with no operation in progress is served at once (R545). -/
theorem inTurn_of_idle {s : State} {path : ReqPath} (i : Instr) (f : State → State) (h : s.pathBusy path = false) : inTurn i path f s = f s := by
  simp [inTurn, h]

/-- A request that fits its path. -/
theorem sized_of_fits {path : ReqPath} {len : Nat} (tag : Nat) (f : State → State) (s : State) (h : len ≤ pathLimit path) :
    sized path tag len f s = f s := by
  simp [sized, Nat.not_lt.mpr h]

theorem mgmtRequest_of_served {s n : State} {fm mem : Bool} {path : ReqPath} (tag : Nat) (f : State → State) (h : s.served fm mem path n) :
    mgmtRequest fm mem path tag f s = f n := by
  obtain ⟨ha, rfl, hr, hf, hm⟩ := h
  cases fm <;> cases mem <;> simp_all [mgmtRequest]

theorem recoveryRequest_of_recovery {s n : State} {path : ReqPath} (tag : Nat) (f : State → State) (h : s.recovery path n) :
    recoveryRequest path tag f s = f n := by
  obtain ⟨ha, rfl, hr, ⟨_, rfl⟩ | ⟨_, rfl⟩⟩ := h <;> simp [recoveryRequest, ha, hr]

theorem cvTake_of_packet {s n : State} {kind : Nat} {down : Bool} {c : CvSlot} {rx : RxPkt} (f : State → Nat → CvSlot → RxPkt → State)
    (h : s.convoyPacket kind down n c rx) : s.cvTake kind f = f n rx.cv.slot c rx := by
  obtain ⟨rest, c0, ht, hz, hv, hl, h4, hk, hk', hc, hs, hb, ha, hp, hd, hn, hg⟩ := h
  have e0 : ¬ rx.cv.ckind = 0 := by omega
  have e1 : ¬ 10 < rx.cv.ckind := by omega
  subst hn
  simp only [State.cvTake, ht]
  simp only [hz, hv, hl, e0, e1, hc, hs, hb, ha, hp, Bool.or_comm] at *
  cases down
  · simp_all
    rw [if_neg (by omega), if_neg (by rintro ⟨⟨⟨⟨h1, h2⟩, -⟩, -⟩, -⟩; omega)]
    simp [hg]
  · simp_all

theorem State.calm_of_rest {s : State} (h : s.atRest) : s.calm = s := by
  simp only [State.atRest] at h; simp [State.calm, h.1, h.2]

@[simp] theorem State.tally_todo (s : State) (b : Block) (e k i : Nat) : (s.tally b e k i).todo = s.todo := by
  simp only [State.tally, State.advance]; split_ifs <;> rfl

@[simp] theorem State.tally_caught (s : State) (b : Block) (e k i : Nat) : (s.tally b e k i).caught = s.caught := by
  simp only [State.tally, State.advance]; split_ifs <;> rfl

/-- An access counted leaves nothing to carry out. -/
theorem State.noteAccess_todo (s : State) (m p : Nat) : (s.noteAccess m p).todo = s.todo := by
  simp only [State.noteAccess]; split_ifs <;> simp

theorem State.noteAccess_caught (s : State) (m p : Nat) : (s.noteAccess m p).caught = s.caught := by
  simp only [State.noteAccess]; split_ifs <;> simp

theorem access_atRest {s n : State} {m a : Nat} (h : s.access m a n) (hr : s.atRest) : n.atRest := by
  obtain ⟨-, -, rfl, -⟩ := h
  simpa [State.atRest, State.noteAccess_todo, State.noteAccess_caught] using hr

/-- A page that holds a block is a page of the device. -/
theorem isPage_of_pageBlock {p : Nat} {x : Block × Nat} (h : pageBlock p = some x) : isPage p = true := by
  simp only [isPage, decide_eq_true_eq]
  by_contra hp
  simp [pageBlock, show p ≠ 0 by omega, show p ≠ 1 by omega, show p ≠ 2 by omega, show p ≠ 3 by omega, show p ≠ 4 by omega,
    show p ≠ 5 by omega, show p ≠ 6 by omega, show ¬ p ≤ 0xB by omega, show p ≠ 0x10 by omega, show p ≠ 0x11 by omega,
    show p ≠ 0x12 by omega, show p ≠ 0x13 by omega, show p ≠ 0x14 by omega, show p ≠ 0x15 by omega, show p ≠ 0x16 by omega,
    show p ≠ 0x17 by omega, show p ≠ 0x18 by omega, show p ≠ 0x19 by omega, show ¬ p ≤ 0x2F by omega, show ¬ p ≤ 0xBF by omega,
    show ¬ p ≤ 0xDF by omega, show p ≠ 0xE0 by omega, show p ≠ 0xE1 by omega] at h

theorem isBlock_of_pageBlock {p : Nat} {x : Block × Nat} (h : pageBlock p = some x) : isBlock p = true := by simp [isBlock, h]

/-- A register command whose access reaches the register. -/
theorem actLight_access {s n : State} {m a : Nat} {ok : Bool} (i : Instr) (f : State → State) (h : s.access m a n) (ho : ok = true) :
    actLight ok s.up (regRow i m a f) s = .next (f n).calm := by
  rw [actLight_runs _ _ ho (access_up h), regRow_of_access i f h]

theorem act_access {s n : State} {m a : Nat} {ok : Bool} (i : Instr) (f : State → State) (h : s.access m a n) (ho : ok = true) :
    act ok s.up (regRow i m a f) s = .next (f n).settle := by
  rw [act_runs _ _ ho (access_up h), regRow_of_access i f h]

theorem putField_todo (s : State) (x : Place) (w : Put) (f : Fld) (j : Nat) : (s.putField x w f j).todo = s.todo := by
  simp only [State.putField]; split_ifs
  · rfl
  all_goals cases f.acc <;> rfl

theorem putField_caught (s : State) (x : Place) (w : Put) (f : Fld) (j : Nat) : (s.putField x w f j).caught = s.caught := by
  simp only [State.putField]; split_ifs
  · rfl
  all_goals cases f.acc <;> rfl

/-- Writing the fields of a register leaves nothing to carry out. -/
theorem putReg_todo (s : State) (x : Place) (w : Put) : (s.putReg x w).todo = s.todo := by
  simp only [State.putReg]
  generalize allFields x.b = l
  induction l generalizing s with
  | nil => rfl
  | cons f r ih =>
    simp only [List.foldl_cons]
    rw [ih]
    cases fldIndex f x.off
    · rfl
    · exact putField_todo ..

/-- It captures no error. -/
theorem putReg_caught (s : State) (x : Place) (w : Put) : (s.putReg x w).caught = s.caught := by
  simp only [State.putReg]
  generalize allFields x.b = l
  induction l generalizing s with
  | nil => rfl
  | cons f r ih =>
    simp only [List.foldl_cons]
    rw [ih]
    cases fldIndex f x.off
    · rfl
    · exact putField_caught ..


/-! ## No effect waits after a command -/

theorem State.drain_todo (n : Nat) (s : State) : (s.drain n).todo = [] := by
  induction n generalizing s with
  | zero => rfl
  | succ n ih =>
    simp only [State.drain]
    split
    · assumption
    · exact ih _

@[simp] theorem State.high_todo (s : State) (f : Fld) (v i j : Nat) : (s.high f v i j).todo = s.todo := by
  simp only [State.high]; split <;> rfl

theorem State.noteBacklogs_todo (s : State) : s.noteBacklogs.todo = s.todo := by
  simp only [State.noteBacklogs]
  split
  · rfl
  · rename_i h
    clear h
    generalize List.range 4 = l
    induction l generalizing s with
    | nil => rfl
    | cons p l ih => simp only [List.foldl_cons]; rw [ih]; simp

theorem State.settle_atRest (s : State) : s.settle.atRest := by
  simp [State.settle, State.atRest, State.noteBacklogs_todo, State.drain_todo]

theorem State.calm_atRest (s : State) : s.calm.atRest := by
  simp only [State.calm]; split
  · simp_all [State.atRest]
  · exact State.settle_atRest s

/-! ## An idle period -/

/-- What sending a flit leaves as it is: memory, device time, the lists being fetched, and what waits to be carried out. -/
@[irreducible] def State.Steady (s t : State) : Prop :=
  t.mem = s.mem ∧ t.now = s.now ∧ t.nowFrac = s.nowFrac ∧ t.slew = s.slew ∧ t.freq = s.freq ∧ t.listFetch = s.listFetch ∧ t.todo = s.todo ∧ t.caught = s.caught

theorem State.Steady.refl (s : State) : s.Steady s := by simp [State.Steady]

theorem State.Steady.trans {s t u : State} (h : State.Steady s t) (g : State.Steady t u) : State.Steady s u := by
  simp only [State.Steady] at *; simp [h, g]

theorem State.Steady.wr {s t : State} {f : Fld} {v i j : Nat} (h : s.Steady t) : s.Steady (t.wr f v i j) := by
  unfold State.Steady at *; exact h
theorem State.Steady.emit {s t : State} {o : Out} (h : s.Steady t) : s.Steady (t.emit o) := by
  unfold State.Steady at *; exact h
theorem State.Steady.drawn {s t : State} (h : s.Steady t) : s.Steady t.drawn := by
  unfold State.Steady at *; exact h
theorem State.Steady.modPort {s t : State} {p : Nat} {f : PortSt → PortSt} (h : s.Steady t) : s.Steady (t.modPort p f) := by
  unfold State.Steady at *; exact h
theorem State.Steady.modLane {s t : State} {p : Nat} {f : LaneSt → LaneSt} (h : s.Steady t) : s.Steady (t.modLane p f) := by
  unfold State.Steady at *; exact h
theorem State.Steady.when {s t : State} {c : Bool} {f : State → State} (h : s.Steady t) (g : s.Steady (f t)) : s.Steady (t.when c f) := by
  unfold State.when; split <;> assumption

theorem State.Steady.foldl {α : Type} {f : State → α → State} {l : List α} {s t : State} (h : s.Steady t)
    (g : ∀ t a, s.Steady t → s.Steady (f t a)) : s.Steady (l.foldl f t) := by
  induction l generalizing t with
  | nil => exact h
  | cons a l ih => exact ih (g t a h)

theorem State.Steady.laneSend {s t : State} {l : Nat} {b : List Nat} (h : s.Steady t) : s.Steady (t.laneSend l b).1 := by
  unfold State.laneSend
  exact State.Steady.when (f := fun s => State.bump s _ _ _ _) h.modLane h.modLane.wr

theorem sends_steady {s : State} (l : List Nat) (lane : Nat → Nat) (f : Nat → List Nat) (x : State × List (Nat × List Nat)) (h : s.Steady x.1) :
    s.Steady (l.foldl (fun x i => ((x.1.laneSend (lane i) (f i)).1, x.2 ++ [(lane i, (x.1.laneSend (lane i) (f i)).2)])) x).1 := by
  induction l generalizing x with
  | nil => exact h
  | cons a l ih => exact ih _ h.laneSend

theorem State.Steady.sendShares {s t : State} {p : Nat} {f : Nat → List Nat} (h : s.Steady t) : s.Steady (t.sendShares p f) := by
  unfold State.sendShares
  exact (sends_steady _ (fun i => (t.setLanes p).getD i 0) f (t, []) h).emit

theorem State.Steady.sendCodeword {s t : State} {p : Nat} {b : List Bool} (h : s.Steady t) : s.Steady (t.sendCodeword p b) := by
  unfold State.sendCodeword
  extract_lets
  split
  · exact h.sendShares.modPort
  · exact h.sendShares.modPort.modPort.sendShares

theorem State.Steady.sendFlit {s t : State} {p : Nat} {f : Flit} (h : s.Steady t) : s.Steady (t.sendFlit p f) := by
  unfold State.sendFlit
  extract_lets q g u
  split
  extract_lets w
  have hw : s.Steady w := h.emit.modPort
  split
  · exact hw.sendCodeword
  · split
    · exact hw.modPort
    · exact hw.modPort.sendCodeword

theorem State.Steady.padFlit {s t : State} {o : Nat} (h : s.Steady t) : s.Steady (t.padFlit o) := by
  unfold State.padFlit
  extract_lets
  split
  · exact h
  · exact h.modPort.modPort.sendFlit

theorem padFlits_steady (s : State) : s.Steady s.padFlits :=
  (State.Steady.refl s).foldl fun _ _ h => h.when h.padFlit

theorem mayRevoke_steady (s : State) : s.padFlits.Steady s.padFlits.mayRevoke := by
  unfold State.mayRevoke
  split
  · exact ((State.Steady.refl _).when (State.Steady.refl _).wr.wr.wr).drawn
  · exact .refl _

theorem tick_atRest {s : State} (h : s.atRest) : s.tick.atRest := by
  simp only [State.atRest, State.tick] at *
  generalize s.ppsLowAt = q
  cases q with
  | none => exact h
  | some v => dsimp only; split_ifs <;> exact h

theorem listEnds_atRest {s : State} (h : s.atRest) : s.listEnds.atRest := by
  simp only [State.listEnds]
  split
  · exact h
  · split
    · exact h
    · exact State.settle_atRest _

theorem idle_atRest {s : State} (h : s.atRest) : s.idle.atRest := by
  simp only [State.idle]
  split
  · exact h
  · refine listEnds_atRest (tick_atRest ?_)
    have := (padFlits_steady s).trans (mayRevoke_steady s)
    simp only [State.Steady, State.atRest] at *
    simp [this, h]

end Sys2Proof.Machine
end

