-- ==== Sys2Proof/Laws/Table.lean ====
section
/-! SUPPORT. Laws/Table.lean: what the two containers do: a key written reads as written, no other key changes, and the canonical form of a
sparse store is kept. -/

namespace Sys2Proof

/-- A key below every key of a store in order holds the default. -/
theorem Sparse.read_below {β : Type} {d : β} {m : Sparse β} {lo a : Nat} (h : Sparse.sortedFrom lo m = true) (ha : a < lo) :
    Sparse.read d m a = d := by
  induction m generalizing lo with
  | nil => rfl
  | cons e r ih =>
    simp only [Sparse.sortedFrom, Bool.and_eq_true, decide_eq_true_eq] at h
    have : e.1 ≠ a := by omega
    simp [Sparse.read, this, ih h.2 (by omega)]

/-- The bound of an order may be lowered. -/
theorem Sparse.sortedFrom_mono {β : Type} {m : Sparse β} {lo hi : Nat} (h : Sparse.sortedFrom hi m = true) (hl : lo ≤ hi) :
    Sparse.sortedFrom lo m = true := by
  cases m with
  | nil => rfl
  | cons e r => simp only [Sparse.sortedFrom, Bool.and_eq_true, decide_eq_true_eq] at h ⊢; exact ⟨by omega, h.2⟩

/-- A write keeps the order. -/
theorem Sparse.write_sorted {β : Type} [DecidableEq β] {d : β} {m : Sparse β} {lo a : Nat} {v : β} (h : Sparse.sortedFrom lo m = true)
    (ha : lo ≤ a) : Sparse.sortedFrom lo (Sparse.write d m a v) = true := by
  induction m generalizing lo with
  | nil => by_cases hv : v = d <;> simp [Sparse.write, hv, Sparse.sortedFrom, ha]
  | cons e r ih =>
    simp only [Sparse.sortedFrom, Bool.and_eq_true, decide_eq_true_eq] at h
    simp only [Sparse.write]
    split_ifs with h1 hv h2 hv
    · exact Sparse.sortedFrom_mono h.2 (by omega)
    · simp only [Sparse.sortedFrom, Bool.and_eq_true, decide_eq_true_eq]; exact ⟨ha, by rw [← h1]; exact h.2⟩
    · simp only [Sparse.sortedFrom, Bool.and_eq_true, decide_eq_true_eq]; exact h
    · simp only [Sparse.sortedFrom, Bool.and_eq_true, decide_eq_true_eq]; exact ⟨ha, by omega, h.2⟩
    · simp only [Sparse.sortedFrom, Bool.and_eq_true, decide_eq_true_eq]; exact ⟨h.1, ih h.2 (by omega)⟩

/-- A key written reads as written. -/
theorem Sparse.read_write_same {β : Type} [DecidableEq β] {d : β} {m : Sparse β} {lo a : Nat} {v : β} (h : Sparse.sortedFrom lo m = true) :
    Sparse.read d (Sparse.write d m a v) a = v := by
  induction m generalizing lo with
  | nil => by_cases hv : v = d <;> simp [Sparse.write, hv, Sparse.read]
  | cons e r ih =>
    simp only [Sparse.sortedFrom, Bool.and_eq_true, decide_eq_true_eq] at h
    simp only [Sparse.write]
    split_ifs with h1 hv h2 hv
    · rw [hv]; exact Sparse.read_below h.2 (by omega)
    · simp [Sparse.read]
    · rw [hv]; simp only [Sparse.read, if_neg h1]; exact Sparse.read_below h.2 (by omega)
    · simp [Sparse.read]
    · simp only [Sparse.read, if_neg h1]; exact ih h.2

/-- No other key changes, whatever default it is read with. -/
theorem Sparse.read_write_other {β : Type} [DecidableEq β] {d d' : β} {m : Sparse β} {a b : Nat} {v : β} (h : b ≠ a) :
    Sparse.read d' (Sparse.write d m a v) b = Sparse.read d' m b := by
  induction m with
  | nil => by_cases hv : v = d <;> simp [Sparse.write, hv, Sparse.read, Ne.symm h]
  | cons e r ih =>
    simp only [Sparse.write]
    split_ifs with h1 hv h2 hv
    · simp [Sparse.read, show e.1 ≠ b by omega]
    · simp [Sparse.read, show e.1 ≠ b by omega, Ne.symm h]
    · rfl
    · simp [Sparse.read, Ne.symm h]
    · simp only [Sparse.read, ih]

/-- A write leaves no entry equal to the default. -/
theorem Sparse.write_all {β : Type} [DecidableEq β] {d : β} {m : Sparse β} {a : Nat} {v : β} (h : m.all (fun e => e.2 ≠ d) = true) :
    (Sparse.write d m a v).all (fun e => e.2 ≠ d) = true := by
  induction m with
  | nil => by_cases hv : v = d <;> simp [Sparse.write, hv]
  | cons e r ih =>
    simp only [List.all_cons, Bool.and_eq_true] at h
    simp only [Sparse.write]
    split_ifs with h1 hv h2 hv <;> simp_all <;> first | exact h.2 | exact ih h.2

/-- A write keeps the canonical form. -/
theorem Sparse.write_wf {β : Type} [DecidableEq β] {d : β} {m : Sparse β} {a : Nat} {v : β} (h : Sparse.wf d m = true) :
    Sparse.wf d (Sparse.write d m a v) = true := by
  simp only [Sparse.wf, Bool.and_eq_true] at h ⊢
  exact ⟨Sparse.write_sorted h.1 (Nat.zero_le _), Sparse.write_all h.2⟩

/-- An entry set in a table is found there. -/
theorem Tbl.get_set_same {κ α : Type} [DecidableEq κ] (t : Tbl κ α) (k : κ) (v : α) : Tbl.get (Tbl.set t k v) k = some v := by
  induction t with
  | nil => simp [Tbl.set, Tbl.get]
  | cons e r ih => by_cases h : e.1 = k <;> simp [Tbl.set, Tbl.get, h, ih]

/-- Setting one entry leaves every other. -/
theorem Tbl.get_set_other {κ α : Type} [DecidableEq κ] (t : Tbl κ α) {k j : κ} (v : α) (h : j ≠ k) :
    Tbl.get (Tbl.set t k v) j = Tbl.get t j := by
  induction t with
  | nil => simp [Tbl.set, Tbl.get, Ne.symm h]
  | cons e r ih =>
    by_cases he : e.1 = k
    · simp [Tbl.set, Tbl.get, he, Ne.symm h]
    · simp [Tbl.set, Tbl.get, he, ih]

/-- An entry deleted is not found. -/
theorem Tbl.get_del_same {κ α : Type} [DecidableEq κ] (t : Tbl κ α) (k : κ) : Tbl.get (Tbl.del t k) k = none := by
  induction t with
  | nil => rfl
  | cons e r ih =>
    by_cases h : e.1 = k
    · simpa [Tbl.del, h] using ih
    · simp only [Tbl.del, ne_eq, decide_not, List.filter_cons, h, decide_false, Bool.not_false, if_true, Tbl.get, if_false]
      simpa [Tbl.del] using ih

end Sys2Proof
end

