-- ==== Sys2Proof/Laws/Memory.lean ====
section
/-! SUPPORT. Laws/Memory.lean: what the operations over on-package memory do to its bytes and to its canonical form. -/

namespace Sys2Proof.Machine

/-- Writing a byte keeps the canonical form. -/
theorem setByte_memWf {s : State} (a : Nat) (b : Byte) (h : s.memWf) : (s.setByte a b).memWf := Sparse.write_wf h

/-- A byte written reads as written. -/
theorem byte_setByte_same {s : State} (a : Nat) (b : Byte) (h : s.memWf) : (s.setByte a b).byte a = b := by
  simp only [State.memWf, Sparse.wf, Bool.and_eq_true] at h
  exact Sparse.read_write_same h.1

/-- No other byte changes. -/
theorem byte_setByte_other (s : State) {a x : Nat} (b : Byte) (h : x ≠ a) : (s.setByte a b).byte x = s.byte x :=
  Sparse.read_write_other h

/-- Writing bytes one after another keeps the canonical form. -/
theorem putBytes_memWf {s : State} (a : Nat) (b : List Byte) (h : s.memWf) : (s.putBytes a b).memWf := by
  induction b generalizing s a with
  | nil => exact h
  | cons x r ih => exact ih (a + 1) (setByte_memWf a x h)

/-- Bytes below the first written stay. -/
theorem byte_putBytes_below (s : State) {a x : Nat} (b : List Byte) (h : x < a) : (s.putBytes a b).byte x = s.byte x := by
  induction b generalizing s a with
  | nil => rfl
  | cons y r ih => rw [State.putBytes, ih (s.setByte a y) (by omega), byte_setByte_other s y (by omega)]

/-- Writing one entry after another keeps the canonical form. -/
theorem foldl_write_wf {β : Type} [DecidableEq β] {d : β} (g : Nat × β → Nat × β) (l : List (Nat × β)) {m : Sparse β} (h : Sparse.wf d m = true) :
    Sparse.wf d (l.foldl (fun m e => Sparse.write d m (g e).1 (g e).2) m) = true := by
  induction l generalizing m with
  | nil => exact h
  | cons e r ih => exact ih (Sparse.write_wf h)

/-- Every operation that writes on-package memory keeps its canonical form. -/
theorem setBytes_memWf {s : State} (a : Nat) (b : List Byte) (h : s.memWf) : (s.setBytes a b).memWf := putBytes_memWf a b h

theorem setWord_memWf {s : State} (a n v : Nat) (h : s.memWf) : (s.setWord a n v).memWf := setBytes_memWf a _ h

/-- Leaving out entries keeps the order of a store. -/
theorem filter_sorted {β : Type} (t : Nat × β → Bool) {m : Sparse β} {lo : Nat} (h : Sparse.sortedFrom lo m = true) :
    Sparse.sortedFrom lo (m.filter t) = true := by
  induction m generalizing lo with
  | nil => rfl
  | cons e r ih =>
    simp only [Sparse.sortedFrom, Bool.and_eq_true, decide_eq_true_eq] at h
    by_cases ht : t e = true
    · simp only [List.filter_cons, ht, if_true, Sparse.sortedFrom, Bool.and_eq_true, decide_eq_true_eq]; exact ⟨h.1, ih h.2⟩
    · simp only [List.filter_cons, ht]; exact Sparse.sortedFrom_mono (ih h.2) (by omega)

/-- Leaving out entries keeps the canonical form. -/
theorem filter_wf {β : Type} [DecidableEq β] {d : β} (t : Nat × β → Bool) {m : Sparse β} (h : Sparse.wf d m = true) :
    Sparse.wf d (m.filter t) = true := by
  simp only [Sparse.wf, Bool.and_eq_true, List.all_eq_true] at h ⊢
  exact ⟨filter_sorted t h.1, fun e he => h.2 e (List.mem_of_mem_filter he)⟩

/-- The copy between the banks of the road book keeps the canonical form of memory. -/
theorem copyBank_memWf {s : State} (h : s.memWf) : s.copyBank.memWf := by
  simp only [State.memWf, State.copyBank]
  exact foldl_write_wf (fun e => (e.1 - _ + _, e.2)) _ (filter_wf _ h)

/-- The memory after reset is in canonical form. -/
theorem reset_memWf : State.reset.memWf := rfl

end Sys2Proof.Machine
end

