-- ==== Sys2Proof/Laws/State.lean ====
section
/-! SUPPORT. Laws/State.lean: what each plain update of the state leaves as it was: one lemma for each field. -/

namespace Sys2Proof.Machine

/-! ## What a field written leaves -/

@[simp] theorem State.wr_pending (s : State) (f : Fld) (v i j : Nat) : (s.wr f v i j).pending = s.pending := rfl
@[simp] theorem State.wr_sh (s : State) (f : Fld) (v i j : Nat) : (s.wr f v i j).sh = s.sh := rfl
@[simp] theorem State.wr_mem (s : State) (f : Fld) (v i j : Nat) : (s.wr f v i j).mem = s.mem := rfl
@[simp] theorem State.wr_poison (s : State) (f : Fld) (v i j : Nat) : (s.wr f v i j).poison = s.poison := rfl
@[simp] theorem State.wr_out (s : State) (f : Fld) (v i j : Nat) : (s.wr f v i j).out = s.out := rfl
@[simp] theorem State.wr_fresh (s : State) (f : Fld) (v i j : Nat) : (s.wr f v i j).fresh = s.fresh := rfl
@[simp] theorem State.wr_fuses (s : State) (f : Fld) (v i j : Nat) : (s.wr f v i j).fuses = s.fuses := rfl
@[simp] theorem State.wr_now (s : State) (f : Fld) (v i j : Nat) : (s.wr f v i j).now = s.now := rfl
@[simp] theorem State.wr_nowFrac (s : State) (f : Fld) (v i j : Nat) : (s.wr f v i j).nowFrac = s.nowFrac := rfl
@[simp] theorem State.wr_nbs (s : State) (f : Fld) (v i j : Nat) : (s.wr f v i j).nbs = s.nbs := rfl
@[simp] theorem State.wr_timeGood (s : State) (f : Fld) (v i j : Nat) : (s.wr f v i j).timeGood = s.timeGood := rfl
@[simp] theorem State.wr_slew (s : State) (f : Fld) (v i j : Nat) : (s.wr f v i j).slew = s.slew := rfl
@[simp] theorem State.wr_freq (s : State) (f : Fld) (v i j : Nat) : (s.wr f v i j).freq = s.freq := rfl
@[simp] theorem State.wr_resetAt (s : State) (f : Fld) (v i j : Nat) : (s.wr f v i j).resetAt = s.resetAt := rfl
@[simp] theorem State.wr_holdAt (s : State) (f : Fld) (v i j : Nat) : (s.wr f v i j).holdAt = s.holdAt := rfl
@[simp] theorem State.wr_holdErr (s : State) (f : Fld) (v i j : Nat) : (s.wr f v i j).holdErr = s.holdErr := rfl
@[simp] theorem State.wr_seqAt (s : State) (f : Fld) (v i j : Nat) : (s.wr f v i j).seqAt = s.seqAt := rfl
@[simp] theorem State.wr_ppsRef (s : State) (f : Fld) (v i j : Nat) : (s.wr f v i j).ppsRef = s.ppsRef := rfl
@[simp] theorem State.wr_ppsLowAt (s : State) (f : Fld) (v i j : Nat) : (s.wr f v i j).ppsLowAt = s.ppsLowAt := rfl
@[simp] theorem State.wr_todo (s : State) (f : Fld) (v i j : Nat) : (s.wr f v i j).todo = s.todo := rfl
@[simp] theorem State.wr_halted (s : State) (f : Fld) (v i j : Nat) : (s.wr f v i j).halted = s.halted := rfl
@[simp] theorem State.wr_wins (s : State) (f : Fld) (v i j : Nat) : (s.wr f v i j).wins = s.wins := rfl
@[simp] theorem State.wr_bursts (s : State) (f : Fld) (v i j : Nat) : (s.wr f v i j).bursts = s.bursts := rfl
@[simp] theorem State.wr_unitFence (s : State) (f : Fld) (v i j : Nat) : (s.wr f v i j).unitFence = s.unitFence := rfl
@[simp] theorem State.wr_unitAuto (s : State) (f : Fld) (v i j : Nat) : (s.wr f v i j).unitAuto = s.unitAuto := rfl
@[simp] theorem State.wr_pipeTest (s : State) (f : Fld) (v i j : Nat) : (s.wr f v i j).pipeTest = s.pipeTest := rfl
@[simp] theorem State.wr_aliveAt (s : State) (f : Fld) (v i j : Nat) : (s.wr f v i j).aliveAt = s.aliveAt := rfl
@[simp] theorem State.wr_rowCounts (s : State) (f : Fld) (v i j : Nat) : (s.wr f v i j).rowCounts = s.rowCounts := rfl
@[simp] theorem State.wr_solo (s : State) (f : Fld) (v i j : Nat) : (s.wr f v i j).solo = s.solo := rfl
@[simp] theorem State.wr_spareMap (s : State) (f : Fld) (v i j : Nat) : (s.wr f v i j).spareMap = s.spareMap := rfl
@[simp] theorem State.wr_spareSaved (s : State) (f : Fld) (v i j : Nat) : (s.wr f v i j).spareSaved = s.spareSaved := rfl
@[simp] theorem State.wr_rowCopies (s : State) (f : Fld) (v i j : Nat) : (s.wr f v i j).rowCopies = s.rowCopies := rfl
@[simp] theorem State.wr_jtagOpen (s : State) (f : Fld) (v i j : Nat) : (s.wr f v i j).jtagOpen = s.jtagOpen := rfl
@[simp] theorem State.wr_hostFns (s : State) (f : Fld) (v i j : Nat) : (s.wr f v i j).hostFns = s.hostFns := rfl
@[simp] theorem State.wr_reads (s : State) (f : Fld) (v i j : Nat) : (s.wr f v i j).reads = s.reads := rfl
@[simp] theorem State.wr_nextRead (s : State) (f : Fld) (v i j : Nat) : (s.wr f v i j).nextRead = s.nextRead := rfl
@[simp] theorem State.wr_spaces (s : State) (f : Fld) (v i j : Nat) : (s.wr f v i j).spaces = s.spaces := rfl
@[simp] theorem State.wr_tcache (s : State) (f : Fld) (v i j : Nat) : (s.wr f v i j).tcache = s.tcache := rfl
@[simp] theorem State.wr_wcache (s : State) (f : Fld) (v i j : Nat) : (s.wr f v i j).wcache = s.wcache := rfl
@[simp] theorem State.wr_walks (s : State) (f : Fld) (v i j : Nat) : (s.wr f v i j).walks = s.walks := rfl
@[simp] theorem State.wr_nextWalk (s : State) (f : Fld) (v i j : Nat) : (s.wr f v i j).nextWalk = s.nextWalk := rfl
@[simp] theorem State.wr_grants (s : State) (f : Fld) (v i j : Nat) : (s.wr f v i j).grants = s.grants := rfl
@[simp] theorem State.wr_faultMarks (s : State) (f : Fld) (v i j : Nat) : (s.wr f v i j).faultMarks = s.faultMarks := rfl
@[simp] theorem State.wr_regions (s : State) (f : Fld) (v i j : Nat) : (s.wr f v i j).regions = s.regions := rfl
@[simp] theorem State.wr_regionGen (s : State) (f : Fld) (v i j : Nat) : (s.wr f v i j).regionGen = s.regionGen := rfl
@[simp] theorem State.wr_freed (s : State) (f : Fld) (v i j : Nat) : (s.wr f v i j).freed = s.freed := rfl
@[simp] theorem State.wr_wqs (s : State) (f : Fld) (v i j : Nat) : (s.wr f v i j).wqs = s.wqs := rfl
@[simp] theorem State.wr_cqs (s : State) (f : Fld) (v i j : Nat) : (s.wr f v i j).cqs = s.cqs := rfl
@[simp] theorem State.wr_eqs (s : State) (f : Fld) (v i j : Nat) : (s.wr f v i j).eqs = s.eqs := rfl
@[simp] theorem State.wr_nextEq (s : State) (f : Fld) (v i j : Nat) : (s.wr f v i j).nextEq = s.nextEq := rfl
@[simp] theorem State.wr_admin (s : State) (f : Fld) (v i j : Nat) : (s.wr f v i j).admin = s.admin := rfl
@[simp] theorem State.wr_invals (s : State) (f : Fld) (v i j : Nat) : (s.wr f v i j).invals = s.invals := rfl
@[simp] theorem State.wr_ops (s : State) (f : Fld) (v i j : Nat) : (s.wr f v i j).ops = s.ops := rfl
@[simp] theorem State.wr_nextOp (s : State) (f : Fld) (v i j : Nat) : (s.wr f v i j).nextOp = s.nextOp := rfl
@[simp] theorem State.wr_ports (s : State) (f : Fld) (v i j : Nat) : (s.wr f v i j).ports = s.ports := rfl
@[simp] theorem State.wr_lanes (s : State) (f : Fld) (v i j : Nat) : (s.wr f v i j).lanes = s.lanes := rfl
@[simp] theorem State.wr_inject (s : State) (f : Fld) (v i j : Nat) : (s.wr f v i j).inject = s.inject := rfl
@[simp] theorem State.wr_eject (s : State) (f : Fld) (v i j : Nat) : (s.wr f v i j).eject = s.eject := rfl
@[simp] theorem State.wr_rx (s : State) (f : Fld) (v i j : Nat) : (s.wr f v i j).rx = s.rx := rfl
@[simp] theorem State.wr_groupTable (s : State) (f : Fld) (v i j : Nat) : (s.wr f v i j).groupTable = s.groupTable := rfl
@[simp] theorem State.wr_ests (s : State) (f : Fld) (v i j : Nat) : (s.wr f v i j).ests = s.ests := rfl
@[simp] theorem State.wr_bookCache (s : State) (f : Fld) (v i j : Nat) : (s.wr f v i j).bookCache = s.bookCache := rfl
@[simp] theorem State.wr_excluded (s : State) (f : Fld) (v i j : Nat) : (s.wr f v i j).excluded = s.excluded := rfl
@[simp] theorem State.wr_bookLost (s : State) (f : Fld) (v i j : Nat) : (s.wr f v i j).bookLost = s.bookLost := rfl
@[simp] theorem State.wr_quars (s : State) (f : Fld) (v i j : Nat) : (s.wr f v i j).quars = s.quars := rfl
@[simp] theorem State.wr_pws (s : State) (f : Fld) (v i j : Nat) : (s.wr f v i j).pws = s.pws := rfl
@[simp] theorem State.wr_inflight (s : State) (f : Fld) (v i j : Nat) : (s.wr f v i j).inflight = s.inflight := rfl
@[simp] theorem State.wr_parked (s : State) (f : Fld) (v i j : Nat) : (s.wr f v i j).parked = s.parked := rfl
@[simp] theorem State.wr_walkPark (s : State) (f : Fld) (v i j : Nat) : (s.wr f v i j).walkPark = s.walkPark := rfl
@[simp] theorem State.wr_epochs (s : State) (f : Fld) (v i j : Nat) : (s.wr f v i j).epochs = s.epochs := rfl
@[simp] theorem State.wr_holds (s : State) (f : Fld) (v i j : Nat) : (s.wr f v i j).holds = s.holds := rfl
@[simp] theorem State.wr_forgetOld (s : State) (f : Fld) (v i j : Nat) : (s.wr f v i j).forgetOld = s.forgetOld := rfl
@[simp] theorem State.wr_lqps (s : State) (f : Fld) (v i j : Nat) : (s.wr f v i j).lqps = s.lqps := rfl
@[simp] theorem State.wr_gets (s : State) (f : Fld) (v i j : Nat) : (s.wr f v i j).gets = s.gets := rfl
@[simp] theorem State.wr_nextGet (s : State) (f : Fld) (v i j : Nat) : (s.wr f v i j).nextGet = s.nextGet := rfl
@[simp] theorem State.wr_flushes (s : State) (f : Fld) (v i j : Nat) : (s.wr f v i j).flushes = s.flushes := rfl
@[simp] theorem State.wr_memBusy (s : State) (f : Fld) (v i j : Nat) : (s.wr f v i j).memBusy = s.memBusy := rfl
@[simp] theorem State.wr_caught (s : State) (f : Fld) (v i j : Nat) : (s.wr f v i j).caught = s.caught := rfl
@[simp] theorem State.wr_nextMsg (s : State) (f : Fld) (v i j : Nat) : (s.wr f v i j).nextMsg = s.nextMsg := rfl
@[simp] theorem State.wr_listFetch (s : State) (f : Fld) (v i j : Nat) : (s.wr f v i j).listFetch = s.listFetch := rfl
@[simp] theorem State.wr_memFlushes (s : State) (f : Fld) (v i j : Nat) : (s.wr f v i j).memFlushes = s.memFlushes := rfl
@[simp] theorem State.wr_violations (s : State) (f : Fld) (v i j : Nat) : (s.wr f v i j).violations = s.violations := rfl
@[simp] theorem State.wr_resps (s : State) (f : Fld) (v i j : Nat) : (s.wr f v i j).resps = s.resps := rfl
@[simp] theorem State.wr_tags (s : State) (f : Fld) (v i j : Nat) : (s.wr f v i j).tags = s.tags := rfl
@[simp] theorem State.wr_vtimes (s : State) (f : Fld) (v i j : Nat) : (s.wr f v i j).vtimes = s.vtimes := rfl
@[simp] theorem State.wr_credits (s : State) (f : Fld) (v i j : Nat) : (s.wr f v i j).credits = s.credits := rfl
@[simp] theorem State.wr_lastWq (s : State) (f : Fld) (v i j : Nat) : (s.wr f v i j).lastWq = s.lastWq := rfl
@[simp] theorem State.wr_atomics (s : State) (f : Fld) (v i j : Nat) : (s.wr f v i j).atomics = s.atomics := rfl
@[simp] theorem State.wr_nextAtomic (s : State) (f : Fld) (v i j : Nat) : (s.wr f v i j).nextAtomic = s.nextAtomic := rfl
@[simp] theorem State.wr_wordWait (s : State) (f : Fld) (v i j : Nat) : (s.wr f v i j).wordWait = s.wordWait := rfl
@[simp] theorem State.wr_ovfWait (s : State) (f : Fld) (v i j : Nat) : (s.wr f v i j).ovfWait = s.ovfWait := rfl
@[simp] theorem State.wr_locks (s : State) (f : Fld) (v i j : Nat) : (s.wr f v i j).locks = s.locks := rfl
@[simp] theorem State.wr_heldLocks (s : State) (f : Fld) (v i j : Nat) : (s.wr f v i j).heldLocks = s.heldLocks := rfl
@[simp] theorem State.wr_semQ (s : State) (f : Fld) (v i j : Nat) : (s.wr f v i j).semQ = s.semQ := rfl
@[simp] theorem State.wr_lists (s : State) (f : Fld) (v i j : Nat) : (s.wr f v i j).lists = s.lists := rfl
@[simp] theorem State.wr_posted (s : State) (f : Fld) (v i j : Nat) : (s.wr f v i j).posted = s.posted := rfl
@[simp] theorem State.wr_unexp (s : State) (f : Fld) (v i j : Nat) : (s.wr f v i j).unexp = s.unexp := rfl
@[simp] theorem State.wr_recs (s : State) (f : Fld) (v i j : Nat) : (s.wr f v i j).recs = s.recs := rfl
@[simp] theorem State.wr_closedMsgs (s : State) (f : Fld) (v i j : Nat) : (s.wr f v i j).closedMsgs = s.closedMsgs := rfl
@[simp] theorem State.wr_copies (s : State) (f : Fld) (v i j : Nat) : (s.wr f v i j).copies = s.copies := rfl
@[simp] theorem State.wr_nextCopy (s : State) (f : Fld) (v i j : Nat) : (s.wr f v i j).nextCopy = s.nextCopy := rfl
@[simp] theorem State.wr_ovfs (s : State) (f : Fld) (v i j : Nat) : (s.wr f v i j).ovfs = s.ovfs := rfl
@[simp] theorem State.wr_convoys (s : State) (f : Fld) (v i j : Nat) : (s.wr f v i j).convoys = s.convoys := rfl
@[simp] theorem State.wr_cvWrites (s : State) (f : Fld) (v i j : Nat) : (s.wr f v i j).cvWrites = s.cvWrites := rfl
@[simp] theorem State.wr_arbs (s : State) (f : Fld) (v i j : Nat) : (s.wr f v i j).arbs = s.arbs := rfl
@[simp] theorem State.wr_slots (s : State) (f : Fld) (v i j : Nat) : (s.wr f v i j).slots = s.slots := rfl
@[simp] theorem State.wr_pktCtrs (s : State) (f : Fld) (v i j : Nat) : (s.wr f v i j).pktCtrs = s.pktCtrs := rfl
@[simp] theorem State.wr_meters (s : State) (f : Fld) (v i j : Nat) : (s.wr f v i j).meters = s.meters := rfl
@[simp] theorem State.wr_secBlob (s : State) (f : Fld) (v i j : Nat) : (s.wr f v i j).secBlob = s.secBlob := rfl
@[simp] theorem State.wr_secCmd (s : State) (f : Fld) (v i j : Nat) : (s.wr f v i j).secCmd = s.secCmd := rfl
@[simp] theorem State.wr_dbgNonce (s : State) (f : Fld) (v i j : Nat) : (s.wr f v i j).dbgNonce = s.dbgNonce := rfl
@[simp] theorem State.wr_scanOpen (s : State) (f : Fld) (v i j : Nat) : (s.wr f v i j).scanOpen = s.scanOpen := rfl
@[simp] theorem State.wr_events (s : State) (f : Fld) (v i j : Nat) : (s.wr f v i j).events = s.events := rfl
@[simp] theorem State.wr_flash (s : State) (f : Fld) (v i j : Nat) : (s.wr f v i j).flash = s.flash := rfl
@[simp] theorem State.wr_mg (s : State) (f : Fld) (v i j : Nat) : (s.wr f v i j).mg = s.mg := rfl
@[simp] theorem State.wr_pw (s : State) (f : Fld) (v i j : Nat) : (s.wr f v i j).pw = s.pw := rfl
@[simp] theorem State.wr_inReset (s : State) (f : Fld) (v i j : Nat) : (s.wr f v i j).inReset = s.inReset := rfl
@[simp] theorem State.wr_off (s : State) (f : Fld) (v i j : Nat) : (s.wr f v i j).off = s.off := rfl
@[simp] theorem State.wr_ctrs (s : State) (f : Fld) (v i j : Nat) : (s.wr f v i j).ctrs = s.ctrs := rfl
@[simp] theorem State.wr_lfsr (s : State) (f : Fld) (v i j : Nat) : (s.wr f v i j).lfsr = s.lfsr := rfl
@[simp] theorem State.wr_samples (s : State) (f : Fld) (v i j : Nat) : (s.wr f v i j).samples = s.samples := rfl
@[simp] theorem State.wr_snap (s : State) (f : Fld) (v i j : Nat) : (s.wr f v i j).snap = s.snap := rfl

/-! ## What an output leaves -/

@[simp] theorem State.emit_pending (s : State) (o : Out) : (s.emit o).pending = s.pending := rfl
@[simp] theorem State.emit_regs (s : State) (o : Out) : (s.emit o).regs = s.regs := rfl
@[simp] theorem State.emit_sh (s : State) (o : Out) : (s.emit o).sh = s.sh := rfl
@[simp] theorem State.emit_mem (s : State) (o : Out) : (s.emit o).mem = s.mem := rfl
@[simp] theorem State.emit_poison (s : State) (o : Out) : (s.emit o).poison = s.poison := rfl
@[simp] theorem State.emit_fresh (s : State) (o : Out) : (s.emit o).fresh = s.fresh := rfl
@[simp] theorem State.emit_fuses (s : State) (o : Out) : (s.emit o).fuses = s.fuses := rfl
@[simp] theorem State.emit_now (s : State) (o : Out) : (s.emit o).now = s.now := rfl
@[simp] theorem State.emit_nowFrac (s : State) (o : Out) : (s.emit o).nowFrac = s.nowFrac := rfl
@[simp] theorem State.emit_nbs (s : State) (o : Out) : (s.emit o).nbs = s.nbs := rfl
@[simp] theorem State.emit_timeGood (s : State) (o : Out) : (s.emit o).timeGood = s.timeGood := rfl
@[simp] theorem State.emit_slew (s : State) (o : Out) : (s.emit o).slew = s.slew := rfl
@[simp] theorem State.emit_freq (s : State) (o : Out) : (s.emit o).freq = s.freq := rfl
@[simp] theorem State.emit_resetAt (s : State) (o : Out) : (s.emit o).resetAt = s.resetAt := rfl
@[simp] theorem State.emit_holdAt (s : State) (o : Out) : (s.emit o).holdAt = s.holdAt := rfl
@[simp] theorem State.emit_holdErr (s : State) (o : Out) : (s.emit o).holdErr = s.holdErr := rfl
@[simp] theorem State.emit_seqAt (s : State) (o : Out) : (s.emit o).seqAt = s.seqAt := rfl
@[simp] theorem State.emit_ppsRef (s : State) (o : Out) : (s.emit o).ppsRef = s.ppsRef := rfl
@[simp] theorem State.emit_ppsLowAt (s : State) (o : Out) : (s.emit o).ppsLowAt = s.ppsLowAt := rfl
@[simp] theorem State.emit_todo (s : State) (o : Out) : (s.emit o).todo = s.todo := rfl
@[simp] theorem State.emit_halted (s : State) (o : Out) : (s.emit o).halted = s.halted := rfl
@[simp] theorem State.emit_wins (s : State) (o : Out) : (s.emit o).wins = s.wins := rfl
@[simp] theorem State.emit_bursts (s : State) (o : Out) : (s.emit o).bursts = s.bursts := rfl
@[simp] theorem State.emit_unitFence (s : State) (o : Out) : (s.emit o).unitFence = s.unitFence := rfl
@[simp] theorem State.emit_unitAuto (s : State) (o : Out) : (s.emit o).unitAuto = s.unitAuto := rfl
@[simp] theorem State.emit_pipeTest (s : State) (o : Out) : (s.emit o).pipeTest = s.pipeTest := rfl
@[simp] theorem State.emit_aliveAt (s : State) (o : Out) : (s.emit o).aliveAt = s.aliveAt := rfl
@[simp] theorem State.emit_rowCounts (s : State) (o : Out) : (s.emit o).rowCounts = s.rowCounts := rfl
@[simp] theorem State.emit_solo (s : State) (o : Out) : (s.emit o).solo = s.solo := rfl
@[simp] theorem State.emit_spareMap (s : State) (o : Out) : (s.emit o).spareMap = s.spareMap := rfl
@[simp] theorem State.emit_spareSaved (s : State) (o : Out) : (s.emit o).spareSaved = s.spareSaved := rfl
@[simp] theorem State.emit_rowCopies (s : State) (o : Out) : (s.emit o).rowCopies = s.rowCopies := rfl
@[simp] theorem State.emit_jtagOpen (s : State) (o : Out) : (s.emit o).jtagOpen = s.jtagOpen := rfl
@[simp] theorem State.emit_hostFns (s : State) (o : Out) : (s.emit o).hostFns = s.hostFns := rfl
@[simp] theorem State.emit_reads (s : State) (o : Out) : (s.emit o).reads = s.reads := rfl
@[simp] theorem State.emit_nextRead (s : State) (o : Out) : (s.emit o).nextRead = s.nextRead := rfl
@[simp] theorem State.emit_spaces (s : State) (o : Out) : (s.emit o).spaces = s.spaces := rfl
@[simp] theorem State.emit_tcache (s : State) (o : Out) : (s.emit o).tcache = s.tcache := rfl
@[simp] theorem State.emit_wcache (s : State) (o : Out) : (s.emit o).wcache = s.wcache := rfl
@[simp] theorem State.emit_walks (s : State) (o : Out) : (s.emit o).walks = s.walks := rfl
@[simp] theorem State.emit_nextWalk (s : State) (o : Out) : (s.emit o).nextWalk = s.nextWalk := rfl
@[simp] theorem State.emit_grants (s : State) (o : Out) : (s.emit o).grants = s.grants := rfl
@[simp] theorem State.emit_faultMarks (s : State) (o : Out) : (s.emit o).faultMarks = s.faultMarks := rfl
@[simp] theorem State.emit_regions (s : State) (o : Out) : (s.emit o).regions = s.regions := rfl
@[simp] theorem State.emit_regionGen (s : State) (o : Out) : (s.emit o).regionGen = s.regionGen := rfl
@[simp] theorem State.emit_freed (s : State) (o : Out) : (s.emit o).freed = s.freed := rfl
@[simp] theorem State.emit_wqs (s : State) (o : Out) : (s.emit o).wqs = s.wqs := rfl
@[simp] theorem State.emit_cqs (s : State) (o : Out) : (s.emit o).cqs = s.cqs := rfl
@[simp] theorem State.emit_eqs (s : State) (o : Out) : (s.emit o).eqs = s.eqs := rfl
@[simp] theorem State.emit_nextEq (s : State) (o : Out) : (s.emit o).nextEq = s.nextEq := rfl
@[simp] theorem State.emit_admin (s : State) (o : Out) : (s.emit o).admin = s.admin := rfl
@[simp] theorem State.emit_invals (s : State) (o : Out) : (s.emit o).invals = s.invals := rfl
@[simp] theorem State.emit_ops (s : State) (o : Out) : (s.emit o).ops = s.ops := rfl
@[simp] theorem State.emit_nextOp (s : State) (o : Out) : (s.emit o).nextOp = s.nextOp := rfl
@[simp] theorem State.emit_ports (s : State) (o : Out) : (s.emit o).ports = s.ports := rfl
@[simp] theorem State.emit_lanes (s : State) (o : Out) : (s.emit o).lanes = s.lanes := rfl
@[simp] theorem State.emit_inject (s : State) (o : Out) : (s.emit o).inject = s.inject := rfl
@[simp] theorem State.emit_eject (s : State) (o : Out) : (s.emit o).eject = s.eject := rfl
@[simp] theorem State.emit_rx (s : State) (o : Out) : (s.emit o).rx = s.rx := rfl
@[simp] theorem State.emit_groupTable (s : State) (o : Out) : (s.emit o).groupTable = s.groupTable := rfl
@[simp] theorem State.emit_ests (s : State) (o : Out) : (s.emit o).ests = s.ests := rfl
@[simp] theorem State.emit_bookCache (s : State) (o : Out) : (s.emit o).bookCache = s.bookCache := rfl
@[simp] theorem State.emit_excluded (s : State) (o : Out) : (s.emit o).excluded = s.excluded := rfl
@[simp] theorem State.emit_bookLost (s : State) (o : Out) : (s.emit o).bookLost = s.bookLost := rfl
@[simp] theorem State.emit_quars (s : State) (o : Out) : (s.emit o).quars = s.quars := rfl
@[simp] theorem State.emit_pws (s : State) (o : Out) : (s.emit o).pws = s.pws := rfl
@[simp] theorem State.emit_inflight (s : State) (o : Out) : (s.emit o).inflight = s.inflight := rfl
@[simp] theorem State.emit_parked (s : State) (o : Out) : (s.emit o).parked = s.parked := rfl
@[simp] theorem State.emit_walkPark (s : State) (o : Out) : (s.emit o).walkPark = s.walkPark := rfl
@[simp] theorem State.emit_epochs (s : State) (o : Out) : (s.emit o).epochs = s.epochs := rfl
@[simp] theorem State.emit_holds (s : State) (o : Out) : (s.emit o).holds = s.holds := rfl
@[simp] theorem State.emit_forgetOld (s : State) (o : Out) : (s.emit o).forgetOld = s.forgetOld := rfl
@[simp] theorem State.emit_lqps (s : State) (o : Out) : (s.emit o).lqps = s.lqps := rfl
@[simp] theorem State.emit_gets (s : State) (o : Out) : (s.emit o).gets = s.gets := rfl
@[simp] theorem State.emit_nextGet (s : State) (o : Out) : (s.emit o).nextGet = s.nextGet := rfl
@[simp] theorem State.emit_flushes (s : State) (o : Out) : (s.emit o).flushes = s.flushes := rfl
@[simp] theorem State.emit_memBusy (s : State) (o : Out) : (s.emit o).memBusy = s.memBusy := rfl
@[simp] theorem State.emit_caught (s : State) (o : Out) : (s.emit o).caught = s.caught := rfl
@[simp] theorem State.emit_nextMsg (s : State) (o : Out) : (s.emit o).nextMsg = s.nextMsg := rfl
@[simp] theorem State.emit_listFetch (s : State) (o : Out) : (s.emit o).listFetch = s.listFetch := rfl
@[simp] theorem State.emit_memFlushes (s : State) (o : Out) : (s.emit o).memFlushes = s.memFlushes := rfl
@[simp] theorem State.emit_violations (s : State) (o : Out) : (s.emit o).violations = s.violations := rfl
@[simp] theorem State.emit_resps (s : State) (o : Out) : (s.emit o).resps = s.resps := rfl
@[simp] theorem State.emit_tags (s : State) (o : Out) : (s.emit o).tags = s.tags := rfl
@[simp] theorem State.emit_vtimes (s : State) (o : Out) : (s.emit o).vtimes = s.vtimes := rfl
@[simp] theorem State.emit_credits (s : State) (o : Out) : (s.emit o).credits = s.credits := rfl
@[simp] theorem State.emit_lastWq (s : State) (o : Out) : (s.emit o).lastWq = s.lastWq := rfl
@[simp] theorem State.emit_atomics (s : State) (o : Out) : (s.emit o).atomics = s.atomics := rfl
@[simp] theorem State.emit_nextAtomic (s : State) (o : Out) : (s.emit o).nextAtomic = s.nextAtomic := rfl
@[simp] theorem State.emit_wordWait (s : State) (o : Out) : (s.emit o).wordWait = s.wordWait := rfl
@[simp] theorem State.emit_ovfWait (s : State) (o : Out) : (s.emit o).ovfWait = s.ovfWait := rfl
@[simp] theorem State.emit_locks (s : State) (o : Out) : (s.emit o).locks = s.locks := rfl
@[simp] theorem State.emit_heldLocks (s : State) (o : Out) : (s.emit o).heldLocks = s.heldLocks := rfl
@[simp] theorem State.emit_semQ (s : State) (o : Out) : (s.emit o).semQ = s.semQ := rfl
@[simp] theorem State.emit_lists (s : State) (o : Out) : (s.emit o).lists = s.lists := rfl
@[simp] theorem State.emit_posted (s : State) (o : Out) : (s.emit o).posted = s.posted := rfl
@[simp] theorem State.emit_unexp (s : State) (o : Out) : (s.emit o).unexp = s.unexp := rfl
@[simp] theorem State.emit_recs (s : State) (o : Out) : (s.emit o).recs = s.recs := rfl
@[simp] theorem State.emit_closedMsgs (s : State) (o : Out) : (s.emit o).closedMsgs = s.closedMsgs := rfl
@[simp] theorem State.emit_copies (s : State) (o : Out) : (s.emit o).copies = s.copies := rfl
@[simp] theorem State.emit_nextCopy (s : State) (o : Out) : (s.emit o).nextCopy = s.nextCopy := rfl
@[simp] theorem State.emit_ovfs (s : State) (o : Out) : (s.emit o).ovfs = s.ovfs := rfl
@[simp] theorem State.emit_convoys (s : State) (o : Out) : (s.emit o).convoys = s.convoys := rfl
@[simp] theorem State.emit_cvWrites (s : State) (o : Out) : (s.emit o).cvWrites = s.cvWrites := rfl
@[simp] theorem State.emit_arbs (s : State) (o : Out) : (s.emit o).arbs = s.arbs := rfl
@[simp] theorem State.emit_slots (s : State) (o : Out) : (s.emit o).slots = s.slots := rfl
@[simp] theorem State.emit_pktCtrs (s : State) (o : Out) : (s.emit o).pktCtrs = s.pktCtrs := rfl
@[simp] theorem State.emit_meters (s : State) (o : Out) : (s.emit o).meters = s.meters := rfl
@[simp] theorem State.emit_secBlob (s : State) (o : Out) : (s.emit o).secBlob = s.secBlob := rfl
@[simp] theorem State.emit_secCmd (s : State) (o : Out) : (s.emit o).secCmd = s.secCmd := rfl
@[simp] theorem State.emit_dbgNonce (s : State) (o : Out) : (s.emit o).dbgNonce = s.dbgNonce := rfl
@[simp] theorem State.emit_scanOpen (s : State) (o : Out) : (s.emit o).scanOpen = s.scanOpen := rfl
@[simp] theorem State.emit_events (s : State) (o : Out) : (s.emit o).events = s.events := rfl
@[simp] theorem State.emit_flash (s : State) (o : Out) : (s.emit o).flash = s.flash := rfl
@[simp] theorem State.emit_mg (s : State) (o : Out) : (s.emit o).mg = s.mg := rfl
@[simp] theorem State.emit_pw (s : State) (o : Out) : (s.emit o).pw = s.pw := rfl
@[simp] theorem State.emit_inReset (s : State) (o : Out) : (s.emit o).inReset = s.inReset := rfl
@[simp] theorem State.emit_off (s : State) (o : Out) : (s.emit o).off = s.off := rfl
@[simp] theorem State.emit_ctrs (s : State) (o : Out) : (s.emit o).ctrs = s.ctrs := rfl
@[simp] theorem State.emit_lfsr (s : State) (o : Out) : (s.emit o).lfsr = s.lfsr := rfl
@[simp] theorem State.emit_samples (s : State) (o : Out) : (s.emit o).samples = s.samples := rfl
@[simp] theorem State.emit_snap (s : State) (o : Out) : (s.emit o).snap = s.snap := rfl

/-! ## What an effect put off leaves -/

@[simp] theorem State.later_pending (s : State) (t : Todo) : (s.later t).pending = s.pending := rfl
@[simp] theorem State.later_regs (s : State) (t : Todo) : (s.later t).regs = s.regs := rfl
@[simp] theorem State.later_sh (s : State) (t : Todo) : (s.later t).sh = s.sh := rfl
@[simp] theorem State.later_mem (s : State) (t : Todo) : (s.later t).mem = s.mem := rfl
@[simp] theorem State.later_poison (s : State) (t : Todo) : (s.later t).poison = s.poison := rfl
@[simp] theorem State.later_out (s : State) (t : Todo) : (s.later t).out = s.out := rfl
@[simp] theorem State.later_fresh (s : State) (t : Todo) : (s.later t).fresh = s.fresh := rfl
@[simp] theorem State.later_fuses (s : State) (t : Todo) : (s.later t).fuses = s.fuses := rfl
@[simp] theorem State.later_now (s : State) (t : Todo) : (s.later t).now = s.now := rfl
@[simp] theorem State.later_nowFrac (s : State) (t : Todo) : (s.later t).nowFrac = s.nowFrac := rfl
@[simp] theorem State.later_nbs (s : State) (t : Todo) : (s.later t).nbs = s.nbs := rfl
@[simp] theorem State.later_timeGood (s : State) (t : Todo) : (s.later t).timeGood = s.timeGood := rfl
@[simp] theorem State.later_slew (s : State) (t : Todo) : (s.later t).slew = s.slew := rfl
@[simp] theorem State.later_freq (s : State) (t : Todo) : (s.later t).freq = s.freq := rfl
@[simp] theorem State.later_resetAt (s : State) (t : Todo) : (s.later t).resetAt = s.resetAt := rfl
@[simp] theorem State.later_holdAt (s : State) (t : Todo) : (s.later t).holdAt = s.holdAt := rfl
@[simp] theorem State.later_holdErr (s : State) (t : Todo) : (s.later t).holdErr = s.holdErr := rfl
@[simp] theorem State.later_seqAt (s : State) (t : Todo) : (s.later t).seqAt = s.seqAt := rfl
@[simp] theorem State.later_ppsRef (s : State) (t : Todo) : (s.later t).ppsRef = s.ppsRef := rfl
@[simp] theorem State.later_ppsLowAt (s : State) (t : Todo) : (s.later t).ppsLowAt = s.ppsLowAt := rfl
@[simp] theorem State.later_halted (s : State) (t : Todo) : (s.later t).halted = s.halted := rfl
@[simp] theorem State.later_wins (s : State) (t : Todo) : (s.later t).wins = s.wins := rfl
@[simp] theorem State.later_bursts (s : State) (t : Todo) : (s.later t).bursts = s.bursts := rfl
@[simp] theorem State.later_unitFence (s : State) (t : Todo) : (s.later t).unitFence = s.unitFence := rfl
@[simp] theorem State.later_unitAuto (s : State) (t : Todo) : (s.later t).unitAuto = s.unitAuto := rfl
@[simp] theorem State.later_pipeTest (s : State) (t : Todo) : (s.later t).pipeTest = s.pipeTest := rfl
@[simp] theorem State.later_aliveAt (s : State) (t : Todo) : (s.later t).aliveAt = s.aliveAt := rfl
@[simp] theorem State.later_rowCounts (s : State) (t : Todo) : (s.later t).rowCounts = s.rowCounts := rfl
@[simp] theorem State.later_solo (s : State) (t : Todo) : (s.later t).solo = s.solo := rfl
@[simp] theorem State.later_spareMap (s : State) (t : Todo) : (s.later t).spareMap = s.spareMap := rfl
@[simp] theorem State.later_spareSaved (s : State) (t : Todo) : (s.later t).spareSaved = s.spareSaved := rfl
@[simp] theorem State.later_rowCopies (s : State) (t : Todo) : (s.later t).rowCopies = s.rowCopies := rfl
@[simp] theorem State.later_jtagOpen (s : State) (t : Todo) : (s.later t).jtagOpen = s.jtagOpen := rfl
@[simp] theorem State.later_hostFns (s : State) (t : Todo) : (s.later t).hostFns = s.hostFns := rfl
@[simp] theorem State.later_reads (s : State) (t : Todo) : (s.later t).reads = s.reads := rfl
@[simp] theorem State.later_nextRead (s : State) (t : Todo) : (s.later t).nextRead = s.nextRead := rfl
@[simp] theorem State.later_spaces (s : State) (t : Todo) : (s.later t).spaces = s.spaces := rfl
@[simp] theorem State.later_tcache (s : State) (t : Todo) : (s.later t).tcache = s.tcache := rfl
@[simp] theorem State.later_wcache (s : State) (t : Todo) : (s.later t).wcache = s.wcache := rfl
@[simp] theorem State.later_walks (s : State) (t : Todo) : (s.later t).walks = s.walks := rfl
@[simp] theorem State.later_nextWalk (s : State) (t : Todo) : (s.later t).nextWalk = s.nextWalk := rfl
@[simp] theorem State.later_grants (s : State) (t : Todo) : (s.later t).grants = s.grants := rfl
@[simp] theorem State.later_faultMarks (s : State) (t : Todo) : (s.later t).faultMarks = s.faultMarks := rfl
@[simp] theorem State.later_regions (s : State) (t : Todo) : (s.later t).regions = s.regions := rfl
@[simp] theorem State.later_regionGen (s : State) (t : Todo) : (s.later t).regionGen = s.regionGen := rfl
@[simp] theorem State.later_freed (s : State) (t : Todo) : (s.later t).freed = s.freed := rfl
@[simp] theorem State.later_wqs (s : State) (t : Todo) : (s.later t).wqs = s.wqs := rfl
@[simp] theorem State.later_cqs (s : State) (t : Todo) : (s.later t).cqs = s.cqs := rfl
@[simp] theorem State.later_eqs (s : State) (t : Todo) : (s.later t).eqs = s.eqs := rfl
@[simp] theorem State.later_nextEq (s : State) (t : Todo) : (s.later t).nextEq = s.nextEq := rfl
@[simp] theorem State.later_admin (s : State) (t : Todo) : (s.later t).admin = s.admin := rfl
@[simp] theorem State.later_invals (s : State) (t : Todo) : (s.later t).invals = s.invals := rfl
@[simp] theorem State.later_ops (s : State) (t : Todo) : (s.later t).ops = s.ops := rfl
@[simp] theorem State.later_nextOp (s : State) (t : Todo) : (s.later t).nextOp = s.nextOp := rfl
@[simp] theorem State.later_ports (s : State) (t : Todo) : (s.later t).ports = s.ports := rfl
@[simp] theorem State.later_lanes (s : State) (t : Todo) : (s.later t).lanes = s.lanes := rfl
@[simp] theorem State.later_inject (s : State) (t : Todo) : (s.later t).inject = s.inject := rfl
@[simp] theorem State.later_eject (s : State) (t : Todo) : (s.later t).eject = s.eject := rfl
@[simp] theorem State.later_rx (s : State) (t : Todo) : (s.later t).rx = s.rx := rfl
@[simp] theorem State.later_groupTable (s : State) (t : Todo) : (s.later t).groupTable = s.groupTable := rfl
@[simp] theorem State.later_ests (s : State) (t : Todo) : (s.later t).ests = s.ests := rfl
@[simp] theorem State.later_bookCache (s : State) (t : Todo) : (s.later t).bookCache = s.bookCache := rfl
@[simp] theorem State.later_excluded (s : State) (t : Todo) : (s.later t).excluded = s.excluded := rfl
@[simp] theorem State.later_bookLost (s : State) (t : Todo) : (s.later t).bookLost = s.bookLost := rfl
@[simp] theorem State.later_quars (s : State) (t : Todo) : (s.later t).quars = s.quars := rfl
@[simp] theorem State.later_pws (s : State) (t : Todo) : (s.later t).pws = s.pws := rfl
@[simp] theorem State.later_inflight (s : State) (t : Todo) : (s.later t).inflight = s.inflight := rfl
@[simp] theorem State.later_parked (s : State) (t : Todo) : (s.later t).parked = s.parked := rfl
@[simp] theorem State.later_walkPark (s : State) (t : Todo) : (s.later t).walkPark = s.walkPark := rfl
@[simp] theorem State.later_epochs (s : State) (t : Todo) : (s.later t).epochs = s.epochs := rfl
@[simp] theorem State.later_holds (s : State) (t : Todo) : (s.later t).holds = s.holds := rfl
@[simp] theorem State.later_forgetOld (s : State) (t : Todo) : (s.later t).forgetOld = s.forgetOld := rfl
@[simp] theorem State.later_lqps (s : State) (t : Todo) : (s.later t).lqps = s.lqps := rfl
@[simp] theorem State.later_gets (s : State) (t : Todo) : (s.later t).gets = s.gets := rfl
@[simp] theorem State.later_nextGet (s : State) (t : Todo) : (s.later t).nextGet = s.nextGet := rfl
@[simp] theorem State.later_flushes (s : State) (t : Todo) : (s.later t).flushes = s.flushes := rfl
@[simp] theorem State.later_memBusy (s : State) (t : Todo) : (s.later t).memBusy = s.memBusy := rfl
@[simp] theorem State.later_caught (s : State) (t : Todo) : (s.later t).caught = s.caught := rfl
@[simp] theorem State.later_nextMsg (s : State) (t : Todo) : (s.later t).nextMsg = s.nextMsg := rfl
@[simp] theorem State.later_listFetch (s : State) (t : Todo) : (s.later t).listFetch = s.listFetch := rfl
@[simp] theorem State.later_memFlushes (s : State) (t : Todo) : (s.later t).memFlushes = s.memFlushes := rfl
@[simp] theorem State.later_violations (s : State) (t : Todo) : (s.later t).violations = s.violations := rfl
@[simp] theorem State.later_resps (s : State) (t : Todo) : (s.later t).resps = s.resps := rfl
@[simp] theorem State.later_tags (s : State) (t : Todo) : (s.later t).tags = s.tags := rfl
@[simp] theorem State.later_vtimes (s : State) (t : Todo) : (s.later t).vtimes = s.vtimes := rfl
@[simp] theorem State.later_credits (s : State) (t : Todo) : (s.later t).credits = s.credits := rfl
@[simp] theorem State.later_lastWq (s : State) (t : Todo) : (s.later t).lastWq = s.lastWq := rfl
@[simp] theorem State.later_atomics (s : State) (t : Todo) : (s.later t).atomics = s.atomics := rfl
@[simp] theorem State.later_nextAtomic (s : State) (t : Todo) : (s.later t).nextAtomic = s.nextAtomic := rfl
@[simp] theorem State.later_wordWait (s : State) (t : Todo) : (s.later t).wordWait = s.wordWait := rfl
@[simp] theorem State.later_ovfWait (s : State) (t : Todo) : (s.later t).ovfWait = s.ovfWait := rfl
@[simp] theorem State.later_locks (s : State) (t : Todo) : (s.later t).locks = s.locks := rfl
@[simp] theorem State.later_heldLocks (s : State) (t : Todo) : (s.later t).heldLocks = s.heldLocks := rfl
@[simp] theorem State.later_semQ (s : State) (t : Todo) : (s.later t).semQ = s.semQ := rfl
@[simp] theorem State.later_lists (s : State) (t : Todo) : (s.later t).lists = s.lists := rfl
@[simp] theorem State.later_posted (s : State) (t : Todo) : (s.later t).posted = s.posted := rfl
@[simp] theorem State.later_unexp (s : State) (t : Todo) : (s.later t).unexp = s.unexp := rfl
@[simp] theorem State.later_recs (s : State) (t : Todo) : (s.later t).recs = s.recs := rfl
@[simp] theorem State.later_closedMsgs (s : State) (t : Todo) : (s.later t).closedMsgs = s.closedMsgs := rfl
@[simp] theorem State.later_copies (s : State) (t : Todo) : (s.later t).copies = s.copies := rfl
@[simp] theorem State.later_nextCopy (s : State) (t : Todo) : (s.later t).nextCopy = s.nextCopy := rfl
@[simp] theorem State.later_ovfs (s : State) (t : Todo) : (s.later t).ovfs = s.ovfs := rfl
@[simp] theorem State.later_convoys (s : State) (t : Todo) : (s.later t).convoys = s.convoys := rfl
@[simp] theorem State.later_cvWrites (s : State) (t : Todo) : (s.later t).cvWrites = s.cvWrites := rfl
@[simp] theorem State.later_arbs (s : State) (t : Todo) : (s.later t).arbs = s.arbs := rfl
@[simp] theorem State.later_slots (s : State) (t : Todo) : (s.later t).slots = s.slots := rfl
@[simp] theorem State.later_pktCtrs (s : State) (t : Todo) : (s.later t).pktCtrs = s.pktCtrs := rfl
@[simp] theorem State.later_meters (s : State) (t : Todo) : (s.later t).meters = s.meters := rfl
@[simp] theorem State.later_secBlob (s : State) (t : Todo) : (s.later t).secBlob = s.secBlob := rfl
@[simp] theorem State.later_secCmd (s : State) (t : Todo) : (s.later t).secCmd = s.secCmd := rfl
@[simp] theorem State.later_dbgNonce (s : State) (t : Todo) : (s.later t).dbgNonce = s.dbgNonce := rfl
@[simp] theorem State.later_scanOpen (s : State) (t : Todo) : (s.later t).scanOpen = s.scanOpen := rfl
@[simp] theorem State.later_events (s : State) (t : Todo) : (s.later t).events = s.events := rfl
@[simp] theorem State.later_flash (s : State) (t : Todo) : (s.later t).flash = s.flash := rfl
@[simp] theorem State.later_mg (s : State) (t : Todo) : (s.later t).mg = s.mg := rfl
@[simp] theorem State.later_pw (s : State) (t : Todo) : (s.later t).pw = s.pw := rfl
@[simp] theorem State.later_inReset (s : State) (t : Todo) : (s.later t).inReset = s.inReset := rfl
@[simp] theorem State.later_off (s : State) (t : Todo) : (s.later t).off = s.off := rfl
@[simp] theorem State.later_ctrs (s : State) (t : Todo) : (s.later t).ctrs = s.ctrs := rfl
@[simp] theorem State.later_lfsr (s : State) (t : Todo) : (s.later t).lfsr = s.lfsr := rfl
@[simp] theorem State.later_samples (s : State) (t : Todo) : (s.later t).samples = s.samples := rfl
@[simp] theorem State.later_snap (s : State) (t : Todo) : (s.later t).snap = s.snap := rfl

/-! ## What a free value drawn leaves -/

@[simp] theorem State.drawn_pending (s : State) : (s.drawn).pending = s.pending := rfl
@[simp] theorem State.drawn_regs (s : State) : (s.drawn).regs = s.regs := rfl
@[simp] theorem State.drawn_sh (s : State) : (s.drawn).sh = s.sh := rfl
@[simp] theorem State.drawn_mem (s : State) : (s.drawn).mem = s.mem := rfl
@[simp] theorem State.drawn_poison (s : State) : (s.drawn).poison = s.poison := rfl
@[simp] theorem State.drawn_out (s : State) : (s.drawn).out = s.out := rfl
@[simp] theorem State.drawn_fuses (s : State) : (s.drawn).fuses = s.fuses := rfl
@[simp] theorem State.drawn_now (s : State) : (s.drawn).now = s.now := rfl
@[simp] theorem State.drawn_nowFrac (s : State) : (s.drawn).nowFrac = s.nowFrac := rfl
@[simp] theorem State.drawn_nbs (s : State) : (s.drawn).nbs = s.nbs := rfl
@[simp] theorem State.drawn_timeGood (s : State) : (s.drawn).timeGood = s.timeGood := rfl
@[simp] theorem State.drawn_slew (s : State) : (s.drawn).slew = s.slew := rfl
@[simp] theorem State.drawn_freq (s : State) : (s.drawn).freq = s.freq := rfl
@[simp] theorem State.drawn_resetAt (s : State) : (s.drawn).resetAt = s.resetAt := rfl
@[simp] theorem State.drawn_holdAt (s : State) : (s.drawn).holdAt = s.holdAt := rfl
@[simp] theorem State.drawn_holdErr (s : State) : (s.drawn).holdErr = s.holdErr := rfl
@[simp] theorem State.drawn_seqAt (s : State) : (s.drawn).seqAt = s.seqAt := rfl
@[simp] theorem State.drawn_ppsRef (s : State) : (s.drawn).ppsRef = s.ppsRef := rfl
@[simp] theorem State.drawn_ppsLowAt (s : State) : (s.drawn).ppsLowAt = s.ppsLowAt := rfl
@[simp] theorem State.drawn_todo (s : State) : (s.drawn).todo = s.todo := rfl
@[simp] theorem State.drawn_halted (s : State) : (s.drawn).halted = s.halted := rfl
@[simp] theorem State.drawn_wins (s : State) : (s.drawn).wins = s.wins := rfl
@[simp] theorem State.drawn_bursts (s : State) : (s.drawn).bursts = s.bursts := rfl
@[simp] theorem State.drawn_unitFence (s : State) : (s.drawn).unitFence = s.unitFence := rfl
@[simp] theorem State.drawn_unitAuto (s : State) : (s.drawn).unitAuto = s.unitAuto := rfl
@[simp] theorem State.drawn_pipeTest (s : State) : (s.drawn).pipeTest = s.pipeTest := rfl
@[simp] theorem State.drawn_aliveAt (s : State) : (s.drawn).aliveAt = s.aliveAt := rfl
@[simp] theorem State.drawn_rowCounts (s : State) : (s.drawn).rowCounts = s.rowCounts := rfl
@[simp] theorem State.drawn_solo (s : State) : (s.drawn).solo = s.solo := rfl
@[simp] theorem State.drawn_spareMap (s : State) : (s.drawn).spareMap = s.spareMap := rfl
@[simp] theorem State.drawn_spareSaved (s : State) : (s.drawn).spareSaved = s.spareSaved := rfl
@[simp] theorem State.drawn_rowCopies (s : State) : (s.drawn).rowCopies = s.rowCopies := rfl
@[simp] theorem State.drawn_jtagOpen (s : State) : (s.drawn).jtagOpen = s.jtagOpen := rfl
@[simp] theorem State.drawn_hostFns (s : State) : (s.drawn).hostFns = s.hostFns := rfl
@[simp] theorem State.drawn_reads (s : State) : (s.drawn).reads = s.reads := rfl
@[simp] theorem State.drawn_nextRead (s : State) : (s.drawn).nextRead = s.nextRead := rfl
@[simp] theorem State.drawn_spaces (s : State) : (s.drawn).spaces = s.spaces := rfl
@[simp] theorem State.drawn_tcache (s : State) : (s.drawn).tcache = s.tcache := rfl
@[simp] theorem State.drawn_wcache (s : State) : (s.drawn).wcache = s.wcache := rfl
@[simp] theorem State.drawn_walks (s : State) : (s.drawn).walks = s.walks := rfl
@[simp] theorem State.drawn_nextWalk (s : State) : (s.drawn).nextWalk = s.nextWalk := rfl
@[simp] theorem State.drawn_grants (s : State) : (s.drawn).grants = s.grants := rfl
@[simp] theorem State.drawn_faultMarks (s : State) : (s.drawn).faultMarks = s.faultMarks := rfl
@[simp] theorem State.drawn_regions (s : State) : (s.drawn).regions = s.regions := rfl
@[simp] theorem State.drawn_regionGen (s : State) : (s.drawn).regionGen = s.regionGen := rfl
@[simp] theorem State.drawn_freed (s : State) : (s.drawn).freed = s.freed := rfl
@[simp] theorem State.drawn_wqs (s : State) : (s.drawn).wqs = s.wqs := rfl
@[simp] theorem State.drawn_cqs (s : State) : (s.drawn).cqs = s.cqs := rfl
@[simp] theorem State.drawn_eqs (s : State) : (s.drawn).eqs = s.eqs := rfl
@[simp] theorem State.drawn_nextEq (s : State) : (s.drawn).nextEq = s.nextEq := rfl
@[simp] theorem State.drawn_admin (s : State) : (s.drawn).admin = s.admin := rfl
@[simp] theorem State.drawn_invals (s : State) : (s.drawn).invals = s.invals := rfl
@[simp] theorem State.drawn_ops (s : State) : (s.drawn).ops = s.ops := rfl
@[simp] theorem State.drawn_nextOp (s : State) : (s.drawn).nextOp = s.nextOp := rfl
@[simp] theorem State.drawn_ports (s : State) : (s.drawn).ports = s.ports := rfl
@[simp] theorem State.drawn_lanes (s : State) : (s.drawn).lanes = s.lanes := rfl
@[simp] theorem State.drawn_inject (s : State) : (s.drawn).inject = s.inject := rfl
@[simp] theorem State.drawn_eject (s : State) : (s.drawn).eject = s.eject := rfl
@[simp] theorem State.drawn_rx (s : State) : (s.drawn).rx = s.rx := rfl
@[simp] theorem State.drawn_groupTable (s : State) : (s.drawn).groupTable = s.groupTable := rfl
@[simp] theorem State.drawn_ests (s : State) : (s.drawn).ests = s.ests := rfl
@[simp] theorem State.drawn_bookCache (s : State) : (s.drawn).bookCache = s.bookCache := rfl
@[simp] theorem State.drawn_excluded (s : State) : (s.drawn).excluded = s.excluded := rfl
@[simp] theorem State.drawn_bookLost (s : State) : (s.drawn).bookLost = s.bookLost := rfl
@[simp] theorem State.drawn_quars (s : State) : (s.drawn).quars = s.quars := rfl
@[simp] theorem State.drawn_pws (s : State) : (s.drawn).pws = s.pws := rfl
@[simp] theorem State.drawn_inflight (s : State) : (s.drawn).inflight = s.inflight := rfl
@[simp] theorem State.drawn_parked (s : State) : (s.drawn).parked = s.parked := rfl
@[simp] theorem State.drawn_walkPark (s : State) : (s.drawn).walkPark = s.walkPark := rfl
@[simp] theorem State.drawn_epochs (s : State) : (s.drawn).epochs = s.epochs := rfl
@[simp] theorem State.drawn_holds (s : State) : (s.drawn).holds = s.holds := rfl
@[simp] theorem State.drawn_forgetOld (s : State) : (s.drawn).forgetOld = s.forgetOld := rfl
@[simp] theorem State.drawn_lqps (s : State) : (s.drawn).lqps = s.lqps := rfl
@[simp] theorem State.drawn_gets (s : State) : (s.drawn).gets = s.gets := rfl
@[simp] theorem State.drawn_nextGet (s : State) : (s.drawn).nextGet = s.nextGet := rfl
@[simp] theorem State.drawn_flushes (s : State) : (s.drawn).flushes = s.flushes := rfl
@[simp] theorem State.drawn_memBusy (s : State) : (s.drawn).memBusy = s.memBusy := rfl
@[simp] theorem State.drawn_caught (s : State) : (s.drawn).caught = s.caught := rfl
@[simp] theorem State.drawn_nextMsg (s : State) : (s.drawn).nextMsg = s.nextMsg := rfl
@[simp] theorem State.drawn_listFetch (s : State) : (s.drawn).listFetch = s.listFetch := rfl
@[simp] theorem State.drawn_memFlushes (s : State) : (s.drawn).memFlushes = s.memFlushes := rfl
@[simp] theorem State.drawn_violations (s : State) : (s.drawn).violations = s.violations := rfl
@[simp] theorem State.drawn_resps (s : State) : (s.drawn).resps = s.resps := rfl
@[simp] theorem State.drawn_tags (s : State) : (s.drawn).tags = s.tags := rfl
@[simp] theorem State.drawn_vtimes (s : State) : (s.drawn).vtimes = s.vtimes := rfl
@[simp] theorem State.drawn_credits (s : State) : (s.drawn).credits = s.credits := rfl
@[simp] theorem State.drawn_lastWq (s : State) : (s.drawn).lastWq = s.lastWq := rfl
@[simp] theorem State.drawn_atomics (s : State) : (s.drawn).atomics = s.atomics := rfl
@[simp] theorem State.drawn_nextAtomic (s : State) : (s.drawn).nextAtomic = s.nextAtomic := rfl
@[simp] theorem State.drawn_wordWait (s : State) : (s.drawn).wordWait = s.wordWait := rfl
@[simp] theorem State.drawn_ovfWait (s : State) : (s.drawn).ovfWait = s.ovfWait := rfl
@[simp] theorem State.drawn_locks (s : State) : (s.drawn).locks = s.locks := rfl
@[simp] theorem State.drawn_heldLocks (s : State) : (s.drawn).heldLocks = s.heldLocks := rfl
@[simp] theorem State.drawn_semQ (s : State) : (s.drawn).semQ = s.semQ := rfl
@[simp] theorem State.drawn_lists (s : State) : (s.drawn).lists = s.lists := rfl
@[simp] theorem State.drawn_posted (s : State) : (s.drawn).posted = s.posted := rfl
@[simp] theorem State.drawn_unexp (s : State) : (s.drawn).unexp = s.unexp := rfl
@[simp] theorem State.drawn_recs (s : State) : (s.drawn).recs = s.recs := rfl
@[simp] theorem State.drawn_closedMsgs (s : State) : (s.drawn).closedMsgs = s.closedMsgs := rfl
@[simp] theorem State.drawn_copies (s : State) : (s.drawn).copies = s.copies := rfl
@[simp] theorem State.drawn_nextCopy (s : State) : (s.drawn).nextCopy = s.nextCopy := rfl
@[simp] theorem State.drawn_ovfs (s : State) : (s.drawn).ovfs = s.ovfs := rfl
@[simp] theorem State.drawn_convoys (s : State) : (s.drawn).convoys = s.convoys := rfl
@[simp] theorem State.drawn_cvWrites (s : State) : (s.drawn).cvWrites = s.cvWrites := rfl
@[simp] theorem State.drawn_arbs (s : State) : (s.drawn).arbs = s.arbs := rfl
@[simp] theorem State.drawn_slots (s : State) : (s.drawn).slots = s.slots := rfl
@[simp] theorem State.drawn_pktCtrs (s : State) : (s.drawn).pktCtrs = s.pktCtrs := rfl
@[simp] theorem State.drawn_meters (s : State) : (s.drawn).meters = s.meters := rfl
@[simp] theorem State.drawn_secBlob (s : State) : (s.drawn).secBlob = s.secBlob := rfl
@[simp] theorem State.drawn_secCmd (s : State) : (s.drawn).secCmd = s.secCmd := rfl
@[simp] theorem State.drawn_dbgNonce (s : State) : (s.drawn).dbgNonce = s.dbgNonce := rfl
@[simp] theorem State.drawn_scanOpen (s : State) : (s.drawn).scanOpen = s.scanOpen := rfl
@[simp] theorem State.drawn_events (s : State) : (s.drawn).events = s.events := rfl
@[simp] theorem State.drawn_flash (s : State) : (s.drawn).flash = s.flash := rfl
@[simp] theorem State.drawn_mg (s : State) : (s.drawn).mg = s.mg := rfl
@[simp] theorem State.drawn_pw (s : State) : (s.drawn).pw = s.pw := rfl
@[simp] theorem State.drawn_inReset (s : State) : (s.drawn).inReset = s.inReset := rfl
@[simp] theorem State.drawn_off (s : State) : (s.drawn).off = s.off := rfl
@[simp] theorem State.drawn_ctrs (s : State) : (s.drawn).ctrs = s.ctrs := rfl
@[simp] theorem State.drawn_lfsr (s : State) : (s.drawn).lfsr = s.lfsr := rfl
@[simp] theorem State.drawn_samples (s : State) : (s.drawn).samples = s.samples := rfl
@[simp] theorem State.drawn_snap (s : State) : (s.drawn).snap = s.snap := rfl

/-! ## What a byte of memory written leaves -/

@[simp] theorem State.setByte_pending (s : State) (a : Nat) (b : Byte) : (s.setByte a b).pending = s.pending := rfl
@[simp] theorem State.setByte_regs (s : State) (a : Nat) (b : Byte) : (s.setByte a b).regs = s.regs := rfl
@[simp] theorem State.setByte_sh (s : State) (a : Nat) (b : Byte) : (s.setByte a b).sh = s.sh := rfl
@[simp] theorem State.setByte_poison (s : State) (a : Nat) (b : Byte) : (s.setByte a b).poison = s.poison := rfl
@[simp] theorem State.setByte_out (s : State) (a : Nat) (b : Byte) : (s.setByte a b).out = s.out := rfl
@[simp] theorem State.setByte_fresh (s : State) (a : Nat) (b : Byte) : (s.setByte a b).fresh = s.fresh := rfl
@[simp] theorem State.setByte_fuses (s : State) (a : Nat) (b : Byte) : (s.setByte a b).fuses = s.fuses := rfl
@[simp] theorem State.setByte_now (s : State) (a : Nat) (b : Byte) : (s.setByte a b).now = s.now := rfl
@[simp] theorem State.setByte_nowFrac (s : State) (a : Nat) (b : Byte) : (s.setByte a b).nowFrac = s.nowFrac := rfl
@[simp] theorem State.setByte_nbs (s : State) (a : Nat) (b : Byte) : (s.setByte a b).nbs = s.nbs := rfl
@[simp] theorem State.setByte_timeGood (s : State) (a : Nat) (b : Byte) : (s.setByte a b).timeGood = s.timeGood := rfl
@[simp] theorem State.setByte_slew (s : State) (a : Nat) (b : Byte) : (s.setByte a b).slew = s.slew := rfl
@[simp] theorem State.setByte_freq (s : State) (a : Nat) (b : Byte) : (s.setByte a b).freq = s.freq := rfl
@[simp] theorem State.setByte_resetAt (s : State) (a : Nat) (b : Byte) : (s.setByte a b).resetAt = s.resetAt := rfl
@[simp] theorem State.setByte_holdAt (s : State) (a : Nat) (b : Byte) : (s.setByte a b).holdAt = s.holdAt := rfl
@[simp] theorem State.setByte_holdErr (s : State) (a : Nat) (b : Byte) : (s.setByte a b).holdErr = s.holdErr := rfl
@[simp] theorem State.setByte_seqAt (s : State) (a : Nat) (b : Byte) : (s.setByte a b).seqAt = s.seqAt := rfl
@[simp] theorem State.setByte_ppsRef (s : State) (a : Nat) (b : Byte) : (s.setByte a b).ppsRef = s.ppsRef := rfl
@[simp] theorem State.setByte_ppsLowAt (s : State) (a : Nat) (b : Byte) : (s.setByte a b).ppsLowAt = s.ppsLowAt := rfl
@[simp] theorem State.setByte_todo (s : State) (a : Nat) (b : Byte) : (s.setByte a b).todo = s.todo := rfl
@[simp] theorem State.setByte_halted (s : State) (a : Nat) (b : Byte) : (s.setByte a b).halted = s.halted := rfl
@[simp] theorem State.setByte_wins (s : State) (a : Nat) (b : Byte) : (s.setByte a b).wins = s.wins := rfl
@[simp] theorem State.setByte_bursts (s : State) (a : Nat) (b : Byte) : (s.setByte a b).bursts = s.bursts := rfl
@[simp] theorem State.setByte_unitFence (s : State) (a : Nat) (b : Byte) : (s.setByte a b).unitFence = s.unitFence := rfl
@[simp] theorem State.setByte_unitAuto (s : State) (a : Nat) (b : Byte) : (s.setByte a b).unitAuto = s.unitAuto := rfl
@[simp] theorem State.setByte_pipeTest (s : State) (a : Nat) (b : Byte) : (s.setByte a b).pipeTest = s.pipeTest := rfl
@[simp] theorem State.setByte_aliveAt (s : State) (a : Nat) (b : Byte) : (s.setByte a b).aliveAt = s.aliveAt := rfl
@[simp] theorem State.setByte_rowCounts (s : State) (a : Nat) (b : Byte) : (s.setByte a b).rowCounts = s.rowCounts := rfl
@[simp] theorem State.setByte_solo (s : State) (a : Nat) (b : Byte) : (s.setByte a b).solo = s.solo := rfl
@[simp] theorem State.setByte_spareMap (s : State) (a : Nat) (b : Byte) : (s.setByte a b).spareMap = s.spareMap := rfl
@[simp] theorem State.setByte_spareSaved (s : State) (a : Nat) (b : Byte) : (s.setByte a b).spareSaved = s.spareSaved := rfl
@[simp] theorem State.setByte_rowCopies (s : State) (a : Nat) (b : Byte) : (s.setByte a b).rowCopies = s.rowCopies := rfl
@[simp] theorem State.setByte_jtagOpen (s : State) (a : Nat) (b : Byte) : (s.setByte a b).jtagOpen = s.jtagOpen := rfl
@[simp] theorem State.setByte_hostFns (s : State) (a : Nat) (b : Byte) : (s.setByte a b).hostFns = s.hostFns := rfl
@[simp] theorem State.setByte_reads (s : State) (a : Nat) (b : Byte) : (s.setByte a b).reads = s.reads := rfl
@[simp] theorem State.setByte_nextRead (s : State) (a : Nat) (b : Byte) : (s.setByte a b).nextRead = s.nextRead := rfl
@[simp] theorem State.setByte_spaces (s : State) (a : Nat) (b : Byte) : (s.setByte a b).spaces = s.spaces := rfl
@[simp] theorem State.setByte_tcache (s : State) (a : Nat) (b : Byte) : (s.setByte a b).tcache = s.tcache := rfl
@[simp] theorem State.setByte_wcache (s : State) (a : Nat) (b : Byte) : (s.setByte a b).wcache = s.wcache := rfl
@[simp] theorem State.setByte_walks (s : State) (a : Nat) (b : Byte) : (s.setByte a b).walks = s.walks := rfl
@[simp] theorem State.setByte_nextWalk (s : State) (a : Nat) (b : Byte) : (s.setByte a b).nextWalk = s.nextWalk := rfl
@[simp] theorem State.setByte_grants (s : State) (a : Nat) (b : Byte) : (s.setByte a b).grants = s.grants := rfl
@[simp] theorem State.setByte_faultMarks (s : State) (a : Nat) (b : Byte) : (s.setByte a b).faultMarks = s.faultMarks := rfl
@[simp] theorem State.setByte_regions (s : State) (a : Nat) (b : Byte) : (s.setByte a b).regions = s.regions := rfl
@[simp] theorem State.setByte_regionGen (s : State) (a : Nat) (b : Byte) : (s.setByte a b).regionGen = s.regionGen := rfl
@[simp] theorem State.setByte_freed (s : State) (a : Nat) (b : Byte) : (s.setByte a b).freed = s.freed := rfl
@[simp] theorem State.setByte_wqs (s : State) (a : Nat) (b : Byte) : (s.setByte a b).wqs = s.wqs := rfl
@[simp] theorem State.setByte_cqs (s : State) (a : Nat) (b : Byte) : (s.setByte a b).cqs = s.cqs := rfl
@[simp] theorem State.setByte_eqs (s : State) (a : Nat) (b : Byte) : (s.setByte a b).eqs = s.eqs := rfl
@[simp] theorem State.setByte_nextEq (s : State) (a : Nat) (b : Byte) : (s.setByte a b).nextEq = s.nextEq := rfl
@[simp] theorem State.setByte_admin (s : State) (a : Nat) (b : Byte) : (s.setByte a b).admin = s.admin := rfl
@[simp] theorem State.setByte_invals (s : State) (a : Nat) (b : Byte) : (s.setByte a b).invals = s.invals := rfl
@[simp] theorem State.setByte_ops (s : State) (a : Nat) (b : Byte) : (s.setByte a b).ops = s.ops := rfl
@[simp] theorem State.setByte_nextOp (s : State) (a : Nat) (b : Byte) : (s.setByte a b).nextOp = s.nextOp := rfl
@[simp] theorem State.setByte_ports (s : State) (a : Nat) (b : Byte) : (s.setByte a b).ports = s.ports := rfl
@[simp] theorem State.setByte_lanes (s : State) (a : Nat) (b : Byte) : (s.setByte a b).lanes = s.lanes := rfl
@[simp] theorem State.setByte_inject (s : State) (a : Nat) (b : Byte) : (s.setByte a b).inject = s.inject := rfl
@[simp] theorem State.setByte_eject (s : State) (a : Nat) (b : Byte) : (s.setByte a b).eject = s.eject := rfl
@[simp] theorem State.setByte_rx (s : State) (a : Nat) (b : Byte) : (s.setByte a b).rx = s.rx := rfl
@[simp] theorem State.setByte_groupTable (s : State) (a : Nat) (b : Byte) : (s.setByte a b).groupTable = s.groupTable := rfl
@[simp] theorem State.setByte_ests (s : State) (a : Nat) (b : Byte) : (s.setByte a b).ests = s.ests := rfl
@[simp] theorem State.setByte_bookCache (s : State) (a : Nat) (b : Byte) : (s.setByte a b).bookCache = s.bookCache := rfl
@[simp] theorem State.setByte_excluded (s : State) (a : Nat) (b : Byte) : (s.setByte a b).excluded = s.excluded := rfl
@[simp] theorem State.setByte_bookLost (s : State) (a : Nat) (b : Byte) : (s.setByte a b).bookLost = s.bookLost := rfl
@[simp] theorem State.setByte_quars (s : State) (a : Nat) (b : Byte) : (s.setByte a b).quars = s.quars := rfl
@[simp] theorem State.setByte_pws (s : State) (a : Nat) (b : Byte) : (s.setByte a b).pws = s.pws := rfl
@[simp] theorem State.setByte_inflight (s : State) (a : Nat) (b : Byte) : (s.setByte a b).inflight = s.inflight := rfl
@[simp] theorem State.setByte_parked (s : State) (a : Nat) (b : Byte) : (s.setByte a b).parked = s.parked := rfl
@[simp] theorem State.setByte_walkPark (s : State) (a : Nat) (b : Byte) : (s.setByte a b).walkPark = s.walkPark := rfl
@[simp] theorem State.setByte_epochs (s : State) (a : Nat) (b : Byte) : (s.setByte a b).epochs = s.epochs := rfl
@[simp] theorem State.setByte_holds (s : State) (a : Nat) (b : Byte) : (s.setByte a b).holds = s.holds := rfl
@[simp] theorem State.setByte_forgetOld (s : State) (a : Nat) (b : Byte) : (s.setByte a b).forgetOld = s.forgetOld := rfl
@[simp] theorem State.setByte_lqps (s : State) (a : Nat) (b : Byte) : (s.setByte a b).lqps = s.lqps := rfl
@[simp] theorem State.setByte_gets (s : State) (a : Nat) (b : Byte) : (s.setByte a b).gets = s.gets := rfl
@[simp] theorem State.setByte_nextGet (s : State) (a : Nat) (b : Byte) : (s.setByte a b).nextGet = s.nextGet := rfl
@[simp] theorem State.setByte_flushes (s : State) (a : Nat) (b : Byte) : (s.setByte a b).flushes = s.flushes := rfl
@[simp] theorem State.setByte_memBusy (s : State) (a : Nat) (b : Byte) : (s.setByte a b).memBusy = s.memBusy := rfl
@[simp] theorem State.setByte_caught (s : State) (a : Nat) (b : Byte) : (s.setByte a b).caught = s.caught := rfl
@[simp] theorem State.setByte_nextMsg (s : State) (a : Nat) (b : Byte) : (s.setByte a b).nextMsg = s.nextMsg := rfl
@[simp] theorem State.setByte_listFetch (s : State) (a : Nat) (b : Byte) : (s.setByte a b).listFetch = s.listFetch := rfl
@[simp] theorem State.setByte_memFlushes (s : State) (a : Nat) (b : Byte) : (s.setByte a b).memFlushes = s.memFlushes := rfl
@[simp] theorem State.setByte_violations (s : State) (a : Nat) (b : Byte) : (s.setByte a b).violations = s.violations := rfl
@[simp] theorem State.setByte_resps (s : State) (a : Nat) (b : Byte) : (s.setByte a b).resps = s.resps := rfl
@[simp] theorem State.setByte_tags (s : State) (a : Nat) (b : Byte) : (s.setByte a b).tags = s.tags := rfl
@[simp] theorem State.setByte_vtimes (s : State) (a : Nat) (b : Byte) : (s.setByte a b).vtimes = s.vtimes := rfl
@[simp] theorem State.setByte_credits (s : State) (a : Nat) (b : Byte) : (s.setByte a b).credits = s.credits := rfl
@[simp] theorem State.setByte_lastWq (s : State) (a : Nat) (b : Byte) : (s.setByte a b).lastWq = s.lastWq := rfl
@[simp] theorem State.setByte_atomics (s : State) (a : Nat) (b : Byte) : (s.setByte a b).atomics = s.atomics := rfl
@[simp] theorem State.setByte_nextAtomic (s : State) (a : Nat) (b : Byte) : (s.setByte a b).nextAtomic = s.nextAtomic := rfl
@[simp] theorem State.setByte_wordWait (s : State) (a : Nat) (b : Byte) : (s.setByte a b).wordWait = s.wordWait := rfl
@[simp] theorem State.setByte_ovfWait (s : State) (a : Nat) (b : Byte) : (s.setByte a b).ovfWait = s.ovfWait := rfl
@[simp] theorem State.setByte_locks (s : State) (a : Nat) (b : Byte) : (s.setByte a b).locks = s.locks := rfl
@[simp] theorem State.setByte_heldLocks (s : State) (a : Nat) (b : Byte) : (s.setByte a b).heldLocks = s.heldLocks := rfl
@[simp] theorem State.setByte_semQ (s : State) (a : Nat) (b : Byte) : (s.setByte a b).semQ = s.semQ := rfl
@[simp] theorem State.setByte_lists (s : State) (a : Nat) (b : Byte) : (s.setByte a b).lists = s.lists := rfl
@[simp] theorem State.setByte_posted (s : State) (a : Nat) (b : Byte) : (s.setByte a b).posted = s.posted := rfl
@[simp] theorem State.setByte_unexp (s : State) (a : Nat) (b : Byte) : (s.setByte a b).unexp = s.unexp := rfl
@[simp] theorem State.setByte_recs (s : State) (a : Nat) (b : Byte) : (s.setByte a b).recs = s.recs := rfl
@[simp] theorem State.setByte_closedMsgs (s : State) (a : Nat) (b : Byte) : (s.setByte a b).closedMsgs = s.closedMsgs := rfl
@[simp] theorem State.setByte_copies (s : State) (a : Nat) (b : Byte) : (s.setByte a b).copies = s.copies := rfl
@[simp] theorem State.setByte_nextCopy (s : State) (a : Nat) (b : Byte) : (s.setByte a b).nextCopy = s.nextCopy := rfl
@[simp] theorem State.setByte_ovfs (s : State) (a : Nat) (b : Byte) : (s.setByte a b).ovfs = s.ovfs := rfl
@[simp] theorem State.setByte_convoys (s : State) (a : Nat) (b : Byte) : (s.setByte a b).convoys = s.convoys := rfl
@[simp] theorem State.setByte_cvWrites (s : State) (a : Nat) (b : Byte) : (s.setByte a b).cvWrites = s.cvWrites := rfl
@[simp] theorem State.setByte_arbs (s : State) (a : Nat) (b : Byte) : (s.setByte a b).arbs = s.arbs := rfl
@[simp] theorem State.setByte_slots (s : State) (a : Nat) (b : Byte) : (s.setByte a b).slots = s.slots := rfl
@[simp] theorem State.setByte_pktCtrs (s : State) (a : Nat) (b : Byte) : (s.setByte a b).pktCtrs = s.pktCtrs := rfl
@[simp] theorem State.setByte_meters (s : State) (a : Nat) (b : Byte) : (s.setByte a b).meters = s.meters := rfl
@[simp] theorem State.setByte_secBlob (s : State) (a : Nat) (b : Byte) : (s.setByte a b).secBlob = s.secBlob := rfl
@[simp] theorem State.setByte_secCmd (s : State) (a : Nat) (b : Byte) : (s.setByte a b).secCmd = s.secCmd := rfl
@[simp] theorem State.setByte_dbgNonce (s : State) (a : Nat) (b : Byte) : (s.setByte a b).dbgNonce = s.dbgNonce := rfl
@[simp] theorem State.setByte_scanOpen (s : State) (a : Nat) (b : Byte) : (s.setByte a b).scanOpen = s.scanOpen := rfl
@[simp] theorem State.setByte_events (s : State) (a : Nat) (b : Byte) : (s.setByte a b).events = s.events := rfl
@[simp] theorem State.setByte_flash (s : State) (a : Nat) (b : Byte) : (s.setByte a b).flash = s.flash := rfl
@[simp] theorem State.setByte_mg (s : State) (a : Nat) (b : Byte) : (s.setByte a b).mg = s.mg := rfl
@[simp] theorem State.setByte_pw (s : State) (a : Nat) (b : Byte) : (s.setByte a b).pw = s.pw := rfl
@[simp] theorem State.setByte_inReset (s : State) (a : Nat) (b : Byte) : (s.setByte a b).inReset = s.inReset := rfl
@[simp] theorem State.setByte_off (s : State) (a : Nat) (b : Byte) : (s.setByte a b).off = s.off := rfl
@[simp] theorem State.setByte_ctrs (s : State) (a : Nat) (b : Byte) : (s.setByte a b).ctrs = s.ctrs := rfl
@[simp] theorem State.setByte_lfsr (s : State) (a : Nat) (b : Byte) : (s.setByte a b).lfsr = s.lfsr := rfl
@[simp] theorem State.setByte_samples (s : State) (a : Nat) (b : Byte) : (s.setByte a b).samples = s.samples := rfl
@[simp] theorem State.setByte_snap (s : State) (a : Nat) (b : Byte) : (s.setByte a b).snap = s.snap := rfl

/-- What an output adds. -/
@[simp] theorem State.emit_out (s : State) (o : Out) : (s.emit o).out = s.out ++ [o] := rfl

/-- What an effect put off adds. -/
@[simp] theorem State.later_todo (s : State) (t : Todo) : (s.later t).todo = s.todo ++ [t] := rfl

/-- A free value drawn moves the counter on. -/
@[simp] theorem State.drawn_fresh (s : State) : s.drawn.fresh = s.fresh + 1 := rfl

end Sys2Proof.Machine
end

