-- ==== Sys2Proof/Tests/Slice0.lean ====
section
/-! SUPPORT. Tests/Slice0.lean: states and operands that meet the hypotheses of every statement, operands that name nothing, and single steps with
values of the spec. -/

open Sys2Proof Sys2Proof.Machine

set_option Elab.async false

namespace Sys2Proof.Tests

/-! ## States of the tests -/

/-- The device out of reset. -/
def up0 : State := { State.reset with inReset := false }
/-- Halted by a chip-fatal fault. -/
def halted0 : State := { up0 with halted := true }
/-- With a page fenced. -/
def fenced (p : Nat) : State := up0.wr F.BLK_CTL_FENCE 1 p
/-- With a page enabled. -/
def ready (p : Nat) : State := up0.wr F.BLK_CTL_EN 1 p
/-- With the link of host port 0 up, the port serving. -/
def linked : State := ((ready 8).wr F.HIF_LINK_STAT_UP 1 0).modHf 0 fun h => { h with up := true }

/-- A register access of the management core takes effect in the state it finds: what the statements about register commands assume. -/
abbrev Reaches (s : State) (a : Nat) : Prop := isMaster 4 = true ∧ s.atRest ∧ s.access 4 a s ∧ s.mayWrite 4 = true

theorem reaches {s : State} {a : Nat}
    (h : (s.up && s.todo.isEmpty && s.caught.isEmpty && !s.gated (a / 65536) (a % 65536) && !s.halted) = true) : Reaches s a := by
  simp only [Bool.and_eq_true, Bool.not_eq_true', State.up] at h
  obtain ⟨⟨⟨⟨⟨h1, h2⟩, h3⟩, h6⟩, h4⟩, h5⟩ := h
  refine ⟨rfl, ⟨by simpa using h3, by simpa using h6⟩, ⟨?_, ?_, ?_, h4, .inl h5⟩, rfl⟩
  · simp [State.busOpen, h1, h2]
  · simp [State.laybyHolds]
  · simp [State.noteAccess]

/-- The state in which a management request over I3C is served. -/
def asked (s : State) : State := s.countReq (.i3c false false)

/-- A request over I3C without a session, where no fabric-manager key is enrolled, has the fabric manager's authority. -/
theorem served_i3c {s : State} (fm mem : Bool)
    (h : (s.up && !(asked s).recovering && (asked s).fmKey.isNone && !(asked s).parkedNow && !s.pathBusy (.i3c false false)) = true) :
    s.up = true ∧ s.served fm mem (.i3c false false) (asked s) := by
  simp only [Bool.and_eq_true, Bool.not_eq_true', State.up] at h
  obtain ⟨⟨⟨⟨⟨h1, h2⟩, h3⟩, h4⟩, h5⟩, h6⟩ := h
  refine ⟨by simp [State.up, h1, h2], by simp [State.arrives, h1, h2], rfl, h3, fun _ => by simpa [State.fmPath] using h4, fun _ => h5, h6⟩

/-! ## The hypotheses of the statements: the machine -/

theorem witness_step :
    ({ up0 with pending := [.resetC, .rtbCopyDone] } : State).pending = .resetC :: [.rtbCopyDone] ∧ up0.pending = [] ∧
      ({ up0 with off := true } : State).pending = [] ∧ ({ up0 with off := true } : State).off = true := by decide +kernel

theorem witness_resetColumns : F.BLK_CTL_EN ∈ allFields .hif := by decide +kernel

theorem witness_complete : (Instr.hifLinkDown 3).wf = true ∧ (Instr.hifLinkDown 4).wf = false := by decide +kernel

theorem witness_atRest : up0.atRest ∧ step { up0 with pending := [.rtbCopyDone] } = exec .rtbCopyDone up0 ∧
    exec .rtbCopyDone up0 = .next up0 := ⟨⟨rfl, rfl⟩, Eq.refl _, Eq.refl _⟩

theorem witness_halted : halted0.halted = true ∧ (Instr.walkStep 0).wf = true ∧ dataPlane (.walkStep 0) = true := by decide +kernel

theorem witness_inReset : State.reset.up = false ∧ (Instr.regRead 4 0 8).wf = true ∧ pinOrReset (.regRead 4 0 8) = false := by decide +kernel

theorem witness_idle : up0.pending = [] ∧ up0.off = false ∧ up0.listFetch = [] := by decide +kernel

/-! ## Register accesses and errors -/

theorem witness_regWrite :
    (Reaches up0 0x40104 ∧ isOff 0x40104 = true ∧ goodAccess 0x40104 8 = false) ∧
    (Reaches up0 0x70000 ∧ isOff 0x70000 = true ∧ goodAccess 0x70000 8 = true ∧ place 0x70000 = none) ∧
    (goodAccess 0x1000C0 8 = true ∧ place 0x108000 = some ⟨0x10, .xlt, 0, 0x8000, true⟩ ∧ mayWindow 1 0 = false) ∧
    Reaches up0 0x140100 ∧ place 0x140100 = some ⟨0x14, .pwy, 0, 0x100, false⟩ ∧ [Block.mgt, .txe, .rxe, .pwy, .xbr].contains Block.pwy = true :=
  ⟨⟨reaches (by decide +kernel), by decide +kernel⟩, ⟨reaches (by decide +kernel), by decide +kernel⟩, by decide +kernel, reaches (by decide +kernel), by decide +kernel⟩

/-- The fabric manager may not: host 1 holds no role, and its port answers. -/
def linked1 : State := ((up0.wr F.BLK_CTL_EN 1 9).wr F.HIF_LINK_STAT_UP 1 1).modHf 1 fun h => { h with up := true }

theorem witness_regRefused : isMaster 1 = true ∧ linked1.access 1 0x140100 (linked1.noteAccess 1 0x14) ∧
    (linked1.noteAccess 1 0x14).mayWrite 1 = false ∧ linked1.access 1 0x108000 (linked1.noteAccess 1 0x10) ∧ mayWindow 1 0 = false :=
  ⟨by decide +kernel, ⟨by decide +kernel, by decide +kernel, by decide +kernel, by decide +kernel, .inl (by decide +kernel)⟩, by decide +kernel, ⟨by decide +kernel, by decide +kernel, by decide +kernel, by decide +kernel, .inl (by decide +kernel)⟩, by decide +kernel⟩

theorem witness_regRead :
    (Reaches up0 0x40101 ∧ goodAccess 0x40101 8 = false) ∧ (Reaches up0 0x70000 ∧ place 0x70000 = none) ∧
    (Reaches up0 0x4 ∧ goodAccess 0x4 4 = true ∧ place 0 = some ⟨0, .dev, 0, 0, false⟩ ∧ semOf 4 = none) ∧
    ¬(4 = 8 ∨ 4 % 8 = 0) ∧ halted0.access 4 0x10100 halted0 ∧ haltRead 0x10100 = false :=
  ⟨⟨reaches (by decide +kernel), by decide +kernel⟩, ⟨reaches (by decide +kernel), by decide +kernel⟩, ⟨reaches (by decide +kernel), by decide +kernel⟩, by decide +kernel, ⟨by decide +kernel, by decide +kernel, by decide +kernel, by decide +kernel, .inr (.inl (by decide +kernel))⟩, by decide +kernel⟩

/-- Reset B of page 0x14 is in progress. -/
def busy14 : State := up0.wr F.BLK_STAT_RESET_BUSY 1 0x14

theorem witness_gated : busy14.atRest ∧ busy14.busOpen 4 = true ∧ busy14.laybyHolds 4 0x14 0x100 = false ∧
    busy14.noteAccess 4 0x14 = busy14 ∧ busy14.gated 0x14 0x100 = true ∧ isOff 0x140100 = true ∧ up0.gated 0x14 0x100 = false ∧
    busy14.gated 0x14 0xF8 = false := ⟨⟨rfl, rfl⟩, by decide +kernel⟩

theorem witness_blockReset : (Reaches up0 (F.BLK_CTL_RST.addr 0xE1 0) ∧ pageBlock 0xE1 = some (.mem, 1)) ∧
    busy14.runs = true ∧ pageBlock 0x14 = some (.pwy, 0) ∧ busy14.on F.BLK_STAT_RESET_BUSY 0x14 = true :=
  ⟨⟨reaches (by decide +kernel), by decide +kernel⟩, by decide +kernel⟩

/-- Page 0x14 is fenced, with an error bit set whose reaction fences it. -/
def held14 : State := ((fenced 0x14).wr F.ERR_STAT_ERR 1 0x14).wr F.ERR_CLASS_REACT 2 0x14

theorem witness_fence :
    (Reaches up0 (F.BLK_CTL_FENCE.addr 0x14 0) ∧ Block.pwy.unfenceable = false ∧ up0.fenced 0x14 = false) ∧
    (Reaches held14 (F.BLK_CTL_FENCE.addr 0x14 0) ∧ held14.fenced 0x14 = true ∧ held14.fenceHeld 0x14 = true) ∧
    Reaches (fenced 0x14) (F.BLK_CTL_FENCE.addr 0x14 0) ∧ (fenced 0x14).fenced 0x14 = true ∧ (fenced 0x14).fenceHeld 0x14 = false :=
  ⟨⟨reaches (by decide +kernel), by decide +kernel⟩, ⟨reaches (by decide +kernel), by decide +kernel⟩, reaches (by decide +kernel), by decide +kernel⟩

/-- A commit of a page in progress. -/
def committing (p : Nat) (c : Commit) : State := { up0 with sh.commits := [(p, c)] }

theorem witness_commits :
    (Reaches up0 (F.SHADOW_CMT_CMT.addr 0x19 0) ∧ pageBlock 0x19 = some (.rtb, 0) ∧ Tbl.get up0.sh.commits 0x19 = none) ∧
    (Reaches (committing 0x20 {}) (F.SHADOW_CMT_CMT.addr 0x20 0) ∧ Tbl.get (committing 0x20 {}).sh.commits 0x20 = some {}) ∧
    ((committing 0x20 {}).runs = true ∧ pageBlock 0x20 = some (.xbr, 0) ∧ (committing 0x20 {}).commitWaits (committing 0x20 {}) 0x20 {} = false) ∧
    (committing 0x19 { phase := 1 }).runs = true ∧ Tbl.get (committing 0x19 { phase := 1 }).sh.commits Block.rtb.page = some { phase := 1 } :=
  ⟨⟨reaches (by decide +kernel), by decide +kernel⟩, ⟨reaches (by decide +kernel), by decide +kernel⟩, by decide +kernel⟩

/-- A commit of the crossbar is accepted as it stands, and one that reserves more than a buffer has is refused. -/
theorem witness_commitCode : commitCode (committing 0x10 {}) up0 0x10 {} = 0 ∧
    commitCode (up0.wr F.DEV_DID_DID 5) (up0.wr F.DEV_DID_DID 5) 0 {} = 1 := by decide +kernel

theorem witness_did : (committing 0 {}).runs = true ∧ Tbl.get (committing 0 {}).sh.commits 0 = some {} ∧ (committing 0 {}).did = 0x3FFFF ∧
    ((committing 0 {}).wr F.DEV_DID_DID 5).did ≠ 0x3FFFF := by decide +kernel

theorem witness_firstError : Reaches up0 (F.ERR_FIRST_INFO_VALID.addr 0xDF 0) ∧ pageBlock 0xDF = some (.lan, 31) ∧
    up0.on F.ERR_FIRST_INFO_VALID 0xDF = false ∧ (up0.wr F.ERR_FIRST_INFO_VALID 1 0xDF).on F.ERR_FIRST_INFO_VALID 0xDF = true :=
  ⟨reaches (by decide +kernel), by decide +kernel⟩

theorem witness_errors :
    (Reaches up0 (F.ERR_STAT_ERR.addr 0xBF 0) ∧ pageBlock 0xBF = some (.lnk, 127)) ∧
    (({ up0 with wins := [((0xC0, 1), ⟨0, 1⟩)] } : State).up = true ∧ pageBlock 0xC0 = some (.lan, 0)) ∧
    up0.halted = false ∧ pageBlock 0x12 = some (.txe, 0) ∧ (storageIndices .txe).contains 3 = true ∧ Block.txe ≠ .pwy :=
  ⟨⟨reaches (by decide +kernel), by decide +kernel⟩, by decide +kernel⟩

theorem witness_collector :
    Reaches up0 (F.FCL_STAT_STAT.addr 0 0) ∧ Reaches up0 (F.FCL_FIRST_VALID.addr 0 0) ∧ Reaches up0 (F.FCL_SVC_STAT_REASONS.addr 0 0) ∧
    Reaches up0 (F.FCL_SVC_REQ_RAISE.addr 0 0) ∧ Reaches (up0.wr F.FCL_UNIT_SEL_PAGE 0xC1) (F.FCL_UNIT_FENCE_FENCE.addr 0 0) ∧
    (up0.wr F.FCL_UNIT_SEL_PAGE 0xC1).rd F.FCL_UNIT_SEL_PAGE = 0xC1 ∧ pageBlock 0xC1 = some (.lan, 1) ∧
    Reaches up0 (F.FCL_ALIVE_KICK.addr 0 0) ∧ up0.on F.FCL_ALIVE_STOPPED = false :=
  ⟨reaches (by decide +kernel), reaches (by decide +kernel), reaches (by decide +kernel), reaches (by decide +kernel), reaches (by decide +kernel), by decide +kernel, by decide +kernel, reaches (by decide +kernel), by decide +kernel⟩

/-! ## Host ports, translation and arbiters -/

/-- A slot of host port 0 in a state. -/
def slotIn (st : Nat) : State := (ready 8).wr F.HIF_SLOT_STAT_STATE st 0
/-- An empty slot whose sled has been seen for the debounce time. -/
def seated : State :=
  ((slotIn slEmpty).reach (((slotIn slEmpty).hf 0).pinAt + ms (orWhenZero ((slotIn slEmpty).rd F.HIF_SLOT_TMO_DEBOUNCE 0) 1))).modHf 0 fun h =>
    { h with present := true }

theorem witness_slotFilled :
    ((slotIn slEmpty).runs = true ∧ (slotIn slEmpty).routerOnly = false ∧ ((slotIn slEmpty).hf 0).present = false ∧
      seated.slot 0 = slEmpty ∧ seated.hifLive 0 = true) ∧
    State.reset.runs = false ∧
    (Reaches (slotIn slOff) (F.HIF_SLOT_CTL_POWER_ON.addr 0 0) ∧ (slotIn slOff).slot 0 = slOff) ∧
    (slotIn slFault).slot 0 ≠ slOff ∧
    ((slotIn slPowering).modHf 0 fun h => { h with perst := false }).mayTrain 0 5 16 false = true :=
  ⟨by decide +kernel, by decide +kernel, ⟨reaches (by decide +kernel), by decide +kernel⟩, by decide +kernel⟩

theorem witness_slotRemoved :
    ((slotIn slAttached).wr F.HIF_SLOT_CTL_BUTTON_EN 1 0).on F.HIF_SLOT_CTL_BUTTON_EN 0 = true ∧ (slotIn slAttached).slot 0 = slAttached ∧
    ((slotIn slAttached).hf 0).pressAt = none ∧ (slotIn slAttached).routerOnly = false ∧
    (((slotIn slQuiescing).modHf 0 fun h => { h with buttonAt := some 0 }).hf 0).buttonAt = some 0 ∧ (slotIn slQuiescing).now ≤ 0 + 5000000000 ∧
    Reaches (slotIn slAttached) (F.HIF_SLOT_CTL_REMOVE_REQ.addr 0 0) ∧ Reaches (slotIn slQuiescing) (F.HIF_SLOT_CTL_CANCEL.addr 0 0) ∧
    Reaches (slotIn slQuiescing) (F.HIF_SLOT_CTL_FORCE_OFF.addr 0 0) ∧ Reaches (slotIn slQuiescing) (F.HIF_FN_CTL_QUIESCED.addr 0 0) ∧
    ((slotIn slQuiescing).wr F.HIF_FN_CTL_QUIESCED 1 0).slot 0 = slQuiescing ∧ mayWindow 4 0 = true ∧
    (((slotIn slQuiescing).modHf 0 fun h => { h with quiesceAt := some 7 }).hf 0).quiesceAt = some 7 :=
  ⟨by decide +kernel, by decide +kernel, by decide +kernel, by decide +kernel, by decide +kernel, by decide +kernel, reaches (by decide +kernel),
   reaches (by decide +kernel), reaches (by decide +kernel), reaches (by decide +kernel), by decide +kernel⟩

theorem witness_slotLost :
    (((slotIn slOff).modHf 0 fun h => { h with present := true }).hf 0).present = true ∧ (slotIn slOff).slot 0 = slOff ∧
    2 ≤ (slotIn slPowering).slot 0 ∧ (slotIn slQuiescing).slot 0 ≤ 4 ∧ (slotIn slFault).slot 0 = slFault ∧ (slotIn slAttached).powered 0 = true :=
  by decide +kernel

/-- Host port 0 attached. -/
def attached : State := linked.wr F.HIF_SLOT_STAT_STATE slAttached 0

theorem witness_resetH :
    ((attached.modHf 0 fun h => { h with resetH := true }).hf 0).resetH = true ∧ (attached.hf 0).resetH = false ∧
    (attached.hf 0).resetWait = false ∧ attached.rd F.CRP_PWR_STAT_STATE = 0 ∧ attached.runs = true ∧ attached.routerOnly = false ∧
    attached.linkUp 0 = true ∧ attached.slot 0 = slAttached ∧ (attached.wr F.HIF_FN_STAT_EP_HOLD 1 0).on F.HIF_FN_STAT_EP_HOLD 0 = true ∧
    (attached.hf 0).fencedAway = false := by decide +kernel

theorem witness_configured :
    (cfgAccess 0 [] attached).linkUp 0 = true ∧ (cfgAccess 0 [] attached).routerOnly = false ∧ mpsOk 256 = true ∧ mrrsOk 512 = true ∧ (((attached.wr F.HIF_FN_STAT_BME 0 0).modHf 0 fun h => { h with mps := 256, mrrs := 512 }).hf 0).resetH = false ∧
    Reaches attached (F.HIF_IDE_CTL_REQUIRE.addr 0 0) ∧ (attached.wr F.HIF_IDE_CTL_REQUIRE 1 0).on F.HIF_IDE_CTL_REQUIRE 0 = true ∧
    (attached.wr F.HIF_IDE_CTL_REQUIRE 1 0).on F.HIF_IDE_STAT_SECURE 0 = false ∧ attached.fnAbsent 0 = false ∧
    attached.on F.HIF_IDE_STAT_HALTED 0 = false ∧ (attached.hf 0).pba = [] ∧
    (((attached.modHf 0 fun h => { h with pba := [3] }).modHf 0 fun h => { h with msixEnable := true, msix := Tbl.set h.msix 3 {} }).hf 0).pba = [3] :=
  ⟨by decide +kernel, by decide +kernel, by decide +kernel, by decide +kernel, by decide +kernel, reaches (by decide +kernel), by decide +kernel⟩

/-- A host access of function 0 takes effect. -/
abbrev HostReaches (s : State) : Prop := isFn 0 = true ∧ s.runs = true ∧ s.hostAccess 0 { s with pw.hostAt := s.now }

theorem host_reaches {s : State} (h : (s.runs && s.busOpen 0 && s.power != psLayby && !s.wakingFrom psLayby) = true) : HostReaches s := by
  simp only [Bool.and_eq_true, Bool.not_eq_true', bne_iff_ne] at h
  exact ⟨rfl, h.1.1.1, h.1.1.2, h.1.2, h.2, rfl⟩

/-- A host write to BAR2 of function 0 takes effect. -/
abbrev HostPosts (s : State) : Prop := isFn 0 = true ∧ s.runs = true ∧ s.hostPost 0 (({ s with pw.hostAt := s.now } : State).tally .hif 7 1 0)

theorem host_posts {s : State} (h : (s.runs && s.busOpen 0 && s.power != psLayby && !s.wakingFrom psLayby) = true) : HostPosts s :=
  ⟨rfl, (host_reaches h).2.1, _, (host_reaches h).2.2, rfl⟩

/-- BAR4 of function 0 opened on 64 MiB of commons. -/
def opened : State := (((attached.wr F.HIF_COMMONS_CTL_EN 1 0).wr F.HIF_COMMONS_CTL_SIZE 1 0).wr F.HIF_COMMONS_CTL_WRITE_EN 1 0).wr
  F.DEV_MEM_PLANn_SIZE 1 0 8

/-- A host read with one request of 8 bytes outstanding. -/
def read8 (use : ReadFor) : HostRead := { fn := 0, len := 8, use := use, sent := [(0, 8)] }
/-- The same, answered. -/
def done8 (use : ReadFor) (b : List Byte) : HostRead := { fn := 0, len := 8, use := use, result := some (.ok b) }
/-- The same, failed. -/
def failed8 (use : ReadFor) : HostRead := { fn := 0, len := 8, use := use, result := some .failed }
def withRead (s : State) (r : HostRead) : State := { s with reads := [(5, r)] }

theorem witness_windows :
    attached.hostAccess 0 { attached with pw.hostAt := attached.now } ∧ attached.barOpen 0 = true ∧
    bar2Plain 0x3FFFF000 true = true ∧ bar2Plain 0x3FFFF000 false = true ∧ opened.busOpen 0 = true ∧ opened.barOpen 0 = true ∧
    ((opened.tally .hif 8 8 0).bar4 0 0x3FFFFF8 8).isSome = true ∧ (opened.tally .hif 8 8 0).on F.HIF_COMMONS_CTL_WRITE_EN 0 = true ∧
    (opened.tally .hif 8 8 0).memOk (.hif 0) 0 8 = true ∧ (opened.tally .hif 8 8 0).memFenced = false ∧
    (opened.tally .hif 8 8 0).bar4 0 0x3FFFFFC 8 = none :=
  ⟨(host_reaches (by decide +kernel)).2.2, by decide +kernel⟩

theorem witness_hostReads : (withRead attached (read8 (.walk 0))).runs = true ∧ (withRead attached (read8 (.walk 0))).on F.HIF_IDE_STAT_HALTED 0 = false ∧ Tbl.get (withRead attached (read8 (.walk 0))).reads 5 = some (read8 (.walk 0)) ∧
    ((read8 (.walk 0)).sent.find? fun p => decide (p.1 ≤ 4) && (decide (4 < p.1 + p.2) || p.2 == 0)) = some (0, 8) ∧
    4 + (leBytes 4 9).length ≤ 0 + 8 ∧ leBytes 4 9 ≠ [] ∧ (read8 (.walk 0)).sent = (0, 8) :: [] := by decide +kernel

/-- A walk of address space 1 of function 0 at a level, its read number 5. -/
def walkAt (level : Nat) : Walk := { fn := 0, as := 1, iova := 0, level := level, table := 0x1000, read := some 5 }
def walking (level : Nat) (r : HostRead) : State := { withRead attached r with walks := [(0, walkAt level)] }

theorem witness_walks :
    (walking 1 (done8 (.walk 0) (leBytes 8 0x200F))).runs = true ∧ Tbl.get (walking 1 (failed8 (.walk 0))).walks 0 = some (walkAt 1) ∧
    (walkAt 1).read = some 5 ∧ bitOf (leNat (leBytes 8 0)) 0 = false ∧ leNat (leBytes 8 0x1003) / 4096 * 4096 % 2 ^ (12 + 9 * (2 - 1)) ≠ 0 ∧
    attached.inSeWindow 0 0x2000 = false ∧
    attached.walkEntry (walkAt 4) (.ok (leBytes 8 0x2001)) = .descend 3 0x2000 ∧
    attached.walkEntry (walkAt 1) (.ok (leBytes 8 0x200F)) = .leaf ⟨0, 1, 0, 12, 0x2000, true, true, false, none⟩ ∧ attached.walkEntry (walkAt 1) .failed = .fault xkBusError 1 :=
  by decide +kernel

/-- A work queue of function 0. -/
def q0 : Wq := { base := 0, log2 := 6, as := 1, cq := 1, recv := false, list := 0, slot := 0, tcMask := 15, counter := 0, countEn := false, sched := 0 }
def withWq (s : State) (q : Wq) : State := { s with wqs := [((0, 1), q)] }

theorem witness_suspended :
    Reaches (withWq attached { q0 with state := .suspended, fetchFault := true }) (F.XLT_FN_RESUME_WQ.addr 0 0) ∧
    Tbl.get (withWq attached { q0 with state := .suspended, fetchFault := true }).wqs (0, 1) = some { q0 with state := .suspended, fetchFault := true } ∧
    q0.state ≠ .suspended := ⟨reaches (by decide +kernel), by decide +kernel⟩

theorem witness_arbiter : (isArb 8 0 = true ∧ up0.runs = true ∧ up0.rd F.ARB_FENCED_FENCED 8 = 0 ∧ up0.grantableArb 8 0 = true ∧ 0 < arbCount 8 0 ∧
    (({ up0 with arbs := [((8, 0), { holder := some 0 })] } : State).arb 8 0).holder = some 0 ∧
    (up0.wr F.ARB_CTL_WDOG_EN 1 8).on F.ARB_CTL_WDOG_EN 8 = true ∧ up0.walkersRead 0 = false) ∧
    Reaches up0 (F.ARB_FENCED_FENCED.addr 0xE0 0) ∧ isArb 0xE0 0 = true :=
  ⟨by decide +kernel, reaches (by decide +kernel), by decide +kernel⟩

/-! ## Queues and their commands -/

def cq0 : Cq := { base := 0, log2 := 6, as := 1, vector := 0, irqEn := true, modCount := 0, modTime := 5 }
def eq0 : Sys2Proof.Machine.Eq := { base := 0, log2 := 6, as := 1, vector := 0, irqEn := true, modCount := 0, modTime := 5, async := true, order := 0 }
def ten0 : TenSlot := { mode := 2, requireIde := false, owner := [], tnum := 7, curEpoch := 0, curKey := 0, members := 1 }
def list0 : MList := { slot := 0, eq := 1, eqEn := true }

/-- Function 0 has address space 1, completion queue 1, event queue 1 and list 1, and belongs to tenancy slot 0. -/
def objects : State := { attached with spaces := [((0, 1), { root := 0 })], cqs := [((0, 1), cq0)], eqs := [((0, 1), eq0)],
                                       lists := [((0, 1), list0)], slots := [(0, ten0)] }

/-- The 64 bytes of an admin command. -/
def cmdBytes (c : AdminCmd) : List Byte :=
  leBytes 8 c.opcode ++ leBytes 8 c.userCtx ++ leBytes 8 c.p0 ++ leBytes 8 c.p1 ++ leBytes 8 c.p2 ++ leBytes 8 c.p3 ++ leBytes 8 c.p4 ++ leBytes 8 c.p5

/-- An admin command just read by function 0, both of whose admin queues are open; and the state in which it begins. -/
def posted (s : State) (c : AdminCmd) : State :=
  { (s.wr F.CMD_ACQ_CTL_EN 1 0).wr F.CMD_AQ_CTL_EN 1 0 with
    reads := [(5, { fn := 0, len := 64, use := .admin 0, result := some (.ok (cmdBytes c)) })] }
def begun (s : State) (c : AdminCmd) : State := ((posted s c).takeRead 5).1.roll F.CMD_AQ_HEAD_HEAD 1 0

abbrev Begins (s : State) (c : AdminCmd) : Prop := isFn 0 = true ∧ (posted s c).runs = true ∧ (posted s c).begins 0 c.opcode c (begun s c)

theorem begins {s : State} {c : AdminCmd}
    (h : ((posted s c).runs && parseAdmin (cmdBytes c) == c && !Tbl.has (posted s c).admin 0 && (posted s c).acqOpen 0 &&
      (posted s c).on F.CMD_AQ_CTL_EN 0 && c.rsvZero) = true) : Begins s c := by
  simp only [Bool.and_eq_true, Bool.not_eq_true', beq_iff_eq] at h
  obtain ⟨⟨⟨⟨⟨h1, h2⟩, h3⟩, h4⟩, h5⟩, h6⟩ := h
  exact ⟨rfl, h1, 5, _, cmdBytes c, rfl, rfl, h2, rfl, h3, h4, h5, h6, rfl⟩

/-- What an executing command waits for. -/
def waiting (w : AdminWait) : State := { objects with admin := [(0, { cmd := { opcode := 2 }, wait := w })] }

theorem witness_admin :
    Reaches attached (F.CMD_AQ_TAIL_TAIL.addr 0 0) ∧ mayWindow 4 0 = true ∧
    (wrapSub 32 1 (attached.rd F.CMD_AQ_HEAD_HEAD 0) ≤ adminSize (attached.rd F.CMD_AQ_CTL_LOG2_SIZE 0) ∧
      wrapSub 32 1 (attached.rd F.CMD_AQ_TAIL_TAIL 0) ≤ adminSize (attached.rd F.CMD_AQ_CTL_LOG2_SIZE 0) -
        wrapSub 32 (attached.rd F.CMD_AQ_TAIL_TAIL 0) (attached.rd F.CMD_AQ_HEAD_HEAD 0)) ∧
    ¬wrapSub 32 0xFFFFFFFF (attached.rd F.CMD_AQ_HEAD_HEAD 0) ≤ adminSize (attached.rd F.CMD_AQ_CTL_LOG2_SIZE 0) ∧
    Reaches attached (F.CMD_ACQ_CTL_EN.addr 0 0) ∧ ((waiting .room).admin).map Prod.fst = [0] ∧ Tbl.get (attached.wr F.CMD_ACQ_CTL_EN 1 0).admin 0 = none ∧
    (attached.wr F.CMD_ACQ_CTL_EN 1 0).acqOpen 0 = true ∧ attached.busGone 0 = false :=
  ⟨reaches (by decide +kernel), by decide +kernel, by decide +kernel, by decide +kernel, reaches (by decide +kernel), by decide +kernel⟩

/-- `CREATE_WQ` of queue 1: address space 1, completion queue 1, every class. -/
def cCreateWq : AdminCmd := { opcode := 1, p1 := 2 ^ 32 + 2 ^ 20 + 1, p2 := 15 * 2 ^ 12 }
def cWq (op p0 : Nat) : AdminCmd := { opcode := op, p0 := p0 }

theorem witness_workQueues :
    (Begins objects cCreateWq ∧ onlyBits cCreateWq.p1 [(0, 14), (16, 4), (20, 12), (32, 14), (46, 1), (48, 12)] = true ∧
      onlyBits cCreateWq.p2 [(0, 12), (12, 4), (16, 9), (25, 1)] = true ∧ bitsOf cCreateWq.p1 16 4 ≤ 10 ∧
      Tbl.has (begun objects cCreateWq).wqs (0, bitsOf cCreateWq.p1 0 14) = false ∧ Tbl.has (begun objects cCreateWq).spaces (0, 1) = true ∧
      Tbl.has (begun objects cCreateWq).cqs (0, 1) = true ∧ (begun objects cCreateWq).member (bitsOf cCreateWq.p2 0 12) 0 = true) ∧
    (Begins (withWq objects q0) cCreateWq ∧ Tbl.has (begun (withWq objects q0) cCreateWq).wqs (0, 1) = true) ∧
    (Begins { objects with slots := [] } cCreateWq ∧ (begun { objects with slots := [] } cCreateWq).member 0 0 = false) ∧
    (Begins (withWq objects q0) (cWq 2 1) ∧ Begins (withWq objects q0) (cWq 3 1) ∧ onlyBits (cWq 2 1).p0 [(0, 14)] = true ∧
      Tbl.has (begun (withWq objects q0) (cWq 2 1)).wqs (0, 1) = true) ∧
    ((waiting (.drain 1)).runs = true ∧ (withWq (waiting (.drain 1)) { q0 with state := .draining }).drained 0 1 = true ∧
      (withWq (waiting (.drain 1)) { q0 with state := .draining, destroy := true }).drained 0 1 = true) ∧
    Begins (withWq objects q0) (cWq 4 (2 ^ 16 + 1)) ∧ onlyBits (2 ^ 16 + 1) [(0, 14), (16, 1)] = true ∧
    Tbl.get (begun (withWq objects q0) (cWq 4 (2 ^ 16 + 1))).wqs (0, bitsOf (2 ^ 16 + 1) 0 14) = some q0 :=
  ⟨⟨begins (by decide +kernel), by decide +kernel⟩, ⟨begins (by decide +kernel), by decide +kernel⟩, ⟨begins (by decide +kernel), by decide +kernel⟩,
   ⟨begins (by decide +kernel), begins (by decide +kernel), by decide +kernel⟩, by decide +kernel, begins (by decide +kernel),
   by decide +kernel⟩

def cCreateCq : AdminCmd := { opcode := 5, p1 := 2 ^ 24 + 6 * 2 ^ 16 + 2 }
def cCreateEq : AdminCmd := { opcode := 8, p1 := 2 ^ 40 + 2 ^ 24 + 16 * 2 ^ 16 + 2 }

theorem witness_recordQueues :
    (Begins objects cCreateCq ∧ onlyBits cCreateCq.p1 [(0, 14), (16, 5), (24, 12)] = true ∧ onlyBits 0 modBits = true ∧
      6 ≤ bitsOf cCreateCq.p1 16 5 ∧ bitsOf cCreateCq.p1 16 5 ≤ 22 ∧ Tbl.has (begun objects cCreateCq).cqs (0, 2) = false ∧
      Tbl.has (begun objects cCreateCq).spaces (0, 1) = true) ∧
    (Begins objects (cWq 6 1) ∧ Tbl.has (begun objects (cWq 6 1)).cqs (0, 1) = true) ∧
    (Begins objects (cWq 7 1) ∧ Tbl.get (begun objects (cWq 7 1)).cqs (0, 1) = some cq0) ∧
    (Begins objects cCreateEq ∧ onlyBits cCreateEq.p1 [(0, 10), (16, 5), (24, 12), (40, 1)] = true ∧ 6 ≤ bitsOf cCreateEq.p1 16 5 ∧
      bitsOf cCreateEq.p1 16 5 ≤ 16 ∧ Tbl.has (begun objects cCreateEq).eqs (0, 2) = false) ∧
    Begins objects (cWq 9 1) ∧ Tbl.has (begun objects (cWq 9 1)).eqs (0, 1) = true ∧ (begun objects (cWq 9 1)).cregNames 0 1 = false :=
  ⟨⟨begins (by decide +kernel), by decide +kernel⟩, ⟨begins (by decide +kernel), by decide +kernel⟩, ⟨begins (by decide +kernel), by decide +kernel⟩,
   ⟨begins (by decide +kernel), by decide +kernel⟩, begins (by decide +kernel), by decide +kernel⟩

def cCreateAs : AdminCmd := { opcode := 0xA, p0 := 0x1000, p1 := 2 }
def cCreateRegion : AdminCmd := { opcode := 0xC, p1 := 2 ^ 42, p2 := 15 * 2 ^ 36 + 2 ^ 34 + 2 ^ 24 + 1 }
def region1 : Region := { gen := 1, base := 0, len := 4096, as := 1, slot := 0, eq := 0, eqEn := false, rights := 15 }
def cInval : AdminCmd := { opcode := 0xE, p0 := 2 ^ 16 + 1 }

theorem witness_spaces :
    (Begins objects cCreateAs ∧ cCreateAs.p0 % 4096 = 0 ∧ onlyBits cCreateAs.p1 [(0, 12)] = true ∧ Tbl.has (begun objects cCreateAs).spaces (0, 2) = false) ∧
    (Begins objects { opcode := 0xB, p1 := 1 } ∧ Tbl.has (begun objects { opcode := 0xB, p1 := 1 }).spaces (0, 1) = true) ∧
    (Begins objects cCreateRegion ∧ cCreateRegion.p1 ≠ 0 ∧ cCreateRegion.p1 ≤ 2 ^ 42 ∧ cCreateRegion.p0 < 2 ^ 48 ∧ cCreateRegion.p0 + cCreateRegion.p1 ≤ 2 ^ 48 ∧
      bitsOf cCreateRegion.p2 36 4 ≠ 0 ∧ onlyBits cCreateRegion.p2 [(0, 12), (12, 12), (24, 10), (34, 1), (36, 4)] = true ∧
      Tbl.has (begun objects cCreateRegion).spaces (0, 1) = true ∧ Tbl.has (begun objects cCreateRegion).eqs (0, bitsOf cCreateRegion.p2 24 10) = true ∧
      (begun objects cCreateRegion).member 0 0 = true ∧ (begun objects cCreateRegion).regBytes 0 + cCreateRegion.p1 ≤ 2 ^ 42 ∧
      (begun objects cCreateRegion).freeIndex 0 = some 1) ∧
    (Begins { objects with regions := [((0, 1), region1)] } (cWq 0xD 0x101) ∧ onlyBits 0x101 [(0, 32)] = true ∧
      Tbl.get (begun { objects with regions := [((0, 1), region1)] } (cWq 0xD 0x101)).regions (0, bitsOf 0x101 8 24) = some region1 ∧
      region1.gen = 0x101 % 256 ∧ region1.closing = false ∧ (begun { objects with regions := [((0, 1), region1)] } (cWq 0xD 0x101)).regionPlacing 0 1 = false) ∧
    (Begins objects cInval ∧ onlyBits cInval.p0 [(0, 2), (16, 12)] = true ∧ bitsOf cInval.p0 0 2 ≠ 3 ∧ Tbl.has (begun objects cInval).spaces (0, 1) = true) ∧
    (({ waiting .inval with invals := [(0, { cmd := cInval, reads := [], walks := [] })] } : State).invals).map Prod.fst = [0] :=
  ⟨⟨begins (by decide +kernel), by decide +kernel⟩, ⟨begins (by decide +kernel), by decide +kernel⟩, ⟨begins (by decide +kernel), by decide +kernel⟩,
   ⟨begins (by decide +kernel), by decide +kernel⟩, ⟨begins (by decide +kernel), by decide +kernel⟩, by decide +kernel⟩

def cCreateList : AdminCmd := { opcode := 0xF, p0 := 2, p1 := 2 ^ 22 + 2 ^ 12 }
def outside : State := { objects with slots := [(0, { ten0 with members := 0 })] }
def cJoin (d : Nat) : AdminCmd := { opcode := 0x11, p2 := 1, p3 := d }
def lqp1 : Lqp := { fn := 0, ctx := 0, as := 1, rem := 9, remLqp := 0, tc := 0, sendWq := 1, recvWq := 2, recvEn := true }
def paired : State := { objects with wqs := [((0, 1), q0), ((0, 2), { q0 with recv := true, list := 1 })] }
def cCreateLqp : AdminCmd := { opcode := 0x13, p1 := 2 ^ 20 + 3, p2 := 9, p3 := 2 ^ 30 + 2 * 2 ^ 16 + 1 }

/-- A join whose digest is that of the slot: for every value of the digest, some command carries it. -/
theorem witness_join : ownerDigest ten0.owner = (cJoin (ownerDigest [])).p3 ∧
    (ownerDigest ten0.owner ≠ (cJoin (if ownerDigest [] = 0 then 1 else 0)).p3) := by
  refine ⟨rfl, ?_⟩
  show ownerDigest [] ≠ _
  simp only [cJoin]; split <;> omega

theorem witness_lists :
    (Begins objects cCreateList ∧ onlyBits cCreateList.p1 [(0, 12), (12, 10), (22, 1)] = true ∧ Tbl.has (begun objects cCreateList).lists (0, 2) = false ∧
      Tbl.has (begun objects cCreateList).eqs (0, bitsOf cCreateList.p1 12 10) = true ∧ (begun objects cCreateList).member 0 0 = true ∧
      (begun outside cCreateList).member 0 0 = false) ∧
    (Begins objects (cWq 0x10 1) ∧ Tbl.get (begun objects (cWq 0x10 1)).lists (0, 1) = some list0 ∧
      ((begun objects (cWq 0x10 1)).wqs.any fun e => e.1.1 == 0 && e.2.recv && e.2.list == 1) = false ∧
      ((begun paired (cWq 0x10 1)).wqs.any fun e => e.1.1 == 0 && e.2.recv && e.2.list == 1) = true) ∧
    (Begins outside (cJoin 0) ∧ onlyBits (cJoin 0).p2 [(0, 12)] = true ∧ Tbl.get (begun outside (cJoin 0)).slots 0 = some { ten0 with members := 0 } ∧
      Tbl.has (begun outside (cJoin 0)).spaces (0, 1) = true ∧ bitOf 0 0 = false ∧ (outside.wr F.SEC_STAT_TIME_LOCKED 1).timeLocked = true) ∧
    (Begins objects (cWq 0x12 0) ∧ Tbl.get (begun objects (cWq 0x12 0)).slots 0 = some ten0 ∧ bitOf ten0.members 0 = true) ∧
    (Begins { objects with lqps := [(3, lqp1)] } (cWq 0x14 3) ∧ Tbl.get (begun { objects with lqps := [(3, lqp1)] } (cWq 0x14 3)).lqps 3 = some lqp1) ∧
    (Begins (withWq objects q0) (cWq 0x15 (2 ^ 16 + 1)) ∧ onlyBits (2 ^ 16 + 1) [(0, 4), (16, 14)] = true ∧ bitsOf (2 ^ 16 + 1) 0 4 = 1 ∧
      bitsOf (2 ^ 16 + 1) 16 14 = 1 ∧ bitsOf (2 ^ 16 + 2) 0 4 = 2 ∧ bitsOf (2 ^ 16 + 3) 0 4 = 3 ∧ bitsOf (2 ^ 16 + 4) 0 4 = 4 ∧
      (Tbl.get (begun objects (cWq 0x15 (2 ^ 16 + 3))).eqs (0, 1)).isSome = true ∧ (Tbl.get (begun objects (cWq 0x15 (2 ^ 16 + 4))).spaces (0, 1)).isSome = true) ∧
    Begins paired cCreateLqp ∧ onlyBits cCreateLqp.p1 [(0, 18), (20, 12)] = true ∧ onlyBits cCreateLqp.p2 [(0, 21), (32, 18), (56, 2)] = true ∧
      onlyBits cCreateLqp.p3 [(0, 14), (16, 14), (30, 1)] = true ∧ bitsOf cCreateLqp.p2 0 21 % 8 < 4 ∧ Tbl.get (begun paired cCreateLqp).wqs (0, 1) = some q0 ∧
      Tbl.get (begun paired cCreateLqp).wqs (0, bitsOf cCreateLqp.p3 16 14) = some { q0 with recv := true, list := 1 } ∧
      bitOf q0.tcMask (bitsOf cCreateLqp.p2 56 2) = true ∧ Tbl.has (begun paired cCreateLqp).lqps 3 = false ∧ (begun paired cCreateLqp).outstandingOps 0 1 = 0 ∧
      ((begun paired cCreateLqp).ops.any fun e => e.2.fn == 0 && e.2.wq == 1 && e.2.phase == .held) = false :=
  ⟨⟨begins (by decide +kernel), by decide +kernel⟩, ⟨begins (by decide +kernel), by decide +kernel⟩, ⟨begins (by decide +kernel), by decide +kernel⟩,
   ⟨begins (by decide +kernel), by decide +kernel⟩, ⟨begins (by decide +kernel), by decide +kernel⟩, ⟨begins (by decide +kernel), by decide +kernel⟩,
   begins (by decide +kernel), by decide +kernel⟩

/-- A completion or an event queue that is suspended. -/
def suspended : State := { attached with cqs := [((0, 1), { cq0 with state := .suspended })], eqs := [((0, 1), { eq0 with state := .suspended })] }

theorem witness_doorbells :
    (HostPosts (withWq attached q0) ∧ q0.state ≠ .draining ∧ 64 ≠ q0.prod ∧ wrapSub 32 64 q0.cons ≤ 2 ^ q0.log2 ∧
      wrapSub 32 64 q0.prod ≤ 2 ^ q0.log2 - wrapSub 32 q0.prod q0.cons ∧ q0.accepts 0 = true ∧ ¬wrapSub 32 65 q0.cons ≤ 2 ^ q0.log2) ∧
    (q0.direct 0 (List.replicate 64 (0 : Byte)) = some (List.replicate 64 0) ∧ q0.direct 64 (List.replicate 8 (0 : Byte)) = none ∧ 64 + 8 ≤ 256 ∧
      1 = wrapAdd 32 q0.prod (orWhenZero (wrapSub 16 ((q0.parse (List.replicate 64 0)).postIdx + (q0.parse (List.replicate 64 0)).slots) q0.prod) 65536) ∧
      q0.accepts 1 = true ∧ (((withWq attached q0).wr F.CMD_CTL_DP_EN 0).tally .cmd 1).on F.CMD_CTL_DP_EN = false) ∧
    (HostPosts objects ∧ wrapSub 32 cq0.written cq0.consumer < wrapSub 32 1 cq0.consumer ∧ wrapSub 32 0 cq0.consumer ≤ wrapSub 32 cq0.written cq0.consumer ∧
      ({ cq0 with written := 1 }).written ≠ 0 ∧ ¬(false = true ∧ cq0.irqEn = true ∧ cq0.written ≠ 0)) ∧
    (wrapSub 32 eq0.written eq0.consumer < wrapSub 32 1 eq0.consumer ∧ wrapSub 32 0 eq0.consumer ≤ wrapSub 32 eq0.written eq0.consumer) ∧
    (Reaches suspended (F.CMD_RESUME_NUMBER.addr 0 0) ∧ Tbl.get suspended.cqs (0, 1) = some { cq0 with state := .suspended } ∧
      Tbl.get suspended.eqs (0, 1) = some { eq0 with state := .suspended } ∧ Tbl.get suspended.cqs (0, 2) = none) ∧
    (cq0.irqEn = true ∧ ({ cq0 with armed := true, since := 1 }).since ≠ 0 ∧ cq0.modTime ≠ 0) ∧
    Reaches attached (F.CMD_TRIGk_COUNT.addr 0 511) ∧ Reaches attached (F.CMD_TRIG_ADD_COUNTER.addr 0 0) :=
  ⟨⟨host_posts (by decide +kernel), by decide +kernel⟩, by decide +kernel, ⟨host_posts (by decide +kernel), by decide +kernel⟩, by decide +kernel,
   ⟨reaches (by decide +kernel), by decide +kernel⟩, by decide +kernel, reaches (by decide +kernel), reaches (by decide +kernel)⟩

/-- A queue of function 0 whose next descriptor is in its cache, and that may admit. -/
def queued (recv : Bool) (d : Descr) : State :=
  { (((objects.wr F.BLK_CTL_EN 1 0x11).wr F.HIF_FN_STAT_BME 1 0).wr F.DEV_MEM_PLANn_SIZE 1 0 5) with
    wqs := [((0, 1), { q0 with recv := recv, list := 1, prod := 1, cache := [{ pos := 0, d := d }] })] }
def q1 (recv : Bool) (d : Descr) : Wq := { q0 with recv := recv, list := 1, prod := 1, cache := [{ pos := 0, d := d }] }

theorem witness_descriptors :
    (({ withRead (withWq attached { q0 with fetching := some 5 }) (done8 (.desc 0 1) []) with pending := [] } : State).runs = true ∧
      Tbl.get (withRead attached (failed8 (.desc 0 1))).reads 5 = some (failed8 (.desc 0 1)) ∧ (q0.parse (leBytes 64 0)).long = false ∧ q0.part = []) ∧
    attached.admissible 0 1 = none ∧ (queued false {}).admissible 0 1 = some (q1 false {}, { pos := 0, d := {} }) ∧
    (q1 false {}).check 0 { postIdx := 1 } = some (true, dtPostIdx) ∧ (q1 false {}).check 0 {} = none ∧ ((queued false {}).aimed (q1 false {}) {}).verb = vbNop ∧
    (q1 false {}).check2 {} = none ∧ (q1 false {}).lqp = 0 := by decide +kernel

/-! ## Segments, packets and pathways -/

def k0 : PwKey := { loc := 1, rem := 2, tc := 0, lqp := 0 }
def dataPkt : Pkt := { route := {}, body := .data { srcEpa := 2, dstEpa := 1 } [], tag := 0 }
def rx0 : RxPkt := { pkt := dataPkt, port := 0, vc := 0 }
def op0 : Op := { fn := 0, wq := 1, pos := 0, d := {} }
def withOp (o : Op) : State := { withWq objects q0 with ops := [(7, o)] }
def flight0 : InFlight := { owner := .op 7, pkt := dataPkt, slot := 0, first := 0, last := 0, timer := 3, giveup := 9 }
/-- A pathway with both states, one packet in flight. -/
def path0 (p : Pathway) : State := { withOp op0 with pws := [(k0, p)], inflight := [((k0, 0), flight0)] }
def both : Pathway := { snd := some {}, rcv := some { expect := 0, peerEpoch := 0, cause := some rx0 } }

theorem witness_segments :
    (3 < 4 ∧ ((ready 0x12).wr F.BLK_CTL_EN 1 0x18).runs = true ∧ ((ready 0x12).wr F.BLK_CTL_EN 1 0x18).serves .txe = true ∧
      ((ready 0x12).wr F.BLK_CTL_EN 1 0x18).serves .tmg = true ∧ ((ready 0x12).chooseEnt 3).2 = none) ∧
    (Tbl.get (withRead (withOp op0) (done8 (.payload 7 0) [])).reads 5 = some (done8 (.payload 7 0) []) ∧ Tbl.get (withOp op0).ops 7 = some op0 ∧ op0.fail = none) ∧
    (Tbl.get (path0 both).inflight (k0, 0) = some flight0 ∧ (failed8 (.retx k0 0)).result = some .failed) ∧
    Tbl.get ({ up0 with gets := [(4, { key := k0, rx := rx0 })] } : State).gets 4 = some { key := k0, rx := rx0 } := by decide +kernel

/-- A packet in the ejection buffer of a junction. -/
def ejected (s : State) (r : RxPkt) : State := { s with eject := [(15, [r])] }
/-- The security block serves, and time is locked. -/
def sealing : State := { (ready 5).wr F.SEC_STAT_TIME_LOCKED 1 with slots := [(0, { ten0 with curEpoch := 3, nextValid := true, nextEpoch := 4 }), (1, { ten0 with tnum := 8, mode := 1 })] }
def sealed (tref epoch time : Nat) : Pkt := { route := {}, body := .data { srcEpa := 2, dstEpa := 1, tref := tref, keyEpoch := epoch, time := time } [], tag := 0 }

theorem witness_ejected :
    (Tbl.getD (ejected sealing rx0).eject 15 [] = rx0 :: [] ∧ Pkt.forEndpoint rx0.pkt = true ∧
      [1, 2, 5].contains ((ejected sealing rx0).wr F.CRP_PWR_STAT_STATE 1 |>.rd F.CRP_PWR_STAT_STATE) = true) ∧
    ([1, 2, 5].contains ((ejected sealing rx0).rd F.CRP_PWR_STAT_STATE) = false ∧ sealing.shutdown = false ∧ sealing.serves .sec = true ∧
      sealing.fenced Block.sec.page = false ∧ sealing.fenced Block.col.page = false) ∧
    sealing.verify (sealed 7 3 0) = .accept 0 ∧ sealing.verify (sealed 7 4 0) = .accept 0 ∧ (sealing.tollgate rx0).2 = some rx0 ∧
    (ready 5).verify (sealed 7 3 0) = .notLocked ∧
    sealing.verify (sealed 9 3 0) = .unknownTenancy ∧ sealing.verify (sealed 0xFFFF 3 0) = .unknownTenancy ∧ sealing.verify (sealed 7 5 0) = .staleEpoch ∧
    sealing.verify (sealed 7 3 (2 ^ 63)) = .notFresh ∧ Body.seal (sealed 7 3 0).body = (0, 7, 3, 0, 0) ∧
    sealing.slots.find? (fun e => e.2.tnum == 7) = some (0, { ten0 with curEpoch := 3, nextValid := true, nextEpoch := 4 }) := by decide +kernel

/-- Some packet of a slot that is not open has a bad tag, and some a good one. -/
theorem witness_tag (k iv m : Nat) (b : Body) : (∃ p : Pkt, p.body = b ∧ p.tag = Config.gcmTag k iv m b) ∧ ∃ p : Pkt, p.body = b ∧ p.tag ≠ Config.gcmTag k iv m b :=
  ⟨⟨⟨{}, b, _⟩, rfl, rfl⟩, ⟨{}, b, Config.gcmTag k iv m b + 1⟩, rfl, Nat.succ_ne_self _⟩

def arrived (b : Body) : State := { (path0 both).wr F.BLK_CTL_EN 1 0x14 with rx := [{ rx0 with pkt := { rx0.pkt with body := b } }] }

theorem witness_received :
    (((path0 both).wr F.BLK_CTL_EN 1 0x14).runs = true ∧ ((path0 both).wr F.BLK_CTL_EN 1 0x14).serves .pwy = true ∧
      takeRx (fun r => r.isKind 0) (path0 both).rx = none) ∧
    (takeRx (fun r => r.isKind 0) (arrived rx0.pkt.body).rx = some (rx0, []) ∧ rx0.hdr.ver = 1 ∧ rx0.hdr.rsvZero = true ∧ rx0.hdr.payloadLen ≤ 4096 ∧
      rx0.hdr.payloadLen = (payloadOf rx0.pkt).length ∧ rx0.hdr.lqp = false ∧ Tbl.get (arrived rx0.pkt.body).pws (rxKey rx0.hdr) = some both ∧
      (arrived rx0.pkt.body).closed (rxKey rx0.hdr) = false ∧ both.state = .cached) ∧
    ((takeRx (fun r => r.isKind 1) (arrived (.ack { srcEpa := 2, dstEpa := 1 })).rx).isSome = true ∧ (path0 both).replyKey 1 2 0 0 = k0) ∧
    (takeRx (fun r => r.isKind 2) (arrived (.notice { srcEpa := 2, dstEpa := 1 })).rx).isSome = true ∧
    ((withRead up0 (done8 (.flush 0) [])).reads.find? (fun e => e.2.use == .flush 0 && e.2.result.isSome) = some (5, done8 (.flush 0) [])) ∧
    ({ op0 with contAt := some (3, 8), d := { verb := 2, length := 64 } }.ended = none ∧ 8 < { op0 with contAt := some (3, 8), d := { verb := 2, length := 64 } }.wanted) ∧
    { op0 with deadline := some 3, d := { verb := 5 }, acked := true }.d.verb = vbFetch ∧ { op0 with deadline := some 3, d := { verb := 5 }, acked := true }.value = none := by
  decide +kernel

theorem witness_pathways :
    ((path0 both).runs = true ∧ (path0 both).rcv k0 = both.rcv ∧ (both.rcv.bind Rcv.cause) = some rx0) ∧
    (Tbl.get (path0 both).inflight (k0, 0) = some flight0 ∧ flight0.waiting = false ∧ flight0.reading = none ∧ ((path0 both).reach flight0.timer).now < flight0.giveup ∧
      { both with state := .stored }.state ≠ .cached ∧ flight0.cand = none ∧ (path0 both).walkWaits (.retx k0 0) = false) ∧
    ((path0 both).snd k0 = some {} ∧ Tbl.get (path0 both).pws k0 = some both ∧ { both with state := .recalling }.state = .recalling ∧ (path0 both).memFenced = false) ∧
    (({ expect := 0, peerEpoch := 0 } : Rcv).held = [] ∧ ({} : Snd).una = ({} : Snd).next ∧ ({ up0 with pws := [(k0, both)] } : State).chosenCharges k0 = [] ∧
      ({ up0 with pws := [(k0, both)] } : State).awaits k0 = false ∧ ({ up0 with pws := [(k0, both)] } : State).recalling k0 = false) ∧
    { both with closedAt := some 3 }.closedAt = some 3 ∧ ({ up0 with forgetOld := some (1, 2) } : State).forgetOld = some (1, 2) ∧
    Tbl.get (withRead ({ up0 with lqps := [(3, { lqp1 with fetching := some 5 })] }) (done8 (.lqp 3) [])).lqps 3 = some { lqp1 with fetching := some 5 } := by decide +kernel

def unexp0 : Unexp := { fn := 0, list := 1, seq := 0, key := k0, tag := 0, ctx := 0, bits := 0, src := 0, len := 8, rdv := false, slot := 0 }

theorem witness_receives :
    (Tbl.get (withOp op0).ops 7 = some op0 ∧ Tbl.get (withOp op0).lists (0, 1) = some list0 ∧ ((withOp op0).tally .mtc 1 1 (1 % 2)).lqpRecv op0 = false ∧
      ((withOp op0).tally .mtc 1 1 (1 % 2)).findUnexp 0 1 op0.d = none ∧
      ({ withOp op0 with unexp := [unexp0] } : State).findUnexp 0 1 op0.d = some unexp0) ∧
    (queued true { verb := 0x40 }).admissible 0 1 = some (q1 true { verb := 0x40 }, { pos := 0, d := { verb := 0x40 } }) ∧
    (q1 true { verb := 0x41 }).check 0 { verb := 0x41 } = none ∧ (queued true { verb := 0x40 }).tenancyFail (q1 true {}) 0 = none ∧
    ((queued true {}).takeSlot 0 1 (q1 true {}) { pos := 0, d := {} } {} false).1.fenced Block.mtc.page = false ∧
    (queued true {}).posted.length < (queued true {}).storeCap := by decide +kernel

def copy0 : Copy := { op := 7, list := 1, parts := [], blocks := 0, fault := some (0, 2) }
def rec0 : MRec := { fn := 0, list := 1, len := 8, op := some 7 }
def soft : State := { (objects.wr F.DEV_MEM_PLANn_SIZE 16 0 5).wr F.DEV_MEM_PLANn_SIZE 16 0 6 with lists := [((0, 1), { list0 with ready := false })] }

theorem witness_messages :
    (Tbl.get ({ withOp op0 with copies := [(2, copy0)] } : State).copies 2 = some copy0 ∧
      (({ withOp op0 with now := 2 ^ 62 } : State).rd F.PWY_TIMERS_GIVEUP) * 1000 ≤ 2 ^ 62 ∧
      (up0.reach copy0.retryAt).now < 0 + 1000 * up0.rd F.PWY_TIMERS_GIVEUP) ∧
    ({ op0 with d := { verb := 3 }, deadline := some 3 }.d.verb = vbSend ∧ { op0 with d := { verb := 3 }, deadline := some 3 }.pulled = none ∧
      { op0 with pulled := some 4 }.pulled ≠ none ∧ { op0 with localFault := 2 }.localFault ≠ 0) ∧
    (Tbl.get ({ up0 with recs := [((k0, 0), rec0)] } : State).recs (k0, 0) = some rec0 ∧ rec0.rdv = false ∧ rec0.whole = false ∧ rec0.fault = 0 ∧ { rec0 with fault := 2 }.fault ≠ 0 ∧
      ({ up0 with recs := [((k0, 0), { rec0 with op := none, stored := true })], unexp := [unexp0] } : State).unexpOfMsg k0 0 = some unexp0) ∧
    (Tbl.get soft.lists (0, 1) = some { list0 with ready := false } ∧ soft.rd F.MTC_CTL_RESUME_FREE * 1024 ≤ soft.freeHeaders ∧ soft.hdrQuota 0 = false ∧
      soft.poolQuota 0 = false) ∧
    (wrapSub 32 16 (attached.rd F.MTC_OVF_HEAD_HEAD 0) ≤ attached.ovfSize 0 ∧ ¬wrapSub 32 (2 ^ 32 - 1) (attached.rd F.MTC_OVF_HEAD_HEAD 0) ≤ attached.ovfSize 0) := by
  decide +kernel

theorem witness_ovf : Reaches attached (F.MTC_OVF_TAIL_TAIL.addr 0 0) ∧ mayWindow 4 0 = true := ⟨reaches (by decide +kernel), by decide +kernel⟩

/-! ## Convoys and atomics -/

def cfg0 : CvCfg := { altPresent := true, eqEn := false, fns := 3, maxRounds := 4, stage := 4, slot := 0, owner := 0, eq := 0, participants := 2,
                      pri := { parent := some 1, children := [2] }, onAlt := true, alt := { parent := some 3, children := [] } }
def cv0 : CvSlot := { cfg := cfg0, rounds := [(1, { openedAt := 0, timerAt := some 5, state := .down })] }
/-- A barrier contribution of function 0 to round 0 of slot 0. -/
def opCv : Op := { op0 with d := { verb := 7 } }
def convoyed (c : CvSlot) (o : Op) : State := { (withOp o).wr F.HIF_FN_STAT_BME 1 0 with convoys := [(0, c)] }

theorem witness_contributions :
    (Tbl.get (convoyed cv0 opCv).ops 7 = some opCv ∧ opCv.d.verb = vbConvoy ∧ opCv.recv = false ∧ (convoyed cv0 opCv).turn 7 opCv = true ∧ (convoyed cv0 opCv).busHeld 0 = false ∧
      cvSlotOf opCv.d = 0 ∧ cvRoundOf opCv.d = 0 ∧ (convoyed cv0 opCv).fenced Block.col.page = false ∧ Tbl.get (withOp opCv).convoys 0 = none) ∧
    (bitOf { cfg0 with fns := 2 }.fns 0 = false ∧ bitOf cfg0.fns 0 = true ∧ ({ convoyed cv0 opCv with slots := [] } : State).member 0 0 = false ∧
      (convoyed cv0 opCv).member 0 0 = true ∧ { cv0 with state := 3 }.state = 3 ∧ { cv0 with wbase := 1 }.below 0 = true ∧ cv0.below 4 = false ∧
      cv0.inWindow 4 = false ∧ cv0.inWindow 3 = true) ∧
    (cvValid (cvParams opCv.d) (cvLocal 0 7 opCv.d) opCv.d 2 = true ∧ cv0.need (cvParams opCv.d) ≤ cfg0.stage ∧ (convoyed cv0 opCv).cvRound 0 0 = none ∧
      (((((convoyed cv0 opCv).modOp 7 fun o => { o with phase := .sent, round := some 0 }).cvOpen 0 0).modRound 0 0 fun x =>
        { x with locals := x.locals ++ [cvLocal 0 7 opCv.d] }).cvAgree 0 0 (cvParams opCv.d)).2 = true ∧ (cvParams opCv.d).operation = 0) ∧
    (Tbl.get (withRead (withOp opCv) (done8 (.contribution 7) [])).reads 5 = some (done8 (.contribution 7) []) ∧ opCv.ended = none) ∧
    ({ opCv with readFault := some (0, 2) }.readFault = some (0, 2) ∧ opCv.reading = none ∧ up0.now < 0 + 1000 * up0.rd F.PWY_TIMERS_GIVEUP ∧
      0 + 1000 * up0.rd F.PWY_TIMERS_GIVEUP ≤ ({ up0 with now := 2 ^ 62 } : State).now) := by decide +kernel

/-- A convoy packet of a kind that arrived on a port, and the slot it is for. -/
def cvPkt (kind port : Nat) : RxPkt := { pkt := { route := {}, body := .convoy { ckind := kind } [], tag := 0 }, port := port, vc := 0 }
def cvState (c : CvSlot) (r : RxPkt) : State := { objects with convoys := [(0, c)], rx := [r] }

/-- What holds with nothing left to receive and the slot of the tests holds with some rest and some slot. -/
theorem cv_at0 {p : List RxPkt → CvSlot → Prop} (h : p [] cv0) : ∃ rest c0, p rest c0 := ⟨[], cv0, h⟩

theorem witness_children :
    (cvState cv0 (cvPkt 1 2)).convoyPacket 1 false ({ cvState cv0 (cvPkt 1 2) with rx := [] }) cv0 (cvPkt 1 2) ∧ cv0.inWindow 0 = true ∧
    (cvState cv0 (cvPkt 3 2)).convoyPacket 3 false ({ cvState cv0 (cvPkt 3 2) with rx := [] }) cv0 (cvPkt 3 2) ∧
    (cvState cv0 (cvPkt 5 2)).convoyPacket 5 false ({ cvState cv0 (cvPkt 5 2) with rx := [] }) cv0 (cvPkt 5 2) ∧
    (cvState cv0 (cvPkt 7 2)).convoyPacket 7 false ({ cvState cv0 (cvPkt 7 2) with rx := [] }) cv0 (cvPkt 7 2) ∧
    { cv0 with wbase := 1 }.inWindow 0 = false ∧ { cv0 with wbase := 1 }.below 0 = true ∧ cv0.root = false ∧
    { cv0 with cfg := { cfg0 with pri := { children := [2] } } }.root = true :=
  ⟨cv_at0 (by decide +kernel), by decide +kernel, cv_at0 (by decide +kernel), cv_at0 (by decide +kernel), cv_at0 (by decide +kernel), by decide +kernel⟩

theorem witness_parent :
    (cvState cv0 (cvPkt 2 1)).convoyPacket 2 true (({ cvState cv0 (cvPkt 2 1) with rx := [] } : State).modCv 0 fun c => c.rebase 0) (cv0.rebase 0) (cvPkt 2 1) ∧
    (cvState cv0 (cvPkt 8 1)).convoyPacket 8 true (({ cvState cv0 (cvPkt 8 1) with rx := [] } : State).modCv 0 fun c => c.rebase 0) (cv0.rebase 0) (cvPkt 8 1) ∧
    (cvState cv0 (cvPkt 4 1)).convoyPacket 4 true (({ cvState cv0 (cvPkt 4 1) with rx := [] } : State).modCv 0 fun c => c.rebase 0) (cv0.rebase 0) (cvPkt 4 1) ∧
    (cvState cv0 (cvPkt 9 1)).convoyPacket 9 true (({ cvState cv0 (cvPkt 9 1) with rx := [] } : State).modCv 0 fun c => c.rebase 0) (cv0.rebase 0) (cvPkt 9 1) ∧
    (cvState cv0 (cvPkt 10 2)).convoyPacket 10 false ({ cvState cv0 (cvPkt 10 2) with rx := [] }) cv0 (cvPkt 10 2) ∧
    (takeRx (fun r => r.isCv 6) (cvState cv0 (cvPkt 6 3)).rx = some (cvPkt 6 3, []) ∧ cfg0.onAlt = true ∧ cfg0.alt.parent = some (cvPkt 6 3).port) ∧
    ({ cvPkt 6 3 with pkt := { route := {}, body := .convoy { ckind := 6, alt := true } [], tag := 0 } }).cv.alt = true :=
  ⟨cv_at0 (by decide +kernel), cv_at0 (by decide +kernel), cv_at0 (by decide +kernel), cv_at0 (by decide +kernel), cv_at0 (by decide +kernel),
   by decide +kernel⟩

theorem witness_convoyTimers :
    ((convoyed cv0 opCv).cvRound 0 1 = some { openedAt := 0, timerAt := some 5, state := .down }) ∧
    (({ openedAt := 0 } : CvRound).waited = false ∧ ({ openedAt := 0 } : CvRound).live = true ∧ (up0.wr F.COL_CTL_WAIT_TMO_MS 1).rd F.COL_CTL_WAIT_TMO_MS ≠ 0) ∧
    (({ cv0 with windowDue := some 9 } : CvSlot).windowDue = some 9) ∧
    ({ up0 with cvWrites := [{ slot := 0, round := 1, fn := 0, op := 7, iova := 0, data := [], fault := some (0, 2) }] } : State).cvWrites.find?
      (fun w => w.slot == 0 && w.round == 1 && w.fault.isSome) = some { slot := 0, round := 1, fn := 0, op := 7, iova := 0, data := [], fault := some (0, 2) } := by
  decide +kernel

def sem (k holder : Nat) (w : List SemWait) : State := { (up0.wr F.ATM_SEM_STATk_HELD 1 0 k).wr F.ATM_SEM_STATk_HOLDER holder 0 k with semQ := [(k, w)] }

theorem witness_semaphores :
    (Reaches up0 (F.ATM_SEM_ACQk_GRANTED.addr 3 255) ∧ Reaches up0 (F.ATM_SEM_TRYk_VALUE.addr 3 255)) ∧
    (mayWindow 4 3 = true ∧ up0.fenced Block.atm.page = false ∧ (up0.tally .atm 4).semWaits 255 = [] ∧ (up0.tally .atm 4).on F.ATM_SEM_STATk_HELD 0 255 = false ∧
      (up0.tally .atm 4).on F.ATM_SEM_STATk_BROKEN 0 255 = false ∧ (up0.wr F.ATM_SEM_STATk_BROKEN 1 0 255).on F.ATM_SEM_STATk_BROKEN 0 255 = true) ∧
    ((sem 255 4 []).rd F.ATM_SEM_STATk_HOLDER 0 255 = 4 ∧ (sem 255 1 []).rd F.ATM_SEM_STATk_HOLDER 0 255 ≠ 4 ∧ (sem 255 1 []).on F.ATM_SEM_STATk_HELD 0 255 = true) ∧
    ((sem 255 4 [{ master := 4, held := true }]).semWaits 255).find? (fun w => w.master == 4) = some { master := 4, held := true } :=
  ⟨⟨reaches (by decide +kernel), reaches (by decide +kernel)⟩, by decide +kernel⟩

theorem witness_semaphorePassed :
    (Reaches (sem 0 4 []) (F.ATM_SEM_RELk_REL.addr 0 0) ∧ Reaches (sem 0 1 []) (F.ATM_SEM_FORCE_GO.addr 0 0)) ∧
    ((sem 0 4 []).on F.ATM_SEM_STATk_HELD 0 0 = true ∧ (sem 0 4 []).rd F.ATM_SEM_STATk_HOLDER 0 0 = 4 ∧ (sem 0 1 []).rd F.ATM_SEM_STATk_HOLDER 0 0 ≠ 4 ∧
      up0.on F.ATM_SEM_STATk_HELD 0 0 = false) ∧
    (((sem 0 1 [{ master := 4, reads := [0], keep := some 3 }]).semWaits 0).find? (fun w => w.master == 4) = some { master := 4, reads := [0], keep := some 3 } ∧
      (up0.wr F.ATM_CTL_SEM_KEEP_US 0).rd F.ATM_CTL_SEM_KEEP_US = 0 ∧ (up0.wr F.ATM_CTL_SEM_KEEP_US 7).rd F.ATM_CTL_SEM_KEEP_US ≠ 0) ∧
    up0.semWaits 0 = [] ∧ up0.on F.ATM_SEM_STATk_BROKEN 0 0 = false :=
  ⟨⟨reaches (by decide +kernel), reaches (by decide +kernel)⟩, by decide +kernel⟩

def lock0 : Lock := { holder := some { epa := 1, key := k0, slot := 0, tag := 0, lease := 0, rkey := 0, remote := 0 }, leaseEnd := some 9 }
def locked (l : Lock) : State := { up0 with locks := [(64, l)] }
def opLock : Op := { op0 with d := { verb := 8, operand0 := 5 }, phase := .sent }

theorem witness_locks :
    (Tbl.get ({ withRead up0 (done8 (.atomic 2) (leBytes 8 0)) with atomics := [(2, { key := k0, rx := rx0, fn := 0, addr := 0, width := 8 })] } : State).atomics 2 =
      some { key := k0, rx := rx0, fn := 0, addr := 0, width := 8 } ∧ (ready 0x14).runs = true ∧ (ready 0x14).serves .pwy = true) ∧
    (opLock.d.verb = vbLock ∧ opLock.recv = false ∧ opLock.ended = none ∧ opLock.value = none ∧ opLock.phase = .sent ∧ opLock.d.operand0 % 2 ^ 32 ≠ 0) ∧
    (Tbl.get (locked lock0).locks 64 = some lock0 ∧ lock0.leaseEnd = some 9 ∧ lock0.waiters = []) ∧ Tbl.get (locked {}).locks 64 = some {} := by decide +kernel

theorem witness_lockForce : Reaches (locked lock0) (F.ATM_LOCK_FORCE_GO.addr 0 0) := reaches (by decide +kernel)

/-! ## Routing, ports and lanes -/

def onPort (s : State) (p : Nat) (q : PortSt) : State := { s with ports := [(p, q)] }
/-- A packet in the buffer of a port, its hops not consumed, or consumed. -/
def buf1 (ptr : Nat) (vc : Nat) : BufPkt := { pkt := { dataPkt with route := { hops := 1, hopPtr := ptr, dstDid := 5, ms := [⟨9, 0, 0⟩] } }, len := 64, vc := vc }
/-- A packet whose next milestone falls to a lower VC. -/
def buf2 : BufPkt := { pkt := { dataPkt with route := { hops := 2, hopPtr := 1, dstDid := 5, ms := [⟨8, 1, 0⟩, ⟨9, 0, 0⟩] } }, len := 64, vc := 0 }
def up (p : Nat) : State := up0.wr F.LNK_STAT_STATE 3 p

theorem witness_transit :
    (127 < 128 ∧ takeFirst (fun b => b.vc == 8 && b.out == none) ((onPort up0 127 { buf := [buf1 0 8] }).port 127).buf = some (buf1 0 8, []) ∧
      (onPort up0 127 { buf := [buf1 0 8] }).fenced (0x20 + 15) = false ∧ (buf1 0 8).pkt.route.hops ≤ 10 ∧ (buf1 0 8).pkt.route.ms.length = 1 ∧
      (buf1 0 8).pkt.route.ms[0]? = some ⟨9, 0, 0⟩ ∧ ((onPort up0 127 {}).configured 9 = false ∨ (onPort up0 127 {}).portState 9 ≠ 3)) ∧
    ((buf1 1 0).pkt.route.hopPtr = (buf1 1 0).pkt.route.hops ∧ (buf1 1 0).pkt.route.dstDid ≠ up0.did ∧ (up0.wr F.DEV_DID_DID 5).did = 5 ∧
      (onPort up0 0 {}).ejectBytes 0 + 64 ≤ 65536) ∧
    ((up0.deadOutput 9).isSome = true ∧ ((up0.wr F.RTB_CTL_TRANSIT_CHECK 1).transitCheck buf2).isSome = true ∧ buf2.pkt.route.ms[1]? = some ⟨9, 0, 0⟩) ∧
    ((up 9).portState 9 = 3 ∧ (earliest ((onPort (up 9) 0 { buf := [{ buf1 0 8 with out := some (9, 8, 0) }] }).waiting 9)).isSome = true ∧
      up0.nextVc 9 4 (up0.port 9).rrE = none ∧ up0.nextVc 9 0 (up0.port 9).rrG = none ∧ up0.portState 9 ≠ 3) ∧
    (Tbl.getD (ejected up0 rx0).eject 15 [] = rx0 :: [] ∧ ((onPort up0 9 { graceEnd := some 4 }).port 9).graceEnd = some 4 ∧
      ((onPort up0 9 { graceEnd := some 4 }).reach 4).waiting 9 = []) := by decide +kernel

theorem witness_roadBook :
    (Reaches up0 0x198000 ∧ Reaches (up0.wr F.SHADOW_STAT_BUSY 1 0x19) 0x19FFF8) ∧
    (isWin 0x198000 = true ∧ isWin 0x19FFF8 = true ∧ goodAccess 0x19FFF8 8 = true ∧ (up0.wr F.SHADOW_STAT_BUSY 1 0x19).on F.SHADOW_STAT_BUSY 0x19 = true ∧
      ((up0.wr F.DEV_MEM_PLANn_SIZE 2 0 3).winAddr 0x8000).isSome = true ∧ (up0.wr F.DEV_MEM_PLANn_SIZE 2 0 3).memDenied .mgt 0 = false ∧
      ((up0.wr F.DEV_MEM_PLANn_SIZE 2 0 3).wr F.ARB_FENCED_FENCED 1024 0xE0).memDenied .mgt 0 = true ∧
      ((up0.wr F.DEV_MEM_PLANn_SIZE 2 0 3).winAddr 0x8000).map (fun k => (up0.wr F.DEV_MEM_PLANn_SIZE 2 0 3).memBarred .rtb k 8 true) = some false ∧
      takeRx (fun r => r.isKind 3) ({ ready 0x19 with rx := [{ rx0 with pkt := { dataPkt with body := .pathFault {} } }] } : State).rx =
        some ({ rx0 with pkt := { dataPkt with body := .pathFault {} } }, []) ∧ (ready 0x19).serves .rtb = true ∧
      ({ up0 with quars := [⟨[1], 9⟩] } : State).quars = ⟨[1], 9⟩ :: []) ∧
    (Reaches up0 (F.RTB_QUAR_CLR_CLR.addr 0 0) ∧ Reaches up0 (F.TMG_TG_SEL_SLOT.addr 0 0) ∧ Reaches up0 (F.TMG_TG_ACT_EN.addr 0 0)) ∧
    (4095 < 4096 ∧ bitOf 1 0 = true ∧ up0.rd F.TMG_TG_CIR_CBS < 4176 ∧
      ((up0.wr F.TMG_TG_CIR_CBS 4176).wr F.TMG_TG_PIR_PBS 4176).rd F.TMG_TG_CIR_CIR ≤ ((up0.wr F.TMG_TG_CIR_CBS 4176).wr F.TMG_TG_PIR_PBS 4176).rd F.TMG_TG_PIR_PIR ∧
      4176 ≤ ((up0.wr F.TMG_TG_CIR_CBS 4176).wr F.TMG_TG_PIR_PBS 4176).rd F.TMG_TG_CIR_CBS ∧
      4176 ≤ ((up0.wr F.TMG_TG_CIR_CBS 4176).wr F.TMG_TG_PIR_PBS 4176).rd F.TMG_TG_PIR_PBS) :=
  ⟨⟨reaches (by decide +kernel), reaches (by decide +kernel)⟩, by decide +kernel,
   ⟨reaches (by decide +kernel), reaches (by decide +kernel), reaches (by decide +kernel)⟩, by decide +kernel⟩

/-- A road book in the compact mode whose candidate 0 for device 0 is one hop through port 0. -/
def booked : State := { (up0.wr F.RTB_CTL_MODE 1).wr F.DEV_MEM_PLANn_SIZE 2 0 3 with mem := [(15, 0x11)] }

theorem witness_pathFault : booked.compose 0 0 0 = .route [⟨0, 0, 0⟩] 1 ∧ 0 = booked.bgen ∧ [(⟨0, 0, 0⟩ : Milestone)].length = 1 ∧
    ([(⟨0, 0, 0⟩ : Milestone)][0]?.map Milestone.port) = some 0 ∧ 1 ≠ booked.bgen ∧ (up 8).deadOutput 8 = none := by decide +kernel

/-- A flit built for sending checks; one with another CRC does not. -/
theorem witness_crc (f : Flit) : Flit.crcOk (Flit.signed f) = true ∧ Flit.crcOk { Flit.signed f with crc := (Flit.signed f).crc + 1 } = false :=
  ⟨beq_self_eq_true _, beq_false_of_ne (Nat.succ_ne_self _).symm⟩

theorem witness_flits :
    (127 < 128 ∧ 2 ≤ (up 127).portState 127 ∧ (up 127).portState 127 ≤ 4 ∧ Flit.room {} = 308 ∧
      ((up 127).port 127).rxHalf = none ∧ (up 127).rd F.LNK_STAT_FEC_ACTIVE 127 = 0 ∧ ((up 127).wr F.LNK_STAT_FEC_ACTIVE 1 127).rd F.LNK_STAT_FEC_ACTIVE 127 ≠ 0 ∧
      7 < [4, 4].sum ∧ [3, 4].sum ≤ 7 ∧ 15 < [16].sum ∧ [15].sum ≤ 15 ∧ ctlOf (beBytes 1 8 ++ beBytes 15 0) = none ∧ ctlOf (Ctl.bytes .drain) = some .drain) ∧
    (((up 127).port 127).last = 4095 ∧ wrapSub 12 0 (wrapAdd 12 4095 1) = 0 ∧ 2048 ≤ wrapSub 12 4095 (wrapAdd 12 4095 1) ∧
      wrapSub 12 1 (wrapAdd 12 4095 1) ≠ 0 ∧ wrapSub 12 2047 (wrapAdd 12 4095 1) < 2048) ∧
    ((up 127).port 127).nakArmed = true ∧ ((onPort (up 0) 0 { una := 1, next := 2 }).port 0).una ≠ ((onPort (up 0) 0 { una := 1, next := 2 }).port 0).next := by
  decide +kernel

theorem witness_credits :
    (((onPort (up 0) 0 { changed := [(8, 3)] }).port 0).changed.find? (fun c => c.1 == 8) = some (8, 3) ∧ (up 0).portState 0 = 3) ∧
    ((up 0).rd F.LNK_CREDIT_CTL_AUDIT_US 0 ≠ 0 ∧ ((up 0).port 0).due = false ∧ ((onPort (up 0) 0 { due := true }).port 0).due = true ∧
      (up 0).on F.LNK_CTL_HOLD_RETRAIN 0 = false ∧ ((up 0).wr F.LNK_CTL_HOLD_RETRAIN 1 0).on F.LNK_CTL_HOLD_RETRAIN 0 = true) ∧
    (up 0).rd F.LNK_TIME_CTL_PERIOD_US 0 ≠ 0 := by decide +kernel

def linkIn (st : Nat) : State := up0.wr F.LNK_STAT_STATE st 0

theorem witness_links :
    (Reaches (up 0) (F.LNK_CTL_RETRAIN.addr 0 0) ∧ Reaches up0 (F.LNK_CTL_EN.addr 127 0)) ∧
    ((up 0).on F.LNK_STAT_RETRAIN_DUE 0 = false ∧ ((up 0).wr F.LNK_STAT_RETRAIN_DUE 1 0).on F.LNK_STAT_RETRAIN_DUE 0 = true ∧ up0.portState 0 ≠ 3 ∧
      (up0.wr F.LNK_CTL_EN 1 0).portState 0 = 0 ∧ up0.configured 0 = true ∧ up0.portFenced 0 = false) ∧
    ((linkIn 1).portState 0 = 1 ∧ ((onPort (linkIn 1) 0 { chosen := true, set := [0] }).port 0).set ≠ [] ∧
      (((onPort (linkIn 1) 0 { chosen := true, set := [0] }).wr F.LAN_LANE_STATl_STATE 5 0 0).laneState 0 0 = 5) ∧
      ((linkIn 1).port 0).rsvNext = none ∧ ((onPort (linkIn 1) 0 { rsvNext := some [] }).port 0).rsvNext = some [] ∧
      (((onPort (linkIn 1) 0 { rsvNext := some [] }).applyRsv 0).port 0).rsvNext = none ∧
      ((onPort (linkIn 1) 0 { buf := [buf1 0 0] }).port 0).buf ≠ []) ∧
    (linkIn 2).portState 0 = 2 ∧ ((linkIn 4).reach 7).portState 0 = 4 :=
  ⟨⟨reaches (by decide +kernel), reaches (by decide +kernel)⟩, by decide +kernel⟩

def laneIn (st : Nat) : State := up0.wr F.LAN_LANE_STATl_STATE st 0 0
/-- A group of four ports of one lane. -/
def split : State := (laneIn 4).wr F.LAN_CFG_SPLIT 2 0

theorem witness_lanes :
    ((laneIn 2).laneState 0 0 = 2 ∧ (laneIn 3).laneState 0 0 = 3 ∧ 3 ≤ (laneIn 3).laneState 0 0 ∧ (laneIn 5).laneState 0 0 ≤ 5 ∧
      (laneIn 2).on F.LAN_LANE_STATl_SIGNAL 0 0 = false) ∧
    (split.laneState 0 0 = 4 ∧ (split.wr F.LAN_LANE_STATl_PEER_RX_READY 1 0 0).portOfLane 0 0 = some (0, 0) ∧
      (split.wr F.LAN_LANE_STATl_PEER_RX_READY 1 0 0).portLanes 0 = some [0] ∧ 1 ≠ 0 ∧ 60000 < 60001 ∧ 60000 ≤ 60000) ∧
    ((linkIn 1).portState 0 = 1 ∧ ((linkIn 1).port 0).chosen = false ∧ (linkIn 2).portState 0 = 2 ∧ (up 0).portState 0 = 3 ∧
      ((up 0).err 0x40 7 {}).portState 0 = 3) := by decide +kernel

theorem witness_laneTests :
    (Reaches up0 (F.LAN_TESTl_GEN.addr 31 3) ∧ Reaches up0 (F.LAN_INJECTl_GO.addr 31 3) ∧ Reaches up0 (F.LAN_MARGINl_START.addr 31 3) ∧
      Reaches up0 (F.LAN_LANE_CTLl_FENCE.addr 31 3)) ∧
    (bitsOf 0 0 3 = 0 ∧ bitsOf 0 4 3 = 0 ∧ bitsOf 0 8 2 = 0 ∧ (laneIn 6).laneState 0 0 = 6 ∧ (laneIn 6).laneFenced 0 0 = false ∧
      ¬(bitsOf 1 0 3 = 0 ∧ bitsOf 1 4 3 = 0 ∧ bitsOf 1 8 2 = 0) ∧ 1 < (laneIn 2).laneState 0 0 ∧ (laneIn 1).laneState 0 0 ≤ 1 ∧ bitsOf 1 0 3 ≠ 7) ∧
    ((up0.wr F.LAN_INJECTl_MODE 1 0 0).rd F.LAN_INJECTl_MODE 0 0 = 1 ∧ (up0.wr F.LAN_INJECTl_MODE 2 0 0).rd F.LAN_INJECTl_MODE 0 0 = 2) ∧
    (((laneIn 5).wr F.LAN_MARGINl_BUSY 1 0 0).on F.LAN_MARGINl_BUSY 0 0 = true ∧ (laneIn 5).on F.LAN_MARGINl_BUSY 0 0 = false ∧ (laneIn 4).laneState 0 0 ≠ 5 ∧
      (laneIn 4).laneState 0 0 ≠ 6 ∧ (((laneIn 5).wr F.LAN_MARGINl_BUSY 1 0 0).wr F.LAN_MARGINl_BUSY 0 0 0).laneState 0 0 = 5) ∧
    ((laneIn 5).rd F.LAN_CFG_RATE 0 ≠ 3 ∧ ((laneIn 6).wr F.LAN_TESTl_CHK 1 0 0).on F.LAN_TESTl_CHK 0 0 = true ∧ bitOf (up0.units 0xDF) 3 = false) :=
  ⟨⟨reaches (by decide +kernel), reaches (by decide +kernel), reaches (by decide +kernel), reaches (by decide +kernel)⟩, by decide +kernel⟩

/-! ## Keys, memory and the management core -/

def cmd1 (op : Nat) : KeyCmd :=
  { op := op, slot := 0, next := false, tnum := 0, epoch := 0, mode := 0, requireIde := false, target := 0, time := 0, blob := [] }
def slotted (t : TenSlot) : State := { up0 with slots := [(0, t)] }

theorem witness_keys :
    Reaches up0 (F.SEC_CMD_OP.addr 0 0) ∧ (4095 < 4096 ∧ up0.secCmd = none ∧ ({ up0 with secCmd := some (cmd1 1) } : State).secCmd = some (cmd1 1) ∧
      up0.runs = true ∧ Tbl.get (slotted ten0).slots (cmd1 5).slot = some ten0 ∧ (slotted { ten0 with nextValid := true }).activeSlot 0 =
        some { ten0 with nextValid := true } ∧ up0.on F.SEC_STAT_DEBUG_UNLOCKED = false ∧ up0.fuses.openAllowed = false) :=
  ⟨reaches (by decide +kernel), by decide +kernel⟩

theorem witness_rolls :
    ({ ten0 with rollAt := 5, nextValid := true }.rollAt ≠ 0 ∧ { ten0 with rollAt := 5, nextValid := true }.rolled = false ∧ { ten0 with rolled := true }.rolled = true ∧
      47 < 48) ∧ (up0.dbgNonce ≠ some 0 ∧ ({ up0 with dbgNonce := some 0 } : State).dbgNonce = some 0 ∧ 0 = up0.fuses.serial) ∧
    (up0.arrives (.i3c false false) = true ∧ up0.recovering = false) := by decide +kernel

/-- A token that the check takes, where there is one, opens: the hypotheses on the token ask for nothing else. -/
theorem witness_token (serial nonce : Nat) (sig : List Byte) (h : Config.debugToken 1 serial nonce sig = true) :
    ({ up0 with dbgNonce := some nonce, fuses := { up0.fuses with serial := serial } } : State).dbgNonce = some nonce ∧
    serial = ({ up0 with dbgNonce := some nonce, fuses := { up0.fuses with serial := serial } } : State).fuses.serial ∧
    Config.debugToken 1 serial nonce sig = true := ⟨rfl, rfl, h⟩

/-- Two memory controllers that serve, and the commons at 0. -/
def memory : State := ((ready 0xE0).wr F.DEV_MEM_PLANn_SIZE 1 0 8).wr F.MEM_SCRUB_CTL_EN 1 0

theorem witness_memory :
    (memory.runs = true ∧ memory.memCtrl 64 = 0 ∧ memory.memRuns 0 = true ∧ memory.regionOf 64 32 = some 8 ∧ memory.regionOf (2 ^ 40) 32 = none ∧
      (userRegions .atm).contains 8 = true ∧ memory.on F.MEM_SCRUB_CTL_EN 0 = true) ∧
    (memory.spareUsed 0 < memory.spareTotal ∧ ({ memory with rowCopies := [(0, 3)] } : State).rowCopies.find? (fun e => e.1 == 0) = some (0, 3)) ∧
    Reaches memory (F.MEM_SPARE_FORCE_GO.addr 0 0) ∧ Reaches up0 (F.PMU_SNAP_GO.addr 0 0) ∧ Reaches up0 (F.PMU_SNAP_RELEASE.addr 0 0) ∧
    Reaches up0 (F.PMU_SR_SEED_SEED.addr 3 0) ∧ (∀ a, memory.rowCopies.contains (0, Config.memRow a) = false) :=
  ⟨by decide +kernel, by decide +kernel, reaches (by decide +kernel), reaches (by decide +kernel), reaches (by decide +kernel), reaches (by decide +kernel), fun _ => rfl⟩

theorem witness_spareTwice (a : Nat) : ({ memory with rowCopies := [(0, Config.memRow a)] } : State).rowCopies.contains (0, Config.memRow a) = true := by simp

/-- In recovery; and with a fabric-manager key enrolled. -/
def recovering0 : State := up0.wr F.MGT_BOOT_STAT_RECOVERY 1
def keyed : State := { up0 with flash := { up0.flash with settings := [(4, { version := 1, seq := 0, body := [1] })] } }

theorem witness_denied :
    up0.arrives (.i3c false false) = true ∧ (asked recovering0).recovering = true ∧ (asked keyed).recovering = false ∧
    (asked keyed).fmPath (.i3c false false) = false ∧ keyed.pathBusy (.i3c false false) = false ∧ 4 + (leBytes 8 0).length ≤ pathLimit (.i3c false false) := by
  decide +kernel

/-- A request of a path whose earlier request is in hand. -/
theorem witness_pathBusy : ({ up0 with mg := { ops := [.erase (.i3c false false) 0 1] } } : State).arrives (.i3c false false) = true ∧
    ({ up0 with mg := { ops := [.erase (.i3c false false) 0 1] } } : State).pathBusy (.i3c false false) = true ∧
    F.HIF_LINK_STAT_UP.key 0 0 ≠ F.DEV_FM_ROLE_HOLDER.key 0 0 ∧ F.HIF_LINK_STAT_UP.key 0 0 ≠ F.DEV_FM_ROLE_GEN.key 0 0 ∧
    F.HIF_LINK_STAT_UP.key 0 0 ≠ F.DEV_FM_ROLE_LAST_CAUSE.key 0 0 := by decide +kernel

theorem witness_recovery : recovering0.up = true ∧ recovering0.recovery (.i3c false false) (asked recovering0) ∧ 0 + (leBytes 8 0).length ≤ bankSize ∧
    ({ asked recovering0 with mg := { recoverBank := some 1 } } : State).mg.recoverBank = some 1 :=
  ⟨by decide +kernel, ⟨by decide +kernel, rfl, by decide +kernel, .inr ⟨false, rfl⟩, by decide +kernel⟩, by decide +kernel⟩

/-- A fabric manager that asks through function 0, its key enrolled. -/
def keyedLink : State := { linked with flash := { linked.flash with settings := [(4, { version := 1, seq := 0, body := [1] })] } }

theorem witness_roles :
    (up0.up = true ∧ up0.arrives (.i3c false false) = true ∧ keyedLink.up = true ∧ keyedLink.served false false (.doe 0) (keyedLink.countReq (.doe 0))) ∧
    ((keyedLink.countReq (.doe 0)).fuses.serial = 0 ∧ (keyedLink.countReq (.doe 0)).fmKey = some [1] ∧
      (keyedLink.countReq (.doe 0)).rd F.DEV_FM_ROLE_GEN = 0 ∧ (keyedLink.countReq (.doe 0)).rd F.DEV_FM_ROLE_HOLDER = 7 ∧
      ((keyedLink.wr F.DEV_FM_ROLE_HOLDER 1).countReq (.doe 0)).rd F.DEV_FM_ROLE_HOLDER ≠ 7 ∧ (List.replicate 49 (0 : Byte)).length = 49 ∧ (asked up0).fmKey = none) ∧
    (linked1.access 1 (F.DEV_FM_CTL_RELEASE.addr 0 0) (linked1.noteAccess 1 0)) ∧ (Reaches up0 (F.DEV_FM_CTL_RELEASE.addr 0 0)) ∧
    ((linked1.wr F.DEV_FM_ROLE_HOLDER 1).rd F.DEV_FM_ROLE_HOLDER = 1 ∧ up0.rd F.DEV_FM_ROLE_HOLDER ≠ 4 ∧ semOf 0x3FFFFF8 = none ∧
      (asked up0).gated (0x3FFFFF8 / 65536) (0x3FFFFF8 % 65536) = false ∧ (asked up0).halted = false) ∧
    (asked up0).pathBusy (.i3c false false) = false ∧ 49 + (leBytes 8 0).length ≤ pathLimit (.i3c false false) ∧ (knownType 8 = true ∧ Tbl.get (asked keyed).flash.settings 4 = some { version := 1, seq := 0, body := [1] }) ∧
    (linked.arrives (.doe 0) = true ∧ (linked.tally .hif 9 1 0).recovering = false ∧ knownOpcode 1 = true) :=
  ⟨⟨by decide +kernel, by decide +kernel, by decide +kernel, ⟨by decide +kernel, rfl, by decide +kernel, nofun, nofun, by decide +kernel⟩⟩, by decide +kernel,
   ⟨by decide +kernel, by decide +kernel, rfl, by decide +kernel, .inl (by decide +kernel)⟩, reaches (by decide +kernel), by decide +kernel⟩

def staging1 : Staging := { bank := 1, targetLen := 0, hasBase := false, ctrIv := [], ended := true }
/-- A staging in progress; and staging stopped before its end. -/
def stagingNow : State := { up0.wr F.MGT_STAGE_STAT_STATE 1 with mg := { staging := some staging1 } }
/-- Bank 1 staged and preloaded, time locked. -/
def stagedNow : State := { (up0.wr F.MGT_BANK_STAT_PRELOAD_VALID 1).wr F.SEC_STAT_TIME_LOCKED 1 with flash := { copy0 := BootRec.bytes { stateB := 2 } } }
def header0 : List Byte := leBytes 4 1 ++ List.replicate 124 0

theorem witness_staging :
    (up0.up = true ∧ up0.served true true (.i3c false false) (asked up0)) ∧
    ((asked up0).mg.staging = none ∧ (asked up0).on F.MGT_ACT_CTL_ARMED = false ∧ (asked stagingNow).mg.staging.isSome = true ∧
      1 ≠ (asked up0).rd F.MGT_BOOT_STAT_BANK ∧ header0.length = 128 ∧ hdrAt header0 0 2 = 1 ∧ hdrAt header0 4 4 ≤ bankSize ∧
      (header0.drop 72).any (· != 0) = false ∧ ((header0.drop 8).take 48).all (· == 0) = true) ∧
    (stagingNow.up = true ∧ stagingNow.served true true (.i3c false false) (asked stagingNow)) ∧
    ((asked stagingNow).mg.staging = some staging1 ∧ (asked stagingNow).rd F.MGT_STAGE_STAT_STATE = 1 ∧ 0 ≠ staging1.nextOff ∧ staging1.ended = true ∧
      (asked stagingNow).mg.ops = [] ∧ (asked stagingNow).applyOps 1 staging1 = .more staging1 ∧
      (asked stagingNow).applyOps 2 { staging1 with rest := [0] } = .bad) ∧
    (stagedNow.up = true ∧ stagedNow.served true false (.i3c false false) (asked stagedNow)) ∧
    ((asked stagedNow).flash.bootRec.bank 1 = 2 ∧ (asked stagedNow).on F.MGT_BANK_STAT_PRELOAD_VALID = true ∧ (asked stagedNow).on F.DEV_STRAPS_BOOT_MODE = false ∧
      (asked stagedNow).timeLocked = true ∧ (asked stagedNow).now + 100000000 ≤ 2592000000000000 ∧ 99999999 < (asked stagedNow).now + 100000000) ∧
    (((up0.wr F.MGT_ACT_CTL_ARMED 1).wr F.MGT_ACT_TIME_TIME 1000000).on F.MGT_ACT_CTL_ARMED = true ∧ up0.now + 1000000 ≤ 1000000 ∧
      (up0.wr F.MGT_ACT_CTL_ARMED 1).rd F.MGT_ACT_TIME_TIME < up0.now + 1000000) ∧
    (up0.wr F.MGT_BOOT_STAT_RESULT brTrial).rd F.MGT_BOOT_STAT_RESULT = brTrial ∧ ({ trialValid := true } : BootRec).trialValid = true :=
  ⟨served_i3c _ _ (by decide +kernel), by decide +kernel, served_i3c _ _ (by decide +kernel), by decide +kernel, served_i3c _ _ (by decide +kernel),
   by decide +kernel⟩

theorem witness_settings :
    (up0.up = true ∧ up0.served true false (.i3c false false) (asked up0)) ∧
    (knownType 1 = true ∧ ownType 2 = true ∧ ownType 1 = false ∧ Tbl.get (asked up0).flash.settings 1 = none ∧
      Setting.newer 1 { version := 2, seq := 0, body := [] } = true ∧ (asked up0).rd F.MGT_FW_SVN_SVN ≤ 64) ∧
    (Tbl.get (asked { up0 with mg := { log := [(0, { srcDid := 1, cls := 0, code := 0, body := [] })] } }).mg.log 0 =
        some { srcDid := 1, cls := 0, code := 0, body := [] } ∧
      (up0.wr F.DEV_DID_DID 5).arrives (.inband false) = true ∧ up0.on F.MGT_EVT_DEST_EN = false ∧
      ({ up0 with mg := { ops := [.erase (.i3c false false) 0 1] } } : State).mg.ops = .erase (.i3c false false) 0 1 :: []) :=
  ⟨served_i3c _ _ (by decide +kernel), by decide +kernel⟩

/-! ## Power, resets and time -/

def powered (st : Nat) : State := up0.wr F.CRP_PWR_STAT_STATE st

theorem witness_power :
    (Reaches up0 (F.CRP_PWR_REQ_TARGET.addr 0 0) ∧ Reaches (powered psLayby) (F.CRP_PWR_REQ_TARGET.addr 0 0)) ∧
    ((up0.wr F.CRP_PWR_REQ_TARGET 1).power = psFull ∧ ((powered psLayby).wr F.CRP_PWR_REQ_TARGET 0).power = psLayby ∧
      ((powered psEnterLayby).wr F.CRP_PWR_REQ_TARGET 2).power ≠ psFull ∧ (powered psEnterLayby).power ≠ psLayby ∧ (powered psEnterLayby).power ≠ psParked ∧
      (attached.wr F.CRP_PWR_REQ_TARGET 2).parkRefusal ≠ 0) ∧
    ((powered psEnterLayby).quietNow = true ∧ (powered psEnterLayby).power = psEnterLayby ∧ (powered psEnterParked).power = psEnterParked ∧
      (up0.wr F.CRP_PWR_CTL_AUTO_LAYBY 1).on F.CRP_PWR_CTL_AUTO_LAYBY = true) ∧
    (({ powered psEnterLayby with ops := [(7, op0)] } : State).quietNow = false ∧ (({ powered psEnterLayby with ops := [(7, op0)] } : State).reach 9).power = psEnterLayby) ∧
    ((powered psLayby).runs = true ∧ (powered psParked).power = psParked ∧ ((powered psLayby).wr F.CRP_WAKE_TIME_TIME 9).rd F.CRP_WAKE_TIME_TIME ≠ 0 ∧
      ({ powered psWaking with pw := { wakeFrom := psLayby } } : State).wakingFrom psLayby = true ∧
      ({ powered psWaking with pw := { wakeFrom := psParked } } : State).wakingFrom psParked = true) ∧
    (35 < 36 ∧ up0.wakingFrom psLayby = false ∧ up0.wakingFrom psParked = false) :=
  ⟨⟨reaches (by decide +kernel), reaches (by decide +kernel)⟩, by decide +kernel⟩

theorem witness_resets :
    (up0.up = true ∧ up0.rd F.CRP_PWR_STAT_STATE = 0 ∧ (powered psLayby).rd F.CRP_PWR_STAT_STATE ≠ 0 ∧ ({ up0 with off := true } : State).off = true ∧
      up0.inReset = false ∧ State.reset.off = false ∧ State.reset.inReset = true ∧ bitOf 3 0 = true ∧ bitOf 3 1 = true) ∧ Reaches up0 (F.CRP_RST_CTL_WARM.addr 0 0) :=
  ⟨by decide +kernel, reaches (by decide +kernel)⟩

def timed (st : Nat) : State := up0.wr F.TIM_STAT_STATE st

theorem witness_time :
    ((({ up0 with nbs := [(127, { fresh := some 3 })] } : State).nb 127).fresh = some 3 ∧ (timed tsHoldover).timState = tsHoldover ∧
      ((timed tsHoldover).wr F.TIM_HOLD_HOLD_ERR_NS 0).rd F.TIM_HOLD_HOLD_ERR_NS < ({ (timed tsHoldover) with holdErr := 1 } : State).holdErr) ∧
    ((timed tsMaster).timState = tsMaster ∧ ((timed tsMaster).wr F.TIM_CTL_PPS_IN_EN 1).on F.TIM_CTL_PPS_IN_EN = true ∧ (timed tsMaster).now % 1000000000 < 500000000 ∧
      (timed tsLocked).timState ≠ tsMaster ∧ (up0.wr F.TIM_CTL_PPS_OUT_EN 1).on F.TIM_CTL_PPS_OUT_EN = true ∧ (timed tsLocked).timState ≠ tsUnlocked) ∧
    Reaches (timed tsMaster) (F.TIM_SET_TIME.addr 0 0) ∧
    ((timed tsMaster).now < 1 ∧ 20 < up0.rd F.CRP_THERM_WARN_C ∧ 20 < min 115 (up0.rd F.CRP_THERM_CRIT_C) ∧ up0.rd F.CRP_THERM_TEMP_C < up0.rd F.CRP_THERM_WARN_C ∧
      up0.rd F.CRP_THERM_WARN_C ≤ 100 ∧ 100 < min 115 (up0.rd F.CRP_THERM_CRIT_C) ∧
      up0.rd F.CRP_THERM_WARN_C ≤ (up0.wr F.CRP_THERM_TEMP_C 100).rd F.CRP_THERM_TEMP_C ∧
      (up0.wr F.CRP_THERM_TEMP_C 100).rd F.CRP_THERM_TEMP_C < min 115 (up0.rd F.CRP_THERM_CRIT_C) ∧ min 115 (up0.rd F.CRP_THERM_CRIT_C) ≤ 110) ∧
    (47 < 48 ∧ up0.pw.avsAt = none ∧ up0.rd F.CRP_AVS_OFFSET_MV = 0 ∧ 650 ≤ up0.rd F.CRP_AVS_VOUT_MV ∧ up0.rd F.CRP_AVS_VOUT_MV ≤ 850) :=
  ⟨by decide +kernel, by decide +kernel, reaches (by decide +kernel), by decide +kernel⟩

/-! ## Further forms of the statements -/

theorem witness_captured : (up0.on F.ERR_FIRST_INFO_VALID 0x40 = false ∧ (({ up0 with caught := [0x40] } : State).wr F.ERR_FIRST_INFO_VALID 1 0x40).caught = [0x40]) ∧
    ((up0.wr F.ERR_FIRST_INFO_VALID 1 0x40).wr F.ERR_FIRST_INFO_INDEX 11 0x40).rd F.ERR_FIRST_INFO_INDEX 0x40 = 11 ∧
    ((committing 0x19 { phase := 2 }).copyBank.sh.commits = [(0x19, { phase := 2 })]) ∧ (storageIndices .hif).contains 12 = true := by decide +kernel

theorem witness_requests :
    (linked.linkUp 3 = false ∧ linked.linkUp 0 = true ∧ (withRead attached { read8 (.walk 0) with sent := [(0, 8)] }).on F.HIF_IDE_STAT_HALTED 0 = false) ∧
    opened.memOk (.hif 0) 0 8 = true ∧ (opened.wr F.HIF_COMMONS_CTL_WRITE_EN 0 0).on F.HIF_COMMONS_CTL_WRITE_EN 0 = false := by decide +kernel

theorem witness_records :
    (({ eq0 with armed := true, since := 1 }).since ≠ 0 ∧ ({ eq0 with armed := true, since := 1 }).armed = true ∧ eq0.irqEn = true ∧ eq0.modTime ≠ 0) ∧
    (HostPosts objects ∧ Tbl.get objects.wqs (0, 9) = none ∧ ({ q0 with prod := 64 }).accepts 1 = false) :=
  ⟨by decide +kernel, host_posts (by decide +kernel), by decide +kernel⟩

/-- A queue that its pipe schedules and whose next descriptor is in its cache. -/
def scheduling (recv : Bool) (d : Descr) : State :=
  { ((queued recv d).wr F.BLK_CTL_EN 1 0x12).wr F.BLK_CTL_EN 1 0x18 with pending := [] }

theorem witness_admitted :
    ((scheduling false {}).runs = true ∧ (scheduling false {}).scheduled 0 1 = true ∧ (scheduling false {}).admissible 0 1 = some (q1 false {}, { pos := 0, d := {} })) ∧
    ((scheduling false {}).atOnce (q1 false {}) 0 {} ((q1 false {}).check2 {}) = none ∧ ({} : Descr).adv advTriggered = false ∧ vbNop ≠ vbLock ∧
      (scheduling false { verb := 8 }).heldLocks.length < 16384 ∧ (scheduling false {}).trigHeld 0 < 2048) ∧
    ((scheduling true {}).admissible 0 1 = some (q1 true {}, { pos := 0, d := {} }) ∧ (q1 true {}).check 0 {} = none ∧
      (scheduling true {}).atOnce (q1 true {}) 0 {} none = none ∧ ((scheduling true {}).aimed (q1 true {}) {}) = {}) ∧
    ((scheduling false {}).hasDid = false ∧ ((scheduling false {}).wr F.DEV_DID_DID 5).hasDid = true ∧ ((scheduling false {}).wr F.HIF_FN_STAT_EP_HOLD 0 0).on F.HIF_FN_STAT_EP_HOLD 0 = false ∧
      targets vbNop = false ∧ attached.scheduled 0 1 = false) ∧
    ((withWq attached { q0 with state := .draining }).wqs = [((0, 1), { q0 with state := .draining })] ∧ ({ postIdx := 1 } : Descr).postIdx ≠ 0 % 65536) := by decide +kernel

theorem witness_payload :
    (Tbl.get (withRead (path0 both) (done8 (.retx k0 0) [])).reads 5 = some (done8 (.retx k0 0) []) ∧ flight0.pkt.body = .data { srcEpa := 2, dstEpa := 1 } []) ∧
    (failed8 (.serve 4 0)).result = some .failed ∧ Tbl.get up0.ops 7 = none ∧ Tbl.get up0.inflight (k0, 0) = none ∧ Tbl.get up0.gets 4 = none := by decide +kernel

theorem witness_discarded :
    (({ sealing with solo := 1 } : State).shutdown = true ∨ sealing.shutdown = false) ∧ (sealing.wr F.BLK_CTL_FENCE 1 5).fenced Block.sec.page = true ∧
    sealing.poolRefuses 15 = false := by decide +kernel

theorem witness_arrivals :
    (({ rx0 with pkt := { dataPkt with body := .data { srcEpa := 2, dstEpa := 1, ver := 2 } [] } } : RxPkt).hdr.ver ≠ 1) ∧
    (Tbl.get ({ (up0.wr F.BLK_CTL_EN 1 0x14) with rx := [rx0] } : State).pws (rxKey rx0.hdr) = none ∧
      (({ ((up0.wr F.BLK_CTL_EN 1 0x14).wr F.DEV_MEM_PLANn_SIZE 1 0 4) with rx := [] } : State).tally .pwy 0).storeFull = false) ∧
    (failed8 (.flush 0)).result = some .failed := by decide +kernel

theorem witness_denials :
    (((path0 both).wr F.ARB_FENCED_FENCED 1 0xE0).wr F.ARB_FENCED_FENCED 1 0xE1).memDenied .pwy ((path0 both).storeAt k0) = true ∧
    (path0 both).memDenied .pwy ((path0 both).storeAt k0) = false ∧ (withOp op0).memDenied (.mtc 1) ((withOp op0).planBase 5) = false ∧
    (((withOp op0).wr F.ARB_FENCED_FENCED 4 0xE0).wr F.ARB_FENCED_FENCED 4 0xE1).memDenied (.mtc 1) ((withOp op0).planBase 5) = true ∧
    (withRead ({ up0 with lqps := [(3, { lqp1 with fetching := some 5 })] }) (failed8 (.lqp 3))).reads = [(5, failed8 (.lqp 3))] ∧ flight0.fetching = false := by decide +kernel

/-- An allgather round opened, with the input of index 1 not yet given. -/
theorem witness_floods :
    cv0.floodOk { ckind := 10, operation := 4, index := 1 } [] = true ∧ cv0.floodOk { ckind := 10, operation := 4, index := 2 } [] = false ∧
    ({ ckind := 6, alt := true } : ConvoyHdr).payloadLen ≤ 4096 ∧ ({ cv0 with state := 1 }).state = 1 := by decide +kernel

theorem witness_semaphorePlaces :
    ((sem 255 1 [{ master := 4, reads := [(8, 8)] }]).semWaits 255).find? (fun w => w.master == 4) = some { master := 4, reads := [(8, 8)] } ∧
    ({ master := 4, reads := [(8, 8)] } : SemWait).held = false ∧ ({ master := 4, reads := [(8, 8)] } : SemWait).reads ≠ [] := by decide +kernel

theorem witness_atomics :
    (failed8 (.atomic 2)).result = some .failed ∧ ({ key := k0, rx := rx0, fn := 0, addr := 0, width := 8, sig := some (0, 1) } : AtomJob).sig = some (0, 1) ∧
    (objects.wr F.HIF_FN_STAT_BME 1 0).busHeld 0 = false := by decide +kernel

theorem witness_sending :
    (takeFirst (fun b => b.vc == 0 && b.out == none) ((onPort up0 0 { buf := [{ buf1 0 0 with live := some 64 }] }).port 0).buf).isSome = true ∧
    (earliest ((onPort ((up 9).wr F.LNK_STAT_WIDTH 1 9) 0 { buf := [{ buf1 0 8 with out := some (9, 8, 0) }] }).grantable 9 8)).isSome = true ∧
    (((onPort (linkIn 4) 0 {}).port 0).tx = none ∧ (linkIn 4).portState 0 = 4 ∧ ((onPort (linkIn 4) 0 {}).port 0).fillLen = 0 ∧ ((onPort (linkIn 4) 0 { fillLen := 1 }).port 0).fillLen ≠ 0) := by decide +kernel

/-- Control blocks whose fields are at the top of their ranges. -/
theorem witness_blocks : (Ctl.audit 8 4095 65535 65535 65535 65535).fits = true ∧ Ctl.drain.fits = true := by decide +kernel

theorem witness_markers :
    (markerOf (markerBytes 0 true true 5) = some { plane := 0, ready := true, training := true, port := 5 } ∧ markerOf [] = none ∧ 4095 ≠ 4096 ∧
      split.peerPorts 0 0 = []) := by decide +kernel

theorem witness_checker :
    ((laneIn 6).on F.LAN_PRBS_CNTl_SYNC 0 0 = false ∧ ((laneIn 6).lane 0).clean + 63 < 64 ∧ ((laneIn 6).wr F.LAN_PRBS_CNTl_SYNC 1 0 0).on F.LAN_PRBS_CNTl_SYNC 0 0 = true) ∧
    ((split.wr F.LNK_STAT_STATE 3 0).portOfLane 0 0 = some (0, 0) ∧ ((onPort (split.wr F.LNK_STAT_STATE 3 0) 0 { set := [0] }).port 0).set.contains 0 = true ∧
      split.portState 0 < 2) := by decide +kernel

theorem witness_owners :
    memory.ownsMem .atm 64 32 false = true ∧ memory.ownsMem .pwy 64 32 false = false ∧ memory.reqFenced 0xE0 11 = false ∧
    (up0.arrives (.i3c false false) = true ∧ spdmServed.contains 0xE2 = false ∧ spdmServed.contains 0x84 = true) := by decide +kernel

theorem witness_flash :
    (({ up0 with mg := { staging := some staging1, ops := [.program (.i3c false false) 0] } } : State).mg.ops = .program (.i3c false false) 0 :: []) ∧
    (({ up0 with mg := { staging := some staging1, ops := [.readBack (.i3c false false) 0] } } : State).mg.staging = some staging1) ∧
    ({ up0 with mg := { ops := [.write (.i3c false false) 0 1 0 [1]] } } : State).mg.ops = .write (.i3c false false) 0 1 0 [1] :: [] := by decide +kernel

/-! ## Operands that name nothing change nothing (01 R28; 02 R32, R52; 12 R395) -/

theorem test_wf_masters : (Instr.regWrite 0x40 0 8 0).wf = false ∧ (Instr.regWrite 0x2B 0 8 0).wf = false ∧ (Instr.regWrite 6 0 8 0).wf = false ∧
    (Instr.regWrite 0x2A 0 8 0).wf = true ∧ (Instr.regWrite 0x80 0 8 0).wf = true := by decide
theorem test_wf_offsets : (Instr.regRead 4 0x4000000 8).wf = false ∧ (Instr.regRead 4 0x3FFFFFF 8).wf = true := by decide
theorem test_wf_pages : (Instr.blkRst 4 1024).wf = false ∧ (Instr.blockResetComplete 7).wf = false ∧ (Instr.blockResetComplete 8).wf = true ∧
    (Instr.errWindowExpire 0xE2 0).wf = false := by decide
theorem test_wf_functions : (Instr.flr 4).wf = false ∧ (Instr.flr 3).wf = true ∧ (Instr.wqDb 4 0 0).wf = false ∧ (Instr.createWq 4 { opcode := 1 }).wf = false := by decide
theorem test_wf_windows : (Instr.bar2ReservedAccess 0 0x40000000 false).wf = false ∧ (Instr.bar2ReservedAccess 0 0 true).wf = false ∧
    (Instr.rtbWinWrite 4 0x197FF8 8 0).wf = false ∧ (Instr.rtbWinWrite 4 0x198000 8 0).wf = true := by decide
theorem test_wf_arbiters : (Instr.arbitrate 0x11 0 0).wf = false ∧ (Instr.arbitrate 8 99 0).wf = false ∧ (Instr.arbWatchdog 7 0).wf = false := by decide
theorem test_wf_kinds : (Instr.cmdResumeResume 4 0 0 0).wf = false ∧ (Instr.cmdResumeAbort 4 0 3 0).wf = false ∧ (Instr.modTimerExpire 0 2 0).wf = true := by decide
theorem test_wf_units : (Instr.trigAdd 4 0 512 0).wf = false ∧ (Instr.scheduleSegment 4).wf = false ∧ (Instr.packetVerify 16).wf = false ∧
    (Instr.semTry 4 0 256).wf = false ∧ (Instr.tgSelWrite 4 4096).wf = false ∧ (Instr.secRoll 4 4096).wf = false := by decide
theorem test_wf_ports : (Instr.transitForward 128 0).wf = false ∧ (Instr.transitForward 127 9).wf = false ∧ (Instr.creditUpdateTimer 0 9).wf = false ∧
    (Instr.flitReceive 128 {}).wf = false := by decide
theorem test_wf_lanes : (Instr.signalLost 32 0).wf = false ∧ (Instr.signalLost 31 4).wf = false ∧ (Instr.pllUnlock 32).wf = false ∧ (Instr.lanePllLock 32).wf = false := by decide
theorem test_wf_others : (Instr.pipeSelfTest 48 true).wf = false ∧ (Instr.fclStatClear 4 4 0).wf = false ∧ (Instr.scrub 2 0 .clean).wf = false ∧
    (Instr.domainFault 36).wf = false ∧ (Instr.islandClockUnlock 48).wf = false ∧ (Instr.resetM 0).wf = false ∧ (Instr.resetM 7).wf = false ∧
    (Instr.resetW false 0x40).wf = false ∧ (Instr.resetW true 0x40).wf = true := by decide

theorem test_names_nothing : exec (.flr 4) up0 = .next up0 := rfl

/-! ## One step, with the spec's values -/

/-- What a command leaves, seen through `f`. -/
def after {α : Type} (o : Host.Outcome State Fault Refusal) (f : State → α) : Option α :=
  match o with
  | .next t => some (f t)
  | .fault _ => none
  | .refused _ => none

/-- `BLK_ID` of `FCL` answers type code 2 (02, *Block type codes*). -/
theorem test_blkId : after (exec (.regRead 4 0x10000 8) up0) (fun t => t.out.map fun o => match o with
    | .readReply m a v => (m, a, v % 65536)
    | _ => (0, 0, 0)) = some [(4, 0x10000, 2)] := by decide +kernel

/-- A narrow write is recorded as index 30 of its page (R34). -/
theorem test_narrow : after (exec (.regWrite 4 0x40104 2 1) up0) (fun t => bitOf (t.rd F.ERR_STAT_ERR 4) 30) = some true := by decide +kernel

/-- A semaphore that is free is taken by the read that tries it (R335). -/
theorem test_semTry : after (exec (.semTry 4 0 255) up0) (fun t => (t.on F.ATM_SEM_STATk_HELD 0 255, t.rd F.ATM_SEM_STATk_HOLDER 0 255)) = some (true, 4) := by
  decide +kernel

/-- A trigger counter wraps at 32 bits (R158, R161). -/
theorem test_trigAdd : after (exec (.trigAdd 4 0 511 3) ((up0.wr F.CMD_TRIGk_COUNT 0xFFFFFFFF 0 511))) (fun t => t.rd F.CMD_TRIGk_COUNT 0 511) = some 2 := by
  decide +kernel

/-- A second `RETRAIN` of a port that is not `UP` changes nothing (R440). -/
theorem test_retrain : after (exec (.linkRetrain 4 0) up0) (fun t => t.portState 0) = some 0 ∧
    after (exec (.linkRetrain 4 0) (up 0)) (fun t => t.portState 0) = some 4 := by decide +kernel

/-- A sampler's seed of 0 is loaded as 1 (R535). -/
theorem test_seed : after (exec (.sampleSeed 4 3 0) up0) (fun t => Tbl.get t.lfsr 3) = some (some 1) := by decide +kernel

/-- Reset C puts the device in reset until its release, with device time 0 (R573, R577, R597). -/
theorem test_reset : after (exec .resetC up0) (fun t => (t.inReset, t.now)) = some (true, 0) := by decide +kernel

/-- The critical temperature is recorded as index 3 of `CRP`, the warning as index 2 (R607). -/
theorem test_heat : after (exec (.thermalLevel 100) up0) (fun t => t.rd F.ERR_STAT_ERR 2 / 4 % 4) = some 1 := by decide +kernel

/-- An idle period advances device time by 40 ns (R577). -/
theorem test_idle : after (step up0) (fun t => (t.now, t.nowFrac)) = some (40, 0) := by decide +kernel

end Sys2Proof.Tests
end

section
/-! PROOF. What reset leaves (00 R5), and what a register write comes to (02 R34, R35, R53, R54). -/

namespace Sys2Proof.Machine

/-! ## The state after reset -/

/-- The bank is empty after reset, so that a field reads its Reset column (R5). -/
theorem rd_reset (f : Fld) (i j : Nat) : State.reset.rd f i j = f.rst := rfl

/-- On-package memory is empty after reset (log entry 5). -/
theorem byte_reset (a : Nat) : State.reset.byte a = memDefault := rfl

/-- `CRP_PWR_STAT.STATE` has the Reset column `FULL` (R561). -/
theorem power_reset : State.reset.power = psFull := rd_reset F.CRP_PWR_STAT_STATE 0 0

/-! ## A field written, by its access code (R2, R33) -/

section
variable {s : State} {x : Place} {w : Put} {f : Fld} {j : Nat}

/-- A write that gives none of a field's bits leaves it (R33). -/
theorem putField_of_not_has (h : w.has f = false) : s.putField x w f j = s := by
  simp [State.putField, h]

theorem putField_rw (h : w.has f = true) (ha : f.acc = .rw) :
    s.putField x w f j = s.wr f (w.onto f (s.rd f (x.index f) j)) (x.index f) j := by
  simp [State.putField, h, ha]

/-- A shadowed field is written in its shadow copy (R49); only `ARB_PRIr` is held there as a difference from a default. -/
theorem putField_rws (h : w.has f = true) (ha : f.acc = .rws) (hf : f ≠ F.ARB_PRIr_PRIO) :
    s.putField x w f j = s.wrShadow f (w.onto f (s.shadow f (x.index f) j)) (x.index f) j := by
  simp [State.putField, h, ha, hf]

theorem putField_w1c (h : w.has f = true) (ha : f.acc = .w1c) :
    s.putField x w f j = s.wr f (s.rd f (x.index f) j - (s.rd f (x.index f) j &&& w.val f)) (x.index f) j := by
  simp [State.putField, h, ha]

theorem putField_w1s (h : w.has f = true) (ha : f.acc = .w1s) :
    s.putField x w f j = s.wr f (s.rd f (x.index f) j ||| w.val f) (x.index f) j := by
  simp [State.putField, h, ha]

/-- What is read-only, write-only or read-to-clear holds no value that a write changes. -/
theorem putField_unwritten (ha : f.acc = .ro ∨ f.acc = .wo ∨ f.acc = .rc) : s.putField x w f j = s := by
  rcases ha with ha | ha | ha <;> simp [State.putField, ha]

end

/-- Writing the fields of a register brings about nothing in other blocks. -/
theorem putReg_atRest {s : State} (x : Place) (w : Put) (h : s.atRest) : (s.putReg x w).atRest := by
  obtain ⟨ht, hc⟩ := h
  exact ⟨(putReg_todo s x w).trans ht, (putReg_caught s x w).trans hc⟩

/-! ## What a write of an aligned register comes to (R35, R53, R54) -/

/-- Does a register at a place take a write of a master: one of its window (R54), or a global one from a master that may (R53)? -/
def State.takesWrite (s : State) (m : Nat) (x : Place) : Prop :=
  (x.win = true ∧ mayWindow m x.inst = true) ∨ (x.win = false ∧ s.mayWrite m = true)

section
variable {s : State} {m a size v : Nat} {x : Place}

theorem regStore_reserved (hp : place (a / 8 * 8) = none) : s.regStore m a size v = s.refuse m 0 a true := by
  simp [State.regStore, hp]

section
variable (hp : place (a / 8 * 8) = some x)
include hp

theorem regStore_foreign_window (hw : x.win = true) (hm : mayWindow m x.inst = false) : s.regStore m a size v = s := by
  simp [State.regStore, hp, hw, hm]

theorem regStore_unauthorised (hw : x.win = false) (hm : s.mayWrite m = false) :
    s.regStore m a size v = s.refuse m x.p a true := by
  simp [State.regStore, hp, hw, hm]

/-- A write that is taken depends on the offset alone: the common header, the arbiter window, or the block's own registers. -/
theorem regStore_taken (ht : s.takesWrite m x) : s.regStore m a size v =
    if x.off < 0x100 then s.writeHdr m x (putOf a size v)
    else if x.b.arb = true ∧ 0x800 ≤ x.off ∧ x.off < 0x1000 then
      if x.off = 0x810 then arbFencedClear x.p ((putOf a size v).val F.ARB_FENCED_FENCED) s else s.putReg x (putOf a size v)
    else s.writeBlock m a size v x (putOf a size v) := by
  rcases ht with ⟨hw, hm⟩ | ⟨hw, hm⟩ <;> simp [State.regStore, hp, hw, hm, and_assoc]

theorem regStore_hdr (ht : s.takesWrite m x) (ho : x.off < 0x100) :
    s.regStore m a size v = s.writeHdr m x (putOf a size v) := by
  rw [regStore_taken hp ht, if_pos ho]

theorem regStore_arb (ht : s.takesWrite m x) (hb : x.b.arb = true) (hl : 0x800 ≤ x.off) (hh : x.off < 0x1000) (hf : x.off ≠ 0x810) :
    s.regStore m a size v = s.putReg x (putOf a size v) := by
  rw [regStore_taken hp ht, if_neg (by omega), if_pos ⟨hb, hl, hh⟩, if_neg hf]

theorem regStore_arbFenced (ht : s.takesWrite m x) (hb : x.b.arb = true) (ho : x.off = 0x810) :
    s.regStore m a size v = arbFencedClear x.p ((putOf a size v).val F.ARB_FENCED_FENCED) s := by
  rw [regStore_taken hp ht, if_neg (by omega), if_pos ⟨hb, by omega, by omega⟩, if_pos ho]

theorem regStore_block (ht : s.takesWrite m x) (ho : 0x100 ≤ x.off) (hb : x.b.arb = false ∨ x.off < 0x800 ∨ 0x1000 ≤ x.off) :
    s.regStore m a size v = s.writeBlock m a size v x (putOf a size v) := by
  have outside : ¬ (x.b.arb = true ∧ 0x800 ≤ x.off ∧ x.off < 0x1000) := by
    rintro ⟨ha, hl, hh⟩
    rcases hb with hb | hb | hb
    · simp [ha] at hb
    · omega
    · omega
  rw [regStore_taken hp ht, if_neg (by omega), if_neg outside]

end

/-- Five blocks have no register whose write does more than write its fields. -/
theorem writeBlock_of_plain (w : Put) (h : [Block.mgt, .txe, .rxe, .pwy, .xbr].contains x.b = true) :
    s.writeBlock m a size v x w = s.putReg x w := by
  simp only [List.contains_iff_mem, List.mem_cons, List.not_mem_nil, or_false] at h
  rcases h with h | h | h | h | h <;> simp [State.writeBlock, h]

end

/-! ## `REG_WRITE` where the access reaches its page -/

section
variable {s n : State} {m a size v : Nat}

theorem regWriteRun_good (hg : goodAccess a size = true) : regWriteRun m a size v s = s.regStore m a size v := by
  simp [regWriteRun, hg]

/-- An access that is narrow or unaligned is recorded in its page, and in the `DEV` page where its own is reserved (R34, R35; log entry 39). -/
theorem regWriteRun_bad (hg : goodAccess a size = false) :
    regWriteRun m a size v s = s.refuse m (if (place a).isNone then 0 else a / 65536) a true := by
  simp [regWriteRun, hg]

/-- A register write that reaches its page is `regWriteRun` on the state with the access counted. -/
theorem exec_regWrite_of_access (hm : isMaster m = true) (ho : isOff a = true) (h : s.access m a n) :
    exec (.regWrite m a size v) s = .next (regWriteRun m a size v n).calm :=
  actLight_access (.regWrite m a size v) (regWriteRun m a size v) h (by simp [hm, ho])

/-- One of a size and alignment that registers take, by what the store answers. -/
theorem exec_regWrite_of_regStore {t : State} (hm : isMaster m = true) (ho : isOff a = true) (h : s.access m a n)
    (hg : goodAccess a size = true) (hs : n.regStore m a size v = t) : exec (.regWrite m a size v) s = .next t.calm := by
  rw [exec_regWrite_of_access hm ho h, regWriteRun_good hg, hs]

/-- One that leaves nothing to carry out. -/
theorem exec_regWrite_of_rest {t : State} (hm : isMaster m = true) (ho : isOff a = true) (h : s.access m a n)
    (hg : goodAccess a size = true) (hs : n.regStore m a size v = t) (ht : t.atRest) : exec (.regWrite m a size v) s = .next t := by
  rw [exec_regWrite_of_regStore hm ho h hg hs, State.calm_of_rest ht]

end

end Sys2Proof.Machine

open Sys2Proof Sys2Proof.Machine

/-- Settles O2: the reset state lists no field and no byte, so that each reads its default. -/
theorem resetLeavesTheResetColumns : Obligations.ResetLeavesTheResetColumns :=
  ⟨fun _ f i j _ => rd_reset f i j, rfl, rfl, power_reset, rfl, rfl, rfl, rfl, rfl, rfl, rfl, rfl, rfl, rfl, rfl, rfl, rfl, rfl, rfl,
    rfl, rfl, reset_memWf, byte_reset⟩

/-- Settles O8: field by field by access code, then by size, place, permission and offset, as `regWriteRun` and `regStore` decide. -/
theorem registerWriteTakesEffectOrIsRefused : Obligations.RegisterWriteTakesEffectOrIsRefused := by
  refine ⟨fun s x w f j => ⟨putField_of_not_has, fun h =>
    ⟨putField_rw h, putField_rws h, putField_w1c h, putField_w1s h, putField_unwritten⟩⟩, ?_⟩
  intro s n m a size v hm ho hr h
  have hn : n.atRest := access_atRest h hr
  refine ⟨fun hg => ?_, fun hg hp => ?_, fun x hg hp => ⟨fun hw hi => ?_, fun hw hi => ?_, ?_⟩⟩
  · rw [exec_regWrite_of_access hm ho h, regWriteRun_bad hg]
  · exact exec_regWrite_of_regStore hm ho h hg (regStore_reserved hp)
  · exact exec_regWrite_of_rest hm ho h hg (regStore_foreign_window hp hw hi) hn
  · exact exec_regWrite_of_regStore hm ho h hg (regStore_unauthorised hp hw hi)
  · rintro (ht : n.takesWrite m x) w rfl
    refine ⟨fun hd => ?_, fun hl hh hf hb => ?_, fun hf hb => ?_, fun hd hb => ⟨?_, fun hc => ?_⟩⟩
    · exact exec_regWrite_of_regStore hm ho h hg (regStore_hdr hp ht hd)
    · exact exec_regWrite_of_rest hm ho h hg (regStore_arb hp ht hb hl hh hf) (putReg_atRest _ _ hn)
    · exact exec_regWrite_of_regStore hm ho h hg (regStore_arbFenced hp ht hb hf)
    · exact exec_regWrite_of_regStore hm ho h hg (regStore_block hp ht hd hb)
    · exact exec_regWrite_of_rest hm ho h hg ((regStore_block hp ht hd hb).trans (writeBlock_of_plain _ hc)) (putReg_atRest _ _ hn)
end

section
/-! PROOF. What verification finds on a packet, and what becomes of a packet ejected at a junction (15 R486, R504; 12 R400; 19 R566). -/

namespace Sys2Proof.Machine

/-! ## The verdict on a packet (R486) -/

/-- The key that a slot gives for an epoch: of its present epoch, or of its next one where that is installed. -/
def TenSlot.keyFor (t : TenSlot) (epoch : Nat) : Option Nat :=
  if epoch = t.curEpoch then some t.curKey else if t.nextValid && epoch == t.nextEpoch then some t.nextKey else none

theorem TenSlot.keyFor_eq_some {t : TenSlot} {epoch k : Nat}
    (h : (epoch = t.curEpoch ∧ k = t.curKey) ∨ (epoch ≠ t.curEpoch ∧ t.nextValid = true ∧ epoch = t.nextEpoch ∧ k = t.nextKey)) :
    t.keyFor epoch = some k := by
  rcases h with ⟨he, rfl⟩ | ⟨hc, hv, he, rfl⟩
  · rw [TenSlot.keyFor, if_pos he]
  · rw [TenSlot.keyFor, if_neg hc, if_pos (by simp [hv, he])]

theorem TenSlot.keyFor_eq_none {t : TenSlot} {epoch : Nat} (hc : epoch ≠ t.curEpoch) (hn : ¬(t.nextValid = true ∧ epoch = t.nextEpoch)) :
    t.keyFor epoch = none := by
  rw [TenSlot.keyFor, if_neg hc, if_neg (by simpa using hn)]

section
variable {s : State} {p : Pkt}

theorem verify_of_not_timeLocked (h : s.timeLocked = false) : s.verify p = .notLocked := by
  simp [State.verify, h]

section
variable (hl : s.timeLocked = true)
include hl

theorem verify_pathFault {f : FaultHdr} (hp : p.body = .pathFault f) : s.verify p = .accept 0 := by
  simp [State.verify, hl, hp]

/-! A packet under a tenancy, or under the management channel: it is no path fault (`hp`, by which `simp` passes over that branch). -/

section
variable {did tref epoch time ctr : Nat} (hs : Body.seal p.body = (did, tref, epoch, time, ctr)) (hp : ∀ f, p.body ≠ .pathFault f)
include hs hp

/-- The fabric's own exchange is taken between selectors 5 only. -/
theorem verify_management (hm : tref = 0xFFFF) :
    s.verify p = if Body.selectors p.body = (5, 5) then .accept mgmtSlot else .unknownTenancy := by
  simp [State.verify, hl, hs, hm]

theorem verify_of_no_slot (hm : tref ≠ 0xFFFF) (hf : s.slots.find? (fun e => e.2.tnum == tref) = none) :
    s.verify p = .unknownTenancy := by
  simp [State.verify, hl, hs, hm, hf]

/-- Under a slot, the key of the packet's epoch decides; then age and tag. -/
theorem verify_of_slot {slot : Nat} {t : TenSlot} (hm : tref ≠ 0xFFFF) (hf : s.slots.find? (fun e => e.2.tnum == tref) = some (slot, t))
    (hk : t.keyLost = false) :
    s.verify p = (t.keyFor epoch).elim .staleEpoch fun k =>
      if time + s.freshNs < s.now ∨ s.now + 1000 * s.rd F.SEC_FRESH_FUTURE_US < time then .notFresh
      else if t.mode = 2 ∨ p.tag = Config.gcmTag k (ivOf did epoch ctr) t.mode p.body then .accept slot else .tagFail := by
  have key : (if epoch = t.curEpoch then some t.curKey else if t.nextValid && epoch == t.nextEpoch then some t.nextKey else none) =
    t.keyFor epoch := rfl
  simp only [State.verify, hl, hs, hm, hf, hk, key, Bool.not_true, Bool.false_eq_true, if_false]
  cases t.keyFor epoch with
  | none => rfl
  | some k => simp [us, Nat.mul_comm, ite_or]

end
end
end

/-! ## What becomes of an ejected packet -/

section
variable {s : State} {p : Pkt} {port vc : Nat}

theorem verifyDrop_notLocked : s.verifyDrop p port vc .notLocked = (s.bump F.SEC_DROP_NOT_LOCKED).tally .sec 6 := rfl

theorem verifyDrop_unknownTenancy : s.verifyDrop p port vc .unknownTenancy =
    ((s.bump F.SEC_DROP_UNKNOWN_TENANCY).tally .sec 7).cvVerifyFailed p port vc := rfl

theorem verifyDrop_staleEpoch : s.verifyDrop p port vc .staleEpoch =
    ((s.bump F.SEC_DROP2_STALE_EPOCH).tally .sec 8).cvVerifyFailed p port vc := rfl

theorem verifyDrop_notFresh : s.verifyDrop p port vc .notFresh =
    ((s.bump F.SEC_DROP2_NOT_FRESH).tally .sec 9).cvVerifyFailed p port vc := rfl

/-- A bad tag alone is an error as well: index 3 of `SEC`. -/
theorem verifyDrop_tagFail : s.verifyDrop p port vc .tagFail =
    (((s.bump F.SEC_DROP3_TAG_FAIL).tally .sec 10).berr .sec 3 (rxErr p port vc)).cvVerifyFailed p port vc := rfl

end

section
variable {s t : State} {j : Nat} {rx : RxPkt} {rest : List RxPkt}

theorem exec_packetVerify (hj : j < 16) (hr : s.runs = true) : exec (.packetVerify j) s = .next (packetVerify j s).settle :=
  act_runs (packetVerify j) s (by simpa [isJunction] using hj) hr

theorem not_halted_of_runs (hr : s.runs = true) : ¬ s.halted = true := by
  simp only [State.runs, Bool.and_eq_true, Bool.not_eq_true'] at hr
  simp [hr.2]

/-! `t` is the state without the packet, which has left the buffer of its junction whatever becomes of it. -/

section
variable (hh : ¬ s.halted = true) (he : Tbl.getD s.eject j [] = rx :: rest) (ht : { s with eject := Tbl.set s.eject j rest } = t)
include hh he ht

/-- Asleep, the device discards a packet for an endpoint of its own, and wakes (R566). -/
theorem packetVerify_asleep (ha : ([1, 2, 5].contains (t.rd F.CRP_PWR_STAT_STATE) && Pkt.forEndpoint rx.pkt) = true) :
    packetVerify j s = (t.bump F.CRP_WAKE_DISCARDED).later (.wake 3) := by
  rw [packetVerify, if_neg hh]
  simp only [he, ht, ha, if_true]

section
variable (ha : ([1, 2, 5].contains (t.rd F.CRP_PWR_STAT_STATE) && Pkt.forEndpoint rx.pkt) = false)
include ha

/-- An endpoint shutdown discards a packet for an endpoint (R504). -/
theorem packetVerify_shutdown (hd : (t.shutdown && Pkt.forEndpoint rx.pkt) = true) :
    packetVerify j s = t.bump F.FCL_DROP_ENDPOINT := by
  rw [packetVerify, if_neg hh]
  simp only [he, ht, ha, hd, Bool.false_eq_true, if_false, if_true]

section
variable (hd : (t.shutdown && Pkt.forEndpoint rx.pkt) = false)
include hd

/-- A fenced `SEC` discards what is left as crossing packets. -/
theorem packetVerify_fenced (hf : t.fenced Block.sec.page = true) : packetVerify j s = t.bump F.FCL_DROP_CROSSING := by
  rw [packetVerify, if_neg hh]
  simp only [he, ht, ha, hd, hf, Bool.true_or, Bool.false_eq_true, if_false, if_true]

section
variable (hf : t.fenced Block.sec.page = false) (hc : t.fenced Block.col.page = false) (hs : t.serves .sec = true)
include hf hc hs

theorem packetVerify_refused (hq : t.poolRefuses j = true) : packetVerify j s = t.refusedReq Block.sec.page 1 j := by
  rw [packetVerify, if_neg hh]
  simp only [he, ht, ha, hd, hf, hc, hs, hq, Bool.and_false, Bool.or_self, Bool.not_true, Bool.false_eq_true, if_false, if_true]

section
variable (hq : t.poolRefuses j = false)
include hq

/-- The tollgate has the last word on a packet that `SEC` accepts: one that it passes waits for its engine. -/
theorem packetVerify_accepted {slot : Nat} {u : State} {a : Option RxPkt} (hv : t.verify rx.pkt = .accept slot)
    (hg : ((t.tally .sec 1).tally .sec 3 (pktLen rx.pkt)).tollgate { rx with slot := slot } = (u, a)) :
    packetVerify j s = a.elim u fun x => { u with rx := u.rx ++ [x] } := by
  rw [packetVerify, if_neg hh]
  simp only [he, ht, ha, hd, hf, hc, hs, hq, hv, hg, Bool.and_false, Bool.or_self, Bool.not_true, Bool.false_eq_true, if_false]
  cases a <;> rfl

theorem packetVerify_dropped {v : Verdict} (hv : t.verify rx.pkt = v) (hn : ∀ slot, v ≠ .accept slot) :
    packetVerify j s = t.verifyDrop rx.pkt rx.port rx.vc v := by
  rw [packetVerify, if_neg hh]
  simp only [he, ht, ha, hd, hf, hc, hs, hq, hv, Bool.and_false, Bool.or_self, Bool.not_true, Bool.false_eq_true, if_false]

end
end
end
end
end
end

end Sys2Proof.Machine

open Sys2Proof Sys2Proof.Machine

/-- Settles O33: guard by guard in the order of `packetVerify`, then verdict by verdict; the verdict itself check by check in the order of R486. -/
theorem ejectedPacketsAreVerifiedOrDiscarded : Obligations.EjectedPacketsAreVerifiedOrDiscarded := by
  refine ⟨fun s t j rx rest hj hr he ht => ?_, fun s p did tref epoch time ctr hs =>
    ⟨verify_of_not_timeLocked, fun f hl hp => verify_pathFault hl hp, fun hl hp =>
      ⟨verify_management hl hs hp, verify_of_no_slot hl hs hp, fun slot t hm hf hk => ⟨fun hc hn => ?_, fun k hkey => ⟨fun ho => ?_, fun ho hy => ?_⟩⟩⟩⟩⟩
  · have hh := not_halted_of_runs hr
    have power : s.rd F.CRP_PWR_STAT_STATE = t.rd F.CRP_PWR_STAT_STATE := by subst ht; rfl
    have out {a b : Bool} (h : a = false) : (a && b) = false := by rw [h, Bool.false_and]
    rw [exec_packetVerify hj hr, power]
    refine ⟨fun ha hp => ?_, fun ha hd hp => ?_, fun ha hd hf => ?_, fun ha hd hf hs hc hq => ?_, fun ha hd hf hs hc hq => ?_⟩
    · rw [packetVerify_asleep hh he ht (by rw [ha, hp, Bool.true_and])]
    · rw [packetVerify_shutdown hh he ht (out ha) (by rw [hd, hp, Bool.true_and])]
    · rw [packetVerify_fenced hh he ht (out ha) (out hd) hf]
    · rw [packetVerify_refused hh he ht (out ha) (out hd) hf hc hs hq]
    · have accepted {slot u a} := packetVerify_accepted hh he ht (out ha) (out hd) hf hc hs hq
        (slot := slot) (u := u) (a := a)
      have dropped {v} := packetVerify_dropped hh he ht (out ha) (out hd) hf hc hs hq (v := v)
      refine ⟨fun slot u a hv hg => ⟨?_, ?_⟩, fun hv => ?_, fun hv => ?_, fun hv => ?_, fun hv => ?_, fun hv => ?_⟩
      · rintro x rfl
        rw [accepted hv hg, Option.elim_some]
      · rintro rfl
        rw [accepted hv hg, Option.elim_none]
      · rw [dropped hv nofun, verifyDrop_notLocked]
      · rw [dropped hv nofun, verifyDrop_unknownTenancy]
      · rw [dropped hv nofun, verifyDrop_staleEpoch]
      · rw [dropped hv nofun, verifyDrop_notFresh]
      · rw [dropped hv nofun, verifyDrop_tagFail]
  · rw [verify_of_slot hl hs hp hm hf hk, TenSlot.keyFor_eq_none hc hn, Option.elim_none]
  · rw [verify_of_slot hl hs hp hm hf hk, TenSlot.keyFor_eq_some hkey, Option.elim_some, if_pos ho]
  · rw [verify_of_slot hl hs hp hm hf hk, TenSlot.keyFor_eq_some hkey, Option.elim_some, if_neg (by omega)]
end

section
/-! PROOF. How every command completes (05 R162; 02 R28, R32, R52), and what register accesses come to: reads (02 R33 to R35, R54), accesses to a
gated block (R41), reset B (R38, R39), fences (R40), commits (R47 to R49, R59; 11 R365) and the capture of the first error (R44 to R46). -/

namespace Sys2Proof.Machine

/-! ## The form of a command (log entries 26 and 27) -/

/-- A command acts where its operands name something and the device takes it, and else leaves the state as it was: every arm of `exec` is `act` or
`actLight` over the operands that `Instr.wf` asks for. -/
theorem exec_completes (c : Instr) (s : State) : ∃ (takes : Bool) (t : State), exec c s = .next (if c.wf && takes then t else s) := by
  cases c <;> exact ⟨_, _, rfl⟩

/-! ## Where an access reaches its page -/

section
variable {s n : State} {m a : Nat} {ok : Bool}

/-- An access that passes R41 and R509 is its effect on the state with the access counted. -/
theorem regGate_reached (i : Instr) {halt : Bool} (no f : State → State) (h : s.access m a n) (hh : n.halted = false ∨ halt = false) :
    regGate i m a halt no f s = f n := by
  obtain ⟨hb, hl, hn, hg, -⟩ := h
  subst hn
  rcases hh with hh | hh <;> simp [regGate, hb, hl, hg, hh]

/-- One to a gated block is recorded in `GATED_ACCESS` and nowhere else (R41). -/
theorem regGate_gated (i : Instr) (halt : Bool) (no f : State → State) (hb : s.busOpen m = true)
    (hl : s.laybyHolds m (a / 65536) (a % 65536) = false) (hn : s.noteAccess m (a / 65536) = n)
    (hg : n.gated (a / 65536) (a % 65536) = true) :
    regGate i m a halt no f s = no (n.wr F.BLK_STAT_GATED_ACCESS 1 (a / 65536)) := by
  subst hn
  simp [regGate, hb, hl, hg]

/-- A register command that leaves nothing to carry out. -/
theorem actLight_access_rest {t : State} (i : Instr) (f : State → State) (h : s.access m a n) (ho : ok = true) (hf : f n = t)
    (ht : t.atRest) : actLight ok s.up (regRow i m a f) s = .next t := by
  rw [actLight_access i f h ho, hf, State.calm_of_rest ht]

end

/-- A command that leaves nothing to carry out. -/
theorem actLight_rest {ok takes : Bool} {s t : State} (f : State → State) (h : ok = true) (ht : takes = true) (hf : f s = t)
    (hr : t.atRest) : actLight ok takes f s = .next t := by
  rw [actLight_runs f s h ht, hf, State.calm_of_rest hr]

/-- An access counted leaves a state at rest. -/
theorem noteAccess_atRest {s : State} (m p : Nat) (h : s.atRest) : (s.noteAccess m p).atRest := by
  obtain ⟨ht, hc⟩ := h
  exact ⟨(State.noteAccess_todo s m p).trans ht, (State.noteAccess_caught s m p).trans hc⟩

/-- What is put off is carried out before the command ends. -/
theorem calm_later (s : State) (t : Todo) : (s.later t).calm = (s.later t).settle := by
  simp [State.calm]

/-! ## Register reads (R33 to R35, R54, R414) -/

section
variable {s n : State} {m a size : Nat} {x : Place}

theorem exec_regRead_of_access (hm : isMaster m = true) (ho : isOff a = true) (h : s.access m a n)
    (hh : n.halted = false ∨ haltRead a = false) : exec (.regRead m a size) s = .next (regReadRun m a size n).calm := by
  have run : exec (.regRead m a size) s = .next (regReadRow m a size s).calm :=
    actLight_runs (regReadRow m a size) s (by simp [hm, ho]) (access_up h)
  rw [run, regReadRow, regGate_reached _ _ _ h hh]

theorem regReadRun_bad (hg : goodAccess a size = false) : regReadRun m a size s = s.badRead m a := by
  simp [regReadRun, hg]

/-- A read that tries for no semaphore is answered with what is fetched. -/
theorem regReadRun_fetch (hg : goodAccess a size = true) (hs : semOf a = none) :
    regReadRun m a size s = (s.regFetch m a size).1.emit (.readReply m a (s.regFetch m a size).2) := by
  simp [regReadRun, hg, hs, State.replyRead]

/-- A reserved page holds no semaphore. -/
theorem semOf_reserved (hp : place (a / 8 * 8) = none) : semOf a = none := by
  simp [semOf, hp]

theorem regFetch_reserved (hp : place (a / 8 * 8) = none) : s.regFetch m a size = (s, 0) := by
  simp [State.regFetch, hp]

theorem regFetch_foreign_window (hp : place (a / 8 * 8) = some x) (hw : x.win = true) (hi : mayWindow m x.inst = false) :
    s.regFetch m a size = (s, 0) := by
  simp [State.regFetch, hp, hw, hi]

/-- A register fetched: its high-water fields are brought up to date, it is read, and what it clears is cleared. -/
theorem regFetch_register {t : State} {w lo : Nat} (hp : place (a / 8 * 8) = some x) (hi : x.win = false ∨ mayWindow m x.inst = true)
    (ht : (s.raiseHighs x).readPlace x = (t, w)) (hl : lo = if size = 8 ∨ a % 8 = 0 then 0 else 32) :
    s.regFetch m a size = (t.clearRead x lo (if size = 8 then 64 else lo + 32), partOf a size w) := by
  subst hl
  rcases hi with hi | hi <;> simp [State.regFetch, hp, hi, ht]

end

end Sys2Proof.Machine

open Sys2Proof Sys2Proof.Machine

/-- Settles O3: from the one form that every command has. -/
theorem commandsCompleteWhereTheirOperandsName : Obligations.CommandsCompleteWhereTheirOperandsName := by
  intro c s
  obtain ⟨takes, t, h⟩ := exec_completes c s
  exact ⟨⟨_, h⟩, fun hw => by simpa [hw] using h⟩

/-- Settles O9: by size and alignment, then by place and window, as `regReadRun` and `regFetch` decide. -/
theorem registerReadIsAnswered : Obligations.RegisterReadIsAnswered := by
  intro s n m a size hm ho hr h hh
  have run := exec_regRead_of_access (size := size) hm ho h hh
  have answered : (n.emit (.readReply m a 0)).atRest := show n.atRest from access_atRest h hr
  refine ⟨fun hg => ?_, fun hg hp => ?_, fun x hg hp hs => ⟨fun hw hi => ?_, fun hi t w lo ht hl => ?_⟩⟩
  · rw [run, regReadRun_bad hg]
    rfl
  · rw [run, regReadRun_fetch hg (semOf_reserved hp), regFetch_reserved hp, State.calm_of_rest answered]
  · rw [run, regReadRun_fetch hg hs, regFetch_foreign_window hp hw hi, State.calm_of_rest answered]
  · rw [run, regReadRun_fetch hg hs, regFetch_register hp hi ht hl]

/-- Settles O10: the gate of `regGate` comes before the size, the master and the effect of an access. -/
theorem gatedBlockAnswersZeroAndDiscardsWrites : Obligations.GatedBlockAnswersZeroAndDiscardsWrites := by
  refine ⟨fun s p o => by simp [State.gated, or_assoc], fun s n m a size v hm ho hr hb hl hn hg => ?_⟩
  have hu : s.up = true := busOpen_up hb
  have hok : (isMaster m && isOff a) = true := by simp [hm, ho]
  have rest : n.atRest := hn ▸ noteAccess_atRest m _ hr
  have gate (i : Instr) (halt : Bool) (no f : State → State) := regGate_gated i halt no f hb hl hn hg
  exact ⟨actLight_rest (regReadRow m a size) hok hu (gate ..) rest, actLight_rest (regWriteRow m a size v) hok hu (gate ..) rest,
    fun i f => gate i _ id f⟩
end

section
/-! PROOF. Reset B (02 R38, R39; 19 R574), fences (R40), commits and discards of shadow copies (R47 to R49, R59; 11 R365), and the capture of the
first error (R44 to R46). -/

namespace Sys2Proof

/-- Writing the default lists nothing new. -/
theorem Sparse.mem_of_mem_write_default {β : Type} [DecidableEq β] {d : β} {l : Sparse β} {a : Nat} {e : Nat × β}
    (h : e ∈ Sparse.write d l a d) : e ∈ l := by
  induction l with
  | nil => simp [Sparse.write] at h
  | cons x r ih =>
    simp only [Sparse.write, if_true] at h
    split_ifs at h with hx hl
    · exact List.mem_cons_of_mem x h
    · exact h
    · rcases List.mem_cons.mp h with h | h
      · exact h ▸ List.mem_cons_self
      · exact List.mem_cons_of_mem x (ih h)

end Sys2Proof

namespace Sys2Proof.Machine

section
variable {s n : State} {m p : Nat} {b : Block} {k : Nat}

/-- The operands of a command on a page of a block name something. -/
theorem masterPage_ok (hm : isMaster m = true) (hp : pageBlock p = some (b, k)) : (isMaster m && isPage p) = true := by
  simp [hm, isPage_of_pageBlock hp]

/-! ## Reset B -/

/-- Reset B starts where the page supports it and is disabled or fenced, and the master may write (R38, R53). -/
theorem blkRst_eq (hp : pageBlock p = some (b, k)) : blkRst m p s =
    if s.mayWrite m && b.brst && (!s.on F.BLK_CTL_EN p || s.fenced p) then s.wr F.BLK_STAT_RESET_BUSY 1 p
    else s.refuse m p (F.BLK_CTL_RST.addr p 0) true := by
  simp [blkRst, hp]

theorem blockResetComplete_busy (hp : pageBlock p = some (b, k)) (hb : s.on F.BLK_STAT_RESET_BUSY p = true) :
    blockResetComplete p s = ((s.blockDiscard b k).clearB p).wr F.BLK_STAT_RESET_BUSY 0 p := by
  simp [blockResetComplete, hp, hb]

/-- A bank from which fields were cleared lists none of them. -/
theorem clearRegs_regs_keep {t : Block → Fld → Nat → Nat → Bool} {e : Nat × Nat} (h : e ∈ (s.clearRegs t).regs) {c : Block} {f : Fld}
    {i j : Nat} (hf : fieldAt e.1 = some (c, f, i, j)) : t c f i j = false := by
  have := (List.mem_filter.mp h).2
  simpa [hf] using this

/-- After reset B, no field of the page that lists B is listed in the bank: each holds its reset value (R39). -/
theorem clearB_regs {e : Nat × Nat} (h : e ∈ ((s.clearB p).wr F.BLK_STAT_RESET_BUSY 0 p).regs) {c : Block} {f : Fld} {i j : Nat}
    (hf : fieldAt e.1 = some (c, f, i, j)) (hp : Fld.addr f i j / 65536 = p) : f.clr.contains .b = false := by
  have listed : e ∈ (s.clearB p).regs := Sparse.mem_of_mem_write_default (d := 0) h
  have cleared := clearRegs_regs_keep (s := s) listed hf
  simpa only [hp, decide_true, Bool.true_and] using cleared

/-- No shadow copy of the page differs from the value in effect. -/
theorem clearB_vals {e : Nat × Nat} (h : e ∈ (s.clearB p).sh.vals) : keyPage e.1 ≠ p := by
  simpa [keyPage] using (List.mem_filter.mp h).2

theorem clearB_commits : Tbl.get (s.clearB p).sh.commits p = none := Tbl.get_del_same ..

theorem clearB_wins {e : (Nat × Nat) × Win} (h : e ∈ (s.clearB p).wins) : e.1.1 ≠ p := by
  simpa using (List.mem_filter.mp h).2

/-! ## Fences (R40) -/

/-- A reaction holds a block fence where it fences the block: index by index, the second and the first of R502. -/
theorem fenceHeld_iff (hp : pageBlock p = some (b, k)) : s.fenceHeld p = true ↔
    ∃ i, i < 32 ∧ bitOf (s.rd F.ERR_STAT_ERR p) i = true ∧ (bitsOf (s.rd F.ERR_CLASS_REACT p) (2 * i) 2 = 2 ∨
      (bitsOf (s.rd F.ERR_CLASS_REACT p) (2 * i) 2 = 1 ∧ b ≠ .mem ∧ (b.units = 0 ∨ perUnit p i = false))) := by
  simp only [State.fenceHeld, hp, List.any_eq_true, List.mem_range, Bool.and_eq_true]
  refine exists_congr fun i => and_congr_right fun _ => and_congr_right fun _ => ?_
  generalize bitsOf (s.rd F.ERR_CLASS_REACT p) (2 * i) 2 = r
  split <;> simp_all

section
variable (hp : pageBlock p = some (b, k)) (hw : s.mayWrite m = true)
include hp hw

theorem blkFenceWrite_sets (hb : b.unfenceable = false) (hf : s.fenced p = false) :
    blkFenceWrite m p true s = (s.wr F.BLK_CTL_FENCE 1 p).later (.fence p) := by
  simp [blkFenceWrite, hp, hw, hb, hf]

theorem blkFenceWrite_held (hf : s.fenced p = true) (hh : s.fenceHeld p = true) : blkFenceWrite m p false s = s := by
  simp [blkFenceWrite, hp, hw, hf, hh]

theorem blkFenceWrite_lifts (hf : s.fenced p = true) (hh : s.fenceHeld p = false) :
    blkFenceWrite m p false s = ((s.wr F.BLK_CTL_FENCE 0 p).wr F.BLK_STAT_FAULT_FENCED 0 p).later (.unfence p) := by
  simp [blkFenceWrite, hp, hw, hf, hh]

end

/-! ## Commits and discards (R47 to R49, R365) -/

section
variable (hp : pageBlock p = some (b, k)) (hw : s.mayWrite m = true)
include hp hw

theorem shadowCmt_idle (hc : Tbl.get s.sh.commits p = none) : shadowCmt m p s = s.beginCommit p [] := by
  simp [shadowCmt, shadowWrite, hp, hw, hc]

theorem shadowDiscard_idle (hc : Tbl.get s.sh.commits p = none) : shadowDiscard m p s = s.beginDiscard p [] := by
  simp [shadowDiscard, shadowWrite, hp, hw, hc]

/-- While `BUSY`, a `CMT` or a `DISCARD` is remembered once (R49). -/
theorem shadowWrite_busy {c : Commit} (cmt : Bool) (hc : Tbl.get s.sh.commits p = some c) : shadowWrite m p cmt s =
    if c.next.contains cmt then s else { s with sh.commits := Tbl.set s.sh.commits p { c with next := c.next ++ [cmt] } } := by
  simp [shadowWrite, hp, hw, hc]

end

/-- A discard of any page but that of the road book is over at once. -/
theorem beginDiscard_of_ne_rtb (next : List Bool) (h : p ≠ Block.rtb.page) :
    s.beginDiscard p next = { s with sh.vals := s.sh.vals.filter fun e => keyPage e.1 != p } := by
  rw [State.beginDiscard, if_neg h, State.reloadShadow]

/-- The road book then copies its active bank (R365). -/
theorem beginDiscard_rtb (next : List Bool) (h : p = Block.rtb.page) : s.beginDiscard p next = State.wr { s with
    sh := { s.sh with vals := s.sh.vals.filter (fun e => keyPage e.1 != p), commits := Tbl.set s.sh.commits p { phase := 2, next := next } } }
    F.SHADOW_STAT_BUSY 1 p := by
  rw [State.beginDiscard, if_pos h, State.reloadShadow]

/-- A commit after which nothing remembered is left ends with `BUSY` 0 and `COUNT` one up (R48). -/
theorem endCommit_last {c : Commit} (h : c.next = []) : s.endCommit p c =
    (State.wr { s with sh.commits := Tbl.del s.sh.commits p } F.SHADOW_STAT_BUSY 0 p).roll F.SHADOW_STAT_COUNT 1 p := by
  rw [State.endCommit, h, State.goOn]

section
variable {c : Commit} (hc : Tbl.get s.sh.commits p = some c) (h0 : c.phase = 0) (hw : s.commitWaits (s.applySnap c) p c = false)
include hc h0 hw

/-- Refused by the block's check, a commit leaves every value in effect (R48). -/
theorem shadowCommitDone_refused {code : Nat} (hk : commitCode s (s.applySnap c) p c = code) (hne : code ≠ 0) :
    shadowCommitDone p s = ((s.wr F.SHADOW_STAT_REFUSED 1 p).wr F.SHADOW_STAT_REFUSE_CODE code p).endCommit p c := by
  simp only [shadowCommitDone, hc, h0, hw, hk]
  cases code with
  | zero => exact absurd rfl hne
  | succ => simp

theorem shadowCommitDone_accepted {t : State} (hk : commitCode s (s.applySnap c) p c = 0)
    (ht : (committed s (s.applySnap c) p c).wr F.SHADOW_STAT_REFUSED 0 p = t) : shadowCommitDone p s =
      if p = Block.rtb.page then { t with sh.commits := Tbl.set t.sh.commits p { c with phase := 1, snap := [] } } else t.endCommit p c := by
  subst ht
  simp [shadowCommitDone, hc, h0, hw, hk]

end

theorem rtbCopyDone_eq {c : Commit} (hc : Tbl.get s.sh.commits Block.rtb.page = some c) (h0 : c.phase ≠ 0) :
    rtbCopyDone s = s.copyBank.endCommit Block.rtb.page c := by
  simp [rtbCopyDone, hc, h0]

/-- The check of the `DEV` page: an identifier is committed while none is in effect (R59). -/
theorem commitCode_dev (a : State) (c : Commit) : commitCode s a 0 c = if s.did = 0x3FFFF then 0 else 1 := rfl

theorem committed_dev (a : State) (c : Commit) : committed s a 0 c = a := rfl

/-- Only commons regions make a commit wait (R171). -/
theorem commitWaits_of_ne_rxe (a : State) (c : Commit) (h : p ≠ Block.rxe.page) : s.commitWaits a p c = false := by
  simp [State.commitWaits, h]

theorem exec_shadowCommitDone (hr : s.runs = true) (hp : pageBlock p = some (b, k)) :
    exec (.shadowCommitDone p) s = .next (shadowCommitDone p s).settle :=
  act_runs (shadowCommitDone p) s (isBlock_of_pageBlock hp) hr

/-! ## The capture of the first error (R44 to R46) -/

theorem errFirstRearm_eq (hp : pageBlock p = some (b, k)) (hw : s.mayWrite m = true) :
    errFirstRearm m p s = (s.wr F.ERR_FIRST_INFO_VALID 0 p).wr F.ERR_FIRST_INFO_MORE 0 p := by
  simp [errFirstRearm, hp, hw]

section
variable {i : Nat} {e : ErrAt}

theorem capture_first (hv : s.on F.ERR_FIRST_INFO_VALID p = false) :
    s.capture p i e = { s.loadCapture p i e with caught := p :: s.caught } := by
  simp [State.capture, hv]

section
variable (hv : s.on F.ERR_FIRST_INFO_VALID p = true)
include hv

theorem capture_later (h : p ∉ s.caught ∨ s.rd F.ERR_FIRST_INFO_INDEX p ≤ i) : s.capture p i e = s.wr F.ERR_FIRST_INFO_MORE 1 p := by
  rcases h with h | h <;> simp [State.capture, hv, h, Nat.not_lt.mpr]

/-- Of the errors of one command, the lowest index is captured (R45; log entry 29). -/
theorem capture_lower (hc : p ∈ s.caught) (hi : i < s.rd F.ERR_FIRST_INFO_INDEX p) :
    s.capture p i e = (s.loadCapture p i e).wr F.ERR_FIRST_INFO_MORE 1 p := by
  simp [State.capture, hv, hc, hi]

end
end
end

end Sys2Proof.Machine

open Sys2Proof Sys2Proof.Machine

/-- Settles O11: reset B starts as `blkRst` decides; what it leaves follows from what `clearB` filters out. -/
theorem blockResetStartsAndCompletes : Obligations.BlockResetStartsAndCompletes := by
  refine ⟨fun s n m p b k hm hr h hp => ?_, fun s p b k hr hp hb => ?_⟩
  · have started : (n.wr F.BLK_STAT_RESET_BUSY 1 p).atRest := show n.atRest from access_atRest h hr
    refine (actLight_access (.blkRst m p) (blkRst m p) h (masterPage_ok hm hp)).trans ?_
    rw [blkRst_eq hp]
    split_ifs with hs
    · rw [State.calm_of_rest started]
    · rfl
  · refine ⟨_, ?_, rfl, fun e he c f i j hf ha => clearB_regs he hf ha, fun e he => clearB_vals he, clearB_commits,
      fun e he => clearB_wins he⟩
    rw [← blockResetComplete_busy hp hb]
    exact act_runs (blockResetComplete p) s (isBlock_of_pageBlock hp) hr

/-- Settles O12: which errors hold a fence, and the three writes of the bit. -/
theorem fenceIsLiftedOnlyWithoutAFencingError : Obligations.FenceIsLiftedOnlyWithoutAFencingError := by
  refine ⟨fun s p b k hp => fenceHeld_iff hp, fun s n m p b k hm hr h hp hw => ?_⟩
  have run (on : Bool) : exec (.blkFenceWrite m p on) s = .next (blkFenceWrite m p on n).calm :=
    actLight_access (.blkFenceWrite m p on) (blkFenceWrite m p on) h (masterPage_ok hm hp)
  refine ⟨fun hb hf => ?_, fun hf hh => ?_, fun hf hh => ?_⟩
  · rw [run, blkFenceWrite_sets hp hw hb hf, calm_later]
  · rw [run, blkFenceWrite_held hp hw hf hh, State.calm_of_rest (access_atRest h hr)]
  · rw [run, blkFenceWrite_lifts hp hw hf hh, calm_later]

/-- Settles O13: the writes of `SHADOW_CMT`, idle and busy; the end of a commit, by the block's check; the end of the copy. -/
theorem commitsAndDiscardsBeginAndEnd : Obligations.CommitsAndDiscardsBeginAndEnd := by
  refine ⟨fun s n m p b k hm hr h hp hw => ?_, fun s a p b k c hr hp hc h0 hn ha hwait => ?_, fun _ _ _ hr hc h0 hn ht => ?_⟩
  · have hs : n.atRest := access_atRest h hr
    have ok := masterPage_ok hm hp
    have cmt {t} := actLight_access_rest (t := t) (.shadowCmt m p) (shadowCmt m p) h ok
    have discard {t} := actLight_access_rest (t := t) (.shadowDiscard m p) (shadowDiscard m p) h ok
    refine ⟨fun hc c hcom => ?_, fun hc hne => ?_, fun hc heq => ?_, fun c hc => ⟨?_, ?_⟩⟩
    · subst hcom
      exact cmt (shadowCmt_idle hp hw hc) hs
    · exact discard ((shadowDiscard_idle hp hw hc).trans (beginDiscard_of_ne_rtb [] hne)) hs
    · exact discard ((shadowDiscard_idle hp hw hc).trans (beginDiscard_rtb [] heq)) hs
    · exact cmt (shadowWrite_busy hp hw true hc) (by split_ifs <;> exact hs)
    · exact discard (shadowWrite_busy hp hw false hc) (by split_ifs <;> exact hs)
  · subst ha
    refine ⟨fun hk => ?_, fun hk hne t ht => ?_, fun hk heq t ht => ?_⟩
    · rw [exec_shadowCommitDone hr hp, shadowCommitDone_refused hc h0 hwait rfl hk, endCommit_last hn]
      rfl
    · rw [exec_shadowCommitDone hr hp, shadowCommitDone_accepted hc h0 hwait hk ht, if_neg hne, endCommit_last hn]
    · rw [exec_shadowCommitDone hr hp, shadowCommitDone_accepted hc h0 hwait hk ht, if_pos heq]
  · subst ht
    refine (actLight_runs rtbCopyDone _ rfl hr).trans ?_
    rw [rtbCopyDone_eq hc h0, endCommit_last hn]

/-- Settles O14: the `DEV` page's check is on the value in effect before the commit. -/
theorem deviceIdentifierIsCommittedOnce : Obligations.DeviceIdentifierIsCommittedOnce := by
  intro s c hr hc h0 hn
  have hwait := commitWaits_of_ne_rxe (s := s) (p := 0) (s.applySnap c) c (by decide)
  have code := commitCode_dev (s := s) (s.applySnap c) c
  have run := exec_shadowCommitDone (p := 0) hr rfl
  refine ⟨fun hd => ?_, fun hd a ha => ?_⟩
  · rw [run, shadowCommitDone_refused hc h0 hwait (code.trans (if_neg hd)) one_ne_zero, endCommit_last hn]
    rfl
  · have inEffect : (committed s (s.applySnap c) 0 c).wr F.SHADOW_STAT_REFUSED 0 = a := by rw [committed_dev, ha]
    rw [run, shadowCommitDone_accepted hc h0 hwait (code.trans (if_pos hd)) inEffect, if_neg (by decide), endCommit_last hn]

/-- Settles O15: the re-arming write, and the three cases of a capture. -/
theorem firstErrorIsCapturedKeptAndRearmed : Obligations.FirstErrorIsCapturedKeptAndRearmed :=
  ⟨fun _ n m p _ _ hm hr h hp hw => actLight_access_rest (.errFirstRearm m p) (errFirstRearm m p) h (masterPage_ok hm hp)
      (errFirstRearm_eq hp hw) (show n.atRest from access_atRest h hr),
    fun _ _ _ _ => ⟨capture_later, capture_lower, capture_first, rfl⟩⟩
end

section
/-! PROOF. Address spaces, regions and invalidations: the admin commands that make and end them (04 R94, R107 to R109; 05 R127 to R130; 06 R164,
R165). -/

namespace Sys2Proof.Machine

/-! ## How an admin command reaches its effect (R127 to R129) -/

/-- A command that the admin engine begins is its effect on the state that the engine leaves. -/
theorem act_adminRow {s n t : State} {fn op : Nat} {c : AdminCmd} (f : State → State) (hf : isFn fn = true) (hr : s.runs = true)
    (h : s.begins fn op c n) (h0 : op ≠ 0) (h1 : op ≤ 0x15) (hs : f n = t) :
    act (isFn fn) s.runs (fun s => s.adminRow fn op c f) s = .next t.settle := by
  rw [act_runs _ s hf hr, adminRow_of_begins f h h0 h1, hs]

section
variable {s : State} {fn : Nat} {c : AdminCmd}

/-- The parameters from `P4` on are 0. -/
theorem adminCmdNo45_of_zero (h4 : c.p4 = 0) (h5 : c.p5 = 0) : AdminCmdNo45 c = true := by
  simp [AdminCmdNo45, h4, h5]

/-! ## Address spaces (R94, R109, R129) -/

theorem doCreateAs_new (h0 : c.p0 % 4096 = 0) (h1 : onlyBits c.p1 [(0, 12)] = true) (h2 : c.p2 = 0) (h3 : c.p3 = 0)
    (h45 : AdminCmdNo45 c = true) (hn : Tbl.has s.spaces (fn, bitsOf c.p1 0 12) = false) : s.doCreateAs fn c =
      ({ s with spaces := Tbl.set s.spaces (fn, bitsOf c.p1 0 12) { root := c.p0 } } : State).adminEnd fn c asOk (bitsOf c.p1 0 12) := by
  simp [State.doCreateAs, h0, h1, h2, h3, h45, hn]

/-- A space to which something is bound stays; any other goes, and what is cached of it is swept. -/
theorem doDestroyAs_known (h0 : c.p0 = 0) (h1 : onlyBits c.p1 [(0, 12)] = true) (h2 : c.p2 = 0) (h3 : c.p3 = 0)
    (h45 : AdminCmdNo45 c = true) (hn : Tbl.has s.spaces (fn, bitsOf c.p1 0 12) = true) : s.doDestroyAs fn c =
      if s.asBound fn (bitsOf c.p1 0 12) then s.adminEnd fn c asBusy
      else ({ s with spaces := Tbl.del s.spaces (fn, bitsOf c.p1 0 12) } : State).invalidate fn c 1 (bitsOf c.p1 0 12) 0 0 := by
  simp [State.doDestroyAs, h0, h1, h2, h3, h45, hn]

/-! ## Regions (R31, R130, R164, R165) -/

/-- The parameters of `CREATE_REGION` that R129 and R164 take: a range within the 48 bits of an address, some right, and no reserved bit. -/
structure RegionParams (c : AdminCmd) : Prop where
  base : c.p0 < 2 ^ 48
  nonempty : c.p1 ≠ 0
  size : c.p1 ≤ 2 ^ 42
  range : c.p0 + c.p1 ≤ 2 ^ 48
  rights : bitsOf c.p2 36 4 ≠ 0
  bits : onlyBits c.p2 [(0, 12), (12, 12), (24, 10), (34, 1), (36, 4)] = true
  p3 : c.p3 = 0
  p45 : AdminCmdNo45 c = true

/-- The region that a command describes, under a generation. -/
def newRegion (c : AdminCmd) (g : Nat) : Region :=
  { gen := g, base := c.p0, len := c.p1, as := bitsOf c.p2 0 12, slot := bitsOf c.p2 12 12, eq := bitsOf c.p2 24 10, eqEn := bitOf c.p2 34,
    rights := bitsOf c.p2 36 4 }

/-- A new region is put at an index, with the next generation of that index, and its key answered (R31, R165). -/
theorem doCreateRegion_new {i g : Nat} (hc : RegionParams c) (has : Tbl.has s.spaces (fn, bitsOf c.p2 0 12) = true)
    (heq : bitOf c.p2 34 = true → Tbl.has s.eqs (fn, bitsOf c.p2 24 10) = true) (hm : s.member (bitsOf c.p2 12 12) fn = true)
    (hl : s.regBytes fn + c.p1 ≤ 2 ^ 42) (hi : s.freeIndex fn = some i) (hg : g = Tbl.getD s.regionGen (fn, i) 0 % 255 + 1) :
    s.doCreateRegion fn c = ({ s with
      regions := Tbl.set s.regions (fn, i) (newRegion c g), regionGen := Tbl.set s.regionGen (fn, i) g,
      freed := s.freed.filter fun e => e != (fn, i) } : State).adminEnd fn c asOk (i * 256 + g) := by
  have named : ¬(bitOf c.p2 34 = true ∧ Tbl.has s.eqs (fn, bitsOf c.p2 24 10) = false) := fun ⟨he, hn⟩ => by simp [heq he] at hn
  subst hg
  simp [-Nat.reducePow, State.doCreateRegion, Nat.not_le.mpr hc.base, hc.nonempty, Nat.not_lt.mpr hc.size, Nat.not_lt.mpr hc.range,
    hc.rights, hc.bits, hc.p3, hc.p45, has, named, hm, Nat.not_lt.mpr hl, hi, newRegion]

theorem doDestroyRegion_idle {r : Region} (h0 : onlyBits c.p0 [(0, 32)] = true) (h1 : c.p1 = 0) (h2 : c.p2 = 0) (h3 : c.p3 = 0)
    (h45 : AdminCmdNo45 c = true) (hr : Tbl.get s.regions (fn, bitsOf c.p0 8 24) = some r) (hg : r.gen = c.p0 % 256)
    (hcl : r.closing = false) (hp : s.regionPlacing fn (bitsOf c.p0 8 24) = false) :
    s.doDestroyRegion fn c = (s.dropRegion fn (bitsOf c.p0 8 24)).adminEnd fn c asOk := by
  simp [State.doDestroyRegion, h0, h1, h2, h3, h45, hr, hg, hcl, hp]

/-! ## Invalidations (R107, R108) -/

theorem doXltInval_known (h0 : onlyBits c.p0 [(0, 2), (16, 12)] = true) (h2 : onlyBits c.p2 [(0, 32)] = true) (h3 : c.p3 = 0)
    (h45 : AdminCmdNo45 c = true) (hs : bitsOf c.p0 0 2 ≠ 3)
    (has : bitsOf c.p0 0 2 ≠ 0 → Tbl.has s.spaces (fn, bitsOf c.p0 16 12) = true) :
    s.doXltInval fn c = s.invalidate fn c (bitsOf c.p0 0 2) (bitsOf c.p0 16 12) c.p1 c.p2 := by
  simpa [State.doXltInval, h0, h2, h3, h45, hs] using fun hne hno => absurd (has hne) (by simp [hno])

theorem xltInvalComplete_waiting {a : AdminOp} {i : Inval} (ha : Tbl.get s.admin fn = some a) (hi : Tbl.get s.invals fn = some i)
    (hw : a.wait = .inval) : xltInvalComplete fn s =
      if s.invalOver i then ({ s with invals := Tbl.del s.invals fn } : State).adminDone fn a else s := by
  simp [xltInvalComplete, ha, hi, hw]

end

end Sys2Proof.Machine

open Sys2Proof Sys2Proof.Machine

/-- Settles O28: each command, begun by the admin engine, is its own effect with every check passed. -/
theorem addressSpacesAndRegionsAreMadeAndEnded : Obligations.AddressSpacesAndRegionsAreMadeAndEnded := by
  refine ⟨?createAs, ?destroyAs, ?createRegion, ?destroyRegion, ?xltInval, ?xltInvalComplete⟩
  case createAs =>
    intro s n fn c hf hr h h0 h1 h2 h3 h4 h5 hn
    exact act_adminRow (fun s => s.doCreateAs fn c) hf hr h (by decide) (by decide)
      (doCreateAs_new h0 h1 h2 h3 (adminCmdNo45_of_zero h4 h5) hn)
  case destroyAs =>
    intro s n fn c hf hr h h0 h1 h2 h3 h4 h5 hn
    exact act_adminRow (fun s => s.doDestroyAs fn c) hf hr h (by decide) (by decide)
      (doDestroyAs_known h0 h1 h2 h3 (adminCmdNo45_of_zero h4 h5) hn)
  case createRegion =>
    intro s n fn i g c r hf hr h h0 h1 h1' h01 hrt h2 h3 h4 h5 has heq hm hl hi hg hreg
    subst hreg
    exact act_adminRow (fun s => s.doCreateRegion fn c) hf hr h (by decide) (by decide)
      (doCreateRegion_new ⟨h0, h1, h1', h01, hrt, h2, h3, adminCmdNo45_of_zero h4 h5⟩ has heq hm hl hi hg)
  case destroyRegion =>
    intro s n fn c r hf hr h h0 h1 h2 h3 h4 h5 hreg hg hcl hp
    exact act_adminRow (fun s => s.doDestroyRegion fn c) hf hr h (by decide) (by decide)
      (doDestroyRegion_idle h0 h1 h2 h3 (adminCmdNo45_of_zero h4 h5) hreg hg hcl hp)
  case xltInval =>
    intro s n fn c hf hr h h0 h2 h3 h4 h5 hs has
    exact act_adminRow (fun s => s.doXltInval fn c) hf hr h (by decide) (by decide)
      (doXltInval_known h0 h2 h3 (adminCmdNo45_of_zero h4 h5) hs has)
  case xltInvalComplete =>
    intro s fn a i hf hr ha hi hw
    refine (act_runs (Machine.xltInvalComplete fn) s hf hr).trans ?_
    rw [xltInvalComplete_waiting ha hi hw]
end

section
/-! PROOF. Queries, the fabric-manager role and its key, and DOE objects (02 R57, R58; 03 R82, R85; 15 R468; 18 R545 to R547, R553). -/

namespace Sys2Proof.Machine

/-! ## How a request reaches the management core (R545, R546) -/

section
variable {s n t : State} {path : ReqPath} {tag : Nat}

/-- A request on a path with none in progress is its effect. -/
theorem actLight_inTurn (i : Instr) (f : State → State) (hu : s.up = true) (hb : s.pathBusy path = false) (hf : f s = t) :
    actLight true s.up (inTurn i path f) s = .next t.calm := by
  rw [actLight_runs _ s rfl hu, inTurn_of_idle i f hb, hf]

/-- One that finds another in progress waits. -/
theorem inTurn_of_busy (i : Instr) (f : State → State) (ha : s.arrives path = true) (hb : s.pathBusy path = true) :
    inTurn i path f s = { s with mg.queue := s.mg.queue ++ [i] } := by
  simp [inTurn, ha, hb]

/-- A request is served when its path has none in progress. -/
theorem served_idle {fm mem : Bool} (h : s.served fm mem path n) : s.pathBusy path = false := by
  obtain ⟨-, -, -, -, -, hb⟩ := h
  exact hb

/-- A request that is served is its effect on the state with the request counted. -/
theorem actLight_served {fm mem : Bool} (i : Instr) (f : State → State) (hu : s.up = true) (h : s.served fm mem path n) (hf : f n = t) :
    actLight true s.up (inTurn i path (mgmtRequest fm mem path tag f)) s = .next t.calm :=
  actLight_inTurn i _ hu (served_idle h) ((mgmtRequest_of_served tag f h).trans hf)

theorem mgmtAny_of_arrives (f : State → State) (ha : s.arrives path = true) : mgmtAny path f s = f (s.countReq path) := by
  simp [mgmtAny, ha]

/-! ## Register reads by request (R546) -/

theorem mgmtRegRead_of_register {a v : Nat} (ha : s.arrives path = true) (hn : s.countReq path = n) (h8 : a % 8 = 0) (hl : a < 0x4000000)
    (hs : semOf a = none) (hg : n.gated (a / 65536) (a % 65536) = false) (hh : n.halted = false) (ht : n.regFetch 4 a 8 = (t, v)) :
    mgmtRegRead path tag a s = t.respond path tag msOk (leBytes 8 v) := by
  subst hn
  rw [mgmtRegRead, mgmtAny_of_arrives _ ha]
  simp [h8, hl, hs, hg, hh, ht]

end

/-! ## The role (R57, R58, R547) -/

section
variable {s n : State} {holder cause : Nat}

/-- A field that the role's register does not hold reads as before a change of the holder (R58). -/
theorem rd_setRole {f : Fld} {i j : Nat} (hh : f.key i j ≠ F.DEV_FM_ROLE_HOLDER.key 0 0) (hg : f.key i j ≠ F.DEV_FM_ROLE_GEN.key 0 0)
    (hc : f.key i j ≠ F.DEV_FM_ROLE_LAST_CAUSE.key 0 0) : (s.setRole holder cause).rd f i j = s.rd f i j :=
  calc (s.setRole holder cause).rd f i j
    _ = ((s.wr F.DEV_FM_ROLE_HOLDER holder).roll F.DEV_FM_ROLE_GEN).rd f i j := Sparse.read_write_other hc
    _ = (s.wr F.DEV_FM_ROLE_HOLDER holder).rd f i j := Sparse.read_write_other hg
    _ = s.rd f i j := Sparse.read_write_other hh

/-- The bytes that a role request signs (R547). -/
def roleMsg (fn gen serial : Nat) (takeover : Bool) : List Byte :=
  leBytes 1 (fn % 4 + b2n takeover * 128) ++ leBytes 1 gen ++ leBytes 6 0 ++ leBytes 8 serial

section
variable {fn tag gen serial : Nat} {takeover : Bool} {key sig : List Byte} {t : State}

/-- What `ROLE_REQUEST` makes of a request that names its own function and this serial number, where a key is enrolled. -/
def State.answerRole (s : State) (fn tag gen serial : Nat) (takeover : Bool) (key sig : List Byte) : State :=
  if gen ≠ s.rd F.DEV_FM_ROLE_GEN then s.respond (.doe fn) tag msStale
  else if !Config.ecdsaVerify key (roleMsg fn gen serial takeover) sig then s.respond (.doe fn) tag msDenied
  else if s.rd F.DEV_FM_ROLE_HOLDER ≠ 7 ∧ takeover = false then s.respond (.doe fn) tag msHeld
  else (s.setRole fn (if s.rd F.DEV_FM_ROLE_HOLDER ≠ 7 then 3 else 1)).respond (.doe fn) tag msOk

theorem exec_roleRequest (hu : s.up = true) (h : s.served false false (.doe fn) n) (hs : serial = n.fuses.serial) (hk : n.fmKey = some key) :
    exec (.roleRequest (.doe fn) tag fn takeover gen serial sig) s = .next (n.answerRole fn tag gen serial takeover key sig).calm := by
  refine actLight_served (tag := tag) (.roleRequest (.doe fn) tag fn takeover gen serial sig) _ hu h ?_
  simp [hs, hk, State.answerRole, roleMsg]

theorem answerRole_stale (hg : gen ≠ s.rd F.DEV_FM_ROLE_GEN) :
    s.answerRole fn tag gen serial takeover key sig = s.respond (.doe fn) tag msStale := by
  simp [State.answerRole, hg]

section
variable (hg : gen = s.rd F.DEV_FM_ROLE_GEN) (hv : Config.ecdsaVerify key (roleMsg fn gen serial takeover) sig = true)
include hg hv

theorem answerRole_unheld (hh : s.rd F.DEV_FM_ROLE_HOLDER = 7) :
    s.answerRole fn tag gen serial takeover key sig = (s.setRole fn 1).respond (.doe fn) tag msOk := by
  simp [State.answerRole, ← hg, hv, hh]

theorem answerRole_takeover (hh : s.rd F.DEV_FM_ROLE_HOLDER ≠ 7) (ht : takeover = true) :
    s.answerRole fn tag gen serial takeover key sig = (s.setRole fn 3).respond (.doe fn) tag msOk := by
  subst ht
  simp [State.answerRole, ← hg, hv, hh]

theorem answerRole_held (hh : s.rd F.DEV_FM_ROLE_HOLDER ≠ 7) (ht : takeover = false) :
    s.answerRole fn tag gen serial takeover key sig = s.respond (.doe fn) tag msHeld := by
  subst ht
  simp [State.answerRole, ← hg, hv, hh]

end
end

theorem fmRoleRelease_holder {m : Nat} (h : s.rd F.DEV_FM_ROLE_HOLDER = m) : fmRoleRelease m s = s.setRole 7 2 := by
  simp [fmRoleRelease, h]

theorem fmRoleRelease_other {m : Nat} (h : s.rd F.DEV_FM_ROLE_HOLDER ≠ m) :
    fmRoleRelease m s = s.refuse m 0 (F.DEV_FM_CTL_RELEASE.addr 0 0) true := by
  simp [fmRoleRelease, h]

end

/-! ## The key (R468) -/

section
variable {s n t : State} {path : ReqPath} {tag : Nat} {key sig : List Byte}

/-- May a key be enrolled on a path: signed by the enrolled one, or where there is none, unsigned but for an in-band request? -/
def State.mayEnroll (s : State) (path : ReqPath) (key sig : List Byte) : Bool :=
  match s.fmKey, path with
  | some cur, _ => Config.ecdsaVerify cur key sig
  | none, .inband _ => false
  | none, _ => true

theorem mayEnroll_first (hk : s.fmKey = none) (hp : ∀ k, path ≠ .inband k) : s.mayEnroll path key sig = true := by
  cases path with
  | inband k => exact absurd rfl (hp k)
  | doe | i3c => simp [State.mayEnroll, hk]

theorem mayEnroll_signed {cur : List Byte} (hk : s.fmKey = some cur) : s.mayEnroll path key sig = Config.ecdsaVerify cur key sig := by
  simp [State.mayEnroll, hk]

theorem exec_fmKeyEnroll (hu : s.up = true) (h : s.served false false path n) (hl : key.length = 49) (hs : 49 + sig.length ≤ pathLimit path) :
    exec (.fmKeyEnroll path tag key sig) s = .next (if n.mayEnroll path key sig
      then (n.writeSetting 4 typeVersion key).respond path tag msOk else n.respond path tag msDenied).calm := by
  refine actLight_inTurn (.fmKeyEnroll path tag key sig) (fmKeyEnroll path tag key sig) hu (served_idle h) ?_
  rw [fmKeyEnroll, sized_of_fits _ _ _ (by omega), mgmtRequest_of_served tag _ h, if_neg (by simp [hl])]
  rfl

/-! ## Settings (R546, R553) -/

theorem exec_settingsRead {type : Nat} {r : Setting} (hu : s.up = true) (h : s.served false false path n) (hk : knownType type = true)
    (hr : Tbl.get n.flash.settings type = some r) (hv : r.valid = true) :
    exec (.settingsRead path tag type) s = .next (n.respond path tag msOk r.body).calm := by
  refine actLight_served (tag := tag) (.settingsRead path tag type) _ hu h ?_
  simp [hk, hr, hv]

end

/-! ## DOE objects (R82, R85) -/

section
variable {s t : State} {fn len : Nat}

theorem exec_doeRequest {obj : DoeObject} {u : State} (hf : isFn fn = true) (hu : s.up = true) (hd : doeRequest fn len obj s = u) :
    exec (.doeRequest fn len obj) s = .next u.settle :=
  (act_runs (doeRequest fn len obj) s hf hu).trans (by rw [hd])

section
variable (ha : s.arrives (.doe fn) = true) (hl : len ≤ 65536) (ht : s.tally .hif 9 1 fn = t)
include ha hl ht

theorem doeRequest_discovery : doeRequest fn len .discovery s = t.emit (.doeTypes fn (doeTypes t.recovering)) := by
  simp [doeRequest, ha, Nat.not_lt.mpr hl, ht]

theorem doeRequest_unknown (vendor type : Nat) : doeRequest fn len (.unknown vendor type) s = t.emit (.doe fn false (.unknown vendor type)) := by
  simp [doeRequest, ha, Nat.not_lt.mpr hl, ht]

theorem doeRequest_recovery (off tag : Nat) (hr : t.recovering = true) :
    doeRequest fn len (.recovery off tag) s = t.emit (.doe fn true (.recovery off tag)) := by
  simp [doeRequest, ha, Nat.not_lt.mpr hl, ht, hr]

section
variable (hr : t.recovering = false)
include hr

theorem doeRequest_spdm : doeRequest fn len .spdm s = t.emit (.doe fn true .spdm) := by
  simp [doeRequest, ha, Nat.not_lt.mpr hl, ht, hr]

theorem doeRequest_secured : doeRequest fn len .secured s = t.emit (.doe fn true .secured) := by
  simp [doeRequest, ha, Nat.not_lt.mpr hl, ht, hr]

theorem doeRequest_ideKeys {stream keySet : Nat} {u : State} {good : Bool} (hi : t.ideKeys fn stream keySet = (u, good)) :
    doeRequest fn len (.ideKeys stream keySet) s = u.emit (.doe fn good (.ideKeys stream keySet)) := by
  simp [doeRequest, ha, Nat.not_lt.mpr hl, ht, hr, hi]

theorem doeRequest_mailbox {op tag n : Nat} (ho : knownOpcode op = true) (hn : n ≤ 61440) :
    doeRequest fn len (.mailbox 1 op tag n) s = t.emit (.doe fn true (.mailbox 1 op tag n)) := by
  simp [doeRequest, ha, Nat.not_lt.mpr hl, ht, hr, ho, Nat.not_lt.mpr hn]

end
end
end

end Sys2Proof.Machine

open Sys2Proof Sys2Proof.Machine

/-- Settles O55: each request served in its turn is its answer; the role request by `answerRole`, the key by `mayEnroll`, a DOE object by its kind. -/
theorem queriesRolesAndKeysAreAnswered : Obligations.QueriesRolesAndKeysAreAnswered := by
  refine ⟨?query, ?queryWaits, ?frame, ?role, ?key, ?release, ?regRead, ?settings, ?doe⟩
  case query =>
    intro s n path tag hu ha hn hb
    subst hn
    exact actLight_inTurn (.mgmtQuery path tag) (mgmtQuery path tag) hu hb (mgmtAny_of_arrives _ ha)
  case queryWaits =>
    intro s path tag hu ha hb
    refine (actLight_runs (inTurn (.mgmtQuery path tag) path (mgmtQuery path tag)) s rfl hu).trans ?_
    rw [inTurn_of_busy _ _ ha hb]
  case frame => exact fun s holder cause => ⟨rfl, fun f i j => rd_setRole⟩
  case role =>
    intro s n fn tag gen serial takeover key sig hu h hs hk
    rw [exec_roleRequest hu h hs hk]
    refine ⟨fun hg => ?_, fun hg hv => ⟨fun hh => ?_, fun hh ht => ?_, fun hh ht => ?_⟩⟩
    · rw [answerRole_stale hg]
      rfl
    · rw [answerRole_unheld hg hv hh]
      rfl
    · rw [answerRole_takeover hg hv hh ht]
      rfl
    · rw [answerRole_held hg hv hh ht]
      rfl
  case key =>
    intro s n path tag key sig hu h hl hs
    rw [exec_fmKeyEnroll hu h hl hs]
    refine ⟨fun hk hp => ?_, fun cur hk => ?_⟩
    · rw [mayEnroll_first hk hp]
      rfl
    · rw [mayEnroll_signed hk]
      rfl
  case release =>
    intro s n m hm h
    have run := actLight_access (.fmRoleRelease m) (fmRoleRelease m) h hm
    refine ⟨fun hh => run.trans ?_, fun hh => run.trans ?_⟩
    · rw [fmRoleRelease_holder hh]
      rfl
    · rw [fmRoleRelease_other hh]
  case regRead =>
    intro s n t path tag a v hu ha hn hb h8 hl hs hg hh ht
    exact actLight_inTurn (.mgmtRegRead path tag a) (mgmtRegRead path tag a) hu hb (mgmtRegRead_of_register ha hn h8 hl hs hg hh ht)
  case settings => exact fun s n path tag type r hu h hk hr hv => exec_settingsRead hu h hk hr hv
  case doe =>
    intro s t fn len hf hu ha hl ht
    have run {obj u} := exec_doeRequest (s := s) (len := len) (obj := obj) (u := u) hf hu
    exact ⟨run (doeRequest_discovery ha hl ht), fun vendor type => run (doeRequest_unknown ha hl ht vendor type),
      fun hr => run (doeRequest_spdm ha hl ht hr), fun hr => run (doeRequest_secured ha hl ht hr),
      fun stream keySet u good hr hi => run (doeRequest_ideKeys ha hl ht hr hi), fun off tag hr => run (doeRequest_recovery ha hl ht off tag hr),
      fun op tag n hr ho hn => run (doeRequest_mailbox ha hl ht hr ho hn)⟩
end

section
/-! PROOF. Resets C, W and M, loss of power, and the release of the reset pin (16 R517; 19 R572, R573, R575; 20 R597, R599, R601). -/

namespace Sys2Proof.Machine

/-! ## Reset W (R573, R575) -/

/-- A state without its registers, host functions and outputs: what the last work of reset W leaves as it was. -/
def State.core (s : State) : State := { s with regs := [], hostFns := [], out := [] }

section
variable {s : State}

theorem core_wr (f : Fld) (v i j : Nat) : (s.wr f v i j).core = s.core := rfl
theorem core_bump (f : Fld) (n i j : Nat) : (s.bump f n i j).core = s.core := rfl
theorem core_modHf (fn : Nat) (f : HostFn → HostFn) : (s.modHf fn f).core = s.core := rfl
theorem core_emit (o : Out) : (s.emit o).core = s.core := rfl

/-- Work on each element of a list that leaves the core leaves it as a whole. -/
theorem core_foldl {α : Type} {f : State → α → State} (h : ∀ t a, (f t a).core = t.core) (l : List α) : (l.foldl f s).core = s.core := by
  induction l generalizing s with
  | nil => rfl
  | cons a l ih => exact ih.trans (h s a)

/-- Beyond registers, slot pins and outputs, reset W leaves what `kept` keeps, device time, and the counts of corrected rows. -/
theorem core_warmReset (pin : Bool) : (s.warmReset pin).core = ({ s.kept with
    now := s.now, nowFrac := s.nowFrac, freq := s.freq, resetAt := s.now, aliveAt := s.now, rowCounts := s.rowCounts } : State).core := by
  simp only [State.warmReset]
  split_ifs <;> simp only [core_emit, core_wr, core_bump] <;>
    exact core_foldl (fun t fn => (core_modHf fn _).trans (core_wr ..)) _

theorem resetWRow_pin (m : Nat) (hu : s.up = true) : resetWRow true m s = s.warmReset true := by
  simp [resetWRow, hu]

/-- Reset W written by a master that may (R53). -/
theorem resetWRow_written {n : State} {m : Nat} (h : s.access m (F.CRP_RST_CTL_WARM.addr 0 0) n) (hw : n.mayWrite m = true) :
    resetWRow false m s = n.warmReset false := by
  simp [resetWRow, access_up h, regRow_of_access _ _ h, globalWrite, hw]

/-! ## Reset M (R572) -/

section
variable (hu : s.up = true)
include hu

theorem startResetM_full (cause : Nat) (hp : s.rd F.CRP_PWR_STAT_STATE = 0) : s.startResetM cause = s.doResetM cause false := by
  simp_all [State.startResetM, State.up]

/-- Outside `FULL`, reset M waits for the wake. -/
theorem startResetM_asleep (cause : Nat) (hp : s.rd F.CRP_PWR_STAT_STATE ≠ 0) :
    s.startResetM cause = ({ s with pw.waitM := some cause } : State).later (.wake 7) := by
  simp_all [State.startResetM, State.up]

end

/-! ## The release of the reset pin (R18, R597, R599) -/

section
variable {mode trained : Nat} {rec_ ro : Bool}

/-- The pin's release does nothing without power, or where no reset C or W is in force. -/
theorem chipRstRelease_idle (h : s.off = true ∨ s.inReset = false) : chipRstRelease mode rec_ ro trained s = s := by
  rcases h with h | h <;> simp [chipRstRelease, h]

/-- Out of reset with both stacks trained and the straps sampled, router-only low: clocks, voltage, memory and flash are there. -/
def State.released (s : State) (mode : Nat) (rec_ : Bool) : State :=
  let s := { s with inReset := false, resetAt := s.now, aliveAt := s.now, solo := 0 }
  let s := ((s.wr F.DEV_STRAPS_BOOT_MODE mode).wr F.DEV_STRAPS_RECOVERY (b2n rec_)).wr F.DEV_STRAPS_ROUTER_ONLY 0
  let s := ((s.wr F.CRP_CLK_STAT_LOCKED (2 ^ 48 - 1)).wr F.CRP_AVS_VOUT_MV s.fuses.avsMv).emit (.avs s.fuses.avsMv)
  let s := (s.wr F.DEV_MEM_CAP_STACKS 2).wr F.DEV_MEM_CAP_CAP_GIB (2 * if s.fuses.c48 then 24 else 12)
  ((s.wr F.MGT_FLASH_STAT_PRESENT 1).wr F.MGT_FLASH_STAT_JEDEC_ID (Config.free s.fresh)).drawn.emit (.pin .alive true)

/-- The boot that follows: of cause reset C or W, as `CRP_RST_STAT.LAST` has it. -/
def State.firstBoot (s : State) : State := s.boot (if s.rd F.CRP_RST_STAT_LAST = 0 then bcC else bcW) false

/-- The device comes up: the boot, and every endpoint held (R90). -/
theorem chipRstRelease_up (ho : s.off = false) (hi : s.inReset = true) (h0 : bitOf trained 0 = true) (h1 : bitOf trained 1 = true)
    (hr : (s.released mode rec_).firstBoot.routerOnly = false) : chipRstRelease mode rec_ false trained s =
      (List.range 4).foldl (fun s fn => s.holdEndpoint fn) (s.released mode rec_).firstBoot := by
  unfold chipRstRelease
  rw [if_neg (by simp [ho, hi])]
  extract_lets clocked strapped locked powered count single sized first both flash alive booted
  have trained0 : first = sized := if_pos h0
  have trained1 : both = first := if_pos h1
  have two : count = 2 := by simp [count, h0, h1, b2n]
  have ready : alive = s.released mode rec_ := by
    simp only [alive, flash, trained1, trained0, sized, two, single, h0, h1]
    rfl
  have started : booted = (s.released mode rec_).firstBoot := by simp only [booted, ready, State.firstBoot]
  rw [started]
  exact if_neg (by simp [hr])

end
end

end Sys2Proof.Machine

open Sys2Proof Sys2Proof.Machine

/-- Settles O59: each reset by its own definition; what reset W keeps, by `core_warmReset`. -/
theorem resetsActAndTheDeviceComesUp : Obligations.ResetsActAndTheDeviceComesUp := by
  refine ⟨?resetC, ?powerLoss, ?warmPin, ?warmWritten, ?survives, ?resetM, ?noRelease, ?release⟩
  case resetC => exact fun s => actLight_runs Machine.resetC s rfl rfl
  case powerLoss => exact fun s => actLight_runs vddAonLoss s rfl rfl
  case warmPin =>
    intro s hu
    refine (actLight_runs (resetWRow true 0) s rfl rfl).trans ?_
    rw [resetWRow_pin 0 hu]
  case warmWritten =>
    intro s n m hm h hw
    refine (actLight_runs (resetWRow false m) s hm rfl).trans ?_
    rw [resetWRow_written h hw]
  case survives =>
    intro s pin
    have core {α : Type} (f : State → α) := congrArg f (core_warmReset (s := s) pin)
    exact ⟨core State.inReset, core State.now, core State.resetAt, core State.pending, core State.flash, core State.fuses, core State.ops,
      core State.slots, core State.mem⟩
  case resetM =>
    intro s cause hl hh hu
    have run : exec (.resetM cause) s = .next (s.startResetM cause).calm :=
      actLight_runs (fun s => s.startResetM cause) s (by simp [hl, hh]) hu
    refine ⟨fun hp => ?_, fun hp => ?_⟩
    · rw [run, startResetM_full hu cause hp]
    · rw [run, startResetM_asleep hu cause hp]
  case noRelease =>
    intro s mode n rec_ ro h
    refine (actLight_runs (chipRstRelease mode rec_ ro n) s rfl rfl).trans ?_
    rw [chipRstRelease_idle h]
  case release =>
    intro s t u mode n rec_ ho hi h0 h1 ht hu hr
    have up : s.released mode rec_ = u := by subst ht hu; rfl
    subst up
    refine (actLight_runs (chipRstRelease mode rec_ false n) s rfl rfl).trans ?_
    rw [chipRstRelease_up ho hi h0 h1 hr]
    rfl
end

section
/-! PROOF. Host slots: filled, powered and attached; removed in order, or lost (03 R61, R86, R87, R91). -/

namespace Sys2Proof.Machine

/-! ## How a command of a host port reaches its effect -/

section
variable {s t : State}

/-- A command that acts is its effect. -/
theorem act_effect {ok takes : Bool} (f : State → State) (ho : ok = true) (ht : takes = true) (hf : f s = t) :
    act ok takes f s = .next t.settle := by
  rw [act_runs f s ho ht, hf]

/-- A register command whose access reaches the register is its effect on the state with the access counted. -/
theorem act_access_effect {n : State} {m a : Nat} {ok : Bool} (i : Instr) (f : State → State) (h : s.access m a n) (ho : ok = true)
    (hf : f n = t) : act ok s.up (regRow i m a f) s = .next t.settle := by
  rw [act_access i f h ho, hf]

/-- A level at a pin, where the device runs. -/
theorem act_pin {fn : Nat} (level : HostFn → HostFn) (f : State → State) (hfn : isFn fn = true) (hr : s.runs = true) (hf : f s = t) :
    act (isFn fn) true (pinRow fn level f) s = .next t.settle :=
  act_effect (pinRow fn level f) hfn rfl (by rw [pinRow, if_pos hr, hf])

/-- A level at a pin is noted where the device does not run. -/
theorem act_pin_noted {fn : Nat} (level : HostFn → HostFn) (f : State → State) (hfn : isFn fn = true) (hr : s.runs = false) :
    act (isFn fn) true (pinRow fn level f) s = .next (s.modHf fn level).settle :=
  act_effect (pinRow fn level f) hfn rfl (by rw [pinRow, if_neg (by simp [hr])])

theorem masterFn_ok {m fn : Nat} (hm : isMaster m = true) (hfn : isFn fn = true) : (isMaster m && isFn fn) = true := by
  simp [hm, hfn]

end

/-- An error of a host port is one of its page. -/
theorem berr_hif (s : State) (i : Nat) (e : ErrAt) (fn : Nat) : s.berr .hif i e fn = s.err (8 + fn) i e := rfl

section
variable {s u n t : State} {m fn : Nat}

/-! ## A slot is filled, powered and attached (R61, R86, R87) -/

/-- Presence counted in an empty slot of a host port that works. -/
theorem presenceCounted_empty (hro : s.routerOnly = false) (hp : (s.hf fn).present = false)
    (hu : s.reach ((s.hf fn).pinAt + ms (orWhenZero (s.rd F.HIF_SLOT_TMO_DEBOUNCE fn) 1)) = u)
    (ht : (u.modHf fn fun h => { h with present := true, pinAt := u.now }) = t) (he : t.slot fn = slEmpty) (hl : t.hifLive fn = true) :
    presenceCounted fn s = t.slotInsert fn := by
  subst hu ht
  simp [presenceCounted, hro, hp, he, hl]

/-- A command bit of `HIF_SLOT_CTL` acts in its own state of the slot alone (R53, R92). -/
theorem slotCommand_taken {st : Nat} (f : State → State) (hw : n.mayWrite m = true) (hs : n.slot fn = st) :
    slotCommand m fn st f n = f n := by
  simp [slotCommand, hw, hs]

theorem slotCommand_refused {st : Nat} (f : State → State) (hs : n.slot fn ≠ st) :
    slotCommand m fn st f n = n.refuse m (8 + fn) (F.HIF_SLOT_CTL_POWER_ON.addr fn 0) true :=
  if_neg (by simp [hs])

theorem hifLinkUp_trained {rate width : Nat} {flit : Bool} (h : s.mayTrain fn rate width flit = true) : hifLinkUp fn rate width flit s =
    (((((s.wr F.HIF_LINK_STAT_RATE rate fn).wr F.HIF_LINK_STAT_WIDTH width fn).wr F.HIF_LINK_STAT_FLIT (b2n flit) fn).wr
      F.HIF_LINK_STAT_UP 1 fn).modHf fn fun h => { h with up := true }).setSlot fn slAttached := by
  simp [hifLinkUp, h]

/-! ## A slot is removed in order (R87, R91) -/

/-- What a press of the button does once it has passed the filter (R87; log entry 42). -/
def State.pressed (s : State) (fn : Nat) : State :=
  if s.routerOnly || !s.on F.HIF_SLOT_CTL_BUTTON_EN fn then s
  else if s.slot fn = slAttached then s.quiesce fn (some s.now)
  else if s.slot fn = slQuiescing then
    match (s.hf fn).buttonAt with
    | some first => if s.now ≤ first + ms 5000 then s.unquiesce fn else s.modHf fn fun h => { h with buttonAt := some s.now }
    | none => s.modHf fn fun h => { h with buttonAt := some s.now }
  else s

/-- The state in which a press is counted: 20 ms after the one before at the earliest (R86). -/
def State.filtered (s : State) (fn : Nat) : State :=
  match (s.hf fn).pressAt with
  | some last => s.reach (last + ms 20)
  | none => s

theorem attnButton_eq : attnButton fn s =
    ((s.filtered fn).modHf fn fun h => { h with pressAt := some (s.filtered fn).now }).pressed fn := rfl

/-- By rewriting, not by `rfl`: comparing the two sides, the kernel would count the 20,000,000 ns down one by one. -/
theorem filtered_eq : s.filtered fn = ((s.hf fn).pressAt.map fun t => s.reach (t + 20000000)).getD s := by
  have filter : ms 20 = 20000000 := rfl
  rw [State.filtered, filter]
  cases (s.hf fn).pressAt with
  | none => rw [Option.map_none, Option.getD_none]
  | some last => rw [Option.map_some, Option.getD_some]

theorem attnButton_filtered (hu : (((s.hf fn).pressAt.map fun t => s.reach (t + 20000000)).getD s) = u)
    (hn : (u.modHf fn fun h => { h with pressAt := some u.now }) = n) : attnButton fn s = n.pressed fn := by
  rw [attnButton_eq, filtered_eq, hu, hn]

section
variable (hro : n.routerOnly = false) (hb : n.on F.HIF_SLOT_CTL_BUTTON_EN fn = true)
include hro hb

theorem pressed_attached (hs : n.slot fn = slAttached) : n.pressed fn = n.quiesce fn (some n.now) := by
  simp [State.pressed, hro, hb, hs]

/-- A second press within 5 s takes the request back. -/
theorem pressed_again {first : Nat} (hs : n.slot fn = slQuiescing) (hf : (n.hf fn).buttonAt = some first)
    (hl : n.now ≤ first + 5000000000) : n.pressed fn = n.unquiesce fn := by
  have notAttached : slQuiescing ≠ slAttached := by decide
  simp [State.pressed, hro, hb, hs, notAttached, hf, ms, hl]

end

theorem quiesced_quiescing (hm : mayWindow m fn = true) (hs : (n.wr F.HIF_FN_CTL_QUIESCED 1 fn).slot fn = slQuiescing) :
    quiesced m fn n = (n.wr F.HIF_FN_CTL_QUIESCED 1 fn).detach fn 1 := by
  simp [quiesced, hm, hs]

theorem quiesceTimeout_quiescing {due : Nat} (hq : (s.hf fn).quiesceAt = some due) (hs : s.slot fn = slQuiescing) :
    quiesceTimeout fn s = (s.reach due).quiesceOver fn := by
  simp [quiesceTimeout, hq, hs]

/-! ## A slot loses its sled or its power (R86, R87) -/

section
variable (hro : s.routerOnly = false) (hp : (s.hf fn).present = true) (hu : s.reach ((s.hf fn).pinAt + us 100) = u)
  (ht : (u.modHf fn fun h => { h with present := false, pinAt := u.now }) = t)
include hro hp hu ht

theorem absenceCounted_unpowered (hs : t.slot fn = slOff ∨ t.slot fn = slFault) : absenceCounted fn s = t.setSlot fn slEmpty := by
  subst hu ht
  simp [absenceCounted, hro, hp, hs]

/-- Absence of a powered sled is a surprise removal. -/
theorem absenceCounted_powered (h2 : 2 ≤ t.slot fn) (h4 : t.slot fn ≤ 4) :
    absenceCounted fn s = ((t.slotEvent F.HIF_SLOT_STAT_REMOVED_SURPRISE fn).err (8 + fn) 1).detach fn 2 := by
  have noOther : t.slot fn ≠ slOff ∧ t.slot fn ≠ slFault ∧ t.slot fn ≠ slDetaching ∧ t.slot fn ≠ slEmpty := by
    simp only [slOff, slFault, slDetaching, slEmpty]
    omega
  subst hu ht
  simp [absenceCounted, hro, hp, noOther, berr_hif]

end

theorem powerFault_noted (hro : s.routerOnly = false) (ht : (s.modHf fn fun h => { h with pwrFlt := true, fltAt := s.now }) = t) :
    powerFault fn s = if t.powered fn then t.slotFault fn else t := by
  subst ht
  simp [powerFault, hro]

theorem powerFaultCleared_noted (hro : s.routerOnly = false)
    (ht : ((s.reach ((s.hf fn).fltAt + ms (orWhenZero (s.rd F.HIF_SLOT_TMO_DEBOUNCE fn) 1))).modHf fn fun h =>
      { h with pwrFlt := false }) = t) :
    powerFaultCleared fn s = if t.slot fn = slFault ∧ (t.hf fn).present = true then t.setSlot fn slOff else t := by
  subst ht
  simp [powerFaultCleared, hro]

end

end Sys2Proof.Machine

open Sys2Proof Sys2Proof.Machine

/-- Settles O18: presence by `slotInsert`, `POWER_ON` by the state of the slot, and the training of the link. -/
theorem slotIsFilledPoweredAndAttached : Obligations.SlotIsFilledPoweredAndAttached := by
  refine ⟨?presence, ?presenceNoted, ?powerOn, ?linkUp⟩
  case presence =>
    intro s u w t fn hfn hr hro hp hu hw he hl ht
    subst ht
    exact act_pin _ (presenceCounted fn) hfn hr (presenceCounted_empty hro hp hu hw he hl)
  case presenceNoted => exact fun s fn hfn hr => act_pin_noted _ (presenceCounted fn) hfn hr
  case powerOn =>
    intro s n m fn hm hfn h hw
    refine ⟨fun hs t ht => ?_, fun hs => ?_⟩
    · subst ht
      exact act_access_effect (.powerOn m fn) (powerOn m fn) h (masterFn_ok hm hfn) (slotCommand_taken _ hw hs)
    · exact act_access_effect (.powerOn m fn) (powerOn m fn) h (masterFn_ok hm hfn) (slotCommand_refused _ hs)
  case linkUp => exact fun s fn rate width flit hfn hu h => act_effect (hifLinkUp fn rate width flit) hfn hu (hifLinkUp_trained h)

/-- Settles O19: the four ways into and out of `QUIESCING`, then absence and power faults by the state of the slot. -/
theorem slotIsRemovedOrLost : Obligations.SlotIsRemovedOrLost := by
  refine ⟨⟨?button, ?commands, ?quiesced, ?timeout⟩, ?absence, ?fault, ?cleared⟩
  case button =>
    intro s u n fn hfn hr hu hn hro hb
    have press := attnButton_filtered hu hn
    exact ⟨fun hs => act_effect (attnButton fn) hfn hr (press.trans (pressed_attached hro hb hs)),
      fun first hs hf hl => act_effect (attnButton fn) hfn hr (press.trans (pressed_again hro hb hs hf hl))⟩
  case commands =>
    intro s n m fn hm hfn hw
    have ok := masterFn_ok hm hfn
    exact ⟨fun h hs => act_access_effect (.removeReq m fn) (removeReq m fn) h ok (slotCommand_taken _ hw hs),
      fun h hs => act_access_effect (.cancel m fn) (cancel m fn) h ok (slotCommand_taken _ hw hs),
      fun h hs => act_access_effect (.forceOff m fn) (forceOff m fn) h ok (slotCommand_taken _ hw hs)⟩
  case quiesced =>
    intro s n m fn hm hfn hwin h hs
    exact act_access_effect (.quiesced m fn) (quiesced m fn) h (masterFn_ok hm hfn) (quiesced_quiescing hwin hs)
  case timeout => exact fun s fn due hfn hr hq hs => act_effect (quiesceTimeout fn) hfn hr (quiesceTimeout_quiescing hq hs)
  case absence =>
    intro s u t fn hfn hr hro hp hu ht
    exact ⟨fun hs => act_pin _ (absenceCounted fn) hfn hr (absenceCounted_unpowered hro hp hu ht hs),
      fun h2 h4 => act_pin _ (absenceCounted fn) hfn hr (absenceCounted_powered hro hp hu ht h2 h4)⟩
  case fault => exact fun s t fn hfn hr hro ht => act_pin _ (powerFault fn) hfn hr (powerFault_noted hro ht)
  case cleared => exact fun s t fn hfn hr hro ht => act_pin _ (powerFaultCleared fn) hfn hr (powerFaultCleared_noted hro ht)
end

section
/-! PROOF. Reset H and the endpoint hold, and what a host configures of its function (03 R69, R75, R76, R79, R80, R84, R88 to R90). -/

namespace Sys2Proof

/-- Of two entries set at one key, the later one stays. -/
theorem Tbl.set_set {κ α : Type} [DecidableEq κ] (t : Tbl κ α) (k : κ) (v w : α) : Tbl.set (Tbl.set t k v) k w = Tbl.set t k w := by
  induction t with
  | nil => simp [Tbl.set]
  | cons e r ih => by_cases h : e.1 = k <;> simp [Tbl.set, h, ih]

end Sys2Proof

namespace Sys2Proof.Machine

/-! ## The record of a host function, changed -/

section
variable (s : State) (fn : Nat) (f g : HostFn → HostFn)

@[simp] theorem State.hf_modHf : (s.modHf fn f).hf fn = f (s.hf fn) := by
  simp [State.modHf, State.setHf, State.hf, Tbl.getD, Tbl.get_set_same]

theorem State.modHf_modHf : (s.modHf fn f).modHf fn g = s.modHf fn fun h => g (f h) := by
  simp [State.modHf, State.setHf, State.hf, Tbl.getD, Tbl.get_set_same, Tbl.set_set]

/-- A change that leaves what was just recorded as it is. -/
theorem State.modHf_of_fixed (h : g (f (s.hf fn)) = f (s.hf fn)) : (s.modHf fn f).modHf fn g = s.modHf fn f := by
  rw [State.modHf_modHf, State.modHf, h, State.modHf]

end

section
variable {s n t : State} {m fn : Nat}

/-! ## Reset H (R88 to R90) -/

theorem startResetH_absorbed (h : (s.hf fn).resetH = true ∨ (s.hf fn).resetWait = true) : s.startResetH fn = s := by
  simp [State.startResetH, h]

theorem startResetH_begins (hr : (s.hf fn).resetH = false) (hw : (s.hf fn).resetWait = false) (hp : s.rd F.CRP_PWR_STAT_STATE = 0) :
    s.startResetH fn = s.beginResetH fn := by
  simp [State.startResetH, hr, hw, hp]

theorem perstAssert_low (hro : s.routerOnly = false) (ht : (s.modHf fn fun h => { h with perst := true }) = t) :
    perstAssert fn true s = t.startResetH fn := by
  subst ht
  simp [perstAssert, hro]

theorem perstAssert_high (hro : s.routerOnly = false) : perstAssert fn false s = s.modHf fn fun h => { h with perst := false } := by
  simp [perstAssert, hro]

theorem flr_linked (hro : s.routerOnly = false) (hl : s.linkUp fn = true) : flr fn s = s.startResetH fn := by
  simp [flr, hro, hl]

/-- A link that goes down under an attached sled: index 0 is recorded unless `PERST_N` is low (R88). -/
theorem hifLinkDown_attached (hro : s.routerOnly = false) (hl : s.linkUp fn = true) (hs : s.slot fn = slAttached)
    (ht : (s.cutHostLink fn).ideCheck fn = t) :
    hifLinkDown fn s = ((if (t.hf fn).perst then t else t.err (8 + fn) 0).setSlot fn slPowering).startResetH fn := by
  subst ht
  cases hp : (((s.cutHostLink fn).ideCheck fn).hf fn).perst <;> simp [hifLinkDown, hro, hl, hs, hp, State.when, berr_hif]

theorem resetHComplete_running (hr : (s.hf fn).resetH = true) (ht : (s.clearFn fn).clearConfig fn = t) :
    resetHComplete fn s = (if (t.hf fn).fencedAway then t.wr F.HIF_FN_STAT_EP_HOLD 1 fn else t.holdEndpoint fn).slotDetached fn := by
  subst ht
  simp [resetHComplete, hr]

theorem endpointHoldEnd_held (hh : s.on F.HIF_FN_STAT_EP_HOLD fn = true) (hr : (s.hf fn).resetH = false)
    (hf : (s.hf fn).fencedAway = false) :
    endpointHoldEnd fn s = (s.reach (Tbl.getD s.holds fn 0)).wr F.HIF_FN_STAT_EP_HOLD 0 fn := by
  simp [endpointHoldEnd, hh, hr, hf]

/-! ## D-state, Bus Master Enable and `REQUIRE` (R69, R79, R80, R84) -/

section
variable (hro : s.routerOnly = false) (hl : s.linkUp fn = true)
include hro hl

theorem fnDstateChange_d3hot : fnDstateChange fn true s = s.wr F.HIF_FN_STAT_DSTATE 3 fn := by
  simp [fnDstateChange, hro, hl]

/-- Back in D0, what was held goes, and a parked device wakes (R79, R571). -/
theorem fnDstateChange_d0 (ht : ((s.wr F.HIF_FN_STAT_DSTATE 0 fn).release fn).issueReads fn = t) :
    fnDstateChange fn false s = if t.rd F.CRP_PWR_STAT_STATE = 2 then t.later (.wake 6) else t := by
  subst ht
  simp [fnDstateChange, hro, hl]

section
variable {mps mrrs : Nat} (hm : mpsOk mps = true) (hr : mrrsOk mrrs = true)
include hm hr

theorem bmeChange_on (ht : ((s.wr F.HIF_FN_STAT_BME 1 fn).modHf fn fun h => { h with mps := mps, mrrs := mrrs }) = t) :
    bmeChange fn true mps mrrs s = (t.release fn).issueReads fn := by
  subst ht
  simp [bmeChange, hro, hl, hm, hr, b2n]

theorem bmeChange_off (ht : ((s.wr F.HIF_FN_STAT_BME 0 fn).modHf fn fun h => { h with mps := mps, mrrs := mrrs }) = t)
    (hh : (t.hf fn).resetH = false) : bmeChange fn false mps mrrs s = t := by
  subst ht
  rw [State.hf_modHf] at hh
  simp [bmeChange, hro, hl, hm, hr, b2n, State.when, hh]

end
end

/-- A function of which a Secure stream is required, and that has none, is halted (R84). -/
theorem ideCheck_unsecured (hq : t.on F.HIF_IDE_CTL_REQUIRE fn = true) (hs : t.on F.HIF_IDE_STAT_SECURE fn = false) :
    t.ideCheck fn = (t.wr F.HIF_IDE_STAT_HALTED 1 fn).wr F.HIF_FN_STAT_IDE_HALT 1 fn := by
  simp [State.ideCheck, hq, hs, b2n]

theorem ideRequire_written (hw : n.mayWrite m = true) : ideRequire m fn n = (n.wr F.HIF_IDE_CTL_REQUIRE 1 fn).ideCheck fn := by
  simp [ideRequire, hw]

/-! ## Pending bits of MSI-X (R75, R76) -/

section
variable {v addr data : Nat} {en fm mk : Bool} (ha : s.fnAbsent fn = false) (hh : s.on F.HIF_IDE_STAT_HALTED fn = false)
  (ht : (s.modHf fn fun h => { h with msixEnable := en, msixFmask := fm,
                                      msix := Tbl.set h.msix v { addr := addr, data := data, masked := mk } }) = t)
include ha hh ht

/-- Of the pending vectors, those that may go are taken out and sent. -/
theorem msixUnmask_sends {ready : List Nat}
    (hr : (t.hf fn).pba.filter (fun w => en && !fm && !(Tbl.getD (t.hf fn).msix w {}).masked) = ready) :
    msixUnmask fn v addr data en fm mk s =
      ready.foldl (fun s w => s.msix fn w) (t.modHf fn fun h => { h with pba := h.pba.filter fun w => !ready.contains w }) := by
  subst ht hr
  simp [msixUnmask, ha, hh]

/-- With no vector pending that may go, the table alone is changed. -/
theorem msixUnmask_quiet (hq : (t.hf fn).pba = [] ∨ en = false ∨ fm = true) : msixUnmask fn v addr data en fm mk s = t := by
  have noneReady : (t.hf fn).pba.filter (fun w => en && !fm && !(Tbl.getD (t.hf fn).msix w {}).masked) = [] := by
    rcases hq with h | h | h <;> simp [h]
  rw [msixUnmask_sends ha hh ht noneReady]
  subst ht
  exact State.modHf_of_fixed s fn _ _ (by simp)

/-- The one pending vector, when it is unmasked, is sent and no longer pending. -/
theorem msixUnmask_pending (hp : (t.hf fn).pba = [v]) (he : en = true) (hf : fm = false) (hm : mk = false) :
    msixUnmask fn v addr data en fm mk s = (t.modHf fn fun h => { h with pba := [] }).msix fn v := by
  have unmasked : (Tbl.getD (t.hf fn).msix v {}).masked = false := by
    subst ht
    simp [Tbl.getD, Tbl.get_set_same, hm]
  have one : (t.hf fn).pba.filter (fun w => en && !fm && !(Tbl.getD (t.hf fn).msix w {}).masked) = [v] := by
    simp [hp, he, hf, unmasked]
  rw [msixUnmask_sends ha hh ht one]
  simp [State.modHf, hp]

end
end

end Sys2Proof.Machine

open Sys2Proof Sys2Proof.Machine

/-- Settles O20: how reset H starts, its triggers, its end, and the end of the hold. -/
theorem resetOfAFunctionRunsOnce : Obligations.ResetOfAFunctionRunsOnce := by
  refine ⟨?starts, ?perstLow, ?perstHigh, ?flr, ?linkDown, ?complete, ?holdEnd⟩
  case starts => exact fun s fn => ⟨startResetH_absorbed, startResetH_begins⟩
  case perstLow => exact fun s t fn hfn hr hro ht => act_pin _ (perstAssert fn true) hfn hr (perstAssert_low hro ht)
  case perstHigh => exact fun s fn hfn hr hro => act_pin _ (perstAssert fn false) hfn hr (perstAssert_high hro)
  case flr => exact fun s fn hfn hu hro hl => act_effect (flr fn) hfn hu (flr_linked hro hl)
  case linkDown =>
    exact fun s t fn hfn hu hro hl hs ht => act_effect (hifLinkDown fn) hfn hu (hifLinkDown_attached hro hl hs ht)
  case complete => exact fun s t fn hfn hu hr ht => act_effect (resetHComplete fn) hfn hu (resetHComplete_running hr ht)
  case holdEnd => exact fun s fn hfn hu hh hr hf => act_effect (endpointHoldEnd fn) hfn hu (endpointHoldEnd_held hh hr hf)

/-- Settles O21: each of the four by its own effect; pending bits by which vectors may go. -/
theorem functionIsConfiguredByItsHost : Obligations.FunctionIsConfiguredByItsHost := by
  refine ⟨?dstate, ?bme, ?ide, ?msix⟩
  case dstate =>
    intro s fn hfn hu hro hl
    exact ⟨act_effect (fnDstateChange fn true) hfn hu (fnDstateChange_d3hot hro hl),
      fun t ht => act_effect (fnDstateChange fn false) hfn hu (fnDstateChange_d0 hro hl ht)⟩
  case bme =>
    intro s u fn mps mrrs ops hfn hm hr hu hc hro hl
    subst hc
    have run (on : Bool) {t : State} := act_effect (s := s) (t := t) (fun s => bmeChange fn on mps mrrs (cfgAccess fn ops s)) hfn hu
    exact ⟨fun t ht => run true (bmeChange_on hro hl hm hr ht), fun t ht hh => run false (bmeChange_off hro hl hm hr ht hh)⟩
  case ide =>
    intro s n t m fn hm hfn h hw ht hq hs
    subst ht
    exact act_access_effect (.ideRequire m fn) (ideRequire m fn) h (masterFn_ok hm hfn)
      ((ideRequire_written hw).trans (ideCheck_unsecured hq hs))
  case msix =>
    intro s t fn v addr data en fm mk hfn hv hu hr ha hh ht
    have named : (isFn fn && decide (v < 2048)) = true := by simp [hfn, hv]
    have rest : t.atRest := ht ▸ hr
    refine ⟨fun hq => actLight_rest (msixUnmask fn v addr data en fm mk) named hu (msixUnmask_quiet ha hh ht hq) rest,
      fun hp he hf hm => (actLight_runs (msixUnmask fn v addr data en fm mk) s named hu).trans ?_⟩
    rw [msixUnmask_pending ha hh ht hp he hf hm]
end

section
/-! PROOF. BAR2 and BAR4, and completions of host reads (03 R64 to R66, R70, R72, R77, R93). -/

namespace Sys2Proof.Machine

section
variable {s n t : State} {fn : Nat}

/-! ## BAR2 (R64, R65) -/

section
variable {off : Nat} (ho : n.barOpen fn = true)
include ho

/-- A write that has no other command is one of a reserved offset: discarded, and recorded as index 9. -/
theorem bar2ReservedAccess_write : bar2ReservedAccess fn off true n =
    (n.tally .hif 7 1 fn).err (8 + fn) 9 { access := 8, addr := off, master := some fn } := by
  simp [bar2ReservedAccess, ho, berr_hif, accRegWrite]

theorem bar2ReservedAccess_read : bar2ReservedAccess fn off false n = n.emit (.barReply fn 2 off (n.bar2Val fn off)) := by
  simp [bar2ReservedAccess, ho]

end

theorem hostAccess_atRest (h : s.hostAccess fn n) (hr : s.atRest) : n.atRest := by
  obtain ⟨-, -, -, rfl⟩ := h
  exact hr

/-! ## BAR4 (R66): `t` is the state with the access counted -/

section
variable {off size v : Nat} (ho : s.barOpen fn = true) (ht : s.tally .hif 8 size fn = t)
include ho ht

theorem bar4Access_read {a : Nat} (ha : t.bar4 fn off size = some a) (hm : t.memOk (.hif fn) a size = true) :
    bar4Access fn off size false v s = (t.memBursts (.hif fn) a size false).emit (.barReply fn 4 off (t.word a size)) := by
  simp [bar4Access, ho, ht, ha, hm]

theorem bar4Access_write {a : Nat} (ha : t.bar4 fn off size = some a) (hw : t.on F.HIF_COMMONS_CTL_WRITE_EN fn = true) :
    bar4Access fn off size true v s = t.commonsWrite a (leBytes size v) (.hif fn) := by
  simp [bar4Access, ho, ht, ha, hw]

theorem bar4Access_read_outside (ha : t.bar4 fn off size = none) : bar4Access fn off size false v s =
    (t.err (8 + fn) 8 { access := 4, addr := off + 2 ^ 63, master := some fn }).emit (.barReply fn 4 off 0) := by
  simp [bar4Access, ho, ht, ha, berr_hif, accMemRead]

theorem bar4Access_write_refused (h : t.bar4 fn off size = none ∨ t.on F.HIF_COMMONS_CTL_WRITE_EN fn = false) :
    bar4Access fn off size true v s = t.err (8 + fn) 8 { access := 5, addr := off + 2 ^ 63, master := some fn } := by
  rcases h with h | h <;> simp [bar4Access, ho, ht, h, berr_hif, accMemWrite]

end

theorem exec_bar4Access {off size v : Nat} {write : Bool} (hfn : isFn fn = true) (hr : s.runs = true) (hb : s.busOpen fn = true)
    (hf : bar4Access fn off size write v s = t) : exec (.bar4Access fn off size write v) s = .next t.settle :=
  act_effect (barRow fn (bar4Access fn off size write v)) hfn hr (by rw [barRow, if_pos hb, hf])

/-! ## Completions of host reads (R70, R72, R93; log entry 51) -/

/-- What a completion in error does to the request of a read that it answers. -/
def State.completeInError (s : State) (id : Nat) (r : HostRead) (req : Nat × Nat) : CplStatus → State
  | .error => s.failReq id r req 4 aeUnsupported
  | .abort => s.failReq id r req 4 aeAbort
  | .poisoned => s.failReq id r req 5 aePoisoned
  | .malformed => (s.berr .hif 6 { master := some r.fn } r.fn).aerUnc r.fn aeMalformed id
  | .ideCheck => (s.berr .hif 7 { master := some r.fn } r.fn).aerUnc r.fn aeIde id
  | .badTlp => (((s.berr .hif 11 { master := some r.fn } r.fn).tally .hif 12 1 r.fn).tally .hif 13 1 r.fn).aerCor r.fn acBadTlp
  | .ok => s
  | .link _ _ => s

section
variable {id off : Nat} {r : HostRead} {req : Nat × Nat} {b : List Byte} (hg : Tbl.get s.reads id = some r)
include hg

section
variable (hh : s.on F.HIF_IDE_STAT_HALTED r.fn = false)
  (hq : (r.sent.find? fun p => decide (p.1 ≤ off) && (decide (off < p.1 + p.2) || p.2 == 0)) = some req)
include hh hq

/-- A piece of a request is kept, and the request is over when all of its bytes have come (R70). -/
theorem hostReadCompletion_piece {q q' : HostRead} (hl : off + b.length ≤ req.1 + req.2) (hb : b ≠ [])
    (hp : { r with parts := r.parts ++ [(off, b)] } = q)
    (hq' : (if q.answered req then { q with sent := r.sent.filter fun p => p != req } else q) = q') :
    hostReadCompletion id off .ok b s = ({ s with reads := Tbl.set s.reads id q' } : State).closeRead id := by
  subst hp hq'
  simp [hostReadCompletion, readCompletion, hg, hh, hq, Nat.not_lt.mpr hl, hb]

theorem hostReadCompletion_inError {status : CplStatus} (hok : status ≠ .ok) (hlink : ∀ k e, status ≠ .link k e) :
    hostReadCompletion id off status b s = s.completeInError id r req status := by
  cases status with
  | ok => exact absurd rfl hok
  | link k e => exact absurd rfl (hlink k e)
  | _ => simp [hostReadCompletion, readCompletion, hg, hh, hq, State.completeInError]

end

/-- A timeout fails the oldest request of a read (R71, R72). -/
theorem hostCompletionTimeout_outstanding {rest : List (Nat × Nat)} (hs : r.sent = req :: rest) : hostCompletionTimeout id s =
    (s.reach (r.sentAt + cplTimeoutMin (s.cfg r.fn 0x098))).failReq id r req 3 aeTimeout := by
  simp [hostCompletionTimeout, hg, hs]

end

/-- An error of the link of a port that is up (R77). -/
theorem hostReadCompletion_link {id off : Nat} {e : LinkError} {b : List Byte} (hf : fn < 6) (hl : s.linkUp fn = true) :
    hostReadCompletion id off (.link fn e) b s = linkError fn e s := by
  simp [hostReadCompletion, Nat.not_le.mpr hf, hl]

theorem exec_hostReadCompletion {id off : Nat} {status : CplStatus} {b : List Byte} (hr : s.runs = true)
    (hf : hostReadCompletion id off status b s = t) : exec (.hostReadCompletion id off status b) s = .next t.settle :=
  act_effect (hostReadCompletion id off status b) rfl hr hf

end

end Sys2Proof.Machine

open Sys2Proof Sys2Proof.Machine

/-- Settles O22: BAR2 and BAR4 by where the access falls, completions by their status, and the timeout. -/
theorem hostWindowsAndHostReadsAreAnswered : Obligations.HostWindowsAndHostReadsAreAnswered := by
  refine ⟨⟨?bar2, ?bar4⟩, ?completion, ?link, ?timeout⟩
  case bar2 =>
    intro s n fn off hfn hr h ho
    have named {write : Bool} (hp : bar2Plain off write = true) : (isFn fn && bar2Plain off write) = true := by simp [hfn, hp]
    have reached (write : Bool) := bar2Row_of_hostAccess (.bar2ReservedAccess fn off write) (bar2ReservedAccess fn off write) h
    refine ⟨fun hp => (actLight_runs _ s (named hp) hr).trans ?_, fun hs hp => actLight_rest _ (named hp) hr
      ((reached false).trans (bar2ReservedAccess_read ho)) (show n.atRest from hostAccess_atRest h hs)⟩
    rw [reached, bar2ReservedAccess_write ho]
  case bar4 =>
    intro s t fn off size v hfn hr hb ho ht
    exact ⟨fun a ha hm => exec_bar4Access hfn hr hb (bar4Access_read ho ht ha hm),
      fun a ha hw _ => exec_bar4Access hfn hr hb (bar4Access_write ho ht ha hw),
      fun ha => exec_bar4Access hfn hr hb (bar4Access_read_outside ho ht ha),
      fun h => exec_bar4Access hfn hr hb (bar4Access_write_refused ho ht h)⟩
  case completion =>
    intro s id off r req b hr hg hh hq
    have inError {status : CplStatus} (hok : status ≠ .ok) (hlink : ∀ k e, status ≠ .link k e) :
        exec (.hostReadCompletion id off status b) s = .next (s.completeInError id r req status).settle :=
      exec_hostReadCompletion hr (hostReadCompletion_inError hg hh hq hok hlink)
    refine ⟨fun q q' hl hb hp hq' => exec_hostReadCompletion hr (hostReadCompletion_piece hg hh hq hl hb hp hq'), ?_, ?_, ?_, ?_, ?_, ?_⟩
    all_goals exact inError (by simp) (by simp)
  case link => exact fun s id off fn e b hr hf hl => exec_hostReadCompletion hr (hostReadCompletion_link hf hl)
  case timeout =>
    exact fun s id r req rest hr hg hs => act_effect (hostCompletionTimeout id) rfl hr (hostCompletionTimeout_outstanding hg hs)
end

section
/-! PROOF. Steps of a table walk (04 R97, R98, R100), and suspended work queues resumed or aborted (R115, R117). -/

namespace Sys2Proof.Machine

section
variable {s t : State}

/-- A finished read is taken with its result. -/
theorem takeRead_finished {rd : Nat} {r : HostRead} {x : BusResult} (hg : Tbl.get s.reads rd = some r) (hx : r.result = some x)
    (ht : { s with reads := Tbl.del s.reads rd } = t) : s.takeRead rd = (t, some (r, x)) := by
  subst ht
  simp [State.takeRead, hg, hx]

/-! ## What a walk finds in an entry (R97, R98, R100) -/

section
variable {w : Walk} {b : List Byte}

theorem walkEntry_notRead : s.walkEntry w .failed = .fault xkBusError w.level := rfl

theorem walkEntry_notValid (hv : bitOf (leNat b) 0 = false) : s.walkEntry w (.ok b) = .fault xkNotPresent w.level := by
  simp [State.walkEntry, hv]

section
variable (hv : bitOf (leNat b) 0 = true)
include hv

theorem walkEntry_misalignedLeaf (hl : bitOf (leNat b) 1 = true)
    (ha : leNat b / 4096 * 4096 % 2 ^ (12 + 9 * (w.level - 1)) ≠ 0) : s.walkEntry w (.ok b) = .fault xkBadEntry w.level := by
  simp [State.walkEntry, hv, hl, ha]

section
variable (hl : bitOf (leNat b) 1 = false)
include hl

theorem walkEntry_tableAtLastLevel (h1 : w.level = 1) : s.walkEntry w (.ok b) = .fault xkBadEntry 1 := by
  simp [State.walkEntry, hv, hl, h1]

theorem walkEntry_table (h1 : w.level ≠ 1) (hb : bitOf (leNat b) 4 = false)
    (hw : s.inSeWindow w.fn (leNat b / 4096 * 4096) = false) :
    s.walkEntry w (.ok b) = .descend (w.level - 1) (leNat b / 4096 * 4096) := by
  simp [State.walkEntry, hv, hl, h1, hb, hw]

end
end
end

/-! ## A step of a walk whose entry is here: `t` is the state with its read taken -/

section
variable {id rd : Nat} {w : Walk} {r : HostRead} {x : BusResult}
  (hw : Tbl.get s.walks id = some w) (hrd : w.read = some rd) (hg : Tbl.get s.reads rd = some r) (hx : r.result = some x)
  (ht : { s with reads := Tbl.del s.reads rd } = t)
include hw hrd hg hx ht

theorem walkStep_leaf {l : Leaf} (he : t.walkEntry w x = .leaf l) :
    walkStep id s = (if w.cache then t.fillLeaf l else t).endWalk id w l w.level := by
  simp [walkStep, hw, hrd, takeRead_finished hg hx ht, he, State.when]

/-- One level down, the entry just read stands in the walk cache (R100). -/
theorem walkStep_descend {level table : Nat} {e : TableRef} (hd : t.walkEntry w x = .descend level table) (hc : w.cache = true)
    (he : e = ⟨w.fn, w.as, w.level, w.iova / 2 ^ (12 + 9 * (w.level - 1)), table⟩) :
    walkStep id s = ({ t.fillTable e with walks := Tbl.set (t.fillTable e).walks id { w with
      level := level, table := table, read := none } } : State).walkers := by
  subst he
  simp [walkStep, hw, hrd, takeRead_finished hg hx ht, hd, hc, State.when]

theorem walkStep_fault {kind level : Nat} (he : t.walkEntry w x = .fault kind level) :
    walkStep id s = t.failWalk id w kind level := by
  simp [walkStep, hw, hrd, takeRead_finished hg hx ht, he]

end

/-! ## Suspended work queues (R115, R117, R141) -/

section
variable {n : State} {m fn wq : Nat} (hm : mayWindow m fn = true)
include hm

section
variable {q : Wq} (hq : Tbl.get n.wqs (fn, wq) = some q) (hs : q.state = .suspended)
include hq hs

theorem xltResume_suspended
    (ht : (n.modWq fn wq fun q => { q with state := .active, fetchFault := false, faultOp := none }) = t) :
    xltResume m fn wq n = (t.kickLocal (t.ops.length + 1) fn wq).fetchNext fn wq := by
  subst ht
  simp [xltResume, hm, hq, hs]

/-- A queue stopped at a descriptor fetch has no operation to go on with, and ends in `ERROR` (R141). -/
theorem xltAbort_atFetch (hf : q.fetchFault = true) : xltAbort m fn wq n =
    (n.modWq fn wq fun q => { q with fetchFault := false, faultOp := none, part := [] }).wqError fn wq dtFetchXlt (some q.fetchPos) := by
  simp [xltAbort, hm, hq, hs, hf]

end

section
variable (hq : ∀ q, Tbl.get n.wqs (fn, wq) = some q → q.state ≠ .suspended)
include hq

theorem xltResume_refused : xltResume m fn wq n = n.resumeRefused fn := by
  cases h : Tbl.get n.wqs (fn, wq) with
  | none => simp [xltResume, hm, h]
  | some q => simp [xltResume, hm, h, hq q h]

theorem xltAbort_refused : xltAbort m fn wq n = n.resumeRefused fn := by
  cases h : Tbl.get n.wqs (fn, wq) with
  | none => simp [xltAbort, hm, h]
  | some q => simp [xltAbort, hm, h, hq q h]

end
end
end

end Sys2Proof.Machine

open Sys2Proof Sys2Proof.Machine

/-- Settles O23: what an entry says, what the walk does with it, and what each request does to a queue in each state. -/
theorem walksAndSuspendedQueuesGoOn : Obligations.WalksAndSuspendedQueuesGoOn := by
  refine ⟨⟨?entry, ?step⟩, ?queues⟩
  case entry =>
    exact fun s w b => ⟨walkEntry_notRead, walkEntry_notValid, walkEntry_misalignedLeaf, walkEntry_tableAtLastLevel, walkEntry_table⟩
  case step =>
    intro s id rd w r x hr hw hrd hg hx t ht
    have run {u : State} : walkStep id s = u → exec (.walkStep id) s = .next u.settle := act_effect (walkStep id) rfl hr
    exact ⟨fun l he => run (walkStep_leaf hw hrd hg hx ht he),
      fun level table e hd hc he => run (walkStep_descend hw hrd hg hx ht hd hc he),
      fun kind level he => run (walkStep_fault hw hrd hg hx ht he)⟩
  case queues =>
    intro s n m fn wq hm hfn hw h
    have resume {u : State} : xltResume m fn wq n = u → exec (.xltResume m fn wq) s = .next u.settle :=
      act_access_effect (.xltResume m fn wq) (xltResume m fn wq) h (masterFn_ok hm hfn)
    have abort {u : State} : xltAbort m fn wq n = u → exec (.xltAbort m fn wq) s = .next u.settle :=
      act_access_effect (.xltAbort m fn wq) (xltAbort m fn wq) h (masterFn_ok hm hfn)
    exact ⟨fun q t hq hs ht => resume (xltResume_suspended hw hq hs ht), fun q hq hs hf => abort (xltAbort_atFetch hw hq hs hf),
      fun hq => ⟨resume (xltResume_refused hw hq), abort (xltAbort_refused hw hq)⟩⟩
end

section
/-! PROOF. Segments that a pipe's scheduler chooses (12 R404), and payload reads that end (04 R114; 08 R270). -/

namespace Sys2Proof.Machine

section
variable {s t : State}

/-! ## The scheduler of a pipe (R403 to R408) -/

section
variable {p : Nat}

theorem scheduleSegment_notServing (h : s.serves .txe = false ∨ s.serves .tmg = false) : scheduleSegment p s = s := by
  rcases h with h | h <;> simp [scheduleSegment, h]

section
variable (hx : s.serves .txe = true) (hm : s.serves .tmg = true)
include hx hm

theorem scheduleSegment_noneChosen (hc : s.chooseEnt p = (t, none)) : scheduleSegment p s = t := by
  simp [scheduleSegment, hx, hm, hc]

theorem scheduleSegment_chosen {e : Ent} (hc : s.chooseEnt p = (t, some e)) :
    scheduleSegment p s = if e.full then t else t.serveEnt p e := by
  simp [scheduleSegment, hx, hm, hc]

end
end

/-! ## A write of a queue's segments takes no device time -/

@[simp] theorem State.modWq_now (s : State) (fn n : Nat) (f : Wq → Wq) : (s.modWq fn n f).now = s.now := by
  simp only [State.modWq]
  split <;> rfl

@[simp] theorem State.modSend_now (s : State) (fn n id seg : Nat) (f : Send → Send) : (s.modSend fn n id seg f).now = s.now :=
  s.modWq_now fn n _

/-! ## The end of a payload read (R72, R114, R215): `t` is the state with the read taken -/

/-- The record of a packet in flight once its payload has been read again: the payload stands in its packet, where that carries data. -/
def InFlight.refilled (d : List Byte) (f : InFlight) : InFlight :=
  match f.pkt.body with
  | .data h _ => { f with reading := none, pkt := { f.pkt with body := .data h d } }
  | _ => { f with reading := none }

section
variable {rd : Nat} {r : HostRead} (hg : Tbl.get s.reads rd = some r) (ht : { s with reads := Tbl.del s.reads rd } = t)
include hg ht

/-! ### Of a segment -/

section
variable {id seg : Nat} {o : Op} (hu : r.use = .payload id seg) (ho : Tbl.get t.ops id = some o)
include hu ho

theorem payloadReadComplete_segment {d : List Byte} (hx : r.result = some (.ok d)) : payloadReadComplete rd s =
    (((t.modSend o.fn o.wq id seg fun y => { y with data := some d }).modOp id
      fun o => o.stamp fun m => { m with read := some (m.read.getD s.now) })).flushSends 64 o.fn o.wq := by
  have sameTime : t.now = s.now := ht ▸ rfl
  simp [payloadReadComplete, hg, hu, hx, takeRead_finished hg hx ht, ho, sameTime]

/-- A failed read of a segment stops its operation (R72). -/
theorem payloadReadComplete_segmentFailed (hx : r.result = some .failed) : payloadReadComplete rd s =
    ((((t.dropSends id).modOp id fun o => { o with fail := some (o.fail.getD (stAborted, dtPayloadBus)), stop := true })).checkOp
      id).flushSends 64 o.fn o.wq := by
  simp [payloadReadComplete, hg, hu, hx, takeRead_finished hg hx ht, ho]

end

/-! ### Of a retransmission -/

section
variable {k : PwKey} {seq : Nat} {f : InFlight} (hu : r.use = .retx k seq) (hf : Tbl.get t.inflight (k, seq) = some f)
include hu hf

theorem payloadReadComplete_copy {d : List Byte} (hx : r.result = some (.ok d)) :
    payloadReadComplete rd s = (t.modRec k seq (InFlight.refilled d)).launch k seq f.cand := by
  simp only [payloadReadComplete, hg, hu, hx, takeRead_finished hg hx ht, hf]
  rfl

theorem payloadReadComplete_copyFailed (hx : r.result = some .failed) : payloadReadComplete rd s = t.respLost k seq f := by
  simp [payloadReadComplete, hg, hu, hx, takeRead_finished hg hx ht, hf]

end

/-! ### Of a served request -/

section
variable {id n : Nat} {g : Serve} (hu : r.use = .serve id n) (hs : Tbl.get t.gets id = some g)
include hu hs

theorem payloadReadComplete_response {d : List Byte} (hx : r.result = some (.ok d)) : payloadReadComplete rd s = t.sendResp id g d := by
  simp [payloadReadComplete, hg, hu, hx, takeRead_finished hg hx ht, hs]

theorem payloadReadComplete_responseFailed (hx : r.result = some .failed) :
    payloadReadComplete rd s = t.serveFault id { g with chosen := false } 0 0 0 true := by
  simp [payloadReadComplete, hg, hu, hx, takeRead_finished hg hx ht, hs]

end

/-- The operation, packet or request that a finished read was for is gone: the read alone is taken. -/
theorem payloadReadComplete_unawaited
    (h : (∃ id seg, r.use = .payload id seg ∧ Tbl.get t.ops id = none) ∨
      (∃ k seq, r.use = .retx k seq ∧ Tbl.get t.inflight (k, seq) = none) ∨ (∃ id n, r.use = .serve id n ∧ Tbl.get t.gets id = none))
    (hx : r.result.isSome = true) : payloadReadComplete rd s = t := by
  obtain ⟨x, hx⟩ := Option.isSome_iff_exists.mp hx
  rcases h with ⟨id, seg, hu, hn⟩ | ⟨k, seq, hu, hn⟩ | ⟨id, n, hu, hn⟩
  · simp [payloadReadComplete, hg, hu, hx, takeRead_finished hg hx ht, hn]
  · cases x <;> simp [payloadReadComplete, hg, hu, hx, takeRead_finished hg hx ht, hn]
  · simp [payloadReadComplete, hg, hu, hx, takeRead_finished hg hx ht, hn]

end
end

end Sys2Proof.Machine

open Sys2Proof Sys2Proof.Machine

/-- Settles O32: the scheduler by what serves and what it chooses, a payload read by what it was for and how it ended. -/
theorem segmentsAreScheduledAndRead : Obligations.SegmentsAreScheduledAndRead := by
  refine ⟨?schedule, ?read⟩
  case schedule =>
    intro s t p hp hr
    have run {u : State} : scheduleSegment p s = u → exec (.scheduleSegment p) s = .next u.settle :=
      act_effect (scheduleSegment p) (decide_eq_true hp) hr
    exact ⟨fun h => run (scheduleSegment_notServing h), fun hx hm =>
      ⟨fun hc => run (scheduleSegment_noneChosen hx hm hc), fun e hc => run (scheduleSegment_chosen hx hm hc)⟩⟩
  case read =>
    intro s t rd r hr hg ht
    have run {u : State} : payloadReadComplete rd s = u → exec (.payloadReadComplete rd) s = .next u.settle :=
      act_effect (payloadReadComplete rd) rfl hr
    refine ⟨?segment, ?copy, ?response, fun h hx => run (payloadReadComplete_unawaited hg ht h hx)⟩
    case segment =>
      exact fun id seg o hu ho => ⟨fun d hx => run (payloadReadComplete_segment hg ht hu ho hx),
        fun hx => run (payloadReadComplete_segmentFailed hg ht hu ho hx)⟩
    case copy =>
      exact fun k seq f hu hf => ⟨fun d h b hx _ => run (payloadReadComplete_copy hg ht hu hf hx),
        fun hx => run (payloadReadComplete_copyFailed hg ht hu hf hx)⟩
    case response =>
      exact fun id n g hu hs => ⟨fun d hx => run (payloadReadComplete_response hg ht hu hs hx),
        fun hx => run (payloadReadComplete_responseFailed hg ht hu hs hx)⟩
end

section
/-! PROOF. A command ends with everything that it brings about (05 R147; 06 R188, R189; log entries 1, 21 and 29). -/

namespace Sys2Proof.Machine

/-- A command that acts ends with `settle` or `calm`, and both leave a state at rest whatever the command's own effect was. -/
theorem exec_ends_atRest (c : Instr) (s : State) : ∃ (acts : Bool) (ends : State → State) (t : State),
    exec c s = .next (if acts then ends t else s) ∧ ∀ u, (ends u).atRest := by
  cases c <;> exact ⟨_, _, _, rfl, by simp only [State.settle_atRest, State.calm_atRest, implies_true]⟩

/-- A command, and an idle period, answer a state at rest where they find one (R147, R188, R189; log entries 1, 21 and 29). -/
theorem step_safe {s : State} (h : s.atRest) : Outcome.safe (step s) := by
  unfold step
  split
  next => exact ⟨_, rfl, idle_atRest h⟩
  next c rest _ =>
    have found : ({ s with pending := rest } : State).atRest := h
    obtain ⟨acts, ends, t, he, hr⟩ := exec_ends_atRest c { s with pending := rest }
    refine ⟨_, he, ?_⟩
    cases acts
    · exact found
    · exact hr t

end Sys2Proof.Machine

open Sys2Proof Sys2Proof.Machine

/-- Settles O4: every command ends with `settle` or `calm`, and an idle period keeps a state at rest. -/
theorem stepsLeaveNoEffectWaiting : Obligations.StepsLeaveNoEffectWaiting := by
  intro s t hs ht
  obtain ⟨u, hu, hr⟩ := step_safe hs
  obtain rfl : t = u := by simpa [ht] using hu
  exact hr
end

section
/-! PROOF. The admin queues: their doorbell, their enable, and the record of a command that ends (05 R127, R128, R134). -/

namespace Sys2Proof.Machine

/-- An error of `CMD` is one of its page. -/
theorem berr_cmd (s : State) (i : Nat) (e : ErrAt) : s.berr .cmd i e = s.err 0x11 i e := rfl

/-! ## The admin queues (R127, R128, R134) -/

section
variable {s : State} {m fn v : Nat}

/-- R134 for the tail of an admin queue: a value within the ring is taken, any other is index 3. -/
theorem adminDoorbell_of_window (hm : mayWindow m fn = true) (hv : v < 2 ^ 32) :
    adminDoorbell m fn v s =
      if wrapSub 32 v (s.rd F.CMD_AQ_HEAD_HEAD fn) ≤ adminSize (s.rd F.CMD_AQ_CTL_LOG2_SIZE fn) ∧
          wrapSub 32 v (s.rd F.CMD_AQ_TAIL_TAIL fn) ≤ adminSize (s.rd F.CMD_AQ_CTL_LOG2_SIZE fn) -
            wrapSub 32 (s.rd F.CMD_AQ_TAIL_TAIL fn) (s.rd F.CMD_AQ_HEAD_HEAD fn)
      then ((s.tally .cmd 0).wr F.CMD_AQ_TAIL_TAIL v fn).adminFetch fn
      else (s.tally .cmd 0).err 0x11 3 { access := 8, addr := F.CMD_AQ_TAIL_TAIL.addr fn 0, master := some m } := by
  simp only [adminDoorbell, hm, Nat.mod_eq_of_lt hv, berr_cmd, Bool.not_true, Bool.false_eq_true, if_false, accRegWrite]

theorem acqEnable_of_window (hm : mayWindow m fn = true) : acqEnable m fn s = (s.wr F.CMD_ACQ_CTL_EN 1 fn).adminRoom fn := by
  simp [acqEnable, hm]

/-- With room in the admin completion queue, a host that is there and no interrupt asked for, a command that ends writes its record at the tail,
moves the tail on, and has the next command read (R127, R128). -/
theorem adminDone_of_open {t : State} {size : Nat} {a : AdminOp} (ho : s.acqOpen fn = true)
    (hz : size = adminSize (s.rd F.CMD_ACQ_CTL_LOG2_SIZE fn))
    (ht : (({ s with admin := Tbl.del s.admin fn } : State).roll F.CMD_ACQ_TAIL_TAIL 1 fn).tally .cmd 12 = t)
    (hb : t.busGone fn = false) {u : State}
    (hu : t.hostWrite 9 fn (s.rd F.CMD_ACQ_BASE_BASE fn * 4096 + 32 * (s.rd F.CMD_ACQ_TAIL_TAIL fn % size))
      (a.bytes (s.rd F.CMD_ACQ_TAIL_TAIL fn / size % 2 == 0)) = u)
    (hi : u.on F.CMD_ACQ_CTL_IRQ_EN fn = false) : s.adminDone fn a = u.adminFetch fn := by
  subst hz
  simp [State.adminDone, ho, ht, hb, hu, hi, State.when]

end

end Sys2Proof.Machine

open Sys2Proof Sys2Proof.Machine

/-- Settles O25: doorbell and enable are register writes that reach their register; the record is the one `adminDone` writes. -/
theorem adminQueuesAreServedInOrder : Obligations.AdminQueuesAreServedInOrder := by
  refine ⟨?doorbell, ?enable, ?record⟩
  case doorbell =>
    intro s n t m fn v size hm hf hw ha hv hz ht
    subst hz ht
    have run : exec (.adminDoorbell m fn v) s = .next (adminDoorbell m fn v n).settle := act_access _ _ ha (by simp [hm, hf])
    rw [run, adminDoorbell_of_window hw hv]
    exact ⟨fun hin => by rw [if_pos hin], fun hout => by rw [if_neg hout]⟩
  case enable =>
    intro s n t m fn hm hf hw ha ht
    have run : exec (.acqEnable m fn) s = .next (acqEnable m fn n).settle := act_access _ _ ha (by simp [hm, hf])
    rw [run, acqEnable_of_window hw, ht]
    exact ⟨fun a hg hr => by simp [State.adminRoom, hg, hr], fun hg => by simp [State.adminRoom, hg]⟩
  case record =>
    intro s t fn at_ size a ho hz hat ht hb hi
    subst hat
    exact adminDone_of_open ho hz ht hb rfl hi
end

section
/-! PROOF. Work queues made, drained, ended and emptied (05 R129, R138, R160, R407; 15 R472). -/

namespace Sys2Proof.Machine

/-! ## Work queues made, drained and emptied (R129, R138, R160, R472) -/

/-- The parameters of `CREATE_WQ` that R129 and R407 take: a size of a ring, a shaper with a rate and a burst, and no reserved bit. -/
structure WqParams (c : AdminCmd) : Prop where
  base : onlyBits c.p0 [(12, 36)] = true
  numbers : onlyBits c.p1 [(0, 14), (16, 4), (20, 12), (32, 14), (46, 1), (48, 12)] = true
  tenancy : onlyBits c.p2 [(0, 12), (12, 4), (16, 9), (25, 1)] = true
  shaper : onlyBits c.p3 [(0, 16), (16, 1), (32, 16), (48, 16)] = true
  p45 : AdminCmdNo45 c = true
  size : bitsOf c.p1 16 4 ≤ 10
  shaped : bitOf c.p3 16 = true → bitsOf c.p3 32 16 ≠ 0 ∧ 17 ≤ bitsOf c.p3 48 16

/-- The queue that a command describes. -/
def newWq (c : AdminCmd) : Wq :=
  { base := c.p0, log2 := bitsOf c.p1 16 4 + 6, as := bitsOf c.p1 20 12, cq := bitsOf c.p1 32 14, recv := bitOf c.p1 46, list := bitsOf c.p1 48 12,
    slot := bitsOf c.p2 0 12, tcMask := bitsOf c.p2 12 4, counter := bitsOf c.p2 16 9, countEn := bitOf c.p2 25, sched := c.p3 }

/-- What `CREATE_WQ` names is there: its address space, its completion queue and, for a receive queue, an open list. -/
structure WqTargets (s : State) (fn : Nat) (c : AdminCmd) : Prop where
  space : Tbl.has s.spaces (fn, bitsOf c.p1 20 12) = true
  cq : Tbl.has s.cqs (fn, bitsOf c.p1 32 14) = true
  list : bitOf c.p1 46 = true → ∃ l, Tbl.get s.lists (fn, bitsOf c.p1 48 12) = some l ∧ l.closing = false

section
variable {s : State} {fn : Nat} {c : AdminCmd}

/-- The parameters pass the first test of `CREATE_WQ`. -/
theorem WqParams.good (hc : WqParams c) :
    (!onlyBits c.p0 [(12, 36)] || !onlyBits c.p1 [(0, 14), (16, 4), (20, 12), (32, 14), (46, 1), (48, 12)]
      || !onlyBits c.p2 [(0, 12), (12, 4), (16, 9), (25, 1)] || !onlyBits c.p3 [(0, 16), (16, 1), (32, 16), (48, 16)]
      || !AdminCmdNo45 c || decide (16 < bitsOf c.p1 16 4 + 6)
      || (bitOf c.p3 16 && (bitsOf c.p3 32 16 == 0 || decide (bitsOf c.p3 48 16 < 17)))) = false := by
  have fits : ¬ 16 < bitsOf c.p1 16 4 + 6 := by have := hc.size; omega
  simpa [hc.base, hc.numbers, hc.tenancy, hc.shaper, hc.p45, fits] using hc.shaped

theorem doCreateWq_exists (hc : WqParams c) (hn : Tbl.has s.wqs (fn, bitsOf c.p1 0 14) = true) :
    s.doCreateWq fn c = s.adminEnd fn c asExists := by
  simp only [State.doCreateWq, hc.good, hn, Bool.false_eq_true, if_false, if_true]

/-- A function that is no member of the slot may not bind a queue to it; a member's queue is made, with a fresh scheduling entity (R472). -/
theorem doCreateWq_new (hc : WqParams c) (hn : Tbl.has s.wqs (fn, bitsOf c.p1 0 14) = false) (ht : WqTargets s fn c) :
    s.doCreateWq fn c =
      if s.member (bitsOf c.p2 0 12) fn then
        ({ s.freshEntity fn (bitsOf c.p1 0 14) with wqs := Tbl.set s.wqs (fn, bitsOf c.p1 0 14) (newWq c) } : State).adminEnd fn c asOk
          (bitsOf c.p1 0 14)
      else s.adminEnd fn c asDenied := by
  by_cases hr : bitOf c.p1 46 = true
  · obtain ⟨l, hl, ho⟩ := ht.list hr
    cases hm : s.member (bitsOf c.p2 0 12) fn <;> simp [State.doCreateWq, hc.good, hn, ht.space, ht.cq, hr, hl, ho, hm, newWq]
  · cases hm : s.member (bitsOf c.p2 0 12) fn <;> simp [State.doCreateWq, hc.good, hn, ht.space, ht.cq, hr, hm, newWq]

theorem doDrain_known (destroy : Bool) (h0 : onlyBits c.p0 [(0, 14)] = true) (h1 : c.p1 = 0) (h2 : c.p2 = 0) (h3 : c.p3 = 0)
    (h45 : AdminCmdNo45 c = true) (hn : Tbl.has s.wqs (fn, bitsOf c.p0 0 14) = true) : s.doDrain fn c destroy =
      ((s.adminHold fn c (.drain (bitsOf c.p0 0 14))).drainBegin fn (bitsOf c.p0 0 14) destroy).drainStep 65536 fn (bitsOf c.p0 0 14) := by
  simp [State.doDrain, h0, h1, h2, h3, h45, hn]

/-- A drain that is over ends the queue or empties it, as the command that began it asks. -/
theorem wqDrainComplete_drained {wq : Nat} {a : AdminOp} {q : Wq} {t : State} (ha : Tbl.get s.admin fn = some a) (hw : a.wait = .drain wq)
    (hq : Tbl.get s.wqs (fn, wq) = some q) (ht : s.drainStep 65536 fn wq = t) (hd : t.drained fn wq = true) : wqDrainComplete fn wq s =
      (if q.destroy then ({ t with wqs := Tbl.del t.wqs (fn, wq) } : State)
        else t.modWq fn wq fun q => { q with state := .active, prod := 0, cons := 0, cache := [], part := [], errAt := none }).adminDone fn a := by
  simp [wqDrainComplete, ha, hq, hw, ht, hd]

theorem doWqInval_known {q : Wq} (h0 : onlyBits c.p0 [(0, 14), (16, 1)] = true) (h1 : c.p1 = 0) (h2 : c.p2 = 0) (h3 : c.p3 = 0)
    (h45 : AdminCmdNo45 c = true) (hq : Tbl.get s.wqs (fn, bitsOf c.p0 0 14) = some q) : s.doWqInval fn c =
      ((s.modWq fn (bitsOf c.p0 0 14) fun q =>
        { q with cache := [], part := [], fetching := none, fetchWait := false, hold := bitOf c.p0 16, gather := [] }).adminEnd fn c asOk
          q.cons).fetchNext fn (bitsOf c.p0 0 14) := by
  simp [State.doWqInval, h0, h1, h2, h3, h45, hq]

end

end Sys2Proof.Machine

open Sys2Proof Sys2Proof.Machine

/-- Settles O26: each command, begun by the admin engine, is its own effect with every check passed. -/
theorem workQueuesAreMadeDrainedAndEmptied : Obligations.WorkQueuesAreMadeDrainedAndEmptied := by
  refine ⟨?create, ?drain, ?complete, ?inval⟩
  case create =>
    intro s n fn c l hf hr h h0 h1 h2 h3 h4 h5 hz hs
    have hc : WqParams c := ⟨h0, h1, h2, h3, adminCmdNo45_of_zero h4 h5, hz, hs⟩
    have run {t : State} (ht : n.doCreateWq fn c = t) : exec (.createWq fn c) s = .next t.settle :=
      act_adminRow (fun s => s.doCreateWq fn c) hf hr h (by decide) (by decide) ht
    refine ⟨fun hn => run (doCreateWq_exists hc hn), fun hn has hcq hl => ?_⟩
    have new := doCreateWq_new hc hn ⟨has, hcq, fun hb => ⟨l, hl hb⟩⟩
    refine ⟨fun hm => run ?_, fun hm q hq => run ?_⟩
    · rw [new, hm]; rfl
    · rw [new, hm, hq]; rfl
  case drain =>
    intro s n fn c op hf hr h h0 h1 h2 h3 h4 h5 hn
    have drains (destroy : Bool) := doDrain_known destroy h0 h1 h2 h3 (adminCmdNo45_of_zero h4 h5) hn
    refine ⟨fun ho => ?_, fun ho => ?_⟩ <;> subst ho
    · exact act_adminRow (fun s => s.doDrain fn c true) hf hr h (by decide) (by decide) (drains true)
    · exact act_adminRow (fun s => s.doDrain fn c false) hf hr h (by decide) (by decide) (drains false)
  case complete =>
    intro s t fn wq a q hf hr ha hw hq ht hd
    have run : exec (.wqDrainComplete fn wq) s = .next (wqDrainComplete fn wq s).settle := act_runs _ s hf hr
    rw [run, wqDrainComplete_drained ha hw hq ht hd]
    exact ⟨fun hk => by rw [hk]; rfl, fun hk => by rw [hk]; rfl⟩
  case inval =>
    intro s n fn c q hf hr h h0 h1 h2 h3 h4 h5 hq
    exact act_adminRow (fun s => s.doWqInval fn c) hf hr h (by decide) (by decide)
      (doWqInval_known h0 h1 h2 h3 (adminCmdNo45_of_zero h4 h5) hq)
end

section
/-! PROOF. Completion and event queues made, changed and ended (05 R129, R155). -/

namespace Sys2Proof.Machine

/-! ## Completion and event queues made, changed and ended (R129, R155) -/

section
variable {s : State} {fn : Nat} {c : AdminCmd}

theorem doCreateCq_new (h0 : onlyBits c.p0 [(12, 36)] = true) (h1 : onlyBits c.p1 [(0, 14), (16, 5), (24, 12)] = true)
    (h2 : onlyBits c.p2 modBits = true) (h3 : c.p3 = 0) (h45 : AdminCmdNo45 c = true) (hlo : 6 ≤ bitsOf c.p1 16 5) (hhi : bitsOf c.p1 16 5 ≤ 22)
    (hn : Tbl.has s.cqs (fn, bitsOf c.p1 0 14) = false) (has : Tbl.has s.spaces (fn, bitsOf c.p1 24 12) = true) {q : Cq}
    (hq : q = { base := c.p0, log2 := bitsOf c.p1 16 5, as := bitsOf c.p1 24 12, vector := bitsOf c.p2 0 11, irqEn := bitOf c.p2 11,
                modCount := bitsOf c.p2 16 16, modTime := bitsOf c.p2 32 16 }) :
    s.doCreateCq fn c = ({ s with cqs := Tbl.set s.cqs (fn, bitsOf c.p1 0 14) q } : State).adminEnd fn c asOk (bitsOf c.p1 0 14) := by
  simp [State.doCreateCq, h0, h1, h2, h3, h45, Nat.not_lt.mpr hlo, Nat.not_lt.mpr hhi, hn, has, hq]

/-- A completion queue to which a work queue is bound stays; any other goes. -/
theorem doDestroyCq_known (h0 : onlyBits c.p0 [(0, 14)] = true) (h1 : c.p1 = 0) (h2 : c.p2 = 0) (h3 : c.p3 = 0) (h45 : AdminCmdNo45 c = true)
    (hn : Tbl.has s.cqs (fn, bitsOf c.p0 0 14) = true) : s.doDestroyCq fn c =
      if s.wqs.any fun e => e.1.1 == fn && e.2.cq == bitsOf c.p0 0 14 then s.adminEnd fn c asBusy
      else ({ s with cqs := Tbl.del s.cqs (fn, bitsOf c.p0 0 14) } : State).adminEnd fn c asOk := by
  simp [State.doDestroyCq, h0, h1, h2, h3, h45, hn]

theorem doModifyCq_known {q q' : Cq} (h0 : onlyBits c.p0 [(0, 14)] = true) (h1 : c.p1 = 0) (h2 : onlyBits c.p2 modBits = true) (h3 : c.p3 = 0)
    (h45 : AdminCmdNo45 c = true) (hq : Tbl.get s.cqs (fn, bitsOf c.p0 0 14) = some q)
    (hq' : q' = { q with vector := bitsOf c.p2 0 11, irqEn := bitOf c.p2 11, modCount := bitsOf c.p2 16 16, modTime := bitsOf c.p2 32 16 }) :
    s.doModifyCq fn c = ({ s with cqs := Tbl.set s.cqs (fn, bitsOf c.p0 0 14) q' } : State).adminEnd fn c asOk := by
  simp [State.doModifyCq, h0, h1, h2, h3, h45, hq, hq']

/-- An event queue takes the next place in the order in which event queues were made. -/
theorem doCreateEq_new (h0 : onlyBits c.p0 [(12, 36)] = true) (h1 : onlyBits c.p1 [(0, 10), (16, 5), (24, 12), (40, 1)] = true)
    (h2 : onlyBits c.p2 modBits = true) (h3 : c.p3 = 0) (h45 : AdminCmdNo45 c = true) (hlo : 6 ≤ bitsOf c.p1 16 5) (hhi : bitsOf c.p1 16 5 ≤ 16)
    (hn : Tbl.has s.eqs (fn, bitsOf c.p1 0 10) = false) (has : Tbl.has s.spaces (fn, bitsOf c.p1 24 12) = true) {q : Eq}
    (hq : q = { base := c.p0, log2 := bitsOf c.p1 16 5, as := bitsOf c.p1 24 12, vector := bitsOf c.p2 0 11, irqEn := bitOf c.p2 11,
                modCount := bitsOf c.p2 16 16, modTime := bitsOf c.p2 32 16, async := bitOf c.p1 40, order := s.nextEq }) :
    s.doCreateEq fn c = ({ s with eqs := Tbl.set s.eqs (fn, bitsOf c.p1 0 10) q, nextEq := s.nextEq + 1 } : State).adminEnd fn c asOk
      (bitsOf c.p1 0 10) := by
  simp [State.doCreateEq, h0, h1, h2, h3, h45, Nat.not_lt.mpr hlo, Nat.not_lt.mpr hhi, hn, has, hq]

/-- Is an event queue named by a region, a list, a convoy or a commons region (R129)? -/
def State.eqNamed (s : State) (fn k : Nat) : Bool :=
  s.regions.any (fun e => e.1.1 == fn && e.2.eqEn && e.2.eq == k) || s.lists.any (fun e => e.1.1 == fn && e.2.eqEn && e.2.eq == k) ||
    s.convoys.any (fun e => e.2.cfg.eqEn && e.2.cfg.owner == fn && e.2.cfg.eq == k) || s.cregNames fn k

/-- An event queue that something names stays; any other goes. -/
theorem doDestroyEq_known (h0 : onlyBits c.p0 [(0, 10)] = true) (h1 : c.p1 = 0) (h2 : c.p2 = 0) (h3 : c.p3 = 0) (h45 : AdminCmdNo45 c = true)
    (hn : Tbl.has s.eqs (fn, bitsOf c.p0 0 10) = true) : s.doDestroyEq fn c =
      if s.eqNamed fn (bitsOf c.p0 0 10) then s.adminEnd fn c asBusy
      else ({ s with eqs := Tbl.del s.eqs (fn, bitsOf c.p0 0 10) } : State).adminEnd fn c asOk := by
  simp only [State.doDestroyEq, ← State.eqNamed.eq_def, h0, h1, h2, h3, h45, hn, Bool.not_true, Bool.or_false, ne_eq, not_true_eq_false,
    decide_false, Bool.false_eq_true, if_false]

end

end Sys2Proof.Machine

open Sys2Proof Sys2Proof.Machine

/-- Settles O27: each command, begun by the admin engine, is its own effect with every check passed. -/
theorem completionAndEventQueuesAreMadeAndEnded : Obligations.CompletionAndEventQueuesAreMadeAndEnded := by
  refine ⟨?createCq, ?destroyCq, ?modifyCq, ?createEq, ?destroyEq⟩
  case createCq =>
    intro s n fn c hf hr h h0 h1 h2 h3 h4 h5 hlo hhi hn has q hq
    exact act_adminRow (fun s => s.doCreateCq fn c) hf hr h (by decide) (by decide)
      (doCreateCq_new h0 h1 h2 h3 (adminCmdNo45_of_zero h4 h5) hlo hhi hn has hq)
  case destroyCq =>
    intro s n fn c hf hr h h0 h1 h2 h3 h4 h5 hn
    exact act_adminRow (fun s => s.doDestroyCq fn c) hf hr h (by decide) (by decide)
      (doDestroyCq_known h0 h1 h2 h3 (adminCmdNo45_of_zero h4 h5) hn)
  case modifyCq =>
    intro s n fn c q q' hf hr h h0 h1 h2 h3 h4 h5 hq hq'
    exact act_adminRow (fun s => s.doModifyCq fn c) hf hr h (by decide) (by decide)
      (doModifyCq_known h0 h1 h2 h3 (adminCmdNo45_of_zero h4 h5) hq hq')
  case createEq =>
    intro s n fn c hf hr h h0 h1 h2 h3 h4 h5 hlo hhi hn has q hq
    exact act_adminRow (fun s => s.doCreateEq fn c) hf hr h (by decide) (by decide)
      (doCreateEq_new h0 h1 h2 h3 (adminCmdNo45_of_zero h4 h5) hlo hhi hn has hq)
  case destroyEq =>
    intro s n fn k c hf hr h h0 h1 h2 h3 h4 h5 hk hn
    subst hk
    exact act_adminRow (fun s => s.doDestroyEq fn c) hf hr h (by decide) (by decide)
      (doDestroyEq_known h0 h1 h2 h3 (adminCmdNo45_of_zero h4 h5) hn)
end

section
/-! PROOF. Match lists, tenancies, compatibility queue pairs and queries: the admin commands that make, end and answer them (05 R129; 07 R236,
R241; 08 R247, R249; 15 R351, R479, R480). -/

namespace Sys2Proof.Machine

section
variable {s : State} {fn : Nat} {c : AdminCmd}

/-! ## Match lists (R247, R249) -/

/-- A function that is no member of the slot may not make a list of it; a member's list is made. -/
theorem doCreateList_new (h0 : onlyBits c.p0 [(0, 12)] = true) (h1 : onlyBits c.p1 [(0, 12), (12, 10), (22, 1)] = true) (h2 : c.p2 = 0)
    (h3 : c.p3 = 0) (h45 : AdminCmdNo45 c = true) (hn : Tbl.has s.lists (fn, bitsOf c.p0 0 12) = false)
    (heq : bitOf c.p1 22 = true → Tbl.has s.eqs (fn, bitsOf c.p1 12 10) = true) : s.doCreateList fn c =
      if s.member (bitsOf c.p1 0 12) fn then ({ s with
        lists := Tbl.set s.lists (fn, bitsOf c.p0 0 12) { slot := bitsOf c.p1 0 12, eq := bitsOf c.p1 12 10, eqEn := bitOf c.p1 22 } } : State).adminEnd
          fn c asOk (bitsOf c.p0 0 12)
      else s.adminEnd fn c asDenied := by
  have named : ¬(bitOf c.p1 22 = true ∧ Tbl.has s.eqs (fn, bitsOf c.p1 12 10) = false) := fun ⟨he, hno⟩ => by simp [heq he] at hno
  cases hm : s.member (bitsOf c.p1 0 12) fn <;> simp [State.doCreateList, h0, h1, h2, h3, h45, hn, named, hm]

/-- A list to which a receive queue is bound stays; any other closes, and goes when no cancel of it is outstanding. -/
theorem doDestroyList_known {k : Nat} {l : MList} {t : State} (hk : k = bitsOf c.p0 0 12) (h0 : onlyBits c.p0 [(0, 12)] = true) (h1 : c.p1 = 0)
    (h2 : c.p2 = 0) (h3 : c.p3 = 0) (h45 : AdminCmdNo45 c = true) (hl : Tbl.get s.lists (fn, k) = some l)
    (ht : ({ s with lists := Tbl.set s.lists (fn, k) { l with closing := true } } : State).dropUnexp fn k (fun s u => s.cancelPull u fn k) = t) :
    s.doDestroyList fn c =
      if s.wqs.any fun e => e.1.1 == fn && e.2.recv && e.2.list == k then s.adminEnd fn c asBusy
      else if t.listCancels fn k then t.adminHold fn c (.list k)
      else ({ t with lists := Tbl.del t.lists (fn, k) } : State).adminEnd fn c asOk := by
  subst hk ht
  simp only [State.doDestroyList, h0, h1, h2, h3, h45, hl, Bool.not_true, Bool.or_false, ne_eq, not_true_eq_false, decide_false,
    Bool.false_eq_true, if_false]

/-! ## Tenancies (R351, R479, R480) -/

/-- A join of a slot that is `ACTIVE`, in a space that is there, by a function that is not yet a member: the owner's digest, link encryption and
device time are asked for in this order, and the ticket is read (R479). -/
theorem doJoin_known {x : TenSlot} (h0 : onlyBits c.p0 [(0, 12)] = true) (h2 : onlyBits c.p2 [(0, 12)] = true) (h45 : AdminCmdNo45 c = true)
    (h1 : c.p1 % 8 = 0) (hx : Tbl.get s.slots (bitsOf c.p0 0 12) = some x) (hk : x.keyLost = false)
    (has : Tbl.has s.spaces (fn, bitsOf c.p2 0 12) = true) (hm : bitOf x.members fn = false) : s.doJoin fn c =
      if ownerDigest x.owner ≠ c.p3 then s.adminEnd fn c asDenied 1
      else if x.requireIde && (!s.on F.HIF_IDE_CTL_REQUIRE fn || !s.on F.HIF_IDE_STAT_SECURE fn) then s.adminEnd fn c asDenied 5
      else if !s.timeLocked then s.adminEnd fn c asDenied 6
      else (s.adminHold fn c .ticket).readTicket fn := by
  have active : s.activeSlot (bitsOf c.p0 0 12) = some x := by simp [State.activeSlot, hx, hk]
  simp [State.doJoin, h0, h1, h2, h45, active, has, hm]

/-- A member leaves: its locks are given up, and the operations that waited for one end (R351, R480). -/
theorem doLeave_member {k : Nat} {x : TenSlot} {t : State} (hk : k = bitsOf c.p0 0 12) (h0 : onlyBits c.p0 [(0, 12)] = true) (h1 : c.p1 = 0)
    (h2 : c.p2 = 0) (h3 : c.p3 = 0) (h45 : AdminCmdNo45 c = true) (hx : Tbl.get s.slots k = some x) (hm : bitOf x.members fn = true)
    (ht : ({ s with slots := Tbl.set s.slots k { x with members := clearBit x.members fn } } : State).abandonLocks fn (some k) = t) :
    s.doLeave fn c = ((s.heldLocks.filterMap fun h => if h.fn = fn && h.slot = k then h.op else none).foldl
      (fun s id => s.endOp id stTenancy dtTenancyMismatch 0 0) t).adminEnd fn c asOk := by
  subst hk ht
  simp [State.doLeave, h0, h1, h2, h3, h45, hx, hm]

/-! ## Compatibility queue pairs (R236, R241) -/

theorem doDestroyLqp_known {k : Nat} {q : Lqp} {t : State} (hk : k = bitsOf c.p0 0 18) (h0 : onlyBits c.p0 [(0, 18)] = true) (h1 : c.p1 = 0)
    (h2 : c.p2 = 0) (h3 : c.p3 = 0) (h45 : AdminCmdNo45 c = true) (hq : Tbl.get s.lqps k = some q) (hf : q.fn = fn)
    (ht : ((s.lqpEnterError k).modLqp k fun q => { q with destroying := true }) = t) :
    s.doDestroyLqp fn c = if t.lqpFlying k then t.adminHold fn c (.lqp k) else (t.dropLqp k).adminEnd fn c asOk := by
  subst hk ht
  simp [State.doDestroyLqp, h0, h1, h2, h3, h45, hq, hf]

/-- The parameters of `CREATE_LQP` that R236 takes: a remote engine that a function has, and no reserved bit. -/
structure LqpParams (c : AdminCmd) : Prop where
  ctx : onlyBits c.p0 [(8, 40)] = true
  numbers : onlyBits c.p1 [(0, 18), (20, 12)] = true
  remote : onlyBits c.p2 [(0, 21), (32, 18), (56, 2)] = true
  queues : onlyBits c.p3 [(0, 14), (16, 14), (30, 1)] = true
  p5 : c.p5 = 0
  engine : bitsOf c.p2 0 21 % 8 < 4

/-- The queues that a new pair binds: a send queue of its class and a receive queue, bound to no other pair, and nothing of theirs outstanding. -/
structure LqpQueues (s : State) (fn sw rw tc : Nat) (sq rq : Wq) : Prop where
  send : Tbl.get s.wqs (fn, sw) = some sq
  receive : Tbl.get s.wqs (fn, rw) = some rq
  sends : sq.recv = false
  tclass : bitOf sq.tcMask tc = true
  receives : rq.recv = true
  sendFree : sq.lqp = 0
  receiveFree : rq.lqp = 0
  sendIdle : s.outstandingOps fn sw = 0
  receiveIdle : s.outstandingOps fn rw = 0
  noneHeld : (s.ops.any fun e => e.2.fn == fn && e.2.wq == sw && e.2.phase == .held) = false

/-- The pathway and the context of a new pair are made, and both queues are bound to it; `e` is the state with room for the context and with the
function's epoch (R236). -/
theorem doCreateLqp_new {k sw rw : Nat} {sq rq : Wq} {d e : State} (hc : LqpParams c) (hk : k = bitsOf c.p1 0 18) (hsw : sw = bitsOf c.p3 0 14)
    (hrw : rw = bitsOf c.p3 16 14) (hq : LqpQueues s fn sw rw (bitsOf c.p2 56 2) sq rq) (hn : Tbl.has s.lqps k = false)
    (has : Tbl.has s.spaces (fn, bitsOf c.p1 20 12) = true) (hd : s.lqpEvict = d)
    (he : (if Tbl.has d.epochs fn then d else { d with epochs := Tbl.set d.epochs fn d.now }) = e) {q : Lqp} {key : PwKey} {w : Snd} {x : Pathway}
    {t : State}
    (hlqp : q = { fn := fn, ctx := c.p0, as := bitsOf c.p1 20 12, rem := bitsOf c.p2 0 21, remLqp := bitsOf c.p2 32 18, tc := bitsOf c.p2 56 2,
                  sendWq := sw, recvWq := rw, recvEn := bitOf c.p3 30 })
    (hkey : key = { loc := e.epa fn, rem := bitsOf c.p2 0 21, tc := bitsOf c.p2 56 2, lqp := k + 1 })
    (hw : w = { e.newSnd with next := bitsOf c.p4 0 32, una := bitsOf c.p4 0 32 })
    (hx : x = { snd := some w, rcv := some { expect := bitsOf c.p4 32 32, peerEpoch := 0 }, lastUse := e.now })
    (ht : { e with lqps := Tbl.set e.lqps k q, pws := Tbl.set e.pws key x } = t) :
    s.doCreateLqp fn c =
      ((t.modWq fn sw fun q => { q with lqp := k + 1 }).modWq fn rw fun q => { q with lqp := k + 1 }).adminEnd fn c asOk k := by
  have engine : ¬ 4 ≤ epaSel (bitsOf c.p2 0 21) := Nat.not_le.mpr hc.engine
  subst hk hsw hrw hd he hlqp hkey hw hx ht
  simp only [State.doCreateLqp, hc.ctx, hc.numbers, hc.remote, hc.queues, hc.p5, engine, hq.send, hq.receive, hq.sends, hq.tclass, hq.receives,
    hq.sendFree, hq.receiveFree, hq.sendIdle, hq.receiveIdle, hq.noneHeld, hn, has, Option.any_some, Option.isNone_some, Bool.not_true,
    Bool.or_false, ne_eq, not_true_eq_false, decide_false, bne_self_eq_false, Bool.false_eq_true, if_false]

/-! ## Queries (R129): the two words of the object that a query names -/

section
variable (h0 : onlyBits c.p0 [(0, 4), (16, 14)] = true) (h1 : c.p1 = 0) (h2 : c.p2 = 0) (h3 : c.p3 = 0) (h45 : AdminCmdNo45 c = true)
include h0 h1 h2 h3 h45

theorem doQuery_wq {q : Wq} (hk : bitsOf c.p0 0 4 = 1) (hq : Tbl.get s.wqs (fn, bitsOf c.p0 16 14) = some q) :
    s.doQuery fn c = s.adminEnd fn c asOk 0 (q.state.code + 8 * b2n q.hold + q.prod * 2 ^ 32)
      (q.cons + s.outstandingOps fn (bitsOf c.p0 16 14) * 2 ^ 32) := by
  simp [State.doQuery, h0, h1, h2, h3, h45, hk, hq]

theorem doQuery_cq {q : Cq} (hk : bitsOf c.p0 0 4 = 2) (hq : Tbl.get s.cqs (fn, bitsOf c.p0 16 14) = some q) :
    s.doQuery fn c = s.adminEnd fn c asOk 0 (q.state.code + q.written * 2 ^ 32) (q.consumer + q.reserved * 2 ^ 32) := by
  simp [State.doQuery, h0, h1, h2, h3, h45, hk, hq]

theorem doQuery_eq {q : Eq} (hk : bitsOf c.p0 0 4 = 3) (hb : bitsOf c.p0 16 14 < 1024) (hq : Tbl.get s.eqs (fn, bitsOf c.p0 16 14) = some q) :
    s.doQuery fn c = s.adminEnd fn c asOk 0 (q.state.code + q.written * 2 ^ 32) (q.consumer + q.lostAll * 2 ^ 32) := by
  simp [State.doQuery, h0, h1, h2, h3, h45, hk, hq, Nat.not_le.mpr hb]

theorem doQuery_space {a : AsCtx} (hk : bitsOf c.p0 0 4 = 4) (hb : bitsOf c.p0 16 14 < 4096)
    (ha : Tbl.get s.spaces (fn, bitsOf c.p0 16 14) = some a) : s.doQuery fn c = s.adminEnd fn c asOk 0 1 a.root := by
  simp [State.doQuery, h0, h1, h2, h3, h45, hk, ha, Nat.not_le.mpr hb]

end

end

end Sys2Proof.Machine

open Sys2Proof Sys2Proof.Machine

/-- Settles O29: each command, begun by the admin engine, is its own effect with every check passed. -/
theorem listsTenanciesAndPairsAreMadeAndEnded : Obligations.ListsTenanciesAndPairsAreMadeAndEnded := by
  refine ⟨⟨?createList, ?destroyList, ?join, ?leave, ?destroyLqp, ?query⟩, ?createLqp⟩
  case createList =>
    intro s n fn c hf hr h h0 h1 h2 h3 h4 h5 hn heq
    have run := act_adminRow (fun s => s.doCreateList fn c) hf hr h (by decide) (by decide)
      (doCreateList_new h0 h1 h2 h3 (adminCmdNo45_of_zero h4 h5) hn heq)
    exact ⟨fun hm => run.trans (by rw [hm]; rfl), fun hm l hl => run.trans (by rw [hm, hl]; rfl)⟩
  case destroyList =>
    intro s n t fn k c l l' hf hr h h0 h1 h2 h3 h4 h5 hk hl
    have run {t : State} (ht) := act_adminRow (fun s => s.doDestroyList fn c) hf hr h (by decide) (by decide)
      (doDestroyList_known (t := t) hk h0 h1 h2 h3 (adminCmdNo45_of_zero h4 h5) hl ht)
    refine ⟨fun hb => (run rfl).trans (by rw [if_pos hb]; rfl), fun hb hl' ht => ?_⟩
    subst hl'
    exact (run ht).trans (by rw [if_neg (by simp [hb])]; rfl)
  case join =>
    intro s n fn c x hf hr h h0 h2 h4 h5 h1 hx hk has hm
    have run := act_adminRow (fun s => s.doJoin fn c) hf hr h (by decide) (by decide)
      (doJoin_known h0 h2 (adminCmdNo45_of_zero h4 h5) h1 hx hk has hm)
    refine ⟨fun hd => run.trans ?_, fun hd hi ho => run.trans ?_, fun hd hi hl => run.trans ?_⟩
    · rw [if_pos hd]; rfl
    · rw [if_neg (not_not.mpr hd), if_pos (by simp [hi, ho])]; rfl
    · have ide : ¬(x.requireIde && (!n.on F.HIF_IDE_CTL_REQUIRE fn || !n.on F.HIF_IDE_STAT_SECURE fn)) = true := by
        cases hq : x.requireIde <;> simp [hq] at hi ⊢; exact hi
      rw [if_neg (not_not.mpr hd), if_neg ide, if_neg (by simp [hl])]
  case leave =>
    intro s n t fn k c x x' hf hr h h0 h1 h2 h3 h4 h5 hk hx hm hx' ht
    subst hx'
    exact act_adminRow (fun s => s.doLeave fn c) hf hr h (by decide) (by decide)
      (doLeave_member hk h0 h1 h2 h3 (adminCmdNo45_of_zero h4 h5) hx hm ht)
  case destroyLqp =>
    intro s n t fn k c q hf hr h h0 h1 h2 h3 h4 h5 hk hq hfn ht
    exact act_adminRow (fun s => s.doDestroyLqp fn c) hf hr h (by decide) (by decide)
      (doDestroyLqp_known hk h0 h1 h2 h3 (adminCmdNo45_of_zero h4 h5) hq hfn ht)
  case query =>
    intro s n fn c hf hr h h0 h1 h2 h3 h4 h5
    have run {t : State} (ht : n.doQuery fn c = t) : exec (.query fn c) s = .next t.settle :=
      act_adminRow (fun s => s.doQuery fn c) hf hr h (by decide) (by decide) ht
    have h45 : AdminCmdNo45 c = true := adminCmdNo45_of_zero h4 h5
    exact ⟨fun q hk hq => run (doQuery_wq h0 h1 h2 h3 h45 hk hq), fun q hk hq => run (doQuery_cq h0 h1 h2 h3 h45 hk hq),
      fun q hk hb hq => run (doQuery_eq h0 h1 h2 h3 h45 hk hb hq), fun a hk hb ha => run (doQuery_space h0 h1 h2 h3 h45 hk hb ha)⟩
  case createLqp =>
    intro s n d e t fn k sw rw c sq rq q key w x hf hr h h0 h1 h2 h3 h5 heng hk hsw hrw hsq hrq hs htc hrcv hsf hrf hn has hso hro hh hd he hq hkey
      hw hx ht
    exact act_adminRow (fun s => s.doCreateLqp fn c) hf hr h (by decide) (by decide)
      (doCreateLqp_new ⟨h0, h1, h2, h3, h5, heng⟩ hk hsw hrw ⟨hsq, hrq, hs, htc, hrcv, hsf, hrf, hso, hro, hh⟩ hn has hd he hq hkey hw hx ht)
end

section
/-! PROOF. Doorbells, record queues resumed and aborted, and trigger counters (05 R134 to R136, R149, R150, R152, R157, R158, R161, R162). -/

namespace Sys2Proof.Machine

/-- A host's write to BAR2 that reaches the device is its effect on the state with the write counted. -/
theorem act_hostPost {s n : State} {fn : Nat} {ok : Bool} (i : Instr) (f : State → State) (h : s.hostPost fn n) (ho : ok = true)
    (hr : s.runs = true) : act ok s.runs (bar2Write i fn f) s = .next (f n).settle := by
  rw [act_runs _ s ho hr, bar2Write_of_hostPost i f h]

/-! ## Doorbells of work queues (R134) -/

/-- R134: a producer value within the ring, counted from the consumer and from the producer. -/
theorem accepts_iff {q : Wq} {v : Nat} :
    q.accepts v = true ↔ wrapSub 32 v q.cons ≤ 2 ^ q.log2 ∧ wrapSub 32 v q.prod ≤ 2 ^ q.log2 - wrapSub 32 q.prod q.cons := by
  simp only [Wq.accepts, Bool.and_eq_true, decide_eq_true_eq]

section
variable {s : State} {fn k v : Nat} {q : Wq}

theorem wqDb_open (hq : Tbl.get s.wqs (fn, k) = some q) (hs : q.state ≠ .draining) (hv : v < 2 ^ 32) : wqDb fn k v s =
    if !q.accepts v then s.err 0x11 3 { access := 8, addr := k * 4096, master := some fn } else if v = q.prod then s else s.ring fn k v := by
  simp only [wqDb, hq, hs, Nat.mod_eq_of_lt hv, berr_cmd, accRegWrite, if_false]

/-! ## Direct posts (R64, R135, R136; log entry 59) -/

variable {off : Nat} {b : List Byte}

theorem wqDirect_absent (hq : Tbl.get s.wqs (fn, k) = none) :
    wqDirect fn k off b s = s.err 0x11 5 { access := 8, addr := k * 4096 + 256, master := some fn } := by
  simp only [wqDirect, hq, berr_cmd, accRegWrite]

/-- A write that completes no post is kept with the other bytes of its slot. -/
theorem wqDirect_partial {f : Wq → List (Nat × Byte)} (hq : Tbl.get s.wqs (fn, k) = some q) (hs : q.state ≠ .draining)
    (hf : f = fun q => (b.mapIdx fun i x => (off + i, x)) ++ q.gather.filter fun e => e.1 < off || off + b.length ≤ e.1)
    (hd : q.direct off b = none) : wqDirect fn k off b s = s.modWq fn k fun q => { q with gather := f q } := by
  simp only [wqDirect, hq, hs, hd, hf, if_false]

variable {post : List Byte}

/-- May a post be cached at once: direct posts are on, and its queue is open, stands at the post's index and has room (R135)? -/
def State.postCached (s : State) (fn : Nat) (q : Wq) (post : List Byte) : Bool :=
  s.on F.CMD_CTL_DP_EN && q.state == .active && !q.hold && (q.parse post).postIdx == q.prod % 65536 && s.cacheRoom fn q

theorem postCached_iff : s.postCached fn q post = true ↔ s.on F.CMD_CTL_DP_EN = true ∧ q.state = .active ∧ q.hold = false ∧
    (q.parse post).postIdx = q.prod % 65536 ∧ s.cacheRoom fn q = true := by
  simp only [State.postCached, Bool.and_eq_true, beq_iff_eq, Bool.not_eq_true', and_assoc]

/-- A completed post is a doorbell just past its slots; `t` is the state without the bytes gathered. -/
theorem wqDirect_complete {t : State} (hq : Tbl.get s.wqs (fn, k) = some q) (hs : q.state ≠ .draining) (hd : q.direct off b = some post)
    (ht : (s.modWq fn k fun q => { q with gather := [] }) = t)
    (hv : v = wrapAdd 32 q.prod (orWhenZero (wrapSub 16 ((q.parse post).postIdx + (q.parse post).slots) q.prod) 65536)) : wqDirect fn k off b s =
      if !q.accepts v then t.err 0x11 3 { access := 8, addr := k * 4096 + 256, master := some fn }
      else (if (t.tally .cmd 1).postCached fn q post
        then ((t.tally .cmd 1).cacheDesc fn k { pos := q.prod, d := q.parse post }).tally .cmd 2 else t.tally .cmd 1).ring fn k v := by
  subst ht hv
  simp only [wqDirect, hq, hs, hd, berr_cmd, accRegWrite, ← State.postCached.eq_def, if_false]

end

/-! ## Doorbells of completion and event queues (R149, R150, R156, R161) -/

section
variable {s : State} {fn k v : Nat} {arm : Bool}

theorem cqDb_beyond {q : Cq} (hq : Tbl.get s.cqs (fn, k) = some q) (hv : v < 2 ^ 32)
    (hw : wrapSub 32 q.written q.consumer < wrapSub 32 v q.consumer) :
    cqDb fn k v arm s = s.err 0x11 3 { access := 8, addr := k * 4096 + 64, master := some fn } := by
  simp only [cqDb, hq, Nat.mod_eq_of_lt hv, consumes, Nat.not_le.mpr hw, decide_false, Bool.not_false, if_true, berr_cmd, accRegWrite]

/-- A consumer value within what was written is taken; a queue that is armed with records waiting sends its message at once. -/
theorem cqDb_within {q q' : Cq} (hq : Tbl.get s.cqs (fn, k) = some q) (hv : v < 2 ^ 32) (hq' : q' = { q with consumer := v, armed := q.armed || arm })
    (hw : wrapSub 32 v q.consumer ≤ wrapSub 32 q.written q.consumer) : cqDb fn k v arm s =
      (if arm = true ∧ q.irqEn = true ∧ q.written ≠ v then
        (({ s with cqs := Tbl.set s.cqs (fn, k) { q' with armed := false, since := 0 } } : State).msix fn q.vector).tally .cmd 10
      else ({ s with cqs := Tbl.set s.cqs (fn, k) q' } : State).cqIrq fn k).cqKick fn k := by
  subst hq'
  by_cases h : arm = true ∧ q.irqEn = true ∧ q.written ≠ v
  · obtain ⟨ha, hi, hn⟩ := h
    simp [-Nat.reducePow, cqDb, hq, Nat.mod_eq_of_lt hv, consumes, hw, ha, hi, hn]
  · have quiet : (arm && q.irqEn && q.written != v) = false := by simpa [and_assoc] using h
    simp only [cqDb, hq, Nat.mod_eq_of_lt hv, consumes, hw, quiet, if_neg h, decide_true, Bool.not_true, Bool.false_eq_true, if_false]

theorem eqDb_beyond {q : Eq} (hq : Tbl.get s.eqs (fn, k) = some q) (hv : v < 2 ^ 32)
    (hw : wrapSub 32 q.written q.consumer < wrapSub 32 v q.consumer) :
    eqDb fn k v arm s = s.err 0x11 3 { access := 8, addr := k * 4096 + 128, master := some fn } := by
  simp only [eqDb, hq, Nat.mod_eq_of_lt hv, consumes, Nat.not_le.mpr hw, decide_false, Bool.not_false, if_true, berr_cmd, accRegWrite]

theorem eqDb_quiet {q q' : Eq} (hq : Tbl.get s.eqs (fn, k) = some q) (hv : v < 2 ^ 32) (hq' : q' = { q with consumer := v, armed := q.armed || arm })
    (hw : wrapSub 32 v q.consumer ≤ wrapSub 32 q.written q.consumer) (h : ¬(arm = true ∧ q.irqEn = true ∧ q.written ≠ v)) :
    eqDb fn k v arm s = ((({ s with eqs := Tbl.set s.eqs (fn, k) q' } : State).eqIrq fn k).eqKick fn k).eqLost fn k := by
  subst hq'
  have quiet : (arm && q.irqEn && q.written != v) = false := by simpa [and_assoc] using h
  simp only [eqDb, hq, Nat.mod_eq_of_lt hv, consumes, hw, quiet, decide_true, Bool.not_true, Bool.false_eq_true, if_false]

/-! ## Suspended record queues (R152, R157, R162) -/

variable {m : Nat}

theorem cmdResume_cq {q : Cq} (hm : mayWindow m fn = true) (hq : Tbl.get s.cqs (fn, k) = some q) (hs : q.state = .suspended) :
    cmdResumeResume m fn 1 k s = ({ s with cqs := Tbl.set s.cqs (fn, k) { q with state := .active } } : State).cqKick fn k ∧
      cmdResumeAbort m fn 1 k s = s.cqError fn k := by
  simp [cmdResumeResume, cmdResumeAbort, hm, hq, hs]

theorem cmdResume_eq {q : Eq} (hm : mayWindow m fn = true) (hq : Tbl.get s.eqs (fn, k) = some q) (hs : q.state = .suspended) :
    cmdResumeResume m fn 2 k s = (({ s with eqs := Tbl.set s.eqs (fn, k) { q with state := .active } } : State).eqKick fn k).eqLost fn k ∧
      cmdResumeAbort m fn 2 k s = s.eqError fn k := by
  simp [cmdResumeResume, cmdResumeAbort, hm, hq, hs]

theorem cmdResume_absent (hm : mayWindow m fn = true) (hq : Tbl.get s.cqs (fn, k) = none) :
    cmdResumeResume m fn 1 k s = s.refuse m 0x11 (F.CMD_RESUME_NUMBER.addr fn 0) true ∧
      cmdResumeAbort m fn 1 k s = s.refuse m 0x11 (F.CMD_RESUME_NUMBER.addr fn 0) true := by
  simp only [cmdResumeResume, cmdResumeAbort, hm, hq, Bool.not_true, Bool.false_eq_true, if_false, if_true]
  exact ⟨rfl, rfl⟩

/-! ## Moderation (R161) -/

@[simp] theorem State.reach_cqs (t : Nat) : (s.reach t).cqs = s.cqs := by
  unfold State.reach; split <;> rfl

@[simp] theorem State.reach_eqs (t : Nat) : (s.reach t).eqs = s.eqs := by
  unfold State.reach; split <;> rfl

theorem State.le_reach_now (t : Nat) : t ≤ (s.reach t).now := by
  unfold State.reach; split <;> simp_all

/-- Once the moderation time has passed, an armed queue with records sends its message. -/
theorem modTimerExpire_cq {q : Cq} (hq : Tbl.get s.cqs (fn, k) = some q) (hi : q.irqEn = true) (ha : q.armed = true) (hs : q.since ≠ 0)
    (ht : q.modTime ≠ 0) : modTimerExpire fn 1 k s = (({ s.reach (q.firstAt + 1000 * q.modTime) with
      cqs := Tbl.set s.cqs (fn, k) { q with armed := false, since := 0 } } : State).msix fn q.vector).tally .cmd 10 := by
  have due : q.firstAt + q.modTime * 1000 ≤ (s.reach (q.firstAt + q.modTime * 1000)).now := State.le_reach_now _
  simp [modTimerExpire, State.cqIrq, us, hq, hi, ha, hs, ht, due, Nat.mul_comm]

theorem modTimerExpire_eq {q : Eq} (hq : Tbl.get s.eqs (fn, k) = some q) (hi : q.irqEn = true) (ha : q.armed = true) (hs : q.since ≠ 0)
    (ht : q.modTime ≠ 0) : modTimerExpire fn 2 k s = (({ s.reach (q.firstAt + 1000 * q.modTime) with
      eqs := Tbl.set s.eqs (fn, k) { q with armed := false, since := 0 } } : State).msix fn q.vector).tally .cmd 10 := by
  have due : q.firstAt + q.modTime * 1000 ≤ (s.reach (q.firstAt + q.modTime * 1000)).now := State.le_reach_now _
  simp [modTimerExpire, State.eqIrq, us, hq, hi, ha, hs, ht, due, Nat.mul_comm]

/-! ## Trigger counters (R158) -/

theorem trigCounterSet_of_window (hm : mayWindow m fn = true) (hk : k < 512) :
    trigCounterSet m fn k v s = ((s.wr F.CMD_TRIGk_COUNT v fn k).fireAll fn k).kickQueues := by
  simp [trigCounterSet, State.trigSet, hm, Nat.mod_eq_of_lt hk]

theorem trigAdd_of_window (hm : mayWindow m fn = true) (hk : k < 512) : trigAdd m fn k v s =
    ((s.wr F.CMD_TRIGk_COUNT (wrapAdd 32 (s.rd F.CMD_TRIGk_COUNT fn k) v) fn k).fireAll fn k).kickQueues := by
  simp [trigAdd, State.trigBump, State.trigSet, hm, Nat.mod_eq_of_lt hk]

end

end Sys2Proof.Machine

open Sys2Proof Sys2Proof.Machine

/-- Settles O30: a doorbell is a host's write to BAR2 and a request a register write; each is then its own effect. -/
theorem doorbellsRecordQueuesAndCountersAct : Obligations.DoorbellsRecordQueuesAndCountersAct := by
  refine ⟨⟨?wqDb, ?wqDirect, ?absent, ?cqDb, ?eqDb⟩, ?resume, ?cqTimer, ?eqTimer, ?counters⟩
  case wqDb =>
    intro s n fn k v q hf hr h hq hs hv
    have run : exec (.wqDb fn k v) s = .next (wqDb fn k v n).settle := act_hostPost _ _ h hf hr
    rw [run, wqDb_open hq hs hv]
    refine ⟨fun hne hc hp => ?_, fun he ha => ?_, fun hno => ?_⟩
    · simp only [accepts_iff.mpr ⟨hc, hp⟩, hne]; rfl
    · rw [ha, if_pos he]; rfl
    · simp [mt accepts_iff.mp hno]
  case wqDirect =>
    intro s n fn k v off q b hf hr h hq hs hb
    have run : exec (.wqDirect fn k ⟨off, b⟩) s = .next (wqDirect fn k off b n).settle := act_hostPost _ _ h (by simp [hf, hb]) hr
    rw [run]
    refine ⟨fun f hg hd => by rw [wqDirect_partial hq hs hg hd], fun post t u hd ht hv hu => ?_⟩
    subst hu
    rw [wqDirect_complete hq hs hd ht hv]
    refine ⟨fun ha => by simp [ha], fun ha hno => ?_, fun ha hon hact hh hi hc => ?_⟩
    · have kept : (t.tally .cmd 1).postCached fn q post = false := by
        rw [Bool.eq_false_iff, ne_eq, postCached_iff]
        rintro ⟨hon, hact, hh, hi, hc⟩
        simp_all
      simp [ha, kept]
    · simp [ha, postCached_iff.mpr ⟨hon, hact, hh, hi, hc⟩]
  case absent =>
    intro s n fn k off b hf hr h hq hb
    have run : exec (.wqDirect fn k ⟨off, b⟩) s = .next (wqDirect fn k off b n).settle := act_hostPost _ _ h (by simp [hf, hb]) hr
    rw [run, wqDirect_absent hq]
  case cqDb =>
    intro s n fn k v arm q q' hf hr h hq hv hq'
    have run : exec (.cqDb fn k v arm) s = .next (cqDb fn k v arm n).settle := act_hostPost _ _ h hf hr
    rw [run]
    exact ⟨fun hw => by rw [cqDb_beyond hq hv hw], fun hw hnow => by rw [cqDb_within hq hv hq' hw, if_pos hnow],
      fun hw hlater => by rw [cqDb_within hq hv hq' hw, if_neg hlater]⟩
  case eqDb =>
    intro s n fn k v arm q q' hf hr h hq hv hq'
    have run : exec (.eqDb fn k v arm) s = .next (eqDb fn k v arm n).settle := act_hostPost _ _ h hf hr
    rw [run]
    exact ⟨fun hw => by rw [eqDb_beyond hq hv hw], fun hw hlater => by rw [eqDb_quiet hq hv hq' hw hlater]⟩
  case resume =>
    intro s n m fn k hm hf hw ha
    have resume (kind : Nat) (hk : isKind kind = true) : exec (.cmdResumeResume m fn kind k) s = .next (cmdResumeResume m fn kind k n).settle :=
      act_access _ _ ha (by simp [hm, hf, hk])
    have abort (kind : Nat) (hk : isKind kind = true) : exec (.cmdResumeAbort m fn kind k) s = .next (cmdResumeAbort m fn kind k n).settle :=
      act_access _ _ ha (by simp [hm, hf, hk])
    rw [resume 1 rfl, abort 1 rfl, resume 2 rfl, abort 2 rfl]
    refine ⟨fun q hq hs => ?_, fun q hq hs => ?_, fun hq => ?_⟩
    · obtain ⟨hr, hx⟩ := cmdResume_cq hw hq hs
      rw [hr, hx]; exact ⟨rfl, rfl⟩
    · obtain ⟨hr, hx⟩ := cmdResume_eq hw hq hs
      rw [hr, hx]; exact ⟨rfl, rfl⟩
    · obtain ⟨hr, hx⟩ := cmdResume_absent hw hq
      rw [hr, hx]; exact ⟨rfl, rfl⟩
  case cqTimer =>
    intro s fn k q hf hr hq hi ha hs ht
    have run : exec (.modTimerExpire fn 1 k) s = .next (modTimerExpire fn 1 k s).settle := act_runs _ s (by simp [hf, isKind]) hr
    rw [run, modTimerExpire_cq hq hi ha hs ht]
  case eqTimer =>
    intro s t fn k q q' hf hr hq hi ha hs ht hq' hu
    subst hq' hu
    have run : exec (.modTimerExpire fn 2 k) s = .next (modTimerExpire fn 2 k s).settle := act_runs _ s (by simp [hf, isKind]) hr
    rw [run, modTimerExpire_eq hq hi ha hs ht]
  case counters =>
    intro s n m fn k v hm hf hw hk
    have ok : (isMaster m && isFn fn && decide (k < 512)) = true := by simp [hm, hf, hk]
    refine ⟨fun ha => ?_, fun ha => ?_⟩
    · have run : exec (.trigCounterSet m fn k v) s = .next (trigCounterSet m fn k v n).settle := act_access _ _ ha ok
      rw [run, trigCounterSet_of_window hw hk]
    · have run : exec (.trigAdd m fn k v) s = .next (trigAdd m fn k v n).settle := act_access _ _ ha ok
      rw [run, trigAdd_of_window hw hk]
end

section
/-! PROOF. Descriptors fetched and admitted (05 R132, R133, R139, R140, R151, R159; 15 R472). -/

namespace Sys2Proof.Machine

/-! ## Descriptor fetches (R72, R132, R137, R141, R160) -/

/-- A read has brought the first 64 bytes of a long descriptor with its data inline: the other 192 are read next (R132, R142). -/
def Wq.halfRead (q : Wq) (b : List Byte) : Bool :=
  (q.parse b).long && (q.parse b).adv advInline && q.fetchPos % 4 = 0 && !q.recv && q.state ≠ .draining

/-! A fetch that has ended: `u` is the state without its read, in which the queue fetches nothing. -/

section
variable {s t u : State} {fn k id : Nat} {q : Wq} {r : HostRead} (hq : Tbl.get s.wqs (fn, k) = some q) (hf : q.fetching = some id)
  (ht : s.dropStray fn k (some id) = t) (hg : Tbl.get t.reads id = some r)
  (hu : (({ t with reads := Tbl.del t.reads id } : State).modWq fn k fun q => { q with fetching := none }) = u)
include hq hf ht hg hu

/-- A failed fetch puts its queue in `ERROR`; in a draining queue, a descriptor without a meaning stands in for it, and the drain goes on. -/
theorem descFetchComplete_failed (hx : r.result = some .failed) : descFetchComplete fn k s =
    if q.state = .draining then ((u.modWq fn k fun q => { q with part := [] }).modWq fn k
      fun x => x.put { pos := q.fetchPos, d := { verb := 0xFF } }).drainStep 65536 fn k
    else (u.modWq fn k fun q => { q with part := [] }).wqError fn k dtFetchFailed (some q.fetchPos) := by
  subst hu
  simp [descFetchComplete, hq, hf, ht, takeRead_finished hg hx rfl]

theorem descFetchComplete_second {b : List Byte} (hx : r.result = some (.ok b)) (hp : q.part ≠ []) : descFetchComplete fn k s =
    (u.modWq fn k fun q => { q with part := [] }).fetched fn k q.fetchPos (parseDescr (q.part ++ b)) := by
  subst hu
  simp [descFetchComplete, hq, hf, ht, takeRead_finished hg hx rfl, hp]

theorem descFetchComplete_first {b : List Byte} (hx : r.result = some (.ok b)) (hp : q.part = []) : descFetchComplete fn k s =
    if q.halfRead b then (u.modWq fn k fun q => { q with part := b }).fetchNext fn k else u.fetched fn k q.fetchPos (q.parse b) := by
  subst hu
  simp only [descFetchComplete, hq, hf, ht, takeRead_finished hg hx rfl, hp, ← Wq.halfRead.eq_def, ne_eq, not_true_eq_false, if_false]

end

/-! A fetched descriptor: `t` is the state in which it is cached. -/

section
variable {s t : State} {fn k pos : Nat} {d : Descr} {q : Wq}

theorem fetched_cached (ht : s.cacheDesc fn k { pos := pos, d := d, miss := true } = t) (hq : Tbl.get t.wqs (fn, k) = some q) :
    s.fetched fn k pos d =
      if q.state = .draining then t.drainStep 65536 fn k
      else if pos = q.cons ∧ d.postIdx ≠ pos % 65536 then t.descrRefused fn k pos dtPostIdx else t.fetchNext fn k := by
  simp [State.fetched, ht, hq]

end

/-! ## Admission (R139, R140, R144, R151, R159, R472) -/

section
variable {s t : State} {fn k id : Nat} {q : Wq} {c : Cached}

theorem admitDescriptor_notOpen (h : s.scheduled fn k = false ∨ s.admissible fn k = none) : admitDescriptor fn k s = s := by
  cases hs : s.scheduled fn k with
  | false => simp [admitDescriptor, State.admitted, hs]
  | true => simp [admitDescriptor, State.admitted, hs, State.admitNext, h.resolve_left (by simp [hs])]

/-- A descriptor of an initiator queue that a check of the queue's own finds bad stops the queue. -/
theorem admitDescriptor_refused {dt : Nat} (hs : s.scheduled fn k = true) (ha : s.admissible fn k = some (q, c)) (hr : q.recv = false)
    (hc : q.check c.pos c.d = some (true, dt)) : admitDescriptor fn k s = s.descrRefused fn k c.pos dt := by
  simp [admitDescriptor, State.admitted, hs, State.admitNext, ha, hr, hc]

/-- A `NOP` of a receive-posting queue takes its slot and ends at once. -/
theorem admitDescriptor_recvNop (hs : s.scheduled fn k = true) (ha : s.admissible fn k = some (q, c)) (hr : q.recv = true) (hv : c.d.verb = 0)
    (hd : s.aimed q c.d = c.d) (hc : q.check c.pos c.d = none) (hn : s.atOnce q fn c.d none = none)
    (ht : s.takeSlot fn k q c c.d false = (t, id)) {u : State} (hu : t.endOp id stOk 0 0 0 = u) :
    admitDescriptor fn k s = (u.kickLocal (u.ops.length + 1) fn k).fetchNext fn k := by
  simp [admitDescriptor, State.admitted, hs, State.admitNext, ha, hr, hv, hd, hc, hn, ht, hu, vbNop, State.when]

/-- The next descriptor of an initiator queue, aimed at its target as `d`, may be admitted: its queue is open and scheduled, the checks of the
queue's own find nothing, the store has room for a triggered one, and the endpoint is there for one that goes to the fabric. -/
structure Admits (s : State) (fn k : Nat) (q : Wq) (c : Cached) (d : Descr) : Prop where
  scheduled : s.scheduled fn k = true
  next : s.admissible fn k = some (q, c)
  initiator : q.recv = false
  sound : q.check c.pos c.d = none
  aimed : s.aimed q c.d = d
  storeRoom : d.adv advTriggered = true → s.trigHeld fn < 2048
  endpoint : (targets d.verb || d.verb == vbConvoy) = true → s.hasDid = true ∧ s.on F.HIF_FN_STAT_EP_HOLD fn = false

section
variable {d : Descr} (h : Admits s fn k q c d)
include h

theorem Admits.storeOpen : (d.adv advTriggered && decide (2048 ≤ s.trigHeld fn)) = false := by
  simpa using h.storeRoom

theorem Admits.endpointOpen : ((targets d.verb || d.verb == vbConvoy) && (!s.hasDid || s.on F.HIF_FN_STAT_EP_HOLD fn)) = false := by
  rw [Bool.and_eq_false_iff, or_iff_not_imp_left, Bool.not_eq_false]
  intro hf
  obtain ⟨hd, he⟩ := h.endpoint hf
  simp [hd, he]

/-- A descriptor that a check, the tenancy or an absent target ends takes its slot and ends at once, whatever it was triggered by. -/
theorem admitDescriptor_ended {st dt : Nat} (he : s.atOnce q fn d (q.check2 d) = some (st, dt))
    (ht : s.takeSlot fn k q c d false = (t, id)) {u : State} (hu : t.endOp id st dt 0 0 = u) :
    admitDescriptor fn k s = (u.kickLocal (u.ops.length + 1) fn k).fetchNext fn k := by
  simp only [admitDescriptor, State.admitted, State.admitNext, h.scheduled, h.next, h.initiator, h.sound, h.aimed, h.storeOpen, h.endpointOpen,
    he, ht, hu, Option.isNone_some, Bool.not_false, Bool.true_and, Bool.false_and, Bool.and_false, Bool.or_false, Bool.true_or, Bool.not_true,
    Bool.false_eq_true, if_true, if_false]

/-- Any other becomes an operation: a triggered one is held, and one that is not waits its turn. -/
theorem admitDescriptor_live (he : s.atOnce q fn d (q.check2 d) = none) (hv : d.verb ≠ vbLock)
    (ht : s.takeSlot fn k q c d (d.adv advTriggered) = (t, id)) {u : State} (hu : (if d.adv advTriggered then t.holdOp fn id d else t) = u) :
    admitDescriptor fn k s = (u.kickLocal (u.ops.length + 1) fn k).fetchNext fn k := by
  have notLock : (d.verb == vbLock) = false := by simpa using hv
  simp only [admitDescriptor, State.admitted, State.admitNext, h.scheduled, h.next, h.initiator, h.sound, h.aimed, h.storeOpen, h.endpointOpen,
    he, ht, hu, notLock, State.when, Option.isNone_none, Bool.not_false, Bool.true_and, Bool.false_and, Bool.and_false, Bool.and_true,
    Bool.or_false, Bool.true_or, Bool.not_true, Bool.false_eq_true, if_true, if_false]

/-- A `LOCK` besides takes a place in the table of locks asked for, where there is one. -/
theorem admitDescriptor_lock (he : s.atOnce q fn d (q.check2 d) = none) (hv : d.verb = vbLock) (hn : d.adv advTriggered = false)
    (hl : s.heldLocks.length < 16384) (ht : s.takeSlot fn k q c d false = (t, id)) {u : State}
    (hu : { t with heldLocks := t.heldLocks ++ [{
      fn := fn, slot := q.slot, epa := d.targetEpa, key := d.key, remote := d.remote, op := some id : HeldLock }] } = u) :
    admitDescriptor fn k s = (u.kickLocal (u.ops.length + 1) fn k).fetchNext fn k := by
  have isLock : (d.verb == vbLock) = true := by simpa using hv
  simp only [admitDescriptor, State.admitted, State.admitNext, h.scheduled, h.next, h.initiator, h.sound, h.aimed, h.endpointOpen,
    he, ht, hn, hu, isLock, State.when, Nat.not_le.mpr hl, decide_false, Option.isNone_none, Bool.not_false, Bool.true_and, Bool.false_and,
    Bool.and_false, Bool.or_false, Bool.true_or, Bool.not_true, Bool.false_eq_true, if_true, if_false]

end

end

end Sys2Proof.Machine

open Sys2Proof Sys2Proof.Machine

/-- Settles O31: a fetch by how its read ended and by what was read before, an admission by the first rule that stops its descriptor. -/
theorem descriptorsAreFetchedAndAdmitted : Obligations.DescriptorsAreFetchedAndAdmitted := by
  refine ⟨?complete, ?fetched, ?notOpen, ?admission⟩
  case complete =>
    intro s t fn k id q r hfn hr hq hf ht hg u hu
    have run : exec (.descFetchComplete fn k) s = .next (descFetchComplete fn k s).settle := act_runs _ s hfn hr
    rw [run]
    refine ⟨fun hx hs => ?_, fun hx hs => ?_, fun b hx => ⟨fun hp => ?_, fun hp hl => ?_, fun hp hl => ?_⟩⟩
    · rw [descFetchComplete_failed hq hf ht hg hu hx, if_neg hs]
    · rw [descFetchComplete_failed hq hf ht hg hu hx, if_pos hs]
    · rw [descFetchComplete_second hq hf ht hg hu hx hp]
    · rw [descFetchComplete_first hq hf ht hg hu hx hp, Wq.halfRead, if_pos hl]
    · rw [descFetchComplete_first hq hf ht hg hu hx hp, Wq.halfRead, if_neg (by simp only [hl, Bool.false_eq_true, not_false_eq_true])]
  case fetched =>
    intro s t fn k pos d q ht hq
    rw [fetched_cached ht hq]
    refine ⟨fun hs => if_pos hs, fun hs hp hi => ?_, fun hs hi => ?_⟩
    · rw [if_neg hs, if_pos ⟨hp, hi⟩]
    · rw [if_neg hs, if_neg (by rintro ⟨hp, hne⟩; exact hi.elim (· hp) hne)]
  case notOpen =>
    intro s fn k hf hr h
    have run : exec (.admitDescriptor fn k) s = .next (admitDescriptor fn k s).settle := act_runs _ s hf hr
    rw [run, admitDescriptor_notOpen h]
  case admission =>
    intro s fn k q c hf hr hs ha
    have run : exec (.admitDescriptor fn k) s = .next (admitDescriptor fn k s).settle := act_runs _ s hf hr
    rw [run]
    refine ⟨fun dt hi hc => by rw [admitDescriptor_refused hs ha hi hc],
      fun t id hv h0 hd hc hn ht u hu => by rw [admitDescriptor_recvNop hs ha hv h0 hd hc hn ht hu], fun d hd hi hc htr hep => ?_⟩
    have ready : Admits s fn k q c d := ⟨hs, ha, hi, hc, hd, htr, hep⟩
    refine ⟨fun t id st dt he ht u hu => by rw [admitDescriptor_ended ready he ht hu],
      fun t id he hv ht => ⟨fun hn => ?_, fun hy u hu => ?_⟩,
      fun t id he hv hn hl ht u hu => by rw [admitDescriptor_lock ready he hv hn hl ht hu]⟩
    · rw [admitDescriptor_live ready he hv ht (if_neg (by simp [hn]))]
    · rw [admitDescriptor_live ready he hv ht ((if_pos hy).trans hu)]
end

section
/-! PROOF. Packets, acknowledgements and notices that the pathway engine takes (07 R208, R212, R219), and the replies that complete or continue an
operation (06 R180, R185 to R187; 10 R333). -/

namespace Sys2Proof.Machine

section
variable {s t : State} {rx : RxPkt}

/-! ## The oldest packet of a kind -/

section
variable {kind : Nat} {f : State → RxPkt → State}

theorem takeKind_none (h : takeRx (fun r => r.isKind kind) s.rx = none) : s.takeKind kind f = s := by
  simp only [State.takeKind, h]

theorem takeKind_oldest {rest : List RxPkt} (h : takeRx (fun r => r.isKind kind) s.rx = some (rx, rest)) :
    s.takeKind kind f = f { s with rx := rest } rx := by
  simp only [State.takeKind, h]

end

/-! ## A data packet (R208) -/

theorem packetReceive_serving (h : s.serves .pwy = true) : packetReceive s = s.takeKind 0 State.takeData := if_pos h

theorem berr_pwy (s : State) (i : Nat) (e : ErrAt) : s.berr .pwy i e = s.err 0x14 i e := rfl

theorem takeData_malformed (h : rx.hdr.ver ≠ 1 ∨ rx.hdr.rsvZero = false ∨ 4096 < rx.hdr.payloadLen ∨
    rx.hdr.payloadLen ≠ (payloadOf rx.pkt).length) : s.takeData rx = s.err 0x14 7 (rxErr rx.pkt rx.port rx.vc) := by
  have malformed : (rx.hdr.ver ≠ 1 || !rx.hdr.rsvZero || 4096 < rx.hdr.payloadLen || rx.hdr.payloadLen ≠ (payloadOf rx.pkt).length) = true := by
    simpa [or_assoc] using h
  rw [State.takeData, if_pos malformed, State.badTransport, berr_pwy]

/-! A well formed packet of no queue pair: `t` is the state with the packet counted. -/

section
variable (hver : rx.hdr.ver = 1) (hrsv : rx.hdr.rsvZero = true) (hlen : rx.hdr.payloadLen ≤ 4096)
  (hpay : rx.hdr.payloadLen = (payloadOf rx.pkt).length) (hlqp : rx.hdr.lqp = false) (ht : s.tally .pwy 0 = t)
include hver hrsv hlen hpay hlqp ht

theorem takeData_cached {p : Pathway} (hp : Tbl.get t.pws (rxKey rx.hdr) = some p) (hopen : t.closed (rxKey rx.hdr) = false)
    (hc : p.state = .cached) : s.takeData rx = t.receiveAt (rxKey rx.hdr) rx := by
  simp [State.takeData, hver, hrsv, Nat.not_lt.mpr hlen, ← hpay, hlqp, ht, hp, hopen, hc]

theorem takeData_created (hp : Tbl.get t.pws (rxKey rx.hdr) = none) (hroom : t.storeFull = false) :
    s.takeData rx = ((t.tally .pwy 1).createPw (rxKey rx.hdr)).receiveAt (rxKey rx.hdr) rx := by
  simp [State.takeData, hver, hrsv, Nat.not_lt.mpr hlen, ← hpay, hlqp, ht, hp, hroom]

end

/-! ## Acknowledgements and notices (R212, R219) -/

theorem ackReceive_serving (h : s.serves .pwy = true) : ackReceive s = s.takeKind 1 State.takeReply := if_pos h

theorem noticeReceive_serving (h : s.serves .pwy = true) : noticeReceive s = s.takeKind 2 State.takeReply := if_pos h

/-- A reply that names no queue pair belongs to the pathway of its endpoints and traffic class, whatever the state. -/
theorem replyKey_noLqp (s u : State) (loc rem tc : Nat) : s.replyKey loc rem tc 0 = u.replyKey loc rem tc 0 := rfl

section
variable {k : PwKey} {p : Pathway} (hl : k.lqp = 0) (hp : Tbl.get s.pws k = some p) (hc : p.state = .cached)
include hl hp hc

theorem takeReply_ack {a : AckHdr} (hb : rx.pkt.body = .ack a) (hk : s.replyKey a.dstEpa a.srcEpa a.tc a.lqp = k) (hver : a.ver = 1)
    (hrsv : a.rsvZero = true) : s.takeReply rx = (s.tally .pwy 10).onPwAck k a := by
  cases hq : Tbl.get s.lqps 0 <;> simp [State.takeReply, hb, hk, hl, hp, hc, hq, hver, hrsv]

theorem takeReply_notice {n : NoticeHdr} (hb : rx.pkt.body = .notice n) (hk : s.replyKey n.dstEpa n.srcEpa n.tc n.lqp = k) (hver : n.ver = 1)
    (hrsv : n.rsvZero = true) : s.takeReply rx = (s.tally .pwy 12).onNotice k n := by
  cases hq : Tbl.get s.lqps 0 <;> simp [State.takeReply, hb, hk, hl, hp, hc, hq, hver, hrsv]

end

/-! ## Flush reads (R185, R187): `t` is the state without the read and the requests that it covers -/

section
variable {fn id : Nat} {r : HostRead} (hr : s.reads.find? (fun e => e.2.use == .flush fn && e.2.result.isSome) = some (id, r))
  (hg : Tbl.get s.reads id = some r)
  (ht : { s with reads := Tbl.del s.reads id, flushes := Tbl.set s.flushes fn ((s.flushesOf fn).filter fun f => !f.sent) } = t)
include hr hg ht

theorem flushReadComplete_placed {b : List Byte} (hx : r.result = some (.ok b)) : flushReadComplete fn s =
    (((s.flushesOf fn).filter fun f => f.sent).foldl (fun (s : State) f => s.outcome f.key f.rx .placed) t).flushRead fn := by
  subst ht
  simp [flushReadComplete, hr, takeRead_finished hg hx rfl, hx, State.when, State.flushesOf]

theorem flushReadComplete_failed (hx : r.result = some .failed) : flushReadComplete fn s =
    (((s.flushesOf fn).filter fun f => f.sent).foldl (fun (s : State) f => s.outcome f.key f.rx (.refused stAborted dtFlushReadFailed))
      (t.err 0x13 4 { access := 0, addr := r.failedAt, master := some (0x14 + fn % 4) })).flushRead fn := by
  subst ht
  simp [flushReadComplete, hr, takeRead_finished hg hx rfl, hx, State.when, State.flushesOf, State.berr, accHostRead, Block.page]

end

/-! ## Operations that wait for data (R180, R333) -/

section
variable {id : Nat} {o : Op} (ho : Tbl.get s.ops id = some o) (hl : o.ended = none)
include ho hl

theorem continuationTimer_missing {due off : Nat} (hdue : o.contAt = some (due, off)) (hoff : off < o.wanted)
    (ht : (s.reach due).modOp id (fun o => { o with contAt := none }) = t) : continuationTimer id s =
      t.sendRequest (t.dataKey o) o.slot (if o.recv then .pull id else .op id) { o.request id off o.wanted with cont := true } [] := by
  simp [continuationTimer, ho, hdue, ht, hl, Nat.not_le.mpr hoff]

theorem fetchResponseTimeout_noValue {due : Nat} (hd : o.deadline = some due) (hv : o.d.verb = vbFetch) (hr : o.recv = false)
    (ha : o.acked = true) (hn : o.value = none) : fetchResponseTimeout id s = (s.reach due).endOp id stTimeout dtNoResponse 0 0 := by
  simp [fetchResponseTimeout, ho, hd, hv, hr, ha, hn, hl]

end

end

end Sys2Proof.Machine

open Sys2Proof Sys2Proof.Machine

/-- Settles O34: each kind of packet by what the pathway engine takes, each reply by what it completes. -/
theorem packetsAndRepliesAreReceived : Obligations.PacketsAndRepliesAreReceived := by
  refine ⟨?packets, ?flushes, ?continuation, ?fetch, fun s hs => act_runs memWriteComplete s rfl hs⟩
  case packets =>
    intro s hs hserve
    have data {u : State} (h : s.takeKind 0 State.takeData = u) : exec .packetReceive s = .next u.settle :=
      act_effect packetReceive rfl hs ((packetReceive_serving hserve).trans h)
    have ack {u : State} (h : s.takeKind 1 State.takeReply = u) : exec .ackReceive s = .next u.settle :=
      act_effect ackReceive rfl hs ((ackReceive_serving hserve).trans h)
    have notice {u : State} (h : s.takeKind 2 State.takeReply = u) : exec .noticeReceive s = .next u.settle :=
      act_effect noticeReceive rfl hs ((noticeReceive_serving hserve).trans h)
    refine ⟨?none, ?cached, ?malformed, ?created, ?ack, ?notice⟩
    case none =>
      rintro kind c (⟨rfl, rfl⟩ | ⟨rfl, rfl⟩ | ⟨rfl, rfl⟩) h
      · exact data (takeKind_none h)
      · exact ack (takeKind_none h)
      · exact notice (takeKind_none h)
    case cached =>
      intro rx rest p t h hver hrsv hlen hpay hlqp ht hp hopen hc
      exact data ((takeKind_oldest h).trans (takeData_cached hver hrsv hlen hpay hlqp ht hp hopen hc))
    case malformed =>
      intro rx rest h hbad
      exact data ((takeKind_oldest h).trans (takeData_malformed hbad))
    case created =>
      intro rx rest t h hver hrsv hlen hpay hlqp ht hp hroom
      exact data ((takeKind_oldest h).trans (takeData_created hver hrsv hlen hpay hlqp ht hp hroom))
    case ack =>
      intro rx rest a k p h hb hk ha hl hp hc hver hrsv
      have hp : Tbl.get ({ s with rx := rest } : State).pws k = some p := hp
      exact ack ((takeKind_oldest h).trans (takeReply_ack hl hp hc hb (by rw [ha, replyKey_noLqp _ s, hk]) hver hrsv))
    case notice =>
      intro rx rest n k p h hb hk hn hl hp hc hver hrsv
      have hp : Tbl.get ({ s with rx := rest } : State).pws k = some p := hp
      exact notice ((takeKind_oldest h).trans (takeReply_notice hl hp hc hb (by rw [hn, replyKey_noLqp _ s, hk]) hver hrsv))
  case flushes =>
    intro s t fn id r hf hs hr hg ht
    have run {u : State} : flushReadComplete fn s = u → exec (.flushReadComplete fn) s = .next u.settle :=
      act_effect (flushReadComplete fn) hf hs
    exact ⟨fun b hx => run (flushReadComplete_placed hr hg ht hx), fun hx => run (flushReadComplete_failed hr hg ht hx)⟩
  case continuation =>
    intro s id t off o hs ho hdue hl hoff
    exact act_effect (continuationTimer id) rfl hs (continuationTimer_missing ho hl hdue hoff rfl)
  case fetch =>
    intro s id t o hs ho hd hv hr ha hn hl
    exact act_effect (fetchResponseTimeout id) rfl hs (fetchResponseTimeout_noValue ho hl hd hv hr ha hn)
end

section
/-! PROOF. The timers of a pathway, spilling and recall, and contexts forgotten or lost (07 R201, R204, R210, R214, R216, R220, R221, R223, R225, R242,
R246). -/

namespace Sys2Proof.Machine

section
variable {s t : State} {k : PwKey}

/-! ## Acknowledgement delay and counting period (R204, R210) -/

theorem ackDelayTimer_caused {w : Rcv} {rx : RxPkt} (hw : s.rcv k = some w) (hc : w.cause = some rx) :
    ackDelayTimer k s = (s.reach (w.firstUnacked + s.rd F.PWY_CTL_ACK_DELAY_NS)).sendAck k rx false none := by
  simp only [ackDelayTimer, hw, hc]

theorem seqPeriodRoll_sending {w : Snd} (hw : s.snd k = some w) (ht : s.reach (w.periodStart + s.periodNs) = t) :
    seqPeriodRoll k s = t.modPw k fun p => { p with snd := p.snd.map fun w => { w with periodStart := t.now, periodCount := 0 } } := by
  simp only [seqPeriodRoll, hw, ht]

/-! ## A packet's timer (R214): `t` is the state at the time of the timer -/

/-- What the timer of a packet last sent at `last` does to the window of its pathway (R228). -/
def Snd.afterTimeout (w : Snd) (s : State) (last : Nat) : Snd :=
  if s.on F.PWY_CC_CTL_EN && decide (w.lastCut < last) then { w with cwnd := max (256 * s.rd F.PWY_CC_WIN_MIN) (w.cwnd / 2), lastCut := s.now } else w

section
variable {seq : Nat} {r : InFlight} {p : Pathway} (hr : Tbl.get s.inflight (k, seq) = some r) (hp : Tbl.get s.pws k = some p)
  (hw : r.waiting = false) (hf : r.fetching = false) (hd : r.reading = none) (hx : s.walkWaits (.retx k seq) = false)
  (ht : s.reach r.timer = t) (hg : t.now < r.giveup)
include hr hp hw hf hd hx ht hg

theorem retransmitTimer_stored (hc : p.state ≠ .cached) :
    retransmitTimer k seq s = t.modPw k fun p => { p with state := .recalling } := by
  simp [retransmitTimer, hr, hp, hw, hf, hd, hx, ht, Nat.not_le.mpr hg, hc]

theorem retransmitTimer_cached {u v : State} (hc : p.state = .cached) (hu : t.tally .pwy 14 = u)
    (hv : (u.modWindow k fun w => w.afterTimeout u r.last) = v) :
    retransmitTimer k seq s = (r.cand.elim v fun c => v.onFailed (epaDid k.rem) c r.bgen).recopy k seq := by
  subst hv
  cases hn : r.cand <;>
    simp [retransmitTimer, hr, hp, hw, hf, hd, hx, ht, Nat.not_le.mpr hg, hc, hu, hn, Snd.afterTimeout]

end

/-! ## The give-up deadline (R216) -/

theorem berr_atm (s : State) (i : Nat) (e : ErrAt) : s.berr .atm i e = s.err 0x17 i e := rfl

theorem giveupDeadline_inFlight {seq : Nat} {r : InFlight} {u v : State} {all : List Cand} {gone : Bool}
    (hr : Tbl.get s.inflight (k, seq) = some r)
    (hu : ((s.reach r.giveup).tally .pwy 15).survey (epaDid k.rem) k.tc (List.range 16) = (u, all))
    (hg : gone = (r.waiting || (epaDid k.rem != u.did && all != [] && all.all fun c => u.quarantined c.ms)))
    (hv : (u.failOwner r.owner (giveUpStatus r.refusal gone).1 (giveUpStatus r.refusal gone).2).when r.owner.marked (fun s => s.err 0x17 5 {}) = v) :
    giveupDeadline k seq s = if k.lqp = 0 then v else v.later (.lqpError (k.lqp - 1)) := by
  simp only [giveupDeadline, hr, hu, ← hg, berr_atm, hv]

theorem giveUpStatus_targetFault (reason : Nat) (w : Bool) : giveUpStatus (some (2, reason)) w =
    (stRemoteXlt, if reason = nrSourceBus then dtTargetBus else 0) := rfl

/-! ## Spilling and recall (R201, R225) -/

theorem idleSpill_cached {p : Pathway} (hk : k.lqp = 0) (hp : Tbl.get s.pws k = some p) (hc : p.state = .cached) :
    idleSpill k s = (s.reach (p.lastUse + 1000 * orWhenZero (s.rd F.PWY_CTL_IDLE_SPILL_US) 1)).spill k := by
  simp [idleSpill, hp, hc, hk, us, Nat.mul_comm]

section
variable {p : Pathway} (hp : Tbl.get s.pws k = some p) (hc : p.state = .recalling)
include hp hc

theorem recallComplete_refused (hm : s.memFenced = true ∨ s.memDenied .pwy (s.storeAt k) = true) :
    recallComplete k s = ((pwyContextUncorrected k s).modPw k fun p => { p with state := .cached }).unpark k := by
  simp [recallComplete, hp, hc, hm]

theorem recallComplete_fetched (hf : s.memFenced = false) (hd : s.memDenied .pwy (s.storeAt k) = false) :
    recallComplete k s =
      (((((s.evict.modPw k fun p => { p with state := .cached, lastUse := s.now }).tally .pwy 4)).unpark k).lateTimers k).dropIfForgotten k := by
  simp [recallComplete, hp, hc, hf, hd]

end

/-! ## States forgotten (R220, R221, R223) -/

theorem forgetReceiveState_idle {w : Rcv} (hk : k.lqp = 0) (hw : s.rcv k = some w) (hh : w.held = []) (hr : s.recalling k = false) :
    forgetReceiveState k s =
      (((s.reach (w.lastAct + s.forgetNs)).forgetMsgs k).modPw k fun p => { p with rcv := none }).dropIfForgotten k := by
  simp [forgetReceiveState, hw, hk, hh, hr]

theorem forgetSendState_settled {w : Snd} (hk : k.lqp = 0) (hw : s.snd k = some w) (hu : w.una = w.next) (hc : s.chosenCharges k = [])
    (ha : s.awaits k = false) (hr : s.recalling k = false) : forgetSendState k s =
      ((s.reach (w.lastAct + s.forgetNs + s.freshNs + 65000000)).modPw k fun p => { p with snd := none, sticky := none }).dropIfForgotten k := by
  simp [forgetSendState, hw, hk, hu, hc, ha, hr, ms]

theorem forgetChangeEffective_pending {old due : Nat} (h : s.forgetOld = some (old, due)) :
    forgetChangeEffective s = { s.reach due with forgetOld := none } := by
  simp only [forgetChangeEffective, h]

/-! ## Contexts and keys lost (R246) -/

theorem pwyContextUncorrected_entry {p : Pathway} (hp : Tbl.get s.pws k = some p)
    (ht : ((s.err 0x14 1 {}).loseOwners fun x => x == k).forgetMsgs k = t) :
    pwyContextUncorrected k s = t.modPw k fun p => { p with snd := none, rcv := none, sticky := none, closedAt := some t.now } := by
  simp only [pwyContextUncorrected, hp, berr_pwy, ht]

theorem contextLostExpire_closed {p : Pathway} {since : Nat} (hp : Tbl.get s.pws k = some p) (hc : p.closedAt = some since) :
    contextLostExpire k s =
      ((s.reach (since + s.forgetNs + s.freshNs + 65000000)).modPw k fun p => { p with closedAt := none }).dropIfForgotten k := by
  simp [contextLostExpire, hp, hc, ms]

theorem pwyKeyUncorrected_eq (s : State) : pwyKeyUncorrected s = (s.err 0x14 2 {}).forgetAll := by
  rw [pwyKeyUncorrected, berr_pwy]

/-! ## The context of a queue pair (R242, R244): `t` is the state without the read -/

theorem lqpFault_read (s : State) (n addr : Nat) :
    s.lqpFault n addr = (s.err 0x14 6 { access := 0, addr := addr }).later (.lqpError n) := rfl

section
variable {n id : Nat} {q : Lqp} {r : HostRead} (hq : Tbl.get s.lqps n = some q) (hf : q.fetching = some id) (hr : Tbl.get s.reads id = some r)
  (ht : { s with reads := Tbl.del s.reads id } = t)
include hq hf hr ht

theorem lqpContextFetchDone_failed (hx : r.result = some .failed) : lqpContextFetchDone n s =
    ((t.modLqp n fun q => { q with fetching := none, cached := true }).err 0x14 6 { access := 0, addr := r.failedAt }).later (.lqpError n) := by
  simp only [lqpContextFetchDone, hq, hf, takeRead_finished hr hx ht, lqpFault_read]

theorem lqpContextFetchDone_ok {b : List Byte} {u : State} (hx : r.result = some (.ok b))
    (hu : t.lqpEvict.modLqp n (fun q => { q with cached := true, fetching := none }) = u) :
    lqpContextFetchDone n s = u.unpark { loc := u.epa q.fn, rem := q.rem, tc := q.tc, lqp := n + 1 } := by
  simp only [lqpContextFetchDone, hq, hf, takeRead_finished hr hx ht, hu]

end

end

end Sys2Proof.Machine

open Sys2Proof Sys2Proof.Machine

/-- Settles O35: each timer and each loss by its effect on the pathway that it names, and the give-up table row by row. -/
theorem pathwaysActInTimeAndAreForgotten : Obligations.PathwaysActInTimeAndAreForgotten := by
  refine ⟨?timers, ⟨rfl, rfl, fun w reason => ⟨rfl, rfl, rfl, fun hn => ?targetFault, rfl⟩⟩, ?contexts, ?key, ?change, ?queuePair⟩
  case timers =>
    rintro s loc rem tc lqp k hs rfl
    refine ⟨fun w rx hw hc => ?ack, fun seq r p t hr hp hw hf hd hx ht hg => ?copy, fun seq r u all gone hr hu hg v hv => ?giveup,
      fun w t hw ht => ?period, ?entry⟩
    case ack => exact act_effect (ackDelayTimer _) rfl hs (ackDelayTimer_caused hw hc)
    case copy =>
      have run {u : State} : retransmitTimer _ seq s = u → exec (.retransmitTimer loc rem tc lqp seq) s = .next u.settle :=
        act_effect (retransmitTimer _ seq) rfl hs
      refine ⟨fun hc => run (retransmitTimer_stored hr hp hw hf hd hx ht hg hc), fun hc u v hu hv => ?_⟩
      have copied := retransmitTimer_cached hr hp hw hf hd hx ht hg hc hu hv
      exact ⟨fun hn => run (by rw [copied, hn, Option.elim]), fun c hn => run (by rw [copied, hn, Option.elim])⟩
    case giveup => exact act_effect (giveupRow _ seq none) rfl hs (giveupDeadline_inFlight hr hu hg hv)
    case period => exact act_effect (seqPeriodRoll _) rfl hs (seqPeriodRoll_sending hw ht)
    case entry =>
      rintro p rfl hp
      exact ⟨fun hc => act_effect (idleSpill _) rfl hs (idleSpill_cached rfl hp hc),
        fun hc hm => act_effect (recallComplete _) rfl hs (recallComplete_refused hp hc hm),
        fun hc hf hd => act_effect (recallComplete _) rfl hs (recallComplete_fetched hp hc hf hd)⟩
  case targetFault => rw [giveUpStatus_targetFault, if_neg hn]
  case contexts =>
    rintro s loc rem tc k hs rfl
    exact ⟨fun w hw hh hr => act_effect (forgetReceiveState _) rfl hs (forgetReceiveState_idle rfl hw hh hr),
      fun w hw hu hc ha hr => act_effect (forgetSendState _) rfl hs (forgetSendState_settled rfl hw hu hc ha hr),
      fun p t hp ht => act_effect (pwyContextUncorrected _) rfl hs (pwyContextUncorrected_entry hp ht),
      fun p t hp hc => act_effect (contextLostExpire _) rfl hs (contextLostExpire_closed hp hc)⟩
  case key => exact fun s hs => act_effect pwyKeyUncorrected rfl hs (pwyKeyUncorrected_eq s)
  case change => exact fun s old t hs h => act_effect forgetChangeEffective rfl hs (forgetChangeEffective_pending h)
  case queuePair =>
    intro s n id q r b hs hq hf hr
    have run {u : State} : lqpContextFetchDone n s = u → exec (.lqpContextFetchDone n) s = .next u.settle :=
      act_effect (lqpContextFetchDone n) rfl hs
    exact ⟨fun hx t ht => ht ▸ run (lqpContextFetchDone_failed hq hf hr rfl hx), fun hx => run (lqpContextFetchDone_ok hq hf hr rfl hx rfl)⟩
end

section
/-! PROOF. Receives and probes: what a posted one finds in its list, and how its descriptor is admitted (05 R139, R151; 08 R253, R258, R275, R400). -/

namespace Sys2Proof.Machine

section
variable {s t : State} {fn list k id : Nat}

/-! ## A receive posted (R258): `t` is the state with the receive counted -/

section
variable {o : Op} {l : MList} (ho : Tbl.get s.ops id = some o) (hl : Tbl.get s.lists (fn, list) = some l) (ht : s.tally .mtc 1 1 (list % 2) = t)
include ho hl ht

theorem onPost_found {u : Unexp} (hq : t.lqpRecv o = false) (hu : t.findUnexp fn list o.d = some u) :
    s.onPost id fn list = t.bindUnexp id u := by
  simp [State.onPost, ho, hl, ht, hq, hu]

/-- A receive of a queue pair searches no list, and any other may find no eligible header in its own: it is appended, unless the match store
refuses its matching unit (log entry 10). -/
theorem onPost_unmatched (hn : t.lqpRecv o = true ∨ t.findUnexp fn list o.d = none) : s.onPost id fn list =
    if t.memDenied (.mtc list) (t.planBase 5) then (t.memDeny (.mtc list) (t.planBase 5) 64 true).failRecv id stAborted dtEntryLost
    else ({ t with posted := t.posted ++ [({ fn := fn, list := list, seq := l.pseq, op := id } : Posted)],
                   lists := Tbl.set t.lists (fn, list) { l with pseq := l.pseq + 1 } } : State).mtcHigh := by
  rcases hn with hq | hu
  · simp [State.onPost, ho, hl, ht, hq]
  · simp [State.onPost, ho, hl, ht, hu]

end

/-! ## A probe (R275): `t` is the state with the probe counted -/

section
variable {o : Op} (ho : Tbl.get s.ops id = some o) (ht : s.tally .mtc 14 1 (list % 2) = t)
include ho ht

theorem onProbe_found {u : Unexp} (hu : t.findUnexp fn list o.d = some u) :
    s.onProbe id fn list = (t.modOp id fun o => { o with src := u.src }).endOp id stOk 0 u.len u.bits := by
  simp only [State.onProbe, ho, ht, hu]

theorem onProbe_notFound (hu : t.findUnexp fn list o.d = none) : s.onProbe id fn list = t.endOp id stAborted dtProbeNoMatch 0 0 := by
  simp only [State.onProbe, ho, ht, hu]

end

/-! ## A descriptor of a receive-posting queue admitted (R139, R151, R253) -/

section
variable {q : Wq} {c : Cached}

theorem aimed_noLqp (hl : q.lqp = 0) (d : Descr) : s.aimed q d = d := by
  simp [State.aimed, hl]

theorem atOnce_posting {d : Descr} (hr : q.recv = true) (hl : q.lqp = 0) (ht : s.tenancyFail q fn = none) : s.atOnce q fn d none = none := by
  simp [State.atOnce, hr, hl, ht]

/-- The next descriptor of a receive-posting queue may be posted: its queue is open and of no queue pair, the checks find nothing, and the tenancy
holds. -/
structure Posts (s : State) (fn k : Nat) (q : Wq) (c : Cached) : Prop where
  next : s.admissible fn k = some (q, c)
  posting : q.recv = true
  sound : q.check c.pos c.d = none
  noLqp : q.lqp = 0
  tenancy : s.tenancyFail q fn = none

section
variable (h : Posts s fn k q c) (ht : s.takeSlot fn k q c c.d false = (t, id)) (hf : t.fenced Block.mtc.page = false)
include h ht hf

/-- A receive takes its slot and is posted, where the store has room for it. -/
theorem recvPost_posted (hv : c.d.verb = 0x40) (hroom : s.posted.length < s.storeCap) {u : State} (hu : t.onPost id fn q.list = u) :
    recvPost fn k s = (u.kickLocal (u.ops.length + 1) fn k).fetchNext fn k := by
  simp [recvPost, State.admitNext, h.next, h.posting, h.sound, aimed_noLqp h.noLqp, atOnce_posting h.posting h.noLqp h.tenancy, hv,
    Nat.not_le.mpr hroom, ht, hf, hu, vbNop, State.when]

/-- A probe takes its slot and searches, however full the store is. -/
theorem probePost_posted (hv : c.d.verb = 0x41) {u : State} (hu : t.onProbe id fn q.list = u) :
    probePost fn k s = (u.kickLocal (u.ops.length + 1) fn k).fetchNext fn k := by
  simp [probePost, State.admitNext, h.next, h.posting, h.sound, aimed_noLqp h.noLqp, atOnce_posting h.posting h.noLqp h.tenancy, hv,
    ht, hf, hu, vbNop, State.when]

end

end

end

end Sys2Proof.Machine

open Sys2Proof Sys2Proof.Machine

/-- Settles O36: a receive and a probe by what the search of the list finds, and each as it is posted from its queue. -/
theorem receivesAndProbesSearchTheirList : Obligations.ReceivesAndProbesSearchTheirList := by
  refine ⟨?receive, ?probe, ?posted⟩
  case receive =>
    intro s t id fn list o l ho hl ht
    exact ⟨fun u hq hu => onPost_found ho hl ht hq hu,
      fun hn hd => by rw [onPost_unmatched ho hl ht hn, if_pos hd],
      fun hn hd => by rw [onPost_unmatched ho hl ht hn, if_neg (by simp [hd])]⟩
  case probe =>
    intro s id fn list o ho
    exact ⟨fun u hu => onProbe_found ho rfl hu, fun hu => onProbe_notFound ho rfl hu⟩
  case posted =>
    intro s t fn k id q c d hfn hs ha hr hc hl hd _ hten ht hf
    obtain rfl : c.d = d := (aimed_noLqp hl c.d).symm.trans hd
    have posts : Posts s fn k q c := ⟨ha, hr, hc, hl, hten⟩
    exact ⟨fun hv hroom => act_effect (recvPost fn k) hfn hs (recvPost_posted posts ht hf hv hroom rfl),
      fun hv => act_effect (probePost fn k) hfn hs (probePost_posted posts ht hf hv rfl)⟩
end

section
/-! PROOF. Messages and match lists in time: copies tried again, rendezvous left alone, messages abandoned, lists ready again, and the overflow ring's
tail (08 R248, R267, R270, R277, R284, R285). -/

namespace Sys2Proof.Machine

section
variable {s t : State} {id : Nat}

/-! ## What the passing of time leaves as it is -/

@[simp] theorem State.reach_rd (due : Nat) (f : Fld) (i j : Nat) : (s.reach due).rd f i j = s.rd f i j := by
  unfold State.reach; split <;> rfl

@[simp] theorem State.reach_recs (due : Nat) : (s.reach due).recs = s.recs := by
  unfold State.reach; split <;> rfl

@[simp] theorem State.reach_closedMsgs (due : Nat) : (s.reach due).closedMsgs = s.closedMsgs := by
  unfold State.reach; split <;> rfl

/-! ## A copy that met a fault (R284): `t` is the state at the time of the next try -/

theorem matchCopyRetry_faulted {c : Copy} {t0 kind : Nat} (hc : Tbl.get s.copies id = some c) (hf : c.fault = some (t0, kind))
    (ht : s.reach c.retryAt = t) : matchCopyRetry id s =
      if t0 + 1000 * s.rd F.PWY_TIMERS_GIVEUP ≤ t.now then (t.copyDone id c).failRecv c.op (faultStatus kind) 0 else t.copyRun 64 id := by
  subst ht
  simp only [matchCopyRetry, hc, hf, us, State.reach_rd, Nat.mul_comm]

/-! ## A rendezvous that no pull reaches, or that its puller left (R267, R270) -/

section
variable {o : Op} {due : Nat} (ho : Tbl.get s.ops id = some o) (hd : o.deadline = some due) (hl : o.ended = none) (hr : o.recv = false)
  (hv : o.d.verb = vbSend)
include ho hd hl hr hv

theorem rdvWaitExpire_notPulled (hp : o.pulled = none) : rdvWaitExpire id s = (s.reach due).endOp id stTimeout dtRdvNoPull 0 0 := by
  simp [rdvWaitExpire, ho, hd, hl, hr, hv, hp]

theorem rdvContinuationExpire_pulled (hp : o.pulled ≠ none) : rdvContinuationExpire id s =
    if o.localFault ≠ 0 then (s.reach due).endOp id (faultStatus o.localFault) 0 0 0 else (s.reach due).endOp id stRemoteXlt 0 0 0 := by
  simp [rdvContinuationExpire, ho, hd, hl, hr, hv, hp]

end

/-! ## A message that stopped coming (R285): `t` is the state in which it is closed -/

section
variable {k : PwKey} {tag : Nat} {r : MRec} (hr : Tbl.get s.recs (k, tag) = some r) (hd : r.rdv = false) (hw : r.whole = false)
  (ht : { s.reach (r.lastAt + 1000 * s.rd F.PWY_TIMERS_GIVEUP + s.freshNs) with
    recs := Tbl.del s.recs (k, tag), closedMsgs := s.closedMsgs ++ [(k, tag)] } = t)
include hr hd hw ht

theorem msgAbandon_bound (ho : r.op = some id) : msgAbandon k tag s =
    if r.fault ≠ 0 then t.failRecv id (faultStatus r.fault) 0 else t.failRecv id stAborted dtMsgAbandoned := by
  subst ht
  simp [msgAbandon, hr, hd, hw, ho, us, Nat.mul_comm]

theorem msgAbandon_stored {u : Unexp} (ho : r.op = none) (hu : s.unexpOfMsg k tag = some u) : msgAbandon k tag s =
    ({ t with unexp := t.unexp.filter fun x => !(x.fn == u.fn && x.list == u.list && x.seq == u.seq) } : State).releaseOvf
      u.fn u.list u.src u.ovf := by
  subst ht
  simp [msgAbandon, hr, hd, hw, ho, hu, us, Nat.mul_comm]

end

/-! ## A list with room again (R248), and the tail of the overflow ring (R134, R277) -/

section
variable {fn : Nat}

theorem listReady_room {list : Nat} {l : MList} (hl : Tbl.get s.lists (fn, list) = some l) (hr : l.ready = false)
    (hfree : s.rd F.MTC_CTL_RESUME_FREE * 1024 ≤ s.freeHeaders) (hh : s.hdrQuota fn = false) (hp : s.poolQuota fn = false)
    (ht : { s with lists := Tbl.set s.lists (fn, list) { l with ready := true } } = t) :
    listReady fn list s = t.listEvent fn list { type := 0x11, value := list, data := t.freeHeaders } := by
  subst ht
  simp [listReady, hl, hr, Nat.not_lt.mpr hfree, hh, hp]

/-- R134 for the tail of an overflow ring: a value within the ring is taken, any other is index 3. -/
theorem ovfTailWrite_of_window {m v : Nat} (hm : mayWindow m fn = true) (hv : v < 2 ^ 32) :
    ovfTailWrite m fn v s =
      if wrapSub 32 v (s.rd F.MTC_OVF_HEAD_HEAD fn) ≤ s.ovfSize fn ∧ wrapSub 32 v (s.rd F.MTC_OVF_TAIL_TAIL fn) ≤
          s.ovfSize fn - wrapSub 32 (s.rd F.MTC_OVF_TAIL_TAIL fn) (s.rd F.MTC_OVF_HEAD_HEAD fn)
      then (s.wr F.MTC_OVF_TAIL_TAIL v fn).ovfFetch fn
      else s.err 0x11 3 { access := 8, addr := F.MTC_OVF_TAIL_TAIL.addr fn 0, master := some m } := by
  simp only [ovfTailWrite, hm, Nat.mod_eq_of_lt hv, berr_cmd, Bool.not_true, Bool.false_eq_true, if_false, accRegWrite]

end

end

end Sys2Proof.Machine

open Sys2Proof Sys2Proof.Machine

/-- Settles O37: each row by its effect at its time, and the tail of the overflow ring by whether the value lies within the ring. -/
theorem messagesAndListsMoveOnInTime : Obligations.MessagesAndListsMoveOnInTime := by
  refine ⟨?copy, ?rendezvous, ?message, ?list, ?ring⟩
  case copy =>
    intro s id t0 kind c hs hc hf
    have run {u : State} : matchCopyRetry id s = u → exec (.matchCopyRetry id) s = .next u.settle := act_effect (matchCopyRetry id) rfl hs
    exact ⟨fun hlate => run (by rw [matchCopyRetry_faulted hc hf rfl, if_pos hlate]),
      fun hearly => run (by rw [matchCopyRetry_faulted hc hf rfl, if_neg (Nat.not_le.mpr hearly)])⟩
  case rendezvous =>
    intro s id t o hs ho hd hl hr hv
    have run {u : State} : rdvContinuationExpire id s = u → exec (.rdvContinuationExpire id) s = .next u.settle :=
      act_effect (rdvContinuationExpire id) rfl hs
    exact ⟨fun hp => act_effect (rdvWaitExpire id) rfl hs (rdvWaitExpire_notPulled ho hd hl hr hv hp),
      fun hp hfault => run (by rw [rdvContinuationExpire_pulled ho hd hl hr hv hp, if_pos hfault]),
      fun hp hfault => run (by rw [rdvContinuationExpire_pulled ho hd hl hr hv hp, if_neg (not_not_intro hfault)])⟩
  case message =>
    rintro s t loc rem tc lqp tag k r hs rfl hr hd hw ht
    have run {u : State} : msgAbandon _ tag s = u → exec (.msgAbandon loc rem tc lqp tag) s = .next u.settle :=
      act_effect (msgAbandon _ tag) rfl hs
    exact ⟨fun id ho hok => run (by rw [msgAbandon_bound hr hd hw ht ho, if_neg (not_not_intro hok)]),
      fun id ho hfault => run (by rw [msgAbandon_bound hr hd hw ht ho, if_pos hfault]),
      fun u ho hu => run (msgAbandon_stored hr hd hw ht ho hu)⟩
  case list =>
    rintro s fn list l _ hfn hs hl hr hfree hh hp rfl
    exact act_effect (listReady fn list) hfn hs (listReady_room hl hr hfree hh hp rfl)
  case ring =>
    intro s n m fn v hm hfn hw ha hv
    have run {u : State} : ovfTailWrite m fn v n = u → exec (.ovfTailWrite m fn v) s = .next u.settle :=
      act_access_effect (.ovfTailWrite m fn v) (ovfTailWrite m fn v) ha (masterFn_ok hm hfn)
    exact ⟨fun hin => run (by rw [ovfTailWrite_of_window hw hv, if_pos hin]), fun hout => run (by rw [ovfTailWrite_of_window hw hv, if_neg hout])⟩
end

section
/-! PROOF. Contributions of local functions: checked, staged, read, and read again (09 R298 to R300). -/

namespace Sys2Proof.Machine

section
variable {s t u : State} {id : Nat} {o : Op}

/-! ## A contribution begins (R298): `t` is the state in which its operation has joined its round -/

/-- The turn of a `CONVOY` operation has come, and the convoy engine can take it. -/
structure Contributes (s : State) (id : Nat) (o : Op) : Prop where
  found : Tbl.get s.ops id = some o
  convoy : o.d.verb = vbConvoy
  initiator : o.recv = false
  turn : s.turn id o = true
  bus : s.busHeld o.fn = false
  engine : s.fenced Block.col.page = false

/-- What a contribution ends with that its slot does not take, the checks in their order (R298). -/
def State.cvRefusal (s : State) (c : CvSlot) (o : Op) : Option (Nat × Nat) :=
  if bitOf c.cfg.fns o.fn = false then some (stAborted, dtNotContributor)
  else if s.member c.cfg.slot o.fn = false then some (stTenancy, dtTenancyMismatch)
  else if c.state = 3 then some (stBroken, dtTreesFailed)
  else if c.below (cvRoundOf o.d) = true then some (stAborted, dtOutOfWindow)
  else none

section
variable (h : Contributes s id o)
  (ht : (s.modOp id fun x => { x with phase := .sent, round := some (cvRoundOf o.d), startAt := s.now }) = t)
include h ht

theorem convoyBegin_noSlot (hc : Tbl.get s.convoys (cvSlotOf o.d) = none) :
    convoyBegin id s = t.endOp id stAborted dtNoSlot 0 (cvData (cvRoundOf o.d) 0 0) := by
  subst ht
  simp [convoyBegin, h.found, h.convoy, h.initiator, h.turn, h.bus, h.engine, hc]

section
variable {c : CvSlot} (hc : Tbl.get s.convoys (cvSlotOf o.d) = some c)
include hc

theorem convoyBegin_refused {st dt : Nat} (hr : s.cvRefusal c o = some (st, dt)) :
    convoyBegin id s = t.endOp id st dt 0 (cvData (cvRoundOf o.d) 0 0) := by
  subst ht
  unfold State.cvRefusal at hr
  split_ifs at hr with hf hm hs hb <;> cases hr
  all_goals simp [convoyBegin, h.found, h.convoy, h.initiator, h.turn, h.bus, h.engine, *]

section
variable (hr : s.cvRefusal c o = none)
include hr

omit h ht hc in
theorem cvRefusal_none : bitOf c.cfg.fns o.fn = true ∧ s.member c.cfg.slot o.fn = true ∧ c.state ≠ 3 ∧ c.below (cvRoundOf o.d) = false := by
  simpa [State.cvRefusal, ite_eq_iff] using hr

omit ht in
/-- A round above the window is not yet open to contributions: the operation stays queued (R306). -/
theorem convoyBegin_ahead (hw : c.inWindow (cvRoundOf o.d) = false) : convoyBegin id s = s := by
  obtain ⟨hf, hm, hs, hb⟩ := cvRefusal_none hr
  simp [convoyBegin, h.found, h.convoy, h.initiator, h.turn, h.bus, h.engine, hc, hf, hm, hs, hb, hw]

variable (hw : c.inWindow (cvRoundOf o.d) = true)
include hw

theorem convoyBegin_again {x : CvRound} (hx : s.cvRound (cvSlotOf o.d) (cvRoundOf o.d) = some x)
    (hl : (x.locals.any fun m => m.fn == o.fn) = true) :
    convoyBegin id s = t.endOp id stAborted dtDuplicate 0 (cvData (cvRoundOf o.d) 0 0) := by
  subst ht
  obtain ⟨hf, hm, hs, hb⟩ := cvRefusal_none hr
  simp [convoyBegin, h.found, h.convoy, h.initiator, h.turn, h.bus, h.engine, hc, hf, hm, hs, hb, hw, hx, hl]

/-- A contribution that opens its round is read, unless it brings no bytes: a barrier's, or one to a broadcast that is not its source (R299). -/
theorem convoyBegin_opens {v : State} {x : CvRound} (hfree : s.cvRound (cvSlotOf o.d) (cvRoundOf o.d) = none)
    (hu : ((t.cvOpen (cvSlotOf o.d) (cvRoundOf o.d)).modRound (cvSlotOf o.d) (cvRoundOf o.d) fun x =>
      { x with locals := x.locals ++ [cvLocal o.fn id o.d] }) = u)
    (hx : u.cvRound (cvSlotOf o.d) (cvRoundOf o.d) = some x) (hres : x.res = none)
    (hvalid : cvValid (cvParams o.d) (cvLocal o.fn id o.d) o.d c.cfg.participants = true) (hroom : c.need (cvParams o.d) ≤ c.cfg.stage)
    (hv : u.cvAgree (cvSlotOf o.d) (cvRoundOf o.d) (cvParams o.d) = (v, true)) (hop : (cvParams o.d).operation ≠ 4) :
    convoyBegin id s =
      if (cvParams o.d).operation = 0 ∨ ((cvParams o.d).operation = 1 ∧ (cvLocal o.fn id o.d).source = false) then v.cvStaged id []
      else v.cvFetch id := by
  subst ht
  obtain ⟨hf, hm, hs, hb⟩ := cvRefusal_none hr
  simp [convoyBegin, h.found, h.convoy, h.initiator, h.turn, h.bus, h.engine, hc, hf, hm, hs, hb, hw, hfree, hu, hx, hres, hvalid,
    Nat.not_lt.mpr hroom, hv, hop]

end

end

end

/-! ## The read of a contribution (R299, R300): `t` is the state without the read, or at the time of the next try -/

section
variable {rd : Nat} {r : HostRead} (hr : Tbl.get s.reads rd = some r) (hu : r.use = .contribution id)
  (ht : { s with reads := Tbl.del s.reads rd } = t) (ho : Tbl.get t.ops id = some o) (hl : o.ended = none)
include hr hu ht ho hl

theorem contributionReadDone_ok {b : List Byte} (hx : r.result = some (.ok b)) : contributionReadDone rd s = t.cvStaged id b := by
  simp [contributionReadDone, takeRead_finished hr hx ht, hu, ho, hl]

theorem contributionReadDone_failed (hx : r.result = some .failed) :
    contributionReadDone rd s = t.cvReadFault id o 0 0 o.d.localAddr := by
  simp [contributionReadDone, takeRead_finished hr hx ht, hu, ho, hl]

end

theorem contributionRetry_faulted {t0 kind : Nat} (ho : Tbl.get s.ops id = some o) (hf : o.readFault = some (t0, kind)) (hl : o.ended = none)
    (hn : o.reading = none) (ht : s.reach o.retryAt = t) : contributionRetry id s =
      if t0 + 1000 * t.rd F.PWY_TIMERS_GIVEUP ≤ t.now then
        (t.endOp id (if kind = 0 then stAborted else faultStatus kind) (if kind = 0 then dtPayloadBus else 0) o.bytes
          (cvData (cvRoundOf o.d) 0 0)).cvBad (cvSlotOf o.d) (cvRoundOf o.d) dtContribFault
      else t.cvFetch id := by
  subst ht
  simp [contributionRetry, ho, hf, hl, hn, us, Nat.mul_comm]

end

end Sys2Proof.Machine

open Sys2Proof Sys2Proof.Machine

/-- Settles O38: a contribution by the first check that its slot fails, its read by how it ended, and a retry by the give-up time. -/
theorem contributionsAreCheckedReadAndStaged : Obligations.ContributionsAreCheckedReadAndStaged := by
  refine ⟨?begins, ?read, ?retry⟩
  case begins =>
    rintro s t id k r data o hs ho hv hi hturn hb rfl rfl rfl he ht
    have ready : Contributes s id o := ⟨ho, hv, hi, hturn, hb, he⟩
    have run {u : State} : convoyBegin id s = u → exec (.convoyBegin id) s = .next u.settle := act_effect (convoyBegin id) rfl hs
    refine ⟨fun hc => run (convoyBegin_noSlot ready ht hc), fun c hc => ?_⟩
    have refused {st dt : Nat} (hr : s.cvRefusal c o = some (st, dt)) :
        exec (.convoyBegin id) s = .next (t.endOp id st dt 0 (cvData (cvRoundOf o.d) 0 0)).settle := run (convoyBegin_refused ready ht hc hr)
    refine ⟨fun hf => refused (by simp [State.cvRefusal, hf]), fun hf hm => refused (by simp [State.cvRefusal, hf, hm]), fun hf hm => ?_⟩
    have taken (h3 : c.state ≠ 3) (hbelow : c.below (cvRoundOf o.d) = false) : s.cvRefusal c o = none := by
      simp [State.cvRefusal, hf, hm, h3, hbelow]
    exact ⟨fun h3 => refused (by simp [State.cvRefusal, hf, hm, h3]),
      fun h3 hbelow => refused (by simp [State.cvRefusal, hf, hm, h3, hbelow]),
      fun h3 hbelow hw => run (convoyBegin_ahead ready hc (taken h3 hbelow) hw),
      fun h3 hbelow hw x hx hl => run (convoyBegin_again ready ht hc (taken h3 hbelow) hw hx hl),
      fun h3 hbelow hw hfree u v x hu hx hres hvalid hroom hagree hop =>
        run (convoyBegin_opens ready ht hc (taken h3 hbelow) hw hfree hu hx hres hvalid hroom hagree hop)⟩
  case read =>
    intro s t rd id r o hs hr hu ht ho hl
    have run {u : State} : contributionReadDone rd s = u → exec (.contributionReadDone rd) s = .next u.settle :=
      act_effect (contributionReadDone rd) rfl hs
    exact ⟨fun b hx => run (contributionReadDone_ok hr hu ht ho hl hx), fun hx => run (contributionReadDone_failed hr hu ht ho hl hx)⟩
  case retry =>
    intro s t id t0 kind o hs ho hf hl hn ht
    have run {u : State} : contributionRetry id s = u → exec (.contributionRetry id) s = .next u.settle :=
      act_effect (contributionRetry id) rfl hs
    exact ⟨fun hearly => run (by rw [contributionRetry_faulted ho hf hl hn ht, if_neg (Nat.not_le.mpr hearly)]),
      fun hlate => run (by rw [contributionRetry_faulted ho hf hl hn ht, if_pos hlate])⟩
end

section
/-! PROOF. Convoy packets from the children, from the parent and of a flood (09 R305 to R307, R309, R313, R316, R318, R319). -/

namespace Sys2Proof.Machine

section
variable {s t u n : State} {k kind : Nat} {c : CvSlot} {rx : RxPkt}

/-! ## The tree in use, and the window (R304, R306) -/

theorem get_modCv (f : CvSlot → CvSlot) (hc : Tbl.get s.convoys k = some c) : Tbl.get (s.modCv k f).convoys k = some (f c) := by
  simp [State.modCv, hc, Tbl.get_set_same]

theorem convoyPacket_child (h : s.convoyPacket kind false n c rx) : c.tree.children.contains rx.port = true := by
  obtain ⟨rest, d, -, -, -, -, -, -, -, hd, -, -, -, -, hchild, rfl, hc⟩ := h
  obtain rfl : d = c := Option.some.inj (hd.symm.trans hc)
  simpa using hchild

/-- A packet from the parent carries the window on; the tree in use stays as it is. -/
theorem convoyPacket_parent (h : s.convoyPacket kind true n c rx) : c.tree.parent = some rx.port := by
  obtain ⟨rest, d, -, -, -, -, -, -, -, hd, -, -, -, hparent, -, rfl, hc⟩ := h
  obtain rfl : d.rebase rx.cv.wbase = c :=
    Option.some.inj ((get_modCv (s := { s with rx := rest }) (fun c => c.rebase rx.cv.wbase) hd).symm.trans hc)
  exact eq_of_beq hparent

section
variable {f : State → Nat → CvSlot → RxPkt → State}

theorem cvTake_child (h : s.convoyPacket kind false n c rx) : s.cvTake kind (cvFromChild f) = f n rx.cv.slot c rx :=
  (cvTake_of_packet _ h).trans (if_pos (convoyPacket_child h))

theorem cvTake_parent (h : s.convoyPacket kind true n c rx) : s.cvTake kind (cvFromParent f) = f n rx.cv.slot c rx :=
  (cvTake_of_packet _ h).trans (if_pos (convoyPacket_parent h))

theorem cvInWindow_inside (hw : c.inWindow rx.cv.round = true) : cvInWindow f s k c rx = f s k c rx := if_pos hw

theorem cvInWindow_outside (hw : c.inWindow rx.cv.round = false) :
    cvInWindow f s k c rx = if c.below rx.cv.round = true then s else s.bump F.COL_DROP_NO_SLOT :=
  if_neg (by simp [hw])

end

/-! ## A `PARTIAL` (R307): `t` is the state in which its round is open -/

section
variable {x : CvRound} (ht : (s.cvOpen k rx.cv.round).tally .col 2 1 (k % 2) = t) (hx : t.cvRound k rx.cv.round = some x)
include ht hx

theorem onPartial_closed (hs : x.state ≠ .opened) : onPartial s k c rx = t := by
  simp [onPartial, ht, hx, hs]

theorem onPartial_mismatch (hs : x.state = .opened) (hu : t.cvAgree k rx.cv.round (cvParamsOf rx.cv) = (u, false)) :
    onPartial s k c rx = u.cvBad k rx.cv.round dtRoundMismatch := by
  simp [onPartial, ht, hx, hs, hu]

theorem onPartial_input (hs : x.state = .opened) (hu : t.cvAgree k rx.cv.round (cvParamsOf rx.cv) = (u, true))
    (hfits : (cvParamsOf rx.cv).fits rx.cvBody.length = true) (hacc : rx.cv.hasAcc = (cvParamsOf rx.cv).exact) (hop : rx.cv.operation ≠ 4) :
    onPartial s k c rx = u.cvInput k rx.cv.round { src := .port rx.port, count := rx.cv.count, data := rx.cvBody } := by
  simp [onPartial, ht, hx, hs, hu, hfits, hacc, hop]

end

/-! ## An `ABORT_REQ` (R319) and a `RESULT` (R301, R307) -/

theorem onAbortReq_root (hr : c.root = true) : onAbortReq s k c rx = s.cvRootAbort k rx.cv.round rx.cv.detail rx.cv.missingDid := if_pos hr

theorem onAbortReq_notRoot (hr : c.root = false) : onAbortReq s k c rx =
    s.cvUp k (cvSay (cvReported rx.cv) { cvHdr 7 rx.cv.round (some (cvParamsOf rx.cv)) with detail := rx.cv.detail }) [] :=
  if_neg (by simp [hr])

theorem onResult_agreed {agrees : Bool} (hu : (s.cvOpen k rx.cv.round).cvAgree k rx.cv.round (cvParamsOf rx.cv) = (u, agrees)) :
    onResult s k c rx = u.cvGoDown k rx.cv.round
      (if agrees = true ∧ rx.cv.operation ≠ 4 ∧ rx.cvBody.length = (cvParamsOf rx.cv).outLen
        then { abort := none, data := rx.cvBody, count := rx.cv.count } else { abort := some dtRoundMismatch }) := by
  have hop : (cvParamsOf rx.cv).operation = rx.cv.operation := rfl
  simp [onResult, hu, hop, and_assoc]

/-! ## A `RESTART` (R316): the one packet taken from the tree that is not in use -/

/-- The oldest `RESTART` on the alternate tree of a slot in `PRIMARY` is taken from its alternate parent, and carries the window on. -/
theorem cvTake_restart {rest : List RxPkt} {d : CvSlot} {f : State → Nat → CvSlot → RxPkt → State}
    (hrx : takeRx (fun r => r.isCv 6) s.rx = some (rx, rest)) (hkind : rx.cv.ckind = 6) (hrsv : rx.cv.rsvZero = true) (hver : rx.cv.ver = 1)
    (hlen : rx.cv.payloadLen = rx.cvBody.length) (hmax : rx.cv.payloadLen ≤ 4096) (hc : Tbl.get s.convoys rx.cv.slot = some c)
    (hslot : rx.slot = c.cfg.slot) (hst : c.state = 1) (halt : rx.cv.alt = true) (hon : c.cfg.onAlt = true)
    (hp : c.cfg.alt.parent = some rx.port) (ht : (({ s with rx := rest } : State).modCv rx.cv.slot fun c => c.rebase rx.cv.wbase) = t)
    (hd : Tbl.get t.convoys rx.cv.slot = some d) : s.cvTake 6 f = f t rx.cv.slot d rx := by
  have hbody : rx.cvBody.length ≤ 4096 := hlen ▸ hmax
  simp [State.cvTake, hrx, hkind, hrsv, hver, hlen, Nat.not_lt.mpr hbody, hc, hslot, hst, halt, hon, hp, ht, hd]

theorem onRestart_primary (hst : c.state = 1) : onRestart s k c rx =
    ((s.modCv k fun c => { c with state := 2 }).cvDown k c.cfg.alt.children true (cvHdr 6 c.wbase none) []).1.cvRebuild k :=
  if_neg (not_not_intro hst)

/-! ## A `FLOOD` (R309): it is forwarded in `t`, and agrees with its open round in `u` -/

section
variable {x : CvRound}
  (ht : ((s.cvOpen k rx.cv.round).tally .col 6 1 (k % 2)).cvFlood k rx.cv.round (cvParamsOf rx.cv) rx.cv.index rx.cvBody (some rx.port) = t)
  (hu : t.cvAgree k rx.cv.round (cvParamsOf rx.cv) = (u, true)) (hx : u.cvRound k rx.cv.round = some x) (hs : x.state = .opened)
include ht hu hx hs

theorem onFlood_refused (h : c.floodOk rx.cv rx.cvBody = false ∨ x.locals.any (fun l => l.ready && l.index == rx.cv.index) = true) :
    onFlood s k c rx = u.cvBad k rx.cv.round dtRoundMismatch := by
  have bad : (!c.floodOk rx.cv rx.cvBody || x.locals.any fun l => l.ready && l.index == rx.cv.index) = true := by
    rw [Bool.or_eq_true, Bool.not_eq_true']
    exact h
  simp only [onFlood, ht, hu, hx, hs, bad, ne_eq, not_true_eq_false, if_true, if_false]

section
variable (hok : c.floodOk rx.cv rx.cvBody = true) (hl : x.locals.any (fun l => l.ready && l.index == rx.cv.index) = false)
include hok hl

theorem onFlood_first (hn : Tbl.get x.floods rx.cv.index = none) : onFlood s k c rx = u.cvHold k rx.cv.round rx.cv.index rx.cvBody := by
  simp [onFlood, ht, hu, hx, hs, hok, hl, hn]

theorem onFlood_again {d : List Byte} (hd : Tbl.get x.floods rx.cv.index = some d) :
    onFlood s k c rx = if d = rx.cvBody then u else u.cvBad k rx.cv.round dtRoundMismatch := by
  simp [onFlood, ht, hu, hx, hs, hok, hl, hd]

end

end

end

end Sys2Proof.Machine

open Sys2Proof Sys2Proof.Machine

/-- Settles O39: each packet is taken by `COL` from its side of the tree; its round, where it names one, is in the window or not; and then it acts
by its kind. -/
theorem convoyPacketsAct : Obligations.ConvoyPacketsAct := by
  refine ⟨⟨?outside, ?partials, ?dones, ?fails, ?abortReqs⟩, ?results, ?aborts, ?windows, ?brokens, ?restarts, ?floods⟩
  case outside =>
    intro s n c rx kind i hs h hi hw
    have run : exec i s = .next (if c.below rx.cv.round = true then n else n.bump F.COL_DROP_NO_SLOT).settle := by
      rcases hi with ⟨rfl, rfl⟩ | ⟨rfl, rfl⟩ | ⟨rfl, rfl⟩
      · exact act_effect cvPartial rfl hs ((cvTake_child h).trans (cvInWindow_outside hw))
      · exact act_effect cvDone rfl hs ((cvTake_child h).trans (cvInWindow_outside hw))
      · exact act_effect cvAbortReq rfl hs ((cvTake_child h).trans (cvInWindow_outside hw))
    exact ⟨fun hb => by rw [run, if_pos hb], fun hb => by rw [run, if_neg (by simp [hb])]⟩
  case partials =>
    intro s n t u c rx x hs h hw ht hx
    have run {v : State} (hv : onPartial n rx.cv.slot c rx = v) : exec .cvPartial s = .next v.settle :=
      act_effect cvPartial rfl hs ((cvTake_child h).trans ((cvInWindow_inside hw).trans hv))
    exact ⟨fun ho => run (onPartial_closed ht hx ho), fun ho hu => run (onPartial_mismatch ht hx ho hu),
      fun ho hu hfits hacc hop => run (onPartial_input ht hx ho hu hfits hacc hop)⟩
  case dones =>
    intro s n c rx hs h hw
    exact act_effect cvDone rfl hs ((cvTake_child h).trans (cvInWindow_inside hw))
  case fails =>
    intro s n c rx hs h
    exact act_effect cvFail rfl hs (cvTake_child h)
  case abortReqs =>
    intro s n c rx hs h hw
    have run {v : State} (hv : onAbortReq n rx.cv.slot c rx = v) : exec .cvAbortReq s = .next v.settle :=
      act_effect cvAbortReq rfl hs ((cvTake_child h).trans ((cvInWindow_inside hw).trans hv))
    exact ⟨fun hr => run (onAbortReq_root hr), fun hr => run (onAbortReq_notRoot hr)⟩
  case results =>
    intro s n c rx hs h hw u agrees hu
    exact act_effect cvResult rfl hs ((cvTake_parent h).trans ((cvInWindow_inside hw).trans (onResult_agreed hu)))
  case aborts =>
    intro s n c rx hs h hw
    exact act_effect cvAbort rfl hs ((cvTake_parent h).trans (cvInWindow_inside hw))
  case windows =>
    intro s n c rx hs h
    exact act_effect cvWindow rfl hs (cvTake_parent h)
  case brokens =>
    intro s n c rx hs h
    exact act_effect cvBroken rfl hs (cvTake_of_packet onBroken h)
  case restarts =>
    intro s t c d rx rest hs hrx hkind hrsv hver hlen hmax hc hslot hst halt hon hp ht hd hd1
    exact act_effect cvRestart rfl hs
      ((cvTake_restart hrx hkind hrsv hver hlen hmax hc hslot hst halt hon hp ht hd).trans (onRestart_primary hd1))
  case floods =>
    intro s n t u c rx x down hs h hw ht hu hx ho
    have run {v : State} (hv : onFlood n rx.cv.slot c rx = v) : exec .cvFlood s = .next v.settle :=
      act_effect cvFlood rfl hs ((cvTake_of_packet _ h).trans ((cvInWindow_inside hw).trans hv))
    exact ⟨fun hbad => run (onFlood_refused ht hu hx ho hbad), fun hok hl =>
      ⟨fun hn => run (onFlood_first ht hu hx ho hok hl hn), fun d hd => run (onFlood_again ht hu hx ho hok hl hd)⟩⟩
end

section
/-! PROOF. Timers of a convoy: of a round, of its wait, of a new window base, and of a parked result write (09 R302, R305, R315, R320). -/

namespace Sys2Proof.Machine

section
variable {s : State} {k r : Nat}

theorem roundTimer_down {c : CvSlot} {x : CvRound} {start : Nat} (hc : Tbl.get s.convoys k = some c) (hx : s.cvRound k r = some x)
    (ht : x.timerAt = some start) (hs : x.state = .down) : roundTimer k r s =
      ((s.reach (start + 1000 * orWhenZero (s.rd F.COL_CTL_ROUND_TMO_US) 1)).modRound k r fun x => { x with timerAt := none }).later
        (.cvTrigger k c.state none) := by
  simp [roundTimer, hc, hx, ht, hs, us, Nat.mul_comm]

theorem roundWaitTimeout_live {x : CvRound} (hx : s.cvRound k r = some x) (hw : x.waited = false) (hl : x.live = true)
    (hlim : s.rd F.COL_CTL_WAIT_TMO_MS ≠ 0) : roundWaitTimeout k r s =
      (s.reach (x.openedAt + 1000000 * s.rd F.COL_CTL_WAIT_TMO_MS)).cvExpire k r dtWaitTimeout dtOrphaned := by
  simp [roundWaitTimeout, hx, hw, hl, hlim, ms, Nat.mul_comm]

theorem windowSendTimer_due {c : CvSlot} {due : Nat} (hc : Tbl.get s.convoys k = some c) (hd : c.windowDue = some due) : windowSendTimer k s =
    (((s.reach due).modCv k fun c => { c with windowDue := none }).cvDown k c.tree.children true (cvHdr 4 c.wbase none) []).1 := by
  simp [windowSendTimer, hc, hd]

theorem resultWriteRetry_parked {w : CvWrite} (hw : (s.cvWrites.find? fun w => w.slot == k && w.round == r && w.fault.isSome) = some w) :
    resultWriteRetry k r s = (s.reach w.retryAt).cvRetry fun w => w.slot == k && w.round == r && w.fault.isSome := by
  simp [resultWriteRetry, hw]

end

end Sys2Proof.Machine

open Sys2Proof Sys2Proof.Machine

/-- Settles O40: each timer acts at its time on the round, the slot or the write that it is of. -/
theorem convoyTimersAct : Obligations.ConvoyTimersAct := by
  refine ⟨?round, ?wait, ?window, ?write⟩
  case round =>
    intro s k r t c x hs hc hx ht hdown
    exact act_effect (roundTimer k r) rfl hs (roundTimer_down hc hx ht hdown)
  case wait =>
    intro s k r x hs hx hw hl hlim
    exact act_effect (roundWaitTimeout k r) rfl hs (roundWaitTimeout_live hx hw hl hlim)
  case window =>
    intro s k t c hs hc hd
    exact act_effect (windowSendTimer k) rfl hs (windowSendTimer_due hc hd)
  case write =>
    intro s k r w hs hw
    exact act_effect (resultWriteRetry k r) rfl hs (resultWriteRetry_parked hw)
end

section
/-! PROOF. Semaphores: what a read of one answers, and what a release, a force and the times of a wait pass on (10 R335 to R340). -/

namespace Sys2Proof.Machine

section
variable {s t u n : State} {m fn k a : Nat}

/-! ## How a command on a semaphore reaches its effect -/

theorem actLight_effect {ok takes : Bool} (f : State → State) (ho : ok = true) (ht : takes = true) (hf : f s = t) :
    actLight ok takes f s = .next t.calm := by
  rw [actLight_runs f s ho ht, hf]

theorem actLight_access_effect {ok : Bool} (i : Instr) (f : State → State) (h : s.access m a n) (ho : ok = true) (hf : f n = t) :
    actLight ok s.up (regRow i m a f) s = .next t.calm := by
  rw [actLight_access i f h ho, hf]

theorem isSem_of_lt (hk : k < 256) : isSem k = true := decide_eq_true hk

theorem masterSem_ok (hm : isMaster m = true) (hk : k < 256) : (isMaster m && isSem k) = true := by
  simp [hm, isSem_of_lt hk]

theorem masterFnSem_ok (hm : isMaster m = true) (hfn : isFn fn = true) (hk : k < 256) : (isMaster m && isFn fn && isSem k) = true := by
  simp [masterFn_ok hm hfn, isSem_of_lt hk]

/-- A semaphore read whose access reaches the register is one attempt, of eight bytes. -/
theorem semRow_of_access {wait : Bool} (i : Instr) (h : s.access m a n) (hh : n.halted = false)
    (ha : a = if wait then F.ATM_SEM_ACQk_GRANTED.addr fn k else F.ATM_SEM_TRYk_VALUE.addr fn k) :
    semRow i wait m fn k s = semRead wait m fn k a 8 n := by
  rw [semRow, ← ha, regGate_of_access i true _ _ h hh]

/-! ## A semaphore read (R335, R336): `t` is the state with the read counted -/

@[simp] theorem partOf_whole (a v : Nat) : partOf a 8 v = v := rfl

section
variable {wait : Bool} (hw : mayWindow m fn = true) (hf : n.fenced Block.atm.page = false) (ht : n.tally .atm 4 = t)
include hw hf ht

/-- A free semaphore that nobody waits on is taken, and a latched flag is delivered with it. -/
theorem semRead_free {broken : Bool} (hq : t.semWaits k = []) (hheld : t.on F.ATM_SEM_STATk_HELD 0 k = false)
    (hb : t.on F.ATM_SEM_STATk_BROKEN 0 k = broken)
    (hu : (t.when broken fun s => (s.bump F.ATM_BROKEN_SEM).tally .atm 10).semTake k m = u) :
    semRead wait m fn k a 8 n = u.emit (.readReply m a (u.semValue k m true broken false false)) := by
  simp [semRead, hw, hf, ht, hq, hheld, hb, hu]

section
variable (hmine : (t.semWaits k).find? (fun w => w.master == m) = none) (hheld : t.on F.ATM_SEM_STATk_HELD 0 k = true)
include hmine hheld

theorem semRead_ownHeld (hh : t.rd F.ATM_SEM_STATk_HOLDER 0 k = m) :
    semRead wait m fn k a 8 n = t.emit (.readReply m a (t.semValue k m true false true false)) := by
  simp [semRead, hw, hf, ht, hmine, hheld, hh]

theorem semRead_otherHeld_waits (hh : t.rd F.ATM_SEM_STATk_HOLDER 0 k ≠ m) : semRead true m fn k a 8 n =
    (t.tally .atm 5).setSem k (t.semWaits k ++ [{ master := m, reads := [(a, 8)], since := t.now }]) := by
  simp [semRead, hw, hf, ht, hmine, hheld, hh]

theorem semRead_otherHeld_tries (hh : t.rd F.ATM_SEM_STATk_HOLDER 0 k ≠ m) :
    semRead false m fn k a 8 n = t.emit (.readReply m a (t.semValue k m false false false false)) := by
  simp [semRead, hw, hf, ht, hmine, hheld, hh]

end

section
variable {w : SemWait} (hmine : (t.semWaits k).find? (fun w => w.master == m) = some w)
include hmine

/-- The read of a place whose grant is held for it collects the grant (R338). -/
theorem semRead_granted (hg : w.held = true) (hu : t.setSem k ((t.semWaits k).filter fun x => x.master != m) = u) :
    semRead wait m fn k a 8 n = u.emit (.readReply m a (u.semValue k m true w.broken false false)) := by
  simp [semRead, hw, hf, ht, hmine, hg, hu]

/-- A master has one place: a further waiting read joins it. -/
theorem semRead_placed_waits (hg : w.held = false) : semRead true m fn k a 8 n =
    t.setSem k ((t.semWaits k).map fun x => if x.master = m then { x with
      reads := x.reads ++ [(a, 8)], since := if x.reads = [] then t.now else x.since, keep := none } else x) := by
  simp [semRead, hw, hf, ht, hmine, hg]

theorem semRead_placed_tries (hg : w.held = false) :
    semRead false m fn k a 8 n = t.emit (.readReply m a (t.semValue k m false false false false)) := by
  simp [semRead, hw, hf, ht, hmine, hg]

end

end

/-! ## A semaphore released and forced (R339, R340) -/

theorem semRelease_byHolder (hw : mayWindow m fn = true) (hheld : s.on F.ATM_SEM_STATk_HELD 0 k = true)
    (hh : s.rd F.ATM_SEM_STATk_HOLDER 0 k = m) :
    semRelease m fn k s = (s.setSem k ((s.semWaits k).filter fun w => w.master != m)).semPass k false := by
  simp [semRelease, hw, hheld, hh]

theorem semRelease_byOther (hw : mayWindow m fn = true)
    (h : ¬(s.on F.ATM_SEM_STATk_HELD 0 k = true ∧ s.rd F.ATM_SEM_STATk_HOLDER 0 k = m)) :
    semRelease m fn k s = s.err 0x17 3 { access := 8, addr := F.ATM_SEM_RELk_REL.addr fn k, master := some m } := by
  have other : ¬(s.on F.ATM_SEM_STATk_HELD 0 k && s.rd F.ATM_SEM_STATk_HOLDER 0 k == m) = true := by simpa using h
  simp only [semRelease, hw, Bool.not_true, Bool.false_eq_true, if_false, if_neg other, berr_atm, accRegWrite]

theorem semForce_held (hm : s.mayWrite m = true) (hheld : s.on F.ATM_SEM_STATk_HELD 0 k = true) :
    semForce m k s = (s.setSem k ((s.semWaits k).filter fun w => !w.held)).semPass k true := by
  simp [semForce, hm, hheld]

theorem semForce_free (hm : s.mayWrite m = true) (hheld : s.on F.ATM_SEM_STATk_HELD 0 k = false) : semForce m k s = s := by
  simp [semForce, hm, hheld]

/-- Passed on with nobody waiting, a semaphore is free, with the flag latched (R340). -/
theorem semPass_unawaited (broken : Bool) (hq : s.semWaits k = []) (hb : s.on F.ATM_SEM_STATk_BROKEN 0 k = false) : s.semPass k broken =
    ((s.wr F.ATM_SEM_STATk_HELD 0 0 k).wr F.ATM_SEM_STATk_HOLDER 0xFF 0 k).wr F.ATM_SEM_STATk_BROKEN (b2n broken) 0 k := by
  simp [State.semPass, hq, hb]

/-! ## The times of a wait (R337, R338) -/

section
variable {w : SemWait} (hmine : (s.semWaits k).find? (fun w => w.master == m) = some w)
include hmine

/-- The stalled reads are answered in `u`; the place goes where there is no keep time. -/
theorem semAcquireTimeout_stalled (hr : w.reads ≠ []) (ht : (s.reach (w.since + 10000)).tally .atm 6 = t)
    (hu : t.semReply m w.reads (t.semValue k m false false false true) = u) : semAcquireTimeout m k s =
      if u.rd F.ATM_CTL_SEM_KEEP_US = 0 then u.setSem k ((s.semWaits k).filter fun x => x.master != m)
      else u.setSem k ((s.semWaits k).map fun x =>
        if x.master = m then { x with reads := [], keep := some (u.now + 1000 * u.rd F.ATM_CTL_SEM_KEEP_US) } else x) := by
  subst ht hu
  simp [semAcquireTimeout, hmine, hr, us, Nat.mul_comm]

theorem semKeepExpire_kept {due : Nat} (hkeep : w.keep = some due)
    (ht : (s.reach due).setSem k ((s.semWaits k).filter fun x => x.master != m) = t) :
    semKeepExpire m k s = if w.held then t.semPass k false else t := by
  simp [semKeepExpire, hmine, hkeep, ht]

end

end

end Sys2Proof.Machine

open Sys2Proof Sys2Proof.Machine

/-- Settles O41: a read by who holds the semaphore and whether the master has a place; then release, force, the two times of a wait, and a
semaphore that nobody waits on. -/
theorem semaphoresAreTakenAndPassedOn : Obligations.SemaphoresAreTakenAndPassedOn := by
  refine ⟨⟨?acquires, ?tries⟩, ?releases, ?forces, ?times, fun s k broken => semPass_unawaited broken⟩
  case acquires =>
    intro s n t m fn k a hm hfn hk hw ha h hh hf ht
    have run {u : State} (hu : semRead true m fn k a 8 n = u) : exec (.semAcquire m fn k) s = .next u.calm :=
      actLight_effect _ (masterFnSem_ok hm hfn hk) (access_up h) ((semRow_of_access (wait := true) _ h hh ha).trans hu)
    exact ⟨fun hq hheld hb => run (semRead_free hw hf ht hq hheld hb rfl),
      fun hq hheld hb u hu => run (semRead_free hw hf ht hq hheld hb hu),
      fun hmine hheld => ⟨fun own => run (semRead_ownHeld hw hf ht hmine hheld own),
        fun other => run (semRead_otherHeld_waits hw hf ht hmine hheld other)⟩,
      fun w hmine => ⟨fun hg u hu => run (semRead_granted hw hf ht hmine hg hu), fun hg => run (semRead_placed_waits hw hf ht hmine hg)⟩⟩
  case tries =>
    intro s n t m fn k a hm hfn hk hw ha h hh hf ht
    have run {u : State} (hu : semRead false m fn k a 8 n = u) : exec (.semTry m fn k) s = .next u.calm :=
      actLight_effect _ (masterFnSem_ok hm hfn hk) (access_up h) ((semRow_of_access (wait := false) _ h hh ha).trans hu)
    exact ⟨fun hq hheld hb => run (semRead_free hw hf ht hq hheld hb rfl),
      fun hq hheld hb u hu => run (semRead_free hw hf ht hq hheld hb hu),
      fun hmine hheld => ⟨fun own => run (semRead_ownHeld hw hf ht hmine hheld own),
        fun other => run (semRead_otherHeld_tries hw hf ht hmine hheld other)⟩,
      fun w hmine => ⟨fun hg u hu => run (semRead_granted hw hf ht hmine hg hu), fun hg => run (semRead_placed_tries hw hf ht hmine hg)⟩⟩
  case releases =>
    intro s n m fn k hm hfn hk hw h
    have run {u : State} : semRelease m fn k n = u → exec (.semRelease m fn k) s = .next u.calm :=
      actLight_access_effect _ (semRelease m fn k) h (masterFnSem_ok hm hfn hk)
    exact ⟨fun ⟨hheld, hh⟩ => run (semRelease_byHolder hw hheld hh), fun hother => run (semRelease_byOther hw hother)⟩
  case forces =>
    intro s n m k hm hk h hmay
    have run {u : State} : semForce m k n = u → exec (.semForce m k) s = .next u.calm :=
      actLight_access_effect _ (semForce m k) h (masterSem_ok hm hk)
    exact ⟨fun hheld => run (semForce_held hmay hheld), fun hfree => run (semForce_free hmay hfree)⟩
  case times =>
    intro s t u m k w hm hk hs hmine
    refine ⟨fun hr ht hu => ?timeout, fun due hkeep ht => ?keep⟩
    case timeout =>
      have run {v : State} : semAcquireTimeout m k s = v → exec (.semAcquireTimeout m k) s = .next v.calm :=
        actLight_effect (semAcquireTimeout m k) (masterSem_ok hm hk) hs
      have ended := semAcquireTimeout_stalled hmine hr ht hu
      exact ⟨fun hzero => run (ended.trans (if_pos hzero)), fun hkept => run (ended.trans (if_neg hkept))⟩
    case keep => exact actLight_effect (semKeepExpire m k) (masterSem_ok hm hk) hs (semKeepExpire_kept hmine hkeep ht)
end

section
/-! PROOF. Atomics on host memory, and locks granted, waited for, leased and forced (10 R331, R333, R347, R350). -/

namespace Sys2Proof.Machine

section
variable {s t : State}

/-! ## The read of an atomic ends (R331, R333): `t` is the state without the read and the atomic -/

section
variable {rd id : Nat} {r : HostRead} {j : AtomJob}

theorem atomicHeld_of_busOpen (hr : Tbl.get s.reads rd = some r) (hu : r.use = .atomic id) (hj : Tbl.get s.atomics id = some j)
    (hb : s.busHeld j.fn = false) : s.atomicHeld rd = false := by
  simp [State.atomicHeld, hr, HostRead.atomicOf, hu, hj, hb]

variable (hr : Tbl.get s.reads rd = some r) (hu : r.use = .atomic id) (hj : Tbl.get s.atomics id = some j) (hb : s.busHeld j.fn = false)
  (ht : ({ s with reads := Tbl.del s.reads rd, atomics := Tbl.del s.atomics id } : State) = t)
include hr hu hj hb ht

/-- The word has been read: `u` is the state with the new value written, where it differs. -/
theorem atomicReadComplete_ok {old new : Nat} {b : List Byte} {u : State} (hx : r.result = some (.ok b)) (hold : old = leNat b)
    (hnew : new = atomicNew j.rx.hdr.msgLen old (leNat ((payloadOf j.rx.pkt).take 8)) (leNat (((payloadOf j.rx.pkt).drop 8).take 8)))
    (hwr : (if new = old then t else t.placeWrite 12 j.fn [(j.addr, 0, j.width)] (leBytes j.width new)) = u) :
    atomicReadComplete rd s = (((j.sig.elim u fun e => u.signalEvent e.1 e.2 j.rx.hdr).fetchReply j.key j.rx old).outcome
      j.key j.rx .placed).retryWords := by
  have unheld := atomicHeld_of_busOpen hr hu hj hb
  subst ht hold hnew hwr
  cases hsig : j.sig <;> simp [atomicReadComplete, unheld, takeRead_finished hr hx rfl, hu, hj, hsig]

theorem atomicReadComplete_failed (hx : r.result = some .failed) : atomicReadComplete rd s =
    (((t.releaseSignal j.sig).err 0x17 4 { access := 6, addr := r.iova.getD j.addr, master := some 0x1F, remote := j.rx.hdr.srcEpa }).outcome
      j.key j.rx (.notice ntFault nrSourceBus)).retryWords := by
  have unheld := atomicHeld_of_busOpen hr hu hj hb
  subst ht
  simp only [atomicReadComplete, unheld, takeRead_finished hr hx rfl, hu, hj, berr_atm, accAtomic, Bool.false_eq_true, if_false]

end

/-! ## Grants and waits at the requester (R347) -/

theorem lockGrantReceive_serving (h : s.serves .pwy = true) : lockGrantReceive s = s.takeKind 4 State.takeData := if_pos h

/-- A `LOCK` that has been sent and has no grant is withdrawn at its wait limit. -/
theorem lockWaitTimeout_ungranted {id : Nat} {o : Op} (ho : Tbl.get s.ops id = some o) (hv : o.d.verb = vbLock) (hr : o.recv = false)
    (he : o.ended = none) (hn : o.value = none) (hp : o.phase = .sent) (hlim : o.d.operand0 % 2 ^ 32 ≠ 0)
    (ht : s.reach (o.startAt + 1000 * (o.d.operand0 % 2 ^ 32)) = t) : lockWaitTimeout id s =
      (t.sendUnlock (t.opKey o) o.slot o.d.key o.d.remote 0 1).endOp id stTimeout dtLockWaitTimeout 0 0 := by
  subst ht
  simp [lockWaitTimeout, ho, hv, hr, he, hn, hp, hlim, us, Nat.mul_comm, State.withdrawLock, -Nat.reducePow]

/-! ## Leases and forced releases at the lock's device (R350) -/

section
variable {m off : Nat} {l : Lock} (hl : Tbl.get s.locks off = some l)
include hl

theorem lockLeaseExpire_leased {due : Nat} (hd : l.leaseEnd = some due) : lockLeaseExpire off s = (s.reach due).lockPass off true := by
  simp [lockLeaseExpire, hl, hd]

theorem lockForce_entry (hm : s.mayWrite m = true) : lockForce m off s = if l.holder.isSome then s.lockPass off true else s := by
  simp [lockForce, hm, hl]

theorem lockPass_unawaited (broken : Bool) (hq : l.waiters = []) :
    s.lockPass off broken = s.putLock off { l with holder := none, broken := broken || l.broken, leaseEnd := none } := by
  simp [State.lockPass, hl, hq]

end

end

end Sys2Proof.Machine

open Sys2Proof Sys2Proof.Machine

/-- Settles O42: the read of an atomic by how it ended, a grant as a packet of its kind, and a lock by its wait limit, its lease and its force. -/
theorem atomicsAndLocksAreCarriedOut : Obligations.AtomicsAndLocksAreCarriedOut := by
  refine ⟨?read, ?readFailed, ?grant, ?wait, ?lease, ?force, fun s off l broken hl => lockPass_unawaited hl broken⟩
  case read =>
    intro s t rd id old new r j b hs hr hu hx hj hb hold hnew ht u hwr
    have run {v : State} : atomicReadComplete rd s = v → exec (.atomicReadComplete rd) s = .next v.settle :=
      act_effect (atomicReadComplete rd) rfl hs
    have done := atomicReadComplete_ok hr hu hj hb ht hx hold hnew hwr
    exact ⟨fun hsig => run (by rw [done, hsig, Option.elim]), fun fn eq hsig => run (by rw [done, hsig, Option.elim])⟩
  case readFailed =>
    intro s t rd id r j hs hr hu hx hj hb ht
    exact act_effect (atomicReadComplete rd) rfl hs (atomicReadComplete_failed hr hu hj hb ht hx)
  case grant =>
    intro s hs hserve
    have run {u : State} (hu : s.takeKind 4 State.takeData = u) : exec .lockGrantReceive s = .next u.settle :=
      act_effect lockGrantReceive rfl hs ((lockGrantReceive_serving hserve).trans hu)
    split
    next rx rest hrx => exact run (takeKind_oldest hrx)
    next hrx => exact run (takeKind_none hrx)
  case wait =>
    intro s t id o hs ho hv hr he hn hp hlim ht
    exact act_effect (lockWaitTimeout id) rfl hs (lockWaitTimeout_ungranted ho hv hr he hn hp hlim ht)
  case lease =>
    intro s off t l hs hl hd
    exact act_effect (lockLeaseExpire off) rfl hs (lockLeaseExpire_leased hl hd)
  case force =>
    intro s n m off l hm h hmay hl
    have run {u : State} (hu : lockForce m off n = u) : exec (.lockForce m off) s = .next u.settle :=
      act_access_effect (.lockForce m off) (lockForce m off) h hm hu
    have forced := lockForce_entry hl hmay
    exact ⟨fun w hw => run (by rw [forced, hw, Option.isSome, if_pos rfl]),
      fun hnone => run (by rw [forced, hnone, Option.isSome, if_neg Bool.false_ne_true])⟩
end

section
/-! PROOF. Numbers spelled in bytes, and control blocks read back as they are sent (00 R6; 13 R439). -/

namespace Sys2Proof.Machine

/-! ## Numbers in bytes -/

theorem leBytes_length (n v : Nat) : (leBytes n v).length = n := by
  induction n generalizing v with
  | zero => rfl
  | succ n ih => rw [leBytes, List.length_cons, ih]

theorem leNat_leBytes (n v : Nat) : leNat (leBytes n v) = v % 256 ^ n := by
  induction n generalizing v with
  | zero => rw [leBytes, leNat, pow_zero, Nat.mod_one]
  | succ n ih => rw [leBytes, leNat, ih, pow_succ', Nat.mod_mul, BitVec.toNat_ofNat]

@[simp] theorem beBytes_length (n v : Nat) : (beBytes n v).length = n := by
  rw [beBytes, List.length_reverse, leBytes_length]

theorem beNat_reverse (b : List Byte) : beNat b.reverse = leNat b := by
  rw [beNat, List.foldl_reverse]
  induction b with
  | nil => rfl
  | cons x r ih => rw [List.foldr_cons, ih, leNat]; omega

theorem beNat_beBytes (n v : Nat) : beNat (beBytes n v) = v % 256 ^ n := by
  rw [beBytes, beNat_reverse, leNat_leBytes]

/-! ## Fields one after another: the first, a later one, and the last -/

@[simp] theorem wireField_first (n v : Nat) (r : List Byte) : wireField (beBytes n v ++ r) 0 n = v % 256 ^ n := by
  rw [wireField, List.drop_zero, List.take_left' (beBytes_length n v), beNat_beBytes]

theorem wireField_append {b : List Byte} {i : Nat} (m : Nat) (r : List Byte) (h : b.length ≤ i) :
    wireField (b ++ r) i m = wireField r (i - b.length) m := by
  rw [wireField, List.drop_append, List.drop_of_length_le h, List.nil_append, wireField]

@[simp] theorem wireField_later {n i : Nat} (m v : Nat) (r : List Byte) (h : n ≤ i) :
    wireField (beBytes n v ++ r) i m = wireField r (i - n) m := by
  rw [wireField_append m r (by rwa [beBytes_length]), beBytes_length]

@[simp] theorem wireField_last (n v : Nat) : wireField (beBytes n v) 0 n = v % 256 ^ n := by
  simpa using wireField_first n v []

/-! ## Bits within a field -/

/-- A value that its bits hold is not cut by the bytes around them. -/
theorem bitsOf_held {v w m : Nat} (h : v < 2 ^ w) (hw : 2 ^ w ≤ m) : bitsOf (v % m) 0 w = v := by
  rw [bitsOf, pow_zero, Nat.div_one, Nat.mod_eq_of_lt (h.trans_le hw), Nat.mod_eq_of_lt h]

theorem bitOf_flag (x : Bool) : bitOf (b2n x % 256) 0 = x := by cases x <;> rfl

/-- Two bits, and a flag above them. -/
theorem bits_twoAndFlag {a : Nat} (x : Bool) (h : a < 4) :
    bitsOf ((a + 4 * b2n x) % 256) 0 2 = a ∧ bitOf ((a + 4 * b2n x) % 256) 2 = x := by
  cases x <;> simp [bitsOf, bitOf, b2n, Nat.testBit_eq_decide_div_mod_eq] <;> omega

/-- Two halves of a byte. -/
theorem bits_halves {a b : Nat} (ha : a < 16) (hb : b < 16) :
    bitsOf ((a + 16 * b) % 256) 0 4 = a ∧ bitsOf ((a + 16 * b) % 256) 4 4 = b := by
  simp only [bitsOf]
  omega

/-! ## Control blocks (R439) -/

theorem ctl_bytes_length (c : Ctl) : (Ctl.bytes c).length = 16 := by
  cases c <;> simp [Ctl.bytes]

/-- Field by field, what a block spells is read at the place, and with the width, that its `CTYPE` gives. -/
theorem ctlFields_bytes {c : Ctl} (h : c.fits = true) : ctlFields (Ctl.bytes c) = some c := by
  cases c with
  | none => rfl
  | drain => rfl
  | init fec seen width port did tTx resid =>
    simp only [Ctl.fits, decide_eq_true_eq, Nat.reducePow] at h
    simp [ctlFields, Ctl.bytes, bits_twoAndFlag, bitsOf_held, h]
  | credit a b adv hdrA dataA hdrB dataB =>
    simp only [Ctl.fits, decide_eq_true_eq, Nat.reducePow] at h
    simp [ctlFields, Ctl.bytes, bits_halves, bitOf_flag, bitsOf_held, h]
  | audit pool at_ freeHdr freeData retHdr retData =>
    simp only [Ctl.fits, decide_eq_true_eq, Nat.reducePow] at h
    simp [ctlFields, Ctl.bytes, bitsOf_held, h]
  | vcbOnOff xoff gap =>
    simp only [Ctl.fits, decide_eq_true_eq, Nat.reducePow] at h
    simp [ctlFields, Ctl.bytes, bitOf_flag, bitsOf_held, h]
  | time num echo echoValid resid tTx =>
    simp only [Ctl.fits, decide_eq_true_eq, Nat.reducePow] at h
    simp [ctlFields, Ctl.bytes, bitOf_flag, bitsOf_held, h]
  | timeInfo prio did steps state ppsRef seq estErr =>
    simp only [Ctl.fits, decide_eq_true_eq, Nat.reducePow] at h
    simp [ctlFields, Ctl.bytes, bits_twoAndFlag, bitsOf_held, h]

theorem ctlOf_bytes {c : Ctl} (h : c.fits = true) : ctlOf (Ctl.bytes c) = some c := by
  simp [ctlOf, ctlFields_bytes h]

end Sys2Proof.Machine

open Sys2Proof Sys2Proof.Machine

/-- Settles O46: each block by its fields. -/
theorem controlBlocksReadBackAsTheyAreSent : Obligations.ControlBlocksReadBackAsTheyAreSent :=
  fun c h => ⟨ctl_bytes_length c, ctlOf_bytes h⟩
end

section
/-! PROOF. What a step carries out: the front command, nothing in reset and without power, and an idle period (19 R573, R577; 20 R601; log entries
20, 26 and 54). -/

namespace Sys2Proof.Machine

section
variable {s : State}

theorem step_command {c : Instr} {rest : List Instr} (h : s.pending = c :: rest) : step s = exec c { s with pending := rest } := by
  rw [step, h]

theorem step_idle (h : s.pending = []) : step s = .next s.idle := by
  rw [step, h]

theorem idle_of_off (h : s.off = true) : s.idle = s := if_pos h

/-! ## In reset and without power (R573, R601) -/

/-- Every arm of `exec` but those of pins, rails and resets takes its command in `State.up` or `State.runs` (log entry 26). -/
theorem exec_acts_up (c : Instr) (s : State) (h : pinOrReset c = false) :
    ∃ (acts : Bool) (t : State), exec c s = .next (if acts then t else s) ∧ (acts = true → s.up = true) := by
  cases c <;> exact ⟨_, _, rfl, by simp +contextual [State.runs, pinOrReset] at h ⊢⟩

/-! ## An idle period (R577) -/

/-- The servo's slew in one cycle: what is left of it, within its limit. -/
def State.tickSlew (s : State) : Int :=
  let lim : Int := (40 * 2 ^ 32 * (if s.timState = tsUnlocked then 1000 else min 1000 (orWhenZero (s.rd F.TIM_SERVO_SLEW_PPM) 1)) / 1000000 : Nat)
  max (-lim) (min lim s.slew)

/-- What one cycle adds to device time: 40 ns, corrected in frequency and slewed. -/
def State.tickTime (s : State) : Nat :=
  (((40 * 2 ^ 32 : Nat) : Int) + (40 * 2 ^ 32 : Nat) * max (-100000) (min 100000 s.freq) / 1000000000 + s.tickSlew).toNat

/-- A frequency correction of at most 100 ppm and a slew of at most 1,000 ppm, each rounded by less than one unit. -/
theorem tickTime_bounds (s : State) :
    40 * 2 ^ 32 * 998900 ≤ s.tickTime * 1000000 + 2000000 ∧ s.tickTime * 1000000 ≤ 40 * 2 ^ 32 * 1001100 := by
  simp only [State.tickTime, State.tickSlew]
  generalize hp : (if s.timState = tsUnlocked then 1000 else min 1000 (orWhenZero (s.rd F.TIM_SERVO_SLEW_PPM) 1)) = ppm
  have slow : ppm ≤ 1000 := by subst hp; split_ifs <;> omega
  omega

theorem tick_keeps (s : State) : s.tick.mem = s.mem ∧ s.tick.listFetch = s.listFetch ∧ s.tick.now = s.now + (s.nowFrac + s.tickTime) / 2 ^ 32 ∧
    s.tick.nowFrac = (s.nowFrac + s.tickTime) % 2 ^ 32 := by
  unfold State.tick
  extract_lets
  split
  next => split <;> exact ⟨rfl, rfl, rfl, rfl⟩
  next => exact ⟨rfl, rfl, rfl, rfl⟩

theorem listEnds_of_none (h : s.listFetch = []) : s.listEnds = s := by
  simp [State.listEnds, h]

/-- With no list being fetched, an idle period leaves memory, and moves device time on by one cycle. -/
theorem idle_time (ho : s.off = false) (hl : s.listFetch = []) : ∃ u : State, s.idle = u.tick ∧ s.Steady u := by
  have steady : s.Steady s.padFlits.mayRevoke := (padFlits_steady s).trans (mayRevoke_steady s)
  refine ⟨s.padFlits.mayRevoke, ?_, steady⟩
  have none : s.padFlits.mayRevoke.tick.listFetch = [] := by
    simp only [State.Steady] at steady
    simp [tick_keeps, steady, hl]
  rw [State.idle, if_neg (by simp [ho]), listEnds_of_none none]

end

end Sys2Proof.Machine

open Sys2Proof Sys2Proof.Machine

/-- Settles O1: by what is at the front of the queue. -/
theorem stepCarriesOutTheFrontCommand : Obligations.StepCarriesOutTheFrontCommand :=
  ⟨fun _ _ _ h => step_command h, fun _ h => step_idle h, fun _ h ho => by rw [step_idle h, idle_of_off ho]⟩

/-- Settles O6: a command that is no pin, rail or reset acts only in a device that is up. -/
theorem onlyPinsAndResetsActInReset : Obligations.OnlyPinsAndResetsActInReset := by
  intro c s hu _ hp
  obtain ⟨acts, t, he, hacts⟩ := exec_acts_up c s hp
  cases acts with
  | false => exact he
  | true => simp [hu] at hacts

/-- Settles O7: one cycle of device time, and nothing else of what the statement speaks of. -/
theorem deviceTimeAlwaysAdvances : Obligations.DeviceTimeAlwaysAdvances := by
  intro s hp ho hl
  obtain ⟨u, hu, steady⟩ := idle_time ho hl
  obtain ⟨hmem, -, hnow, hfrac⟩ := tick_keeps u
  simp only [State.Steady] at steady
  obtain ⟨smem, snow, sfrac, -⟩ := steady
  obtain ⟨least, most⟩ := tickTime_bounds u
  rw [snow, sfrac] at hnow
  rw [sfrac] at hfrac
  refine ⟨u.tick, by rw [step_idle hp, hu], hmem.trans smem, ?_⟩
  rw [hnow, hfrac]
  omega
end

section
/-! PROOF. A link's transitions, and the timers of its credits, its audits and its time exchange (13 R435, R437, R440, R441, R444). -/

namespace Sys2Proof.Machine

section
variable {s n t : State} {m p a : Nat}

/-! ## How a command on a port or on a global register reaches its effect -/

/-- Microseconds, as the statements write them. -/
theorem us_eq (k : Nat) : us k = 1000 * k := Nat.mul_comm k 1000

theorem isPort_of_lt (hp : p < 128) : isPort p = true := decide_eq_true hp

theorem masterPort_ok (hm : isMaster m = true) (hp : p < 128) : (isMaster m && isPort p) = true := by
  rw [hm, isPort_of_lt hp, Bool.true_and]

theorem globalWrite_of_mayWrite {f : State → State} {page : Nat} (hw : s.mayWrite m = true) : globalWrite m page a f s = f s := if_pos hw

/-- An error of a port is one of its page. -/
theorem berr_lnk (s : State) (i : Nat) (e : ErrAt) (p : Nat) : s.berr .lnk i e p = s.err (0x40 + p) i e := rfl

/-! ## Link transitions (R437, R440, R441) -/

theorem retrain_up (hs : s.portState p = 3) : s.retrain p = if s.on F.LNK_STAT_RETRAIN_DUE p
    then ((s.err (0x40 + p) 4 {}).wr F.LNK_STAT_RETRAIN_DUE 0 p).enterDrain p 1 else s.enterDrain p 1 := by
  simp only [State.retrain, hs, berr_lnk]
  split_ifs <;> simp_all

theorem retrain_notUp (hs : s.portState p ≠ 3) : s.retrain p = s := by
  simp [State.retrain, hs]

section
variable {on : Bool} (ht : s.wr F.LNK_CTL_EN (b2n on) p = t)
include ht

theorem enablePort_down (hs : t.portState p = 0) (ho : on = true) (hc : t.configured p = true) (hf : t.portFenced p = false) :
    s.enablePort p on = t.enterTrain p true := by
  subst ho
  simp [State.enablePort, ht, hs, hc, hf]

theorem enablePort_up (hs : t.portState p = 3) (ho : on = false) : s.enablePort p on = (t.enterDrain p 1).checkDrain p := by
  subst ho
  simp [State.enablePort, ht, hs]

theorem enablePort_starting (hs : t.portState p = 1 ∨ t.portState p = 2) (ho : on = false) : s.enablePort p on = t.enterIdle p 0 := by
  subst ho
  rcases hs with hs | hs <;> simp [State.enablePort, ht, hs]

end

/-- Nothing waits to be reserved. -/
theorem applyRsv_none (hr : (s.port p).rsvNext = none) : s.applyRsv p = s := by
  simp [State.applyRsv, hr]

/-- A reservation waits until the buffer is empty. -/
theorem applyRsv_waits (hb : (s.port p).buf ≠ []) : s.applyRsv p = s := by
  cases hr : (s.port p).rsvNext with
  | none => exact applyRsv_none hr
  | some r => simp [State.applyRsv, hr, hb]

theorem lanesReady_chosen (hs : s.portState p = 1) (hc : (s.port p).chosen = true) (hne : (s.port p).set ≠ [])
    (hl : ((s.port p).set.all fun i => s.laneState (p / 4) (((s.portLanes p).getD []).getD i 0) == 5) = true) :
    lanesReady p s = if ((s.applyRsv p).port p).rsvNext.isSome then s.applyRsv p else (s.applyRsv p).enterAlign p := by
  have nonempty : ((s.port p).set == []) = false := by simpa using hne
  simp only [lanesReady, hs, hc, hl, nonempty]
  rfl

theorem alignTimeout_align (hs : s.portState p = 2) : alignTimeout p s =
    (s.reach ((s.port p).since + 1000 * orWhenZero (s.rd F.LNK_TMO_ALIGN_TMO_US p) 1)).enterTrain p false := by
  simp [alignTimeout, hs, us_eq]

theorem drainTimeout_drain (hs : s.portState p = 4) : drainTimeout p s =
    (s.reach ((s.port p).since + 1000 * orWhenZero (s.rd F.LNK_TMO_DRAIN_TMO_US p) 1)).endDrain p := by
  simp [drainTimeout, hs, us_eq]

theorem endDrain_draining (hs : s.portState p = 4) :
    s.endDrain p = if s.on F.LNK_CTL_EN p then s.enterTrain p false else s.enterIdle p 0 := by
  simp [State.endDrain, hs]

/-! ## Credits, audits and the time exchange (R435, R437, R444) -/

theorem creditUpdateTimer_changed {k j due : Nat} (hs : s.portState p = 3 ∨ s.portState p = 4)
    (hc : (s.port p).changed.find? (fun c => c.1 == k) = some (j, due)) (ht : s.reach (due + s.rd F.LNK_CREDIT_CTL_UPDATE_NS p) = t) :
    creditUpdateTimer p k s = (t.modPort p fun q => { q with changed := q.changed.filter fun c => c.1 != k }).sendNull p
      [.credit k 0xF false ((s.port p).retd.getD k (0, 0)).1 ((s.port p).retd.getD k (0, 0)).2 0 0] := by
  subst ht
  rcases hs with hs | hs <;> simp [creditUpdateTimer, hs, hc]

theorem creditRefreshTimer_sending (hs : s.portState p = 3 ∨ s.portState p = 4)
    (ht : s.reach ((s.port p).refreshAt + orWhenZero (s.rd F.LNK_CREDIT_CTL_REFRESH_NS p) 1000) = t) :
    creditRefreshTimer p s = (t.modPort p fun q => { q with refreshAt := t.now, changed := [] }).sendNull p
      (creditBlocks false (fun k => (s.port p).retd.getD k (0, 0)) ++ [.vcbOnOff (s.port p).xoff (s.port p).gap]) := by
  subst ht
  rcases hs with hs | hs <;> simp [creditRefreshTimer, hs]

/-- The state that an audit leaves: its nine blocks sent. -/
def State.audited (t : State) (p : Nat) : State :=
  (t.modPort p fun q => { q with auditAt := t.now, due := false }).sendNull p ((List.range 9).map fun k => .audit k (t.port p).last
    ((t.port p).free k).1 ((t.port p).free k).2 ((t.port p).retd.getD k (0, 0)).1 ((t.port p).retd.getD k (0, 0)).2)

theorem auditTimer_up (hs : s.portState p = 3) (hz : s.rd F.LNK_CREDIT_CTL_AUDIT_US p ≠ 0)
    (ht : s.reach ((s.port p).auditAt + 1000 * s.rd F.LNK_CREDIT_CTL_AUDIT_US p) = t) :
    auditTimer p s = if (t.port p).due then
      (if (t.audited p).on F.LNK_CTL_HOLD_RETRAIN p then (t.audited p).wr F.LNK_STAT_RETRAIN_DUE 1 p
        else ((t.audited p).err (0x40 + p) 4 {}).enterDrain p 5) else t.audited p := by
  subst ht
  simp only [auditTimer, hs, hz, us_eq, berr_lnk, State.audited]
  split_ifs <;> simp_all

theorem timeExchangeTimer_up (hs : s.portState p = 3) (hz : s.rd F.LNK_TIME_CTL_PERIOD_US p ≠ 0) : timeExchangeTimer p s =
    (s.reach ((s.port p).timeAt + 1000 * s.rd F.LNK_TIME_CTL_PERIOD_US p)).later (.sendTime p) := by
  simp [timeExchangeTimer, hs, hz, us_eq]

end

end Sys2Proof.Machine

open Sys2Proof Sys2Proof.Machine

/-- Settles O47: each timer on a port that sends. -/
theorem creditsAuditsAndTimeAreSent : Obligations.CreditsAuditsAndTimeAreSent := by
  refine ⟨?update, ?refresh, ?audit, ?exchange⟩
  case update =>
    intro s p k j due hp hk hr hs hc u hu
    exact actLight_effect (creditUpdateTimer p k) (by simp [isPort_of_lt hp, hk]) hr (creditUpdateTimer_changed hs hc hu)
  case refresh =>
    intro s t p q c hp hr hs hq hc ht
    subst hq
    obtain rfl : c = fun k => (s.port p).retd.getD k (0, 0) := funext hc
    exact actLight_effect (creditRefreshTimer p) (isPort_of_lt hp) hr (creditRefreshTimer_sending hs ht)
  case audit =>
    rintro s t u p hp hr hs hz ht (rfl : t.audited p = u)
    have run {v : State} : auditTimer p s = v → exec (.auditTimer p) s = .next v.calm := actLight_effect (auditTimer p) (isPort_of_lt hp) hr
    have audited := auditTimer_up hs hz ht
    exact ⟨fun hd => run (by rw [audited, if_neg (by simp [hd])]), fun hd hh => run (by rw [audited, if_pos hd, if_pos hh]),
      fun hd hh => run (by rw [audited, if_pos hd, if_neg (by simp [hh])])⟩
  case exchange =>
    intro s p hp hr hs hz
    exact actLight_effect (timeExchangeTimer p) (isPort_of_lt hp) hr (timeExchangeTimer_up hs hz)

/-- Settles O48: each trigger in the state of the table that it belongs to. -/
theorem linkStatesChangeOnTheirTriggers : Obligations.LinkStatesChangeOnTheirTriggers := by
  refine ⟨?retrain, ?enable, fun s p hp hr => ⟨?ready, ?align, ?drain⟩⟩
  case retrain =>
    intro s n m p hm hp h hw
    have run {u : State} (hu : n.retrain p = u) : exec (.linkRetrain m p) s = .next u.calm :=
      actLight_access_effect (.linkRetrain m p) (linkRetrain m p) h (masterPort_ok hm hp) ((globalWrite_of_mayWrite hw).trans hu)
    exact ⟨fun hs hd => run (by rw [retrain_up hs, hd, if_neg Bool.false_ne_true]), fun hs hd => run (by rw [retrain_up hs, hd, if_pos rfl]),
      fun hs => run (retrain_notUp hs)⟩
  case enable =>
    intro s n t m p on hm hp h hw ht
    have run {u : State} (hu : n.enablePort p on = u) : exec (.linkEnable m p on) s = .next u.calm :=
      actLight_access_effect (.linkEnable m p on) (linkEnable m p on) h (masterPort_ok hm hp) ((globalWrite_of_mayWrite hw).trans hu)
    exact ⟨fun hs ho hc hf => run (enablePort_down ht hs ho hc hf), fun hs ho => run (enablePort_up ht hs ho),
      fun hs ho => run (enablePort_starting ht hs ho)⟩
  case ready =>
    intro hs hc hne hl
    have run {u : State} : lanesReady p s = u → exec (.lanesReady p) s = .next u.calm := actLight_effect (lanesReady p) (isPort_of_lt hp) hr
    have ready := lanesReady_chosen hs hc hne hl
    refine ⟨fun hn => run ?_, fun r _ _ hn => run ?_, fun r hn hb => run ?_⟩
    · rw [ready, applyRsv_none hn, hn, if_neg (by simp)]
    · rw [ready, hn, if_neg (by simp)]
    · rw [ready, applyRsv_waits hb, hn, if_pos (by simp)]
  case align => exact fun hs => actLight_effect (alignTimeout p) (isPort_of_lt hp) hr (alignTimeout_align hs)
  case drain =>
    intro hs t ht h4
    exact actLight_effect (drainTimeout p) (isPort_of_lt hp) hr (by rw [drainTimeout_drain hs, ht, endDrain_draining h4])
end

section
/-! PROOF. Packets in transit, and grants and waits at a junction (11 R357, R358, R363; 12 R389, R392, R393; 13 R425, R440, R443; log entry 8). -/

namespace Sys2Proof.Machine

/-! ## Packets in transit (R357, R358, R363, R443) -/

/-- A route header that a junction takes (R356). -/
structure RouteTaken (r : Route) : Prop where
  rver : r.rver = 1
  hops : r.hops ≤ 10
  hopPtr : r.hopPtr ≤ r.hops
  rsvZero : r.rsvZero = true
  milestones : r.ms.length = r.hops

theorem RouteTaken.good {r : Route} (h : RouteTaken r) : (decide (r.rver ≠ 1) || decide (10 < r.hops) || decide (r.hops < r.hopPtr) || !r.rsvZero ||
    decide (r.ms.length ≠ r.hops)) = false := by
  simp [h.rver, h.hops, h.hopPtr, h.rsvZero, h.milestones]

/-- The packet waits for the output of a milestone on a VC. -/
def State.awaitOutput (s : State) (port : Nat) (b : BufPkt) (h : Milestone) (vc : Nat) : State :=
  s.modPort port fun q => { q with buf := q.buf.replace b { b with out := some (h.port, vc, b.pkt.route.hopPtr), since := s.now } }

section
variable {s : State} {port vc : Nat} {b : BufPkt} {rest : List BufPkt} (hr : s.runs = true)
  (hb : takeFirst (fun b => b.vc == vc && b.out == none) (s.port port).buf = some (b, rest)) (hf : s.fenced (0x20 + port / 8) = false)
  (ht : RouteTaken b.pkt.route)
include hr hb hf ht

/-- The hops are consumed: the packet is for this device, for none, or misrouted. -/
theorem transitForward_last (hl : b.pkt.route.hopPtr = b.pkt.route.hops) : transitForward port vc s =
    if b.pkt.route.dstDid ≠ 0x3FFFF && b.pkt.route.dstDid ≠ s.did then (s.dropBuf port b).misrouted (port / 8) b port
    else if b.live.isSome || 65536 < s.ejectBytes (port / 8) + b.len then s
    else (s.dropBuf port b).ejectTo (port / 8) b.pkt port vc := by
  simp only [transitForward, hb]
  rw [if_neg (by simpa [Block.page, hf] using not_halted_of_runs hr), if_neg (Bool.eq_false_iff.mp ht.good), if_pos hl]

section
variable {h : Milestone} (hl : b.pkt.route.hopPtr < b.pkt.route.hops) (hm : b.pkt.route.ms[b.pkt.route.hopPtr]? = some h)
include hl hm

theorem transitForward_vcb (hv : vc = 8) : transitForward port vc s =
    if !s.configured h.port || s.portState h.port ≠ 3 then (s.dropBuf port b).vcbDiscard (port / 8) b port else s.awaitOutput port b h 8 := by
  have next : b.pkt.route.ms.getD b.pkt.route.hopPtr { port := 0, vc := 0, cls := 0 } = h := by simp [hm]
  simp only [transitForward, hb, next]
  rw [if_neg (by simpa [Block.page, hf] using not_halted_of_runs hr), if_neg (Bool.eq_false_iff.mp ht.good), if_neg hl.ne, if_pos hv, State.awaitOutput]

/-- A packet that fails its check, or whose output is dead, is dropped with a path fault; any other waits. -/
theorem transitForward_next (hv : vc < 8) : transitForward port vc s = ((s.transitCheck b).or (s.deadOutput h.port)).elim
    ((s.awaitOutput port b h h.vc).noteBacklog h.port) fun reason => (s.dropBuf port b).dropFault port b b.pkt.route.hopPtr reason 0 := by
  have next : b.pkt.route.ms.getD b.pkt.route.hopPtr { port := 0, vc := 0, cls := 0 } = h := by simp [hm]
  simp only [transitForward, hb, next]
  rw [if_neg (by simpa [Block.page, hf] using not_halted_of_runs hr), if_neg (Bool.eq_false_iff.mp ht.good), if_neg hl.ne, if_neg hv.ne]
  cases s.transitCheck b <;> cases s.deadOutput h.port <;> rfl

end
end

/-! ## Grants at an output (R389, R425, R440) -/

/-- Whose turn it is between the two sets, by the lengths of their heads, and the port as the turn leaves it. -/
def State.setTurn (s : State) (o : Nat) (ex ge : Option (Nat × Nat × BufPkt)) : PortSt × Option Bool :=
  drr 512 (256 * s.rd F.XBR_ARB_EXP_QUANTUM (o / 8)) (256 * s.rd F.XBR_ARB_GEN_QUANTUM (o / 8)) (ex.map fun e => e.2.2.len)
    (ge.map fun e => e.2.2.len) { s.port o with vcbRun := 0 }

/-- What a turn starts. -/
def State.startSet (s : State) (o : Nat) (ex ge : Option (Nat × Nat × BufPkt)) : PortSt × Option Bool → State
  | (q, some true) => ex.elim s fun e => (s.modPort o fun _ => { q with rrE := e.1 }).grant o e.2.1 e.2.2
  | (q, some false) => ge.elim s fun e => (s.modPort o fun _ => { q with rrG := e.1 }).grant o e.2.1 e.2.2
  | (_, none) => s.fillLink o

section
variable {s : State} {o : Nat}

theorem outputArbitrate_down (h3 : s.portState o ≠ 3) (h4 : s.portState o ≠ 4) : outputArbitrate o s = s := by
  simp [outputArbitrate, h3, h4]

section
variable (hr : s.runs = true)
include hr

/-- A packet that is being sent goes on, with a null flit where its bytes are missing. -/
theorem outputArbitrate_sending (hs : s.portState o = 3 ∨ s.portState o = 4) (hx : (s.port o).tx ≠ none) :
    outputArbitrate o s = if ((s.pumpOut o).port o).tx = (s.port o).tx then s.sendNull o [] else s.pumpOut o := by
  have hh := not_halted_of_runs hr
  obtain ⟨x, hx⟩ := Option.ne_none_iff_exists'.mp hx
  rcases hs with hs | hs <;> simp [outputArbitrate, hs, hx, hh]

/-- No packet starts in `DRAIN`. -/
theorem outputArbitrate_draining (hs : s.portState o = 4) (hx : (s.port o).tx = none) : outputArbitrate o s = s.fillLink o := by
  simp [outputArbitrate, hs, hx, not_halted_of_runs hr]

section
variable (hs : s.portState o = 3) (hempty : (s.port o).tx = none)
include hs hempty

theorem outputArbitrate_vcb {src : Nat} {b : BufPkt} (hb : earliest (s.grantable o 8) = some (src, b))
    (hw : s.nextVc o 4 (s.port o).rrE = none ∧ s.nextVc o 0 (s.port o).rrG = none ∨
      (s.port o).vcbRun < orWhenZero (s.rd F.XBR_ARB_VCB_BURST (o / 8)) 1) :
    outputArbitrate o s = (s.modPort o fun q => { q with vcbRun := q.vcbRun + 1 }).grant o src b := by
  have first : (((s.nextVc o 4 (s.port o).rrE).isSome || (s.nextVc o 0 (s.port o).rrG).isSome) &&
      decide (orWhenZero (s.rd F.XBR_ARB_VCB_BURST (o / 8)) 1 ≤ (s.port o).vcbRun)) = false := by
    rcases hw with ⟨he, hg⟩ | hw
    · rw [he, hg]; rfl
    · rw [decide_eq_false (Nat.not_le.mpr hw), Bool.and_false]
  simp only [outputArbitrate, hb, first, hs, hempty]
  rw [if_neg (by simpa using not_halted_of_runs hr)]
  rfl

/-- Where no VCB packet goes first, the set whose turn it is starts its packet. -/
theorem outputArbitrate_sets {ex ge : Option (Nat × Nat × BufPkt)} (he : s.nextVc o 4 (s.port o).rrE = ex)
    (hg : s.nextVc o 0 (s.port o).rrG = ge) (hb : earliest (s.grantable o 8) = none ∨
      ((ex.isSome || ge.isSome) = true ∧ orWhenZero (s.rd F.XBR_ARB_VCB_BURST (o / 8)) 1 ≤ (s.port o).vcbRun)) :
    outputArbitrate o s = s.startSet o ex ge (s.setTurn o ex ge) := by
  rw [outputArbitrate, if_neg (by simpa [hs] using not_halted_of_runs hr), if_neg (by simp [hempty]), if_neg (by simp [hs])]
  have turn : s.setTurn o ex ge = drr 512 (256 * s.rd F.XBR_ARB_EXP_QUANTUM (o / 8)) (256 * s.rd F.XBR_ARB_GEN_QUANTUM (o / 8))
    (ex.map fun e => e.2.2.len) (ge.map fun e => e.2.2.len) { s.port o with vcbRun := 0 } := rfl
  dsimp only at turn
  simp only [he, hg, ← turn]
  obtain ⟨q, r⟩ := s.setTurn o ex ge
  rcases hb with hb | ⟨hi, hq⟩
  · simp only [hb]
    rcases r with _ | _ | _ <;> cases ex <;> cases ge <;> rfl
  · simp only [hi, hq, decide_true, Bool.and_true]
    cases earliest (s.grantable o 8) <;> rcases r with _ | _ | _ <;> cases ex <;> cases ge <;> rfl

end
end
end

/-! ## Waits that end (R392, R393, R443) -/

/-- An error of a junction is one of its page. -/
theorem berr_xbr (s : State) (i : Nat) (e : ErrAt) (j : Nat) : s.berr .xbr i e j = s.err (0x20 + j) i e := rfl

section
variable {s t : State} {o j : Nat}

theorem State.reach_eject (s : State) (due : Nat) : (s.reach due).eject = s.eject := by
  unfold State.reach
  split <;> rfl

theorem vcbWaitExpire_waiting {src : Nat} {b : BufPkt} (hb : earliest ((s.waiting o).filter fun e => e.2.outVc == 8) = some (src, b)) :
    vcbWaitExpire o s = ((s.reach (b.since + 1000 * orWhenZero (s.rd F.XBR_CTL_VCB_WAIT_US (srcJunction src)) 1)).dropBuf src b).vcbDiscard
      (srcJunction src) b (if src < 128 then src else 0x80) := by
  simp only [vcbWaitExpire, hb, us_eq]

theorem ejectWaitExpire_waiting {r : RxPkt} {rest : List RxPkt} (hr : Tbl.getD s.eject j [] = r :: rest)
    (ht : { s.reach (r.at_ + 1000 * orWhenZero (s.rd F.XBR_CTL_EJECT_WAIT_US j) 1) with eject := Tbl.set s.eject j rest } = t) :
    ejectWaitExpire j s = (((t.bump F.XBR_DROP_EJECT_DISCARD 1 j).tally .xbr 10 1 j).err (0x20 + j) 6 (rxErr r.pkt r.port r.vc)).trace j 3
      r.pkt (r.port, r.vc) (0x80, 9) 0x12 r.pkt.route.cong r.at_ := by
  subst ht
  simp only [ejectWaitExpire, hr, us_eq, berr_xbr, State.reach_eject]

/-- What waits for an output when its grace ends is dropped, packet by packet. -/
theorem linkGraceExpire_over {due : Nat} (hg : (s.port o).graceEnd = some due) (hs : s.portState o ≠ 3) (ht : s.reach due = t) :
    linkGraceExpire o s = (t.waiting o).foldl (fun u e => if e.2.outVc = 8
      then (u.dropBuf e.1 e.2).vcbDiscard (srcJunction e.1) e.2 (if e.1 < 128 then e.1 else 0x80)
      else (u.dropBuf e.1 e.2).dropFault e.1 e.2 ((e.2.out.map fun x => x.2.2).getD 0) pfLinkDown
        (((u.dropBuf e.1 e.2).now - max (t.port o).leftAt e.2.since) / 1000)) t := by
  subst ht
  simp only [linkGraceExpire, hg, if_neg hs]

end
end Sys2Proof.Machine

open Sys2Proof Sys2Proof.Machine

/-- Settles O43: a packet by its hops and its checks, an output by its link's state and by whose turn it is, and the three waits. -/
theorem packetsAreForwardedGrantedOrDropped : Obligations.PacketsAreForwardedGrantedOrDropped := by
  refine ⟨?transit, ?vcb, ?sets, ?sending, ?down, ?vcbWait, ?ejectWait, ?grace⟩
  case transit =>
    rintro s port vc j b rest r hp hv rfl hr hb hf rfl hver h10 hle hz hm
    have ht : RouteTaken b.pkt.route := ⟨hver, h10, hle, hz, hm⟩
    have run {u : State} : transitForward port vc s = u → exec (.transitForward port vc) s = .next u.calm :=
      actLight_effect (transitForward port vc) (by simp [isPort_of_lt hp, hv]) hr
    refine ⟨fun hl h1 h2 => run ?_, fun hl hd hlive hroom => run ?_, fun h hl hh => ⟨fun x h8 hc => run ?_, fun x h8 hc hd => run ?_,
      fun b' h8 hc hd hb' => run ?_, fun h8 hx => run ?_, fun b' h8 hc hs hb' => run ?_⟩⟩
    · rw [transitForward_last hr hb hf ht hl, if_pos (by simp [h1, h2])]
    · rw [transitForward_last hr hb hf ht hl, if_neg (by simpa using fun hn => hd.resolve_left hn), if_neg (by simpa [hlive] using hroom)]
    · rw [transitForward_next hr hb hf ht hl hh h8, hc]
      rfl
    · rw [transitForward_next hr hb hf ht hl hh h8, hc, hd]
      rfl
    · rw [transitForward_next hr hb hf ht hl hh h8, hc, hd, hb']
      rfl
    · rw [transitForward_vcb hr hb hf ht hl hh h8, if_pos (by simpa using hx)]
    · rw [transitForward_vcb hr hb hf ht hl hh h8, if_neg (by simp [hc, hs]), hb']
      rfl
  case vcb =>
    intro s o src b ho hr hs hx hb hw
    exact actLight_effect (outputArbitrate o) (isPort_of_lt ho) hr (outputArbitrate_vcb hr hs hx hb hw)
  case sets =>
    intro s o v src b q ex ge ho hr hs hx he hg hb
    have sets := outputArbitrate_sets hr hs hx he hg hb
    refine ⟨fun (hd : s.setTurn o ex ge = _) hh => ?_, fun (hd : s.setTurn o ex ge = _) hh => ?_⟩ <;>
      exact actLight_effect (outputArbitrate o) (isPort_of_lt ho) hr (by rw [sets, hd, hh]; rfl)
  case sending =>
    rintro s t o ho hr hs rfl
    have run {u : State} : outputArbitrate o s = u → exec (.outputArbitrate o) s = .next u.calm :=
      actLight_effect (outputArbitrate o) (isPort_of_lt ho) hr
    exact ⟨fun hx hne => run (by rw [outputArbitrate_sending hr hs hx, if_neg hne]),
      fun hx heq => run (by rw [outputArbitrate_sending hr hs hx, if_pos heq]),
      fun hx h4 => run (outputArbitrate_draining hr h4 hx)⟩
  case down =>
    intro s o ho hr h3 h4
    exact actLight_effect (outputArbitrate o) (isPort_of_lt ho) hr (outputArbitrate_down h3 h4)
  case vcbWait =>
    intro s o src b ho hr hb
    exact actLight_effect (vcbWaitExpire o) (isPort_of_lt ho) hr (vcbWaitExpire_waiting hb)
  case ejectWait =>
    intro s t j r rest hj hr he ht
    exact actLight_effect (ejectWaitExpire j) (by simpa [isJunction] using hj) hr (ejectWaitExpire_waiting he ht)
  case grace =>
    intro s t o e ho hr hg hs ht
    have run {u : State} : linkGraceExpire o s = u → exec (.linkGraceExpire o) s = .next u.calm :=
      actLight_effect (linkGraceExpire o) (isPort_of_lt ho) hr
    refine ⟨fun hw => run ?_, fun src b i vc k hw hb hv => run ?_⟩
    · rw [linkGraceExpire_over hg hs ht, hw, List.foldl_nil]
    · have out : b.outVc = vc := by rw [BufPkt.outVc, hb]
      rw [linkGraceExpire_over hg hs ht, hw, List.foldl_cons, List.foldl_nil, if_neg (by simpa [out] using hv), hb]
      rfl
end

section
/-! PROOF. The road book's window, path faults and quarantines, the tollgate, and the common arbiter (11 R364, R366, R379, R381; 12 R396, R399,
R400, R413). -/

namespace Sys2Proof.Machine

/-! ## The window (R364, R366) -/

section
variable {s t n : State} {m : Nat}

theorem rtbWinWrite_good {a size v : Nat} (hg : goodAccess a size = true) (hw : n.mayWrite m = true) :
    rtbWinWrite m a size v n = rtbWinPut m a size v n := by
  rw [rtbWinWrite, if_pos hg, globalWrite_of_mayWrite hw]

theorem rtbWinPut_busy {a size v : Nat} (hb : s.on F.SHADOW_STAT_BUSY 0x19 = true) : rtbWinPut m a size v s = s.refuse m 0x19 a true := if_pos hb

theorem rtbWinPut_idle {a size v k : Nat} (hb : s.on F.SHADOW_STAT_BUSY 0x19 = false) (hk : s.winAddr (a % 65536) = some k) :
    rtbWinPut m a size v s = s.memWrite .rtb (k + a % 8) (leBytes size v) := by
  simp [rtbWinPut, Block.page, hb, hk]

theorem memWrite_open {u : MemUser} {a : Nat} {b : List Byte} (hb : b ≠ []) (ho : s.memBarred u a b.length true = false) :
    s.memWrite u a b = (s.setBytes a b).memBursts u a b.length true := by
  simp [State.memWrite, hb, ho]

/-! ## Path faults (R379) -/

theorem pathFaultReceive_taken {rx : RxPkt} {rest : List RxPkt} {h : FaultHdr} (hs : s.serves .rtb = true)
    (hx : takeRx (fun r => r.isKind 3) s.rx = some (rx, rest)) (hb : rx.pkt.body = .pathFault h) (hv : h.ver = 1) (hz : h.rsvZero = true) :
    pathFaultReceive s = ({ s with rx := rest } : State).pathFault h (some (rx.port, rx.pkt.route.hops)) := by
  rw [pathFaultReceive, if_pos hs, takeKind_oldest hx]
  simp [hb, hv, hz]

section
variable {h : FaultHdr} {port hops x : Nat} {ms : List Milestone} (hc : s.compose h.dDstDid 0 h.dCand = .route ms x)
include hc

/-- A path fault that fits its candidate, and came back on the way out. -/
theorem pathFault_fits (hg : h.dBgen = s.bgen) (hl : ms.length = h.dHops) (hk : h.hop < h.dHops)
    (hd : (ms[h.hop]?.map Milestone.port) = some h.deadPort) (hh : hops = h.hop) (ho : h.hop = 0 ∨ ms.head?.map Milestone.port = some port) :
    s.pathFault h (some (port, hops)) =
      ((s.bump F.RTB_FAULTS_ACCEPTED).tally .rtb 6).quarantine ((ms.map Milestone.port).take (h.hop + 1)) := by
  obtain ⟨dead, hm, hp⟩ := Option.map_eq_some_iff.mp hd
  simp only [State.pathFault, hc]
  refine if_pos ⟨hg, hl, hk, by simp [hm, hp], ?_⟩
  rcases ho with ho | ho <;> simp [hh, ho]

theorem pathFault_stale (hn : h.dBgen ≠ s.bgen ∨ ms.length ≠ h.dHops ∨ h.dHops ≤ h.hop ∨ hops ≠ h.hop) :
    s.pathFault h (some (port, hops)) = s.bump F.RTB_FAULTS_STALE := by
  simp only [State.pathFault, hc]
  refine if_neg ?_
  rintro ⟨hg, hl, hk, -, ho⟩
  rcases hn with hn | hn | hn | hn
  · exact hn hg
  · exact hn hl
  · omega
  · simp [hn] at ho

end

/-! ## Quarantines (R381) -/

/-- The least of a first time and the ends of quarantines is that time, or one of those ends. -/
theorem foldl_until_mem (l : List Quar) (k : Nat) : l.foldl (fun m (x : Quar) => min m x.until_) k = k ∨
    ∃ q ∈ l, q.until_ = l.foldl (fun m (x : Quar) => min m x.until_) k := by
  induction l generalizing k with
  | nil => exact .inl rfl
  | cons x l ih =>
    rw [List.foldl_cons]
    rcases ih (min k x.until_) with h | ⟨q, hq, h⟩
    · rcases min_choice k x.until_ with hm | hm
      · exact .inl (h.trans hm)
      · exact .inr ⟨x, List.mem_cons_self, (h.trans hm).symm⟩
    · exact .inr ⟨q, List.mem_cons_of_mem x hq, h⟩

/-- The first end is that of a quarantine. -/
theorem firstEnd_mem {q : Quar} {rest : List Quar} : ∃ x ∈ q :: rest, x.until_ = firstEnd (q :: rest) := by
  rcases foldl_until_mem rest q.until_ with h | ⟨x, hx, h⟩
  · exact ⟨q, List.mem_cons_self, h.symm⟩
  · exact ⟨x, List.mem_cons_of_mem q hx, h⟩

@[simp] theorem State.reach_quars (s : State) (due : Nat) : (s.reach due).quars = s.quars := by
  unfold State.reach
  split <;> rfl

theorem quarantineExpire_ends {q : Quar} {rest : List Quar} (hq : s.quars = q :: rest) (ht : s.reach (firstEnd s.quars) = t) :
    quarantineExpire s = ({ t with quars := t.quars.filter fun x => decide (t.now < x.until_) } : State).later .offer := by
  subst ht
  obtain ⟨x, hx, hu⟩ := firstEnd_mem (q := q) (rest := rest)
  rw [← hq] at hx hu
  have ended : ((s.reach (firstEnd s.quars)).quars.any fun x => decide (x.until_ ≤ (s.reach (firstEnd s.quars)).now)) = true := by
    rw [State.reach_quars, List.any_eq_true]
    exact ⟨x, hx, decide_eq_true (hu ▸ State.le_reach_now _)⟩
  rw [quarantineExpire, if_neg (by simp [hq]), State.quarOver, if_pos ended]

/-! ## The tollgate (R413) -/

/-- The slot's meter as its staged fields have it, its buckets full. -/
def State.stagedMeter (s : State) (v : Nat) : Meter :=
  { s.meter (s.rd F.TMG_TG_SEL_SLOT) with
    en := bitOf v 0, cir := s.rd F.TMG_TG_CIR_CIR, pir := s.rd F.TMG_TG_PIR_PIR, cbs := s.rd F.TMG_TG_CIR_CBS, pbs := s.rd F.TMG_TG_PIR_PBS,
    green := bitsOf v 2 2, yellow := bitsOf v 4 2, red := bitsOf v 6 2, tc := s.rd F.TMG_TG_CIR_CBS * 8000,
    tp := s.rd F.TMG_TG_PIR_PBS * 8000, stamp := s.now }

theorem tgSelWrite_written {slot : Nat} (hw : n.mayWrite m = true) (hs : slot < 4096) :
    tgSelWrite m slot n = (n.wr F.TMG_TG_SEL_SLOT slot).loadMeter slot := by
  simp [tgSelWrite, hw, Nat.mod_eq_of_lt hs]

section
variable {v : Nat} (hw : n.mayWrite m = true)
include hw

theorem tgActWrite_refused (hv : bitOf v 0 = true) (hx : n.rd F.TMG_TG_PIR_PIR < n.rd F.TMG_TG_CIR_CIR ∨ n.rd F.TMG_TG_CIR_CBS < 4176 ∨
    n.rd F.TMG_TG_PIR_PBS < 4176) : tgActWrite m v n = n.refuse m 0x18 (F.TMG_TG_ACT_EN.addr 0 0) true := by
  rw [tgActWrite, if_neg (by simp [hw])]
  exact if_pos (by simpa [hv, or_assoc] using hx)

theorem tgActWrite_applied (hx : bitOf v 0 = true → n.rd F.TMG_TG_CIR_CIR ≤ n.rd F.TMG_TG_PIR_PIR ∧ 4176 ≤ n.rd F.TMG_TG_CIR_CBS ∧
    4176 ≤ n.rd F.TMG_TG_PIR_PBS) : tgActWrite m v n =
      ({ n with meters := Tbl.set n.meters (n.rd F.TMG_TG_SEL_SLOT) (n.stagedMeter v) } : State).loadMeter (n.rd F.TMG_TG_SEL_SLOT) := by
  rw [tgActWrite, if_neg (by simp [hw])]
  exact if_neg (by simpa [and_assoc] using hx)

end
end

/-! ## The common arbiter (R396, R399, R400) -/

section
variable {s : State} {p inst r : Nat}

theorem arbitrate_noRequest : arbitrate p inst 0 s = s.setArb p inst { s.arb p inst with waits := [], holder := none } := by
  simp [arbitrate, bitOf, State.arbPick]

/-- The requester of a mask of one bit. -/
theorem requesters_pow {k : Nat} (hr : r < k) : ((List.range k).filter fun x => bitOf (2 ^ r) x) = [r] := by
  have only : (fun x => bitOf (2 ^ r) x) = fun x => decide (x = r) := by
    funext x
    simp [bitOf, Nat.testBit_two_pow, eq_comm]
  rw [only, List.filter_eq, List.count_eq_one_of_mem List.nodup_range (List.mem_range.mpr hr), List.replicate_one]

theorem oldestOf_one (a : ArbInst) : oldestOf a [r] = some r := rfl

theorem highestOf_one (prio : Nat → Nat) (a : ArbInst) : highestOf prio a [r] = some r := by
  simp [highestOf, oldestOf]

/-- What a grant to its only requester leaves. -/
def State.granted (s : State) (p inst r : Nat) : ArbInst :=
  { s.arb p inst with holder := some r, since := s.now, grants := (s.arb p inst).grants + 1, waits := [],
                      losses := Tbl.del (s.arb p inst).losses r, back := Tbl.del (s.arb p inst).back r }

@[simp] theorem State.bump_now (f : Fld) (k i j : Nat) : (s.bump f k i j).now = s.now := rfl
@[simp] theorem State.bump_todo (f : Fld) (k i j : Nat) : (s.bump f k i j).todo = s.todo := rfl
@[simp] theorem State.bump_caught (f : Fld) (k i j : Nat) : (s.bump f k i j).caught = s.caught := rfl

@[simp] theorem State.high_now (f : Fld) (v i j : Nat) : (s.high f v i j).now = s.now := by
  unfold State.high; split <;> rfl

@[simp] theorem State.high_caught (f : Fld) (v i j : Nat) : (s.high f v i j).caught = s.caught := by
  unfold State.high; split <;> rfl

/-- A requester alone wins, whether the grant is reserved or not, and backed off or not; besides what is granted, only counts change. -/
theorem arbPick_one (hg : s.grantableArb p inst = true) : ∃ t : State, (s.arbPick p inst [r]).1 = t.setArb p inst (s.granted p inst r) ∧
    t.todo = s.todo ∧ t.caught = s.caught := by
  simp only [State.arbPick]
  rw [if_neg (by simp [hg])]
  by_cases hb : Tbl.getD (s.arb p inst).back r 0 ≤ s.now <;> by_cases hn : ((s.arb p inst).grants + 1) % s.nth p = 0 <;>
    simp only [List.map_cons, List.map_nil, List.filter_cons, List.filter_nil, hb, hn, oldestOf_one, highestOf_one, decide_true, decide_false,
      if_true, if_false, ne_eq, not_true, not_false_eq_true, reduceCtorEq, List.foldl_nil, Bool.false_eq_true] <;>
    exact ⟨_, by simp [State.granted, Tbl.del]; rfl, by simp, by simp⟩

theorem arbitrate_one (hf : s.rd F.ARB_FENCED_FENCED p = 0) (hr : r < arbCount p inst) :
    arbitrate p inst (2 ^ r) s = (s.arbPick p inst [r]).1 := by
  have unfenced (k : Nat) : bitOf 0 k = false := Nat.zero_testBit k
  simp [arbitrate, requesters_pow hr, hf, unfenced]

theorem arb_setArb (a : ArbInst) : (s.setArb p inst a).arb p inst = a := by
  simp [State.arb, State.setArb, Tbl.getD, Tbl.get_set_same]

theorem arbWatchdog_tripped {t0 mst : Nat} {t u v : State} (hh : (s.arb p inst).holder = some r) (hw : s.on F.ARB_CTL_WDOG_EN p = true)
    (hx : p = Block.xlt.page → s.walkersRead r = false ∧ s.walkersBusy r = true)
    (h0 : t0 = (if p = Block.xlt.page then max (s.arb p inst).since (s.walkersSince r) else (s.arb p inst).since))
    (ht : ((((s.reach (t0 + arbNs p (max 1024 (s.rd F.ARB_CTL_WDOG_LIMIT p)))).setArb p inst { s.arb p inst with holder := none }).orBits
      F.ARB_FENCED_FENCED (2 ^ r) p).wr F.ARB_WDOG_LAST r p).bump F.ARB_WDOG_TRIPS 1 p = t)
    (hu : (t.dropUnit p inst r).when (p == Block.xlt.page) State.refuseWalks = u) (hm : u.arbMaster p inst r = (v, mst)) :
    arbWatchdog p inst s = v.err p 31 { addr := inst * 64 + r, master := some mst } := by
  have trips : ¬ ((!s.on F.ARB_CTL_WDOG_EN p || (p == Block.xlt.page && (s.walkersRead r || !s.walkersBusy r))) = true) := by
    rw [hw]
    by_cases hp : p = Block.xlt.page
    · simp [hp, hx hp]
    · simp [hp]
  simp only [arbWatchdog, hh]
  rw [if_neg trips, ← h0, ht, hu, hm]

theorem arbClear_written {n : State} {m mask : Nat} (hw : n.mayWrite m = true) : arbClear m p mask n =
    n.wr F.ARB_FENCED_FENCED (n.rd F.ARB_FENCED_FENCED p - (n.rd F.ARB_FENCED_FENCED p &&& mask)) p := globalWrite_of_mayWrite hw

end

end Sys2Proof.Machine

open Sys2Proof Sys2Proof.Machine

/-- Settles O44: the window by whether a commit is in progress, a path fault by whether it fits, and the tollgate by the staged sizes. -/
theorem roadBookQuarantinesAndTollgateAreDriven : Obligations.RoadBookQuarantinesAndTollgateAreDriven := by
  refine ⟨?window, fun s u a b hb ho => memWrite_open hb ho, ?fault, ?fits, ?ends, ?clear, ?select, ?apply⟩
  case window =>
    intro s n m a size v k hm ha h hg hw
    have run {u : State} (hu : rtbWinPut m a size v n = u) : exec (.rtbWinWrite m a size v) s = .next u.calm :=
      actLight_access_effect (.rtbWinWrite m a size v) (rtbWinWrite m a size v) h (by simp [hm, ha]) ((rtbWinWrite_good hg hw).trans hu)
    exact ⟨fun hb => run (rtbWinPut_busy hb), fun hb hk => run (rtbWinPut_idle hb hk)⟩
  case fault =>
    intro s rx rest h hr hs hx hb hv hz
    exact act_effect pathFaultReceive rfl hr (pathFaultReceive_taken hs hx hb hv hz)
  case fits =>
    intro s h port hops ms x hc
    exact ⟨fun ⟨hg, hl, hk, hd, hh, ho⟩ => pathFault_fits hc hg hl hk hd hh ho, pathFault_stale hc⟩
  case ends =>
    intro s t q rest hr hq ht
    exact act_effect quarantineExpire rfl hr (quarantineExpire_ends hq ht)
  case clear =>
    intro s n m hm h hw
    exact act_access_effect (.quarClr m) (quarClr m) h hm (globalWrite_of_mayWrite hw)
  case select =>
    intro s n m slot hm hs h hw
    exact actLight_access_effect (.tgSelWrite m slot) (tgSelWrite m slot) h (by simp [hm, hs]) (tgSelWrite_written hw hs)
  case apply =>
    rintro s n m v cir cbs pir pbs slot hm h hw rfl rfl rfl rfl rfl
    have run {u : State} : tgActWrite m v n = u → exec (.tgActWrite m v) s = .next u.calm :=
      actLight_access_effect (.tgActWrite m v) (tgActWrite m v) h hm
    refine ⟨fun hv hx => run (tgActWrite_refused hw hv hx), ?_⟩
    rintro hx k (rfl : k = n.stagedMeter v)
    exact run (tgActWrite_applied hw hx)

/-- Settles O24: an arbitration without a requester and with one, the watchdog, and a write of `ARB_FENCED`. -/
theorem arbiterGrantsWatchesAndFences : Obligations.ArbiterGrantsWatchesAndFences := by
  refine ⟨?none, ?one, ?watchdog, ?clear⟩
  case none =>
    intro s p inst ha hr hs
    exact actLight_rest (arbitrate p inst 0) ha hr arbitrate_noRequest hs
  case one =>
    intro s p inst r ha hr ⟨htodo, hcaught⟩ hf hg hlt
    obtain ⟨t, ht, todo, caught⟩ := arbPick_one (r := r) hg
    refine ⟨_, actLight_rest (arbitrate p inst (2 ^ r)) ha hr ((arbitrate_one hf hlt).trans ht) ⟨todo.trans htodo, caught.trans hcaught⟩, ?_⟩
    rw [arb_setArb]
    exact ⟨rfl, rfl, rfl, rfl⟩
  case watchdog =>
    intro s p inst r t0 ha hr hh hw hx h0 t ht u v mst hu hm
    exact actLight_effect (arbWatchdog p inst) ha hr (arbWatchdog_tripped hh hw hx h0 ht hu hm)
  case clear =>
    intro s n m p mask hm ha hs h hw
    exact actLight_access_rest (.arbFencedClear m p mask) (arbClear m p mask) h (by simp [hm, ha]) (arbClear_written hw)
      (show n.atRest from access_atRest h hs)
end

section
/-! PROOF. Flits received, acknowledged and replayed (13 R421, R424, R427, R429, R430, R431, R439). -/

namespace Sys2Proof.Machine

section
variable {s t : State} {p : Nat}

/-! ## Codewords and `CRC` (R421, R429) -/

section
variable {errs : List Nat} (hn : (s.port p).rxHalf = none)
include hn

/-- In mode `L` a flit is a codeword of its own. -/
theorem takeCodeword_whole (hf : s.rd F.LNK_STAT_FEC_ACTIVE p = 0) : s.takeCodeword p errs = (s.onCodeword p errs, s.decodes p errs) := by
  simp [State.takeCodeword, hn, hf, State.when]

/-- In mode `S` the flit that comes next shares it. -/
theorem takeCodeword_shared (hf : s.rd F.LNK_STAT_FEC_ACTIVE p ≠ 0) : s.takeCodeword p errs =
    ((s.modPort p fun q => { q with rxHalf := some (s.decodes p errs) }).onCodeword p errs, s.decodes p errs) := by
  simp [State.takeCodeword, hn, hf, State.when]

end

theorem onCodeword_uncorrectable {errs : List Nat} (hd : s.decodes p errs = false) :
    s.onCodeword p errs = s.bump F.LNK_FEC_CW_UNCORRECTABLE 1 p := by
  simp [State.onCodeword, hd]

theorem decodes_modPort (errs : List Nat) (f : PortSt → PortSt) : (s.modPort p f).decodes p errs = s.decodes p errs := rfl

theorem flitReceive_taken {a : Arrival} {ok : Bool} (hr : s.runs = true) (h2 : 2 ≤ s.portState p) (h4 : s.portState p ≤ 4)
    (ht : s.takeCodeword p a.errs = (t, ok)) : flitReceive p a s = if ok && Flit.crcOk a.flit then t.goodFlit p a
      else ((t.bump F.LNK_CNT_FLITS_BAD 1 p).err (0x40 + p) 1 (flitErr p)).nak p := by
  have hh := not_halted_of_runs hr
  rw [flitReceive, if_neg (by simp [hh, Nat.not_lt.mpr h2, h4]), ht]
  rfl

/-! ## What a good flit does (R424, R427, R430, R431, R439) -/

section
variable {a : Arrival} {f : Flit} {d : Nat} (hf : a.flit = f) (ht : (f.ctl.foldl (fun s b => s.onBlock p a.answers b) s).onAck p f = t)
include hf ht

theorem goodFlit_unsequenced (hs : f.seqd = false) : s.goodFlit p a = t := by
  subst hf
  simp only [State.goodFlit, ht]
  exact if_pos (by simp [hs])

theorem goodFlit_sequenced (hd : d = wrapSub 12 f.seq (wrapAdd 12 (t.port p).last 1)) (hs : f.seqd = true) (h2 : 2 ≤ t.portState p)
    (h4 : t.portState p ≤ 4) : s.goodFlit p a =
      if d = 0 then (t.modPort p fun q => { q with last := f.seq, gotSeq := true, nakArmed := true }).onStream p f 0 f.data
      else if 2048 ≤ d then t else t.nak p := by
  subst hf hd
  simp only [State.goodFlit, ht]
  exact if_neg (by simp [hs, Nat.not_lt.mpr h2, h4])

end

theorem onBlock_malformed {n : Nat} {b : List Byte} (hb : ctlOf b = none) : s.onBlock p n b = s.err (0x40 + p) 6 (flitErr p) := by
  simp only [State.onBlock, hb, berr_lnk]

theorem onBlock_read {n : Nat} {b : List Byte} {c : Ctl} (hb : ctlOf b = some c) : s.onBlock p n b = s.onCtl p n c := by
  simp only [State.onBlock, hb]

/-! ## NAKs and replays (R429, R430) -/

theorem nak_sent (h : (s.port p).nakArmed = true ∨ (s.port p).nakAt + s.replayNs p ≤ s.now) :
    s.nak p = (s.modPort p fun q => { q with nakArmed := false, nakAt := s.now }).sendNak p := if_pos (by simpa using h)

theorem replay_again (hl : (s.port p).fails < orWhenZero (s.rd F.LNK_CTL_REPLAY_MAX p) 1) (ht : (((s.modPort p fun q => { q with
    fails := q.fails + 1, replayFrom := q.una, replayAt := s.now, progress := s.now }).bump F.LNK_CNT_REPLAYS 1 p).tally .lnk 2
    (s.port p).replayBuf.length p) = t) : s.replay p = (s.port p).replayBuf.foldl (fun s f => s.sendFlit p f) t := by
  subst ht
  exact if_neg (by omega)

theorem replayTimer_outstanding (hs : s.portState p = 3 ∨ s.portState p = 4) (hu : (s.port p).una ≠ (s.port p).next) :
    replayTimer p s = (s.reach ((s.port p).progress + s.replayNs p)).replay p := if_pos (by simpa [hu] using hs)

end

end Sys2Proof.Machine

open Sys2Proof Sys2Proof.Machine

/-- Settles O45: a flit by its codeword and its `CRC`, a good one by its sequence number. -/
theorem flitsAreReceivedInOrderAndReplayed : Obligations.FlitsAreReceivedInOrderAndReplayed := by
  refine ⟨?receive, ?good, ?codeword, fun s p n b => ⟨onBlock_malformed, fun c => onBlock_read⟩, fun s p => ⟨nak_sent, fun hl t => replay_again hl⟩,
    ?timer⟩
  case receive =>
    intro s t p a ok hp hr h2 h4 ht
    have run {u : State} : flitReceive p a s = u → exec (.flitReceive p a) s = .next u.calm := actLight_effect (flitReceive p a) (isPort_of_lt hp) hr
    have taken := flitReceive_taken hr h2 h4 ht
    exact ⟨fun hbad => run (by rw [taken, if_neg (by rcases hbad with h | h <;> simp [h])]),
      fun hok hcrc => run (by rw [taken, if_pos (by simp [hok, hcrc])])⟩
  case good =>
    intro s t p d a f hf ht hd
    refine ⟨goodFlit_unsequenced hf ht, fun hs h2 h4 => ?_⟩
    have sequenced := goodFlit_sequenced hf ht hd hs h2 h4
    exact ⟨fun h0 => by rw [sequenced, if_pos h0], fun hbig => by rw [sequenced, if_neg (by omega), if_pos hbig],
      fun h0 hsmall => by rw [sequenced, if_neg h0, if_neg (by omega)]⟩
  case codeword =>
    intro s p errs hn
    have whole (hf : s.rd F.LNK_STAT_FEC_ACTIVE p = 0) : s.decodes p errs = decide (errs.sum ≤ 7) := by rw [State.decodes, if_pos hf]
    have shared (hf : s.rd F.LNK_STAT_FEC_ACTIVE p ≠ 0) : s.decodes p errs = decide (errs.sum ≤ 15) := by rw [State.decodes, if_neg hf]
    refine ⟨fun hf hsum => ?_, fun hf hsum => ?_, fun hf hsum => ?_, fun hf hsum => ?_⟩
    · have bad : s.decodes p errs = false := (whole hf).trans (decide_eq_false (by omega))
      rw [takeCodeword_whole hn hf, onCodeword_uncorrectable bad, bad]
    · rw [takeCodeword_whole hn hf, whole hf, decide_eq_true hsum]
    · rw [takeCodeword_shared hn hf, shared hf, decide_eq_true hsum]
    · have bad : s.decodes p errs = false := (shared hf).trans (decide_eq_false (by omega))
      rw [takeCodeword_shared hn hf, bad, onCodeword_uncorrectable ((decodes_modPort ..).trans bad)]
  case timer =>
    intro s p hp hr hs hu
    exact actLight_effect (replayTimer p) (isPort_of_lt hp) hr (replayTimer_outstanding hs hu)
end

section
/-! PROOF. A lane's transitions, and the alignment markers (14 R452, R454 to R458, R465). -/

namespace Sys2Proof.Machine

theorem isLane_of_lt {g l : Nat} (hg : g < 32) (hl : l < 4) : isLane g l = true := by
  simp [isLane, hg, hl]

/-- An error of a lane group is one of its page. -/
theorem berr_lan (s : State) (i : Nat) (e : ErrAt) (g : Nat) : s.berr .lan i e g = s.err (0xC0 + g) i e := rfl

/-! ## Alignment markers (R452, R457) -/

/-- The byte of a marker that says which lane of the port it is, and what its sender is ready for. -/
def markerInfo (plane : Nat) (ready training : Bool) : Nat := plane + 4 * b2n ready + 8 * b2n training

theorem markerInfo_fields {plane : Nat} (ready training : Bool) (hp : plane < 4) : markerInfo plane ready training < 16 ∧
    markerInfo plane ready training % 4 = plane ∧ bitOf (markerInfo plane ready training) 2 = ready ∧
    bitOf (markerInfo plane ready training) 3 = training := by
  cases ready <;> cases training <;> simp [markerInfo, bitOf, b2n, Nat.testBit_eq_decide_div_mod_eq] <;> omega

/-- A marker is read back as it is sent. -/
theorem markerOf_markerBytes {plane port : Nat} (ready training : Bool) (hp : plane < 4) (hq : port < 128) :
    markerOf (markerBytes plane ready training port) = some { plane := plane, ready := ready, training := training, port := port } := by
  obtain ⟨h16, hplane, hready, htraining⟩ := markerInfo_fields ready training hp
  have check : markerInfo plane ready training ^^^ port < 256 := Nat.xor_lt_two_pow (n := 8) (by omega) (by omega)
  have info : wireField (markerBytes plane ready training port) 6 1 = markerInfo plane ready training :=
    (beNat_beBytes 1 (markerInfo plane ready training)).trans (Nat.mod_eq_of_lt (by omega))
  have peer : wireField (markerBytes plane ready training port) 7 1 = port := (beNat_beBytes 1 _).trans (Nat.mod_eq_of_lt (by omega))
  have sum : wireField (markerBytes plane ready training port) 14 1 = markerInfo plane ready training ^^^ port :=
    (beNat_beBytes 1 _).trans (Nat.mod_eq_of_lt check)
  rw [markerOf, info, peer, sum, if_pos ⟨rfl, rfl, rfl, rfl⟩, hplane, hready, htraining, Nat.mod_eq_of_lt hq]

/-! ## A lane's transitions (R454 to R458) -/

section
variable {s t : State} {g l p : Nat}

theorem signalDetect_listening (hs : s.laneState g l = 2) : signalDetect g l s = (s.wr F.LAN_LANE_STATl_SIGNAL 1 g l).setLane g l 3 := if_pos hs

theorem adaptConverged_adapting (inv : Bool) (hs : s.laneState g l = 3) :
    adaptConverged g l inv s = (s.wr F.LAN_LANE_STATl_POL_INV (b2n inv) g l).setLane g l 4 := if_pos hs

theorem signalLost_receiving (h3 : 3 ≤ s.laneState g l) (h5 : s.laneState g l ≤ 5)
    (ht : (s.wr F.LAN_LANE_STATl_SIGNAL 0 g l).setLane g l 2 = t) : signalLost g l s =
      (t.modLane (4 * g + l) fun k => { k with quietAt := t.now - 1000 * orWhenZero (t.rd F.LAN_TMO_SQUELCH_US g) 1 }).loseLane g l true := by
  subst ht
  simp [signalLost, h3, h5, us_eq]

theorem laneLoss_receiving (h3 : 3 ≤ s.laneState g l) (h5 : s.laneState g l ≤ 5) : laneLoss g l s =
    ((s.setLane g l 3).modLane (4 * g + l) fun k => { k with passed := false, peerPort := none }).loseLane g l true := by
  simp [laneLoss, h3, h5]

theorem noSignalTimeout_silent (hs : s.laneState g l = 2) (hn : s.on F.LAN_LANE_STATl_SIGNAL g l = false) : noSignalTimeout g l s =
    (s.reach ((s.lane (4 * g + l)).quietAt + 1000 * orWhenZero (s.rd F.LAN_TMO_SQUELCH_US g) 1)).decideFor g l := by
  simp [noSignalTimeout, hs, hn, us_eq]

theorem lockTimeout_undecided (hs : s.portState p = 1) (hc : (s.port p).chosen = false) : lockTimeout p s =
    (s.reach ((s.port p).since + 1000 * orWhenZero (s.rd F.LAN_TMO_LOCK_TMO_US (p / 4)) 1)).decideSet p true := by
  simp [lockTimeout, hs, hc, us_eq]

theorem trainingFramesRx_align (hs : s.portState p = 2) : trainingFramesRx p s = (s.wr F.LNK_STAT_LAST_CAUSE 2 p).enterTrain p false := by
  simp [trainingFramesRx, State.loseUp, hs, State.when]

theorem trainingFramesRx_up (hs : s.portState p = 3) (ht : s.err (0x40 + p) 7 {} = t) (h3 : t.portState p = 3) :
    trainingFramesRx p s = (t.leftUp p 2).enterTrain p false := by
  simp [trainingFramesRx, State.loseUp, hs, berr_lnk, ht, h3]

/-- The lane as a good pair of markers leaves it. -/
def State.markersPassed (t : State) (g l skew peer : Nat) : State :=
  ((t.wr F.LAN_LANE_STATl_SKEW_PS (min skew 65535) g l).modLane (4 * g + l) fun k => { k with passed := true, peerPort := some peer }).showTx g l

section
variable {i skew : Nat} {a b : List Byte} {m n : Marker}

/-- Where no two markers came at their distance, nothing is locked. -/
theorem markerLock_none {spacing : Nat} (h : markerOf a = none ∨ markerOf b = none ∨ spacing ≠ 4096) : markerLock g l a b spacing skew s = s := by
  by_cases hs : s.laneState g l ≠ 4
  · rw [markerLock, if_pos hs]
  rw [markerLock, if_neg hs]
  rcases h with h | h | h
  · rw [h]
  · rw [h]
    cases markerOf a <;> rfl
  · cases markerOf a <;> cases markerOf b <;> cases s.portOfLane g l <;> simp [h]

theorem markerLock_pair (hs : s.laneState g l = 4) (ha : markerOf a = some m) (hb : markerOf b = some n) (hp : s.portOfLane g l = some (p, i))
    (ht : s.wr F.LAN_LANE_STATl_PEER_RX_READY (b2n n.ready) g l = t) : markerLock g l a b 4096 skew s =
      if m.plane ≠ i || n.plane ≠ i || m.port ≠ n.port || (t.peerPorts p l).any (fun x => x != n.port) then t.laneErr g l 5
      else if 60000 < skew then (t.wr F.LAN_LANE_STATl_SKEW_PS (min skew 65535) g l).laneErr g l 2
      else if n.ready then (((t.markersPassed g l skew n.port).wr F.LAN_LANE_STATl_LOCK_TIME_US
        (min (((t.markersPassed g l skew n.port).now - ((t.markersPassed g l skew n.port).lane (4 * g + l)).detectAt) / 1000) 65535) g l).setLane g l
        5).decideFor g l
      else t.markersPassed g l skew n.port := by
  subst ht
  simp only [markerLock, hs, ha, hb, hp, State.markersPassed]
  rfl

end

/-! ## A port's lanes by its PLL (R465) -/

theorem pllUnlock_eq : pllUnlock g s = (List.range 4).foldl (fun s k => trainingFramesRx (4 * g + k) s) ((List.range 4).foldl (fun s l =>
    if 3 ≤ s.laneState g l ∧ s.laneState g l ≤ 5 then s.setLane g l 3 else s) ((s.wr F.LAN_STAT_PLL_LOCK 0 g).when
      ((List.range 4).any fun k => (s.wr F.LAN_STAT_PLL_LOCK 0 g).on F.LNK_CTL_EN (4 * g + k)) fun s => s.err (0xC0 + g) 4 { addr := 0 })) := by
  simp only [pllUnlock, berr_lan, Bool.and_eq_true, decide_eq_true_eq]

end

end Sys2Proof.Machine

open Sys2Proof Sys2Proof.Machine

/-- Settles O49: each trigger in the state of the lane, or of the port, that it belongs to; two markers by what they carry. -/
theorem lanesMoveOnTheirTriggers : Obligations.LanesMoveOnTheirTriggers := by
  refine ⟨?lane, ?markers, ?noMarkers, fun plane port ready training => markerOf_markerBytes ready training, ?port, ?pll⟩
  case lane =>
    intro s g l hg hl hr
    have ok := isLane_of_lt hg hl
    exact ⟨fun hs => actLight_effect (signalDetect g l) ok hr (signalDetect_listening hs),
      fun inv hs => actLight_effect (adaptConverged g l inv) ok hr (adaptConverged_adapting inv hs),
      fun h3 h5 t ht => actLight_effect (signalLost g l) ok hr (signalLost_receiving h3 h5 ht),
      fun h3 h5 => actLight_effect (laneLoss g l) ok hr (laneLoss_receiving h3 h5),
      fun hs hn => actLight_effect (noSignalTimeout g l) ok hr (noSignalTimeout_silent hs hn)⟩
  case markers =>
    intro s t g l p i skew a b m n hg hl hr hs ha hb hp ht
    have run {u : State} : markerLock g l a b 4096 skew s = u → exec (.markerLock g l a b 4096 skew) s = .next u.calm :=
      actLight_effect (markerLock g l a b 4096 skew) (isLane_of_lt hg hl) hr
    have pair := markerLock_pair (skew := skew) hs ha hb hp ht
    have fit (hm : m.plane = i) (hn : n.plane = i) (he : m.port = n.port) (hx : ∀ x ∈ t.peerPorts p l, x = n.port) :
        ¬ (m.plane ≠ i || n.plane ≠ i || m.port ≠ n.port || (t.peerPorts p l).any (fun x => x != n.port)) = true := by
      simpa [hm, hn, he] using hx
    refine ⟨fun hbad => run ?_, fun hm hn he hx hk => run ?_, ?_⟩
    · rw [pair, if_pos (by simpa [or_assoc] using hbad)]
    · rw [pair, if_neg (fit hm hn he hx), if_pos hk]
    · rintro hm hn he hx hk u (rfl : t.markersPassed g l skew n.port = u)
      refine ⟨fun hready => run ?_, fun hready => run ?_⟩
      · rw [pair, if_neg (fit hm hn he hx), if_neg (by omega), if_neg (by simp [hready])]
      · rw [pair, if_neg (fit hm hn he hx), if_neg (by omega), if_pos hready]
  case noMarkers =>
    intro s g l spacing skew a b hg hl hr h
    exact actLight_effect (markerLock g l a b spacing skew) (isLane_of_lt hg hl) hr (markerLock_none h)
  case port =>
    intro s p hp hr
    have ok := isPort_of_lt hp
    exact ⟨fun hs hc => actLight_effect (lockTimeout p) ok hr (lockTimeout_undecided hs hc),
      fun hs => actLight_effect (trainingFramesRx p) ok hr (trainingFramesRx_align hs),
      fun hs t ht h3 => actLight_effect (trainingFramesRx p) ok hr (trainingFramesRx_up hs ht h3)⟩
  case pll =>
    intro s g hg hr
    exact ⟨actLight_effect (lanePllLock g) (decide_eq_true hg) hr rfl, actLight_effect (pllUnlock g) (decide_eq_true hg) hr pllUnlock_eq⟩
end

section
/-! PROOF. Lanes tested, injected, measured and fenced (14 R459 to R463, R465; log entry 23). -/

namespace Sys2Proof.Machine

section
variable {s t n : State} {m g l v : Nat}

theorem masterLane_ok (hm : isMaster m = true) (hg : g < 32) (hl : l < 4) : (isMaster m && isLane g l) = true := by
  rw [hm, isLane_of_lt hg hl, Bool.true_and]

/-! ## Tests (R459, R460) -/

/-- The modes of a lane's test written. -/
def State.testModes (s : State) (g l v : Nat) : State :=
  ((s.wr F.LAN_TESTl_GEN (bitsOf v 0 3) g l).wr F.LAN_TESTl_CHK (bitsOf v 4 3) g l).wr F.LAN_TESTl_LOOP (bitsOf v 8 2) g l

theorem testWrite_ends (h0 : bitsOf v 0 3 = 0) (h4 : bitsOf v 4 3 = 0) (h8 : bitsOf v 8 2 = 0) (hs : s.laneState g l = 6)
    (hf : s.laneFenced g l = false) :
    s.testWrite g l v = some ((((s.testModes g l v).wr F.LAN_PRBS_CNTl_SYNC 0 g l).unlock g l).setLane g l 0) := by
  simp [State.testWrite, State.testModes, h0, h4, h8, hs, hf]

section
variable (hv : ¬(bitsOf v 0 3 = 0 ∧ bitsOf v 4 3 = 0 ∧ bitsOf v 8 2 = 0))
include hv

theorem testWrite_refused (hs : 1 < s.laneState g l) : s.testWrite g l v = none := by
  rw [State.testWrite, if_neg (by simpa [and_assoc] using hv), if_pos (by simp [hs])]

theorem testWrite_begins (hs : s.laneState g l ≤ 1) (h0 : bitsOf v 0 3 ≠ 7) (h4 : bitsOf v 4 3 ≠ 7) :
    s.testWrite g l v = some (((s.testModes g l v).unlock g l).setLane g l 6) := by
  rw [State.testWrite, if_neg (by simpa [and_assoc] using hv), if_neg (by simp [Nat.not_lt.mpr hs, h0, h4])]
  rfl

end

theorem lanTestWrite_written (hw : n.mayWrite m = true) :
    lanTestWrite m g l v n = (n.testWrite g l v).getD (n.refuse m (0xC0 + g) (F.LAN_TESTl_GEN.addr g l) true) := by
  rw [lanTestWrite, globalWrite_of_mayWrite hw]
  rfl

/-! ## Injected symbols (R461) -/

/-- The symbols that an injection inverts, by its mode. -/
def State.injectLen (s : State) (g l : Nat) : Nat :=
  if s.rd F.LAN_INJECTl_MODE g l = 1 then 1 else if s.rd F.LAN_INJECTl_MODE g l = 2 then orWhenZero (s.rd F.LAN_INJECTl_LEN g l) 1 else 0

theorem injectGo_sending {p i : Nat} (hp : s.portOfLane g l = some (p, i)) (h2 : 2 ≤ s.portState p) (h4 : s.portState p ≤ 4)
    (hc : (s.port p).set.contains i = true) :
    injectGo g l s = (s.modLane (4 * g + l) fun x => { x with inject := s.injectLen g l }).injectOut p (4 * g + l) 16 := by
  have hi : i ∈ (s.port p).set := by simpa using hc
  by_cases k1 : s.rd F.LAN_INJECTl_MODE g l = 1
  · simp [injectGo, State.injectLen, hp, h2, h4, hi, k1]
  · by_cases k2 : s.rd F.LAN_INJECTl_MODE g l = 2 <;> simp [injectGo, State.injectLen, hp, h2, h4, hi, k1, k2]

theorem injectGo_silent (h : s.portOfLane g l = none ∨ ∃ p i, s.portOfLane g l = some (p, i) ∧ s.portState p < 2) :
    injectGo g l s = s.bump F.LAN_INJECTl_INJECTED (s.injectLen g l) g l := by
  obtain hn | ⟨p, i, hp, h2⟩ := h
  · simp only [injectGo, hn, State.injectLen]
    congr 1
    split <;> simp_all
  · simp only [injectGo, hp, decide_eq_false (Nat.not_le.mpr h2), Bool.false_and, Bool.false_eq_true, if_false, State.injectLen]
    congr 1
    split <;> simp_all

/-! ## The margin scan and the eye (R462) -/

theorem measures_of (h : s.laneState g l = 5 ∨ s.laneState g l = 6) : s.measures g l = true := by
  simpa [State.measures] using h

theorem not_measures (h5 : s.laneState g l ≠ 5) (h6 : s.laneState g l ≠ 6) : s.measures g l = false := by
  simp [State.measures, h5, h6]

theorem marginScanDone_measured {errors : Nat} (hb : s.on F.LAN_MARGINl_BUSY g l = true) (hs : s.laneState g l = 5 ∨ s.laneState g l = 6)
    (he : errors < 2 ^ 32) : marginScanDone g l errors s = (s.wr F.LAN_MARGINl_BUSY 0 g l).wr F.LAN_MARGINl_ERRORS errors g l := by
  rw [marginScanDone, if_pos hb, if_pos (measures_of hs), Nat.min_eq_left (by omega)]

theorem eyeRefresh_pam {upper mid lower width snr : Nat} (hs : s.laneState g l = 5 ∨ s.laneState g l = 6) (hr : s.rd F.LAN_CFG_RATE g ≠ 3) :
    eyeRefresh g l upper mid lower width snr s = (((((s.wr F.LAN_EYEl_H_UPPER upper g l).wr F.LAN_EYEl_H_MID mid g l).wr
      F.LAN_EYEl_H_LOWER lower g l).wr F.LAN_EYEl_WIDTH width g l).wr F.LAN_EYEl_SNR snr g l).wr F.LAN_EYEl_VALID 1 g l := by
  simp only [eyeRefresh, measures_of hs, beq_false_of_ne hr, if_true, Bool.false_eq_true, if_false]

theorem eyeRefresh_silent {upper mid lower width snr : Nat} (h5 : s.laneState g l ≠ 5) (h6 : s.laneState g l ≠ 6) :
    eyeRefresh g l upper mid lower width snr s = s.wr F.LAN_EYEl_VALID 0 g l := by
  simp only [eyeRefresh, not_measures h5 h6, Bool.false_eq_true, if_false]

/-! ## The checker (R460, log entry 23) -/

theorem checkClean_locking {k : Nat} (hs : s.on F.LAN_PRBS_CNTl_SYNC g l = false) (hk : (s.lane (4 * g + l)).clean + k < 64) :
    s.checkClean g l k = s.modLane (4 * g + l) fun x => { x with clean := x.clean + k } := by
  simp [State.checkClean, hs, Nat.not_le.mpr hk]

theorem checkClean_locked {k : Nat} (hs : s.on F.LAN_PRBS_CNTl_SYNC g l = true) :
    s.checkClean g l k = (s.modLane (4 * g + l) fun x => { x with
      clean := 0, checked := x.checked + k, bits := ((s.lane (4 * g + l)).bits + 10 * k) % 10 ^ 9 }).bump F.LAN_PRBS_CNTl_GBITS
        (((s.lane (4 * g + l)).bits + 10 * k) / 10 ^ 9) g l := by
  simp only [State.checkClean, hs, Bool.not_true, Bool.false_and, Bool.false_eq_true, if_false]

/-! ## A lane's fence (R463) -/

theorem writeUnit_sets {p u : Nat} (h : bitOf (s.units p) u = false) :
    s.writeUnit p u true = (s.setUnit p u true).later (.unitFence p u true) := by
  simp only [State.writeUnit, h, Bool.not_false, Bool.and_self, if_true]

theorem writeUnit_off {p u : Nat} (h : bitOf (s.units p) u = false) : s.writeUnit p u false = s := by
  simp only [State.writeUnit, h, Bool.and_false, Bool.false_and, Bool.false_eq_true, if_false]

theorem laneFenceWrite_written {fence : Bool} (hw : n.mayWrite m = true) : laneFenceWrite m g l fence n = n.writeUnit (0xC0 + g) l fence := by
  simp only [laneFenceWrite, hw, Bool.not_true, Bool.false_eq_true, if_false]
  rfl

end
end Sys2Proof.Machine

open Sys2Proof Sys2Proof.Machine

/-- Settles O50: a test by its modes and the lane's state, a symbol by whether the lane's port sends, a scan and the eye by whether the lane
measures, the checker by its lock. -/
theorem lanesAreTestedMeasuredAndFenced : Obligations.LanesAreTestedMeasuredAndFenced := by
  refine ⟨?test, ?inject, ?start, ?done, ?eye, ?checker, ?clean, ?errors, ?fence⟩
  case test =>
    rintro s n m g l v hm hg hl ha hw t (rfl : n.testModes g l v = t)
    have run {u : State} (hu : (n.testWrite g l v).getD (n.refuse m (0xC0 + g) (F.LAN_TESTl_GEN.addr g l) true) = u) :
        exec (.lanTestWrite m g l v) s = .next u.calm :=
      actLight_access_effect (.lanTestWrite m g l v) _ ha (masterLane_ok hm hg hl) ((lanTestWrite_written hw).trans hu)
    refine ⟨fun h0 h4 h8 hs hf => run ?_, fun hv hs => run ?_, fun hv hs h0 h4 => run ?_⟩
    · rw [testWrite_ends h0 h4 h8 hs hf]
      rfl
    · rw [testWrite_refused hv hs]
      rfl
    · rw [testWrite_begins hv hs h0 h4]
      rfl
  case inject =>
    rintro s n m g l hm hg hl ha hw k (rfl : k = n.injectLen g l)
    have run {u : State} (hu : injectGo g l n = u) : exec (.injectGo m g l) s = .next u.calm :=
      actLight_access_effect (.injectGo m g l) _ ha (masterLane_ok hm hg hl) ((globalWrite_of_mayWrite hw).trans hu)
    exact ⟨fun p i hp h2 h4 hc => run (injectGo_sending hp h2 h4 hc), fun h => run (injectGo_silent h)⟩
  case start =>
    intro s n m g l hm hg hl ha hw
    have run {u : State} (hu : marginStart g l n = u) : exec (.marginStart m g l) s = .next u.calm :=
      actLight_access_effect (.marginStart m g l) _ ha (masterLane_ok hm hg hl) ((globalWrite_of_mayWrite hw).trans hu)
    refine ⟨fun hb => run ?_, fun hb hs => run ?_, fun hb h5 h6 => run ?_⟩
    · rw [marginStart, if_pos hb]
    · rw [marginStart, if_neg (by simp [hb]), if_pos (measures_of hs)]
    · rw [marginStart, if_neg (by simp [hb]), if_neg (by simp [not_measures h5 h6])]
  case done =>
    rintro s g l errors hg hl hr hb hs he t rfl -
    exact actLight_effect (marginScanDone g l errors) (isLane_of_lt hg hl) hr (marginScanDone_measured hb hs he)
  case eye =>
    intro s g l upper mid lower width snr hg hl hr
    have run {u : State} : eyeRefresh g l upper mid lower width snr s = u → exec (.eyeRefresh g l upper mid lower width snr) s = .next u.calm :=
      actLight_effect (eyeRefresh g l upper mid lower width snr) (isLane_of_lt hg hl) hr
    exact ⟨fun hs hk => run (eyeRefresh_pam hs hk), fun h5 h6 => run (eyeRefresh_silent h5 h6)⟩
  case checker =>
    rintro s t g l clean more errs hg hl hr hs hc rfl
    refine actLight_effect (prbsCheckerSync g l clean errs more) (isLane_of_lt hg hl) hr ?_
    exact if_pos (by simp [hs, hc])
  case clean =>
    rintro s g l n k rfl
    exact ⟨checkClean_locking, checkClean_locked⟩
  case errors =>
    intro s g l count hg hl hr
    exact actLight_effect (serLimit g l count) (isLane_of_lt hg hl) hr rfl
  case fence =>
    intro s n m g l hm hg hl ha hw hoff
    have run {fence : Bool} {u : State} (hu : n.writeUnit (0xC0 + g) l fence = u) : exec (.laneFenceWrite m g l fence) s = .next u.calm :=
      actLight_access_effect (.laneFenceWrite m g l fence) _ ha (masterLane_ok hm hg hl) ((laneFenceWrite_written hw).trans hu)
    exact ⟨run (writeUnit_sets hoff), run (writeUnit_off hoff)⟩
end

section
/-! PROOF. Key commands, their start and their completion (15 R470, R473, R478, R482). -/

namespace Sys2Proof.Machine

section
variable {s t n : State} {m slot op : Nat} {next : Bool} {c : KeyCmd}

theorem berr_sec {i : Nat} {e : ErrAt} : s.berr .sec i e = s.err 5 i e := rfl

theorem masterSlot_ok (hm : isMaster m = true) (hs : slot < 4096) : (isMaster m && decide (slot < 4096)) = true := by
  rw [hm, decide_eq_true hs, Bool.true_and]

/-! ## The start of a command (R473) -/

theorem keyCommand_busy (hw : n.mayWrite m = true) (hc : n.secCmd = some c) :
    keyCommand op m slot next n = n.err 5 4 { access := accInternal, addr := 1 } := by
  simp only [keyCommand, hw, hc, Bool.not_true, Bool.false_eq_true, if_false, Option.isSome_some, if_true]
  rfl

/-- The start of a key command, with `BUSY`. -/
def State.startKey (s : State) (c : KeyCmd) : State := ({ s with secCmd := some c } : State).wr F.SEC_CMD_STAT_BUSY 1

theorem keyCommand_starts (hw : n.mayWrite m = true) (hc : n.secCmd = none) :
    keyCommand op m slot next n = n.startKey (n.keyArgs op slot next) := by
  simp only [keyCommand, hw, hc, Bool.not_true, Bool.false_eq_true, if_false, Option.isSome_none]
  rfl

/-- Each key command is carried out as the command of its code. -/
theorem keyCommands_run (hm : isMaster m = true) (hs : slot < 4096) (ha : s.access m (F.SEC_CMD_OP.addr 0 0) n) {f : Nat → Bool → State}
    (hf : ∀ op next, keyCommand op m slot next n = f op next) :
    exec (.secGenerate m slot) s = .next (f 1 false).calm ∧ exec (.secWrap m slot next) s = .next (f 2 next).calm ∧
      exec (.secInstall m slot) s = .next (f 3 false).calm ∧ exec (.secRoll m slot) s = .next (f 4 false).calm ∧
      exec (.secRetire m slot) s = .next (f 5 false).calm ∧ exec (.secCreateOpen m slot) s = .next (f 6 false).calm := by
  have ok := masterSlot_ok hm hs
  exact ⟨actLight_access_effect (.secGenerate m slot) _ ha ok (hf 1 false), actLight_access_effect (.secWrap m slot next) _ ha ok (hf 2 next),
    actLight_access_effect (.secInstall m slot) _ ha ok (hf 3 false), actLight_access_effect (.secRoll m slot) _ ha ok (hf 4 false),
    actLight_access_effect (.secRetire m slot) _ ha ok (hf 5 false), actLight_access_effect (.secCreateOpen m slot) _ ha ok (hf 6 false)⟩

/-! ## The end of a command (R473) -/

/-- The end of a key command with the result `r`. -/
def State.keyEnd (s : State) (r : Nat) : State :=
  (((s.wr F.SEC_CMD_STAT_BUSY 0).wr F.SEC_CMD_STAT_RESULT r).roll F.SEC_CMD_STAT_COUNT).tally .sec 11

theorem secCmdComplete_ends {u : State} {peer : Option Nat} {r : Nat} (hc : s.secCmd = some c) (ht : { s with secCmd := none } = t)
    (h : (c.op = 1 ∧ t.doGenerate c = (u, r)) ∨ (c.op = 2 ∧ t.doWrap c peer = (u, r)) ∨ (c.op = 3 ∧ t.doInstall c peer = (u, r)) ∨
      (c.op = 4 ∧ t.doRoll c = (u, r)) ∨ (c.op = 5 ∧ t.doRetire c = (u, r)) ∨ (c.op = 6 ∧ t.doCreateOpen c = (u, r))) :
    secCmdComplete peer s = if r = 0 then u.keyEnd r else (u.keyEnd r).err 5 4 { access := accInternal, addr := r } := by
  obtain ⟨ho, hd⟩ | ⟨ho, hd⟩ | ⟨ho, hd⟩ | ⟨ho, hd⟩ | ⟨ho, hd⟩ | ⟨ho, hd⟩ := h <;>
    · simp only [secCmdComplete, hc, ht, ho, hd]
      rfl

/-! ## Retiring, rolling and open slots (R470, R478, R482) -/

theorem doRetire_held {k : TenSlot} (hk : Tbl.get s.slots c.slot = some k) :
    s.doRetire c = if s.bound c.slot = 0 then ({ s with slots := Tbl.del s.slots c.slot }, 0) else (s, 5) := by
  have hh : Tbl.has s.slots c.slot = true := by rw [Tbl.has, hk]; rfl
  by_cases hb : s.bound c.slot = 0
  · rw [State.doRetire, if_neg (by simp [hh]), if_neg (not_not.mpr hb), if_pos hb]
    rfl
  · rw [State.doRetire, if_neg (by simp [hh]), if_pos hb, if_neg hb]
    rfl

theorem doRoll_ready {k : TenSlot} (hk : s.activeSlot c.slot = some k) (hn : k.nextValid = true) (hr : k.rolled = false) :
    s.doRoll c = if c.time < s.now + 100000 then (s, 2) else ({ s with slots := Tbl.set s.slots c.slot { k with rollAt := c.time } }, 0) := by
  simp only [State.doRoll, hk, hn, hr, Bool.not_true, Bool.or_self, Bool.false_eq_true, if_false]
  rfl

theorem doCreateOpen_forbidden (hd : s.on F.SEC_STAT_DEBUG_UNLOCKED = false) (hf : s.fuses.openAllowed = false) :
    s.doCreateOpen c = (s, 0x0B) := by
  simp only [State.doCreateOpen, hd, hf, Bool.not_false, Bool.false_eq_true, if_false, if_true]
  rfl

end
end Sys2Proof.Machine

open Sys2Proof Sys2Proof.Machine

/-- Settles O51: the six commands are one command under six codes; it is refused while another is kept, and ends with the result of its work. -/
theorem keyCommandsStartAndComplete : Obligations.KeyCommandsStartAndComplete := by
  refine ⟨?start, ?complete, ?work⟩
  case start =>
    intro s n m slot next hm hs ha hw
    refine ⟨?busy, ?free⟩
    case busy =>
      rintro c t hc rfl
      exact keyCommands_run hm hs ha fun op next => keyCommand_busy hw hc
    case free =>
      intro hc cmd start hcmd hstart
      have starts (op : Nat) (next : Bool) : start op next = (n.startKey (n.keyArgs op slot next)).calm := by
        rw [hstart, hcmd, State.keyArgs, Nat.mod_eq_of_lt hs]
        rfl
      simp only [starts]
      exact keyCommands_run hm hs ha fun op next => keyCommand_starts hw hc
  case complete =>
    rintro s t u c peer r hr hc ht h v (rfl : u.keyEnd r = v)
    exact actLight_effect (secCmdComplete peer) rfl hr (secCmdComplete_ends hc ht h)
  case work =>
    intro s c
    refine ⟨fun k hk => doRetire_held hk, ?roll, doCreateOpen_forbidden⟩
    case roll =>
      rintro k k' hk hn hr rfl
      exact doRoll_ready hk hn hr
end

section
/-! PROOF. Keys rolled and erased, pipelines tested, debug and attestation (15 R467, R482, R489, R490, R494; log entry 6). -/

namespace Sys2Proof.Machine

section
variable {s t : State} {n : Nat} {k : TenSlot}

/-! ## A slot's keys in time (R482) -/

theorem keyRollTime_due (hk : Tbl.get s.slots n = some k) (ha : k.rollAt ≠ 0) (hr : k.rolled = false) (hv : k.nextValid = true) :
    keyRollTime n s = ({ s.reach k.rollAt with slots := Tbl.set (s.reach k.rollAt).slots n { k with rolled := true } } : State).tenancyEvent n
      { k with rolled := true } 0x20 k.nextEpoch := by
  simp only [keyRollTime, hk, ha, hr, hv, decide_false, Bool.not_true, Bool.or_self, Bool.false_eq_true, if_false]

/-- A slot whose next key has become its current one. -/
def TenSlot.promoted (k : TenSlot) : TenSlot :=
  { k with curEpoch := k.nextEpoch, curKey := k.nextKey, nextValid := false, nextEpoch := 0, nextKey := 0, rollAt := 0, rolled := false }

theorem oldKeyErase_rolled (hk : Tbl.get s.slots n = some k) (hr : k.rolled = true) (ht : s.reach (k.rollAt + s.freshNs + 100000) = t) :
    oldKeyErase n s = { t with slots := Tbl.set t.slots n k.promoted } := by
  subst ht
  simp only [oldKeyErase, hk, hr, Bool.not_true, Bool.false_eq_true, if_false]
  rfl

/-! ## Debug tokens (R489, R490) -/

section
variable {scope serial nonce : Nat} {sig : List Byte}

theorem dbgToken_bad (h : s.dbgNonce ≠ some nonce ∨ serial ≠ s.fuses.serial ∨ (scope ≠ 1 ∧ scope ≠ 2) ∨
    Config.debugToken scope serial nonce sig = false) : dbgToken scope serial nonce sig s = { s with dbgNonce := none } := by
  have bad : (s.dbgNonce == some nonce && serial == s.fuses.serial && (scope == 1 || scope == 2) &&
      Config.debugToken scope serial nonce sig) = false := by
    obtain h | h | ⟨h1, h2⟩ | h := h
    · simp [h]
    · simp [h]
    · simp [h1, h2]
    · simp [h]
  rw [dbgToken, bad]
  rfl

variable (hn : s.dbgNonce = some nonce) (hs : serial = s.fuses.serial) (hg : Config.debugToken scope serial nonce sig = true)
include hn hs hg

theorem dbgToken_scan (h1 : scope = 1) : dbgToken scope serial nonce sig s = { s with dbgNonce := none, scanOpen := true } := by
  subst h1 hs
  simp [dbgToken, hn, hg]

theorem dbgToken_jtag (h2 : scope = 2) {u : State} (hu : (List.range 4).foldl (fun s fn => (s.wr F.HIF_IDE_STAT_SECURE 0 fn).ideCheck fn)
    (({ s with dbgNonce := none } : State).loseAllKeys 3) = u) :
    dbgToken scope serial nonce sig s = ({ u with jtagOpen := true } : State).wr F.SEC_STAT_DEBUG_UNLOCKED 1 := by
  subst h2 hu hs
  simp [dbgToken, hn, hg]

end

/-! ## Attestation (R467, log entry 6) -/

theorem spdmRequest_arrived {path : ReqPath} {code : Nat} (ha : s.arrives path = true) (hr : s.recovering = false) :
    spdmRequest path code s = ((s.tally .sec 12).emit (if spdmServed.contains code then .spdm path (code - 0x80) (s.spdmAnswer code)
      else .spdm path 0x7F .bare)).drawn := by
  simp only [spdmRequest, ha, hr, Bool.not_true, Bool.or_self, Bool.false_eq_true, if_false]

end
end Sys2Proof.Machine

open Sys2Proof Sys2Proof.Machine

/-- Settles O52: a slot by the state of its roll, a pipeline by its result, a token by what it holds and its scope. -/
theorem keysRollAndDebugIsGuarded : Obligations.KeysRollAndDebugIsGuarded := by
  refine ⟨?keys, ?pipe, ?challenge, ?token, ?spdm⟩
  case keys =>
    intro s n k hr hk
    refine ⟨?roll, ?erase⟩
    case roll =>
      rintro ha hd hv u k' rfl rfl
      exact actLight_effect (keyRollTime n) rfl hr (keyRollTime_due hk ha hd hv)
    case erase =>
      rintro hd u k' hu (rfl : k' = k.promoted)
      exact actLight_effect (oldKeyErase n) rfl hr (oldKeyErase_rolled hk hd hu)
  case pipe =>
    rintro s t u pass hu hr rfl
    exact actLight_effect (pipeSelfTest u pass) (decide_eq_true hu) hr rfl
  case challenge =>
    rintro s t n hr rfl rfl
    exact actLight_effect dbgChallenge rfl hr rfl
  case token =>
    rintro s t scope serial nonce sig hr rfl
    have run {u : State} : dbgToken scope serial nonce sig s = u → exec (.dbgToken scope serial nonce sig) s = .next u.calm :=
      actLight_effect (dbgToken scope serial nonce sig) rfl hr
    exact ⟨fun h => run (dbgToken_bad h), fun hn hs hg => ⟨fun h1 => run (dbgToken_scan hn hs hg h1),
      fun h2 u hu => run (dbgToken_jtag hn hs hg h2 hu)⟩⟩
  case spdm =>
    rintro s t path code hr ha hv rfl
    exact actLight_effect (spdmRequest path code) rfl hr (spdmRequest_arrived ha hv)
end

section
/-! PROOF. Error status, counting windows, storage errors, the fault collector and the heartbeat (16 R497 to R499, R508, R515 to R519). -/

namespace Sys2Proof.Machine

section
variable {s t n : State} {m p mask : Nat} {b : Block} {k : Nat}

theorem berr_fcl {i : Nat} {e : ErrAt} : s.berr .fcl i e = s.err 1 i e := rfl

/-! ## What leaves nothing to carry out -/

theorem State.wr_atRest {f : Fld} {v i j : Nat} (h : s.atRest) : (s.wr f v i j).atRest := by
  simpa [State.atRest] using h

theorem State.emit_atRest {o : Out} (h : s.atRest) : (s.emit o).atRest := by
  simpa [State.atRest] using h

theorem State.reach_atRest {at' : Nat} (h : s.atRest) : (s.reach at').atRest := by
  unfold State.reach
  split <;> exact h

/-- Clearing some bits of a field, one after another, leaves a state at rest. -/
theorem clearBits_atRest {f : Fld} {i : Nat} {clears : State → Nat → Bool} (l : List Nat) (h : s.atRest) :
    (l.foldl (fun t b => if clears t b then t.clrBit f b i else t) s).atRest := by
  refine List.foldlRecOn l _ h fun t ht b _ => ?_
  split
  · exact State.wr_atRest ht
  · exact ht

/-! ## `ERR_STAT` and its counting windows (R498) -/

theorem errStatClear_eq (hp : pageBlock p = some (b, k)) (hw : n.mayWrite m = true) :
    errStatClear m p mask n = (List.range 32).foldl (fun t i => if bitOf mask i && !t.persists p i then t.clrBit F.ERR_STAT_ERR i p else t) n := by
  rw [errStatClear, hp, hw]
  rfl

theorem errWindowExpire_open {u : Nat} {w : Win} (hg : Tbl.get s.wins (p, u) = some w) :
    errWindowExpire p u s = { s.reach (w.start + 1000 * s.rd F.ERR_WINDOW_LENGTH p) with wins := Tbl.del s.wins (p, u) } := by
  have wins : (s.reach (w.start + us (s.rd F.ERR_WINDOW_LENGTH p))).wins = s.wins := by
    unfold State.reach
    split <;> rfl
  simp only [errWindowExpire, hg, wins]
  rw [us_eq]

/-! ## Storage errors (R519) -/

section
variable {idx unit x : Nat}

theorem storageRow_reached (hh : s.halted = false) (hp : pageBlock p = some (b, k)) :
    storageRow p idx unit x s = internalStorageError p idx unit x s := by
  simp only [storageRow, hp, hh, Bool.false_and, Bool.false_eq_true, if_false]

theorem storageErr_stored (h1 : b ≠ .pwy) (h2 : b ≠ .hif) :
    s.storageErr p k b idx unit x = (s.err p idx { access := 0xB, master := some (unitMaster p unit) }).storageLost b k idx x := by
  unfold State.storageErr
  split
  · exact absurd rfl h2
  · exact absurd rfl h1
  · exact absurd rfl h1
  · rfl

theorem storageErr_hif : s.storageErr p k .hif idx unit x = if idx = 12
    then (s.err p idx { access := 0xB, master := some (unitMaster p unit) }).aerUnc k aeInternal 0
    else (s.err p idx { access := 0xB, master := some (unitMaster p unit) }).aerCor k acInternal := by
  simp only [State.storageErr]
  rfl

theorem internalStorageError_eq (hp : pageBlock p = some (b, k)) (hi : (storageIndices b).contains idx = true) (hb : ¬(b = .crp ∧ idx = 6)) :
    internalStorageError p idx unit x s = s.storageErr p k b idx unit x := by
  simp only [internalStorageError, hp, hi, Bool.not_true, Bool.false_eq_true, if_false]
  exact if_neg (by simpa using hb)

end

/-! ## Unit fences (R508) -/

theorem unitFenceWrite_lane {g : Nat} (hw : n.mayWrite m = true) (hp : pageBlock (n.rd F.FCL_UNIT_SEL_PAGE) = some (.lan, g)) :
    unitFenceWrite m mask n = (List.range 4).foldl (fun s u => s.writeUnit (n.rd F.FCL_UNIT_SEL_PAGE) u (bitOf mask u)) n := by
  simp only [unitFenceWrite, hp, hw]
  rfl

/-! ## The fault collector's own registers (R497, R515, R516) -/

/-- The latches of `FCL_STAT` cleared, but for those whose cause stands. -/
def State.statCleared (s : State) (mask : Nat) : State :=
  (List.range 64).foldl (fun t b => if bitOf mask b && !s.statHeld b then t.clrBit F.FCL_STAT_STAT b else t) s

theorem fclStatClear_latches (hw : n.mayWrite m = true) : fclStatClear m 0 mask n = n.statCleared mask := by
  have width : F.FCL_STAT_STAT.width = 64 := rfl
  have written : fclStatClear m 0 mask n = n.clearUnless F.FCL_STAT_STAT mask n.statHeld := by
    unfold fclStatClear
    exact if_neg (by simp [hw])
  rw [written, State.clearUnless, width, State.statCleared]

theorem svcReasonClear_eq (hw : n.mayWrite m = true) (ht : n.clearUnless F.FCL_SVC_STAT_REASONS mask (fun b => n.reasonHeld (b + 1)) = t) :
    svcReasonClear m mask n =
      if n.on F.FCL_SVC_STAT_REASONS && !t.on F.FCL_SVC_STAT_REASONS then t.emit (.pin .svcReqN true) else t := by
  subst ht
  simp only [svcReasonClear, hw, Bool.not_true, Bool.false_eq_true, if_false]

/-! ## The heartbeat (R517) -/

/-- The heartbeat's timer restarted, and counted. -/
def State.kicked (s : State) : State := State.tally { s with aliveAt := s.now } .mgt 4

theorem kicked_atRest (h : s.atRest) : s.kicked.atRest := by
  simpa [State.atRest, State.kicked, State.tally_todo, State.tally_caught] using h

theorem tally_on_halted (b : Block) (e : Nat) (f : Fld) : (s.tally b e).on f = s.on f ∧ (s.tally b e).halted = s.halted := by
  simp only [State.tally, State.advance]
  split_ifs <;> exact ⟨rfl, rfl⟩

theorem kicked_stopped : s.kicked.on F.FCL_ALIVE_STOPPED = s.on F.FCL_ALIVE_STOPPED := (tally_on_halted .mgt 4 F.FCL_ALIVE_STOPPED).1

theorem kicked_halted : s.kicked.halted = s.halted := (tally_on_halted .mgt 4 F.FCL_ALIVE_STOPPED).2

theorem aliveKick_manager :
    aliveKick 4 n = if n.on F.FCL_ALIVE_STOPPED && !n.halted then (n.kicked.wr F.FCL_ALIVE_STOPPED 0).emit (.pin .alive true) else n.kicked := by
  rw [← kicked_stopped, ← kicked_halted]
  exact if_neg (by simp)

/-- The heartbeat stopped, at the end of its timer. -/
def State.aliveStops (s : State) : State :=
  (((s.reach (s.aliveAt + 1000000 * (if s.rd F.FCL_ALIVE_TMO_MS = 0 then 1 else s.rd F.FCL_ALIVE_TMO_MS))).wr F.FCL_ALIVE_STOPPED 1).emit
      (.pin .alive false)).err 1 2

theorem aliveTimeout_running (hh : s.halted = false) (ha : s.on F.FCL_ALIVE_STOPPED = false) :
    aliveTimeout s = if s.aliveStops.on F.FCL_ALIVE_AUTO_M then s.aliveStops.later (.resetM 4) else s.aliveStops := by
  simp only [aliveTimeout, hh, ha, Bool.or_self, Bool.false_eq_true, if_false, berr_fcl]
  rw [ms, Nat.mul_comm]
  rfl

end
end Sys2Proof.Machine

open Sys2Proof Sys2Proof.Machine

/-- Settles O16: the bits of a write one after another, the window that is open, and the block whose storage failed. -/
theorem errorStatusIsClearedAndErrorsAreRecorded : Obligations.ErrorStatusIsClearedAndErrorsAreRecorded := by
  refine ⟨?clear, ?window, ?storage⟩
  case clear =>
    intro s n m p mask b k hm hr ha hp hw
    exact actLight_access_rest (.errStatClear m p mask) (errStatClear m p mask) ha (masterPage_ok hm hp) (errStatClear_eq hp hw)
      (clearBits_atRest _ (access_atRest ha hr))
  case window =>
    intro s p u b k w hu hr hp hw
    exact actLight_rest (errWindowExpire p u) (isBlock_of_pageBlock hp) hu (errWindowExpire_open hw) (State.reach_atRest hr)
  case storage =>
    intro s p idx unit x b k hu hh hp hi
    have run {u : State} (he : internalStorageError p idx unit x s = u) : exec (.internalStorageError p idx unit x) s = .next u.settle :=
      act_effect (storageRow p idx unit x) (isBlock_of_pageBlock hp) hu ((storageRow_reached hh hp).trans he)
    refine ⟨fun h1 h2 h3 => run ?_, ?_⟩
    · rw [internalStorageError_eq hp hi h3, storageErr_stored h1 h2]
    · rintro rfl t rfl
      refine run ?_
      rw [internalStorageError_eq hp hi (by simp), storageErr_hif]

/-- Settles O17: each register of the collector as it is written, and the heartbeat's kick and end. -/
theorem faultCollectorIsWrittenAndTheHeartbeatKept : Obligations.FaultCollectorIsWrittenAndTheHeartbeatKept := by
  refine ⟨⟨?stat, ?rearm, ?reason, ?request, ?units⟩, ?kick, ?timeout⟩
  case stat =>
    intro s n m mask hm hr ha hw
    have rest : (n.statCleared mask).atRest := clearBits_atRest (clears := fun _ b => bitOf mask b && !n.statHeld b) _ (access_atRest ha hr)
    exact actLight_access_rest (.fclStatClear m 0 mask) (fclStatClear m 0 mask) ha ((Bool.and_true _).trans hm) (fclStatClear_latches hw) rest
  case rearm =>
    intro s n m hm hr ha hw
    exact actLight_access_rest (.fclFirstRearm m) (fclFirstRearm m) ha hm (by rw [fclFirstRearm, hw]; rfl)
      (State.wr_atRest (access_atRest ha hr))
  case reason =>
    rintro s n t m mask hm hr ha hw ht
    refine actLight_access_rest (.svcReasonClear m mask) (svcReasonClear m mask) ha hm (svcReasonClear_eq hw ht) ?_
    have rest : t.atRest := ht ▸ clearBits_atRest (clears := fun _ b => bitOf mask b && !n.reasonHeld (b + 1)) _ (access_atRest ha hr)
    split
    · exact State.emit_atRest rest
    · exact rest
  case request =>
    intro s n m code hm hr ha hw
    exact actLight_access_effect (.fclSvcReq m code) (fclSvcReq m code) ha hm (by rw [fclSvcReq, hw]; rfl)
  case units =>
    rintro s n m mask p g hm hr ha hw rfl hg
    exact actLight_access_effect (.unitFenceWrite m mask) (unitFenceWrite m mask) ha hm (unitFenceWrite_lane hw hg)
  case kick =>
    intro s n hr ha
    have rest := kicked_atRest (access_atRest ha hr)
    refine actLight_access_rest (.aliveKick 4) (aliveKick 4) ha rfl aliveKick_manager ?_
    split
    · exact State.emit_atRest (State.wr_atRest rest)
    · exact rest
  case timeout =>
    rintro s t hu hh ha (rfl : s.aliveStops = t)
    exact actLight_effect aliveTimeout rfl hu (aliveTimeout_running hh ha)
end

section
/-! PROOF. On-package memory read, scrubbed and spared, and the counters latched (16 R510 to R514; 17 R527, R535; log entries 12 and 18). -/

namespace Sys2Proof.Machine

section
variable {s t n : State} {m k a len : Nat}

theorem berr_mem {i : Nat} {e : ErrAt} : s.berr .mem i e k = s.err (0xE0 + k) i e := rfl

/-! ## A word read (R510, R21) -/

section
variable {user : MemUser} {r : EccResult} {g : Nat}

theorem eccRead_foreign (hm : s.memRuns (s.memCtrl a) = true) (h : s.regionOf a len = none ∨ s.ownsMem user a len false = false) :
    eccRead a len user r s = s.err (0xE0 + s.memCtrl a) 6 { access := accMemRead, addr := a, master := some (userMaster user) } := by
  have run : ¬(!s.memRuns (s.memCtrl a)) = true := by simp [hm]
  rw [eccRead, if_neg run]
  split
  · rfl
  next g hg =>
    have foreign : s.ownsMem user a len false = false := h.resolve_left (by simp [hg])
    rw [if_pos (by simp [foreign])]
    rfl

theorem eccRead_owned (hm : s.memRuns (s.memCtrl a) = true) (hg : s.regionOf a len = some g) (ho : s.ownsMem user a len false = true) :
    eccRead a len user r s = if r = .uncorrectable then (s.eccError (s.memCtrl a) a 0 (userMaster user) r).poisonedAt g a
      else s.eccError (s.memCtrl a) a 0 (userMaster user) r := by
  simp only [eccRead, hm, hg, ho, Bool.not_true, Bool.false_eq_true, if_false]

end

/-! ## Scrubbing (R512) -/

/-- The address that the scrubber of a controller reads after `a`. -/
def State.scrubNext (s : State) (a : Nat) : Nat :=
  (if s.rd F.DEV_MEM_CAP_STACKS = 2 then a / 8192 * 4096 + a % 4096 else a) / 256 * 256 + 256

theorem scrub_clean (he : s.on F.MEM_SCRUB_CTL_EN k = true) (hm : s.memRuns k = true) (ha : s.memCtrl a = k) (hf : s.reqFenced (0xE0 + k) 11 = false)
    (hn : (s.tally .mem 0 1 k).tally .mem 15 1 k = n) :
    scrub k a .clean s = if n.memShare ≤ n.scrubNext a then (n.roll F.MEM_SCRUB_STAT_PASSES 1 k).wr F.MEM_SCRUB_STAT_POS_MIB 0 k
      else n.wr F.MEM_SCRUB_STAT_POS_MIB (n.scrubNext a / 2 ^ 20) k := by
  subst hn
  have due : ¬(!s.on F.MEM_SCRUB_CTL_EN k || !s.memRuns k || s.memCtrl a ≠ k) = true := by simp [he, hm, ha]
  have unfenced : ¬s.reqFenced (Block.mem.page + k) 11 = true := fun h => Bool.false_ne_true (hf.symm.trans h)
  rw [scrub, if_neg due, if_neg unfenced]
  rfl

/-! ## Spared rows (R513, R514) -/

theorem spareForce_running (hw : n.mayWrite m = true) (hm : n.memRuns k = true) : spareForce m k a n = n.spareRow k a := by
  rw [spareForce, if_neg (by simp [hw]), if_neg (by simp [hm])]

theorem spareRow_copying (h : s.rowCopies.contains (k, Config.memRow a) = true) : s.spareRow k a = s := by
  rw [State.spareRow, if_pos h]

section
variable (hc : s.rowCopies.contains (k, Config.memRow a) = false)
include hc

theorem spareRow_none (hs : s.spareTotal ≤ s.spareUsed k + (s.rowCopies.filter fun e => e.1 == k).length) :
    s.spareRow k a = s.err (0xE0 + k) 5 { access := accMemRead, addr := a } := by
  rw [State.spareRow, if_neg (by rw [hc]; exact Bool.false_ne_true), if_pos hs, berr_mem]

theorem spareRow_begins (hs : s.spareUsed k + (s.rowCopies.filter fun e => e.1 == k).length < s.spareTotal) :
    s.spareRow k a = ({ s with rowCopies := s.rowCopies ++ [(k, Config.memRow a)] } : State).wr F.MEM_SPARE_STAT_BUSY 1 k := by
  rw [State.spareRow, if_neg (by rw [hc]; exact Bool.false_ne_true), if_neg (by omega)]

end

theorem rowSpareDone_copied {e : Nat × Nat} {u v : State} (hf : s.rowCopies.find? (fun e => e.1 == k) = some e)
    (ht : { s with rowCopies := s.rowCopies.erase e
                   spareMap := s.spareMap ++ [e]
                   spareSaved := s.spareMap ++ [e]
                   rowCounts := s.rowCounts.filter fun c => !(c.ctrl == k && c.row == e.2) } = t)
    (hv : t.writeSetting (2 + k) typeVersion ((Config.spareMapBody ((t.spareMap.filter fun e => e.1 == k).map Prod.snd)).take 65536) = v)
    (hu : (v.wr F.MEM_SPARE_STAT_BUSY (b2n ((s.rowCopies.erase e).any fun x => x.1 == k)) k).err (0xE0 + k) 4
      { access := accMemRead, addr := Config.rowAddr k e.2 } = u) :
    rowSpareDone k s = if u.spareLow k then u.svc 5 else u := by
  subst hu hv ht
  simp only [rowSpareDone, hf]
  rfl

/-! ## Counters (R527, R535) -/

theorem pmuSnapGo_latches (hw : n.mayWrite m = true) : pmuSnapGo m n =
    (((({ n with snap := n.ctrs } : State).wr F.PMU_SNAP_TIME_TIME n.now).wr F.PMU_SNAP_FROZEN 1).roll F.PMU_SNAP_COUNT).tally .pmu 4 := by
  rw [pmuSnapGo, if_neg (by simp [hw])]

theorem pmuSnapRelease_releases (hw : n.mayWrite m = true) : pmuSnapRelease m n = ({ n with snap := [] } : State).wr F.PMU_SNAP_FROZEN 0 := by
  rw [pmuSnapRelease, if_neg (by simp [hw])]

theorem sampleSeed_loads {fn seed : Nat} (hw : mayWindow m fn = true) :
    sampleSeed m fn seed n = { n with lfsr := Tbl.set n.lfsr fn (if seed % 2 ^ 32 = 0 then 1 else seed % 2 ^ 32) } := by
  rw [sampleSeed, if_neg (by simp [hw])]
  rfl

end
end Sys2Proof.Machine

open Sys2Proof Sys2Proof.Machine

/-- Settles O53: a read by its owner and its outcome, the scrubber's next address, a spare row by what is in hand, and the counters' registers. -/
theorem memoryIsCorrectedSparedAndCounted : Obligations.MemoryIsCorrectedSparedAndCounted := by
  refine ⟨?read, ?scrub, ?spare, ?done, ?counters⟩
  case read =>
    rintro s a len k g user r hr rfl hm
    have run {u : State} : eccRead a len user r s = u → exec (.eccRead a len user r) s = .next u.settle :=
      act_effect (eccRead a len user r) rfl hr
    refine ⟨fun h => run (eccRead_foreign hm h), ?_⟩
    rintro hg ho e rfl
    refine ⟨?_, ?_, ?_⟩
    · rintro rfl
      exact run (eccRead_owned hm hg ho)
    · rintro rfl
      exact run (eccRead_owned hm hg ho)
    · rintro rfl t rfl
      exact run (eccRead_owned hm hg ho)
  case scrub =>
    rintro s n k a next hk hr he hm ha hf hn (rfl : next = n.scrubNext a)
    exact act_effect (scrub k a .clean) (decide_eq_true hk) hr (scrub_clean he hm ha hf hn)
  case spare =>
    rintro s n m k a row hm hk ha hw hc rfl
    have run {u : State} (hu : n.spareRow k a = u) : exec (.spareForce m k a) s = .next u.calm :=
      actLight_access_effect (.spareForce m k a) (spareForce m k a) ha (by rw [hm, decide_eq_true hk]; rfl) ((spareForce_running hw hc).trans hu)
    exact ⟨fun h => run (spareRow_copying h), fun h hs => run (spareRow_none h hs), fun h hs => run (spareRow_begins h hs)⟩
  case done =>
    intro s t u v k e hk hr hf ht hv hu
    exact actLight_effect (rowSpareDone k) (decide_eq_true hk) hr (rowSpareDone_copied hf ht hv hu)
  case counters =>
    intro s n m hm
    exact ⟨fun ha hw => actLight_access_effect (.pmuSnapGo m) (pmuSnapGo m) ha hm (pmuSnapGo_latches hw),
      fun ha hw => actLight_access_effect (.pmuSnapRelease m) (pmuSnapRelease m) ha hm (pmuSnapRelease_releases hw),
      fun fn seed hf hw ha => actLight_access_effect (.sampleSeed m fn seed) (sampleSeed m fn seed) ha (masterFn_ok hm hf) (sampleSeed_loads hw)⟩
end

section
/-! PROOF. Requests without authority, and recovery (18 R546, R558). -/

namespace Sys2Proof.Machine

section
variable {s t n : State} {path : ReqPath} {tag : Nat}

theorem berr_mgt {i : Nat} {e : ErrAt} : s.berr .mgt i e = s.err 4 i e := rfl

/-! ## Who may ask (R546, R558) -/

section
variable {fm mem : Bool} (f : State → State) (ha : s.arrives path = true) (hn : s.countReq path = n)
include ha hn

theorem mgmtRequest_recovering (hr : n.recovering = true) : mgmtRequest fm mem path tag f s = n.respond path tag msBadState := by
  subst hn
  simp only [mgmtRequest, ha, hr, Bool.not_true, Bool.false_eq_true, if_false, if_true]

theorem mgmtRequest_denied (hr : n.recovering = false) (hf : n.fmPath path = false) :
    mgmtRequest true mem path tag f s = ((n.bump F.MGT_MBOX_STAT_DENIED).err 4 8).respond path tag msDenied := by
  subst hn
  simp only [mgmtRequest, ha, hr, hf, berr_mgt, Bool.not_true, Bool.not_false, Bool.and_self, Bool.false_eq_true, if_false, if_true]

theorem recoveryRequest_running (hr : n.recovering = false) : recoveryRequest path tag f s = n.respond path tag msBadState := by
  subst hn
  simp only [recoveryRequest, ha, hr, Bool.not_true, Bool.false_and, Bool.false_eq_true, if_false]

end

section
variable {k v : Nat} {b : List Byte} {i : Instr} (hu : s.up = true) (hb : s.pathBusy path = false) (hl : 4 + b.length ≤ pathLimit path)
include hu hb hl

/-- A request that needs the fabric manager's authority is answered as any such request is. -/
theorem exec_managerRequest (h : ∀ mem f, mgmtRequest true mem path tag f s = t)
    (hi : i = .stageBegin path tag k b ∨ i = .stageData path tag k b ∨ i = .stageEnd path tag ∨ i = .stageAbort path tag ∨
      i = .activate path tag k v ∨ i = .activateCancel path tag ∨ i = .svnAdvance path tag ∨ i = .settingsWrite path tag k v b ∨
      i = .settingsErase path tag k ∨ i = .mgmtRegWrite path tag k v ∨ i = .eventRead path tag k) : exec i s = .next t.calm := by
  have run {f : State → State} (i : Instr) (hf : f s = t) : actLight true s.up (inTurn i path f) s = .next t.calm :=
    actLight_inTurn i f hu hb hf
  have fits (f : State → State) (hf : f s = t) : sized path tag (4 + b.length) f s = t := (sized_of_fits tag f s hl).trans hf
  obtain rfl | rfl | rfl | rfl | rfl | rfl | rfl | rfl | rfl | rfl | rfl := hi
  · exact run _ (h true _)
  · exact run _ (fits _ (h true _))
  · exact run _ (h true _)
  · exact run _ (h true _)
  · exact run _ (h false _)
  · exact run _ (h false _)
  · exact run _ (h false _)
  · exact run _ (fits _ (h false _))
  · exact run _ (h false _)
  · exact run _ (h false _)
  · exact run _ (h true _)

/-- A recovery request is answered as any such request is. -/
theorem exec_recoveryRequest (h : ∀ f, recoveryRequest path tag f s = t)
    (hi : i = .recoverBegin path tag k v ∨ i = .recoverData path tag k b ∨ i = .recoverBoot path tag k ∨ i = .recoverEraseSettings path tag ∨
      i = .recoverRemoveFmKey path tag) : exec i s = .next t.calm := by
  have run {f : State → State} (i : Instr) (hf : f s = t) : actLight true s.up (inTurn i path f) s = .next t.calm :=
    actLight_inTurn i f hu hb hf
  obtain rfl | rfl | rfl | rfl | rfl := hi
  · exact run _ (h _)
  · exact run _ ((sized_of_fits tag _ s hl).trans (h _))
  · exact run _ (h _)
  · exact run _ (h _)
  · exact run _ (h _)

end

/-! ## Recovery (R558) -/

section
variable (h : s.recovery path n)
include h

theorem recovery_idle : s.pathBusy path = false := by
  obtain ⟨-, -, -, -, hb⟩ := h
  exact hb

theorem recoverBegin_begins {bank len : Nat} (hb : bank ≤ 1) (hl : len ≤ bankSize)
    (ht : { n with mg.ops := n.mg.ops ++ [FlashOp.erase path tag bank], mg.recoverBank := some bank } = t) :
    recoverBegin path tag bank len s = ((t.writeBootRec (t.flash.bootRec.setBank bank 1)).flashBusy).emit (.flash 0 bank) := by
  subst ht
  rw [recoverBegin, recoveryRequest_of_recovery tag _ h, if_neg (by simp [Nat.not_lt.mpr hb, Nat.not_lt.mpr hl])]

theorem recoverData_stores {off b : Nat} {bytes : List Byte} (hl : 4 + bytes.length ≤ pathLimit path) (ho : off + bytes.length ≤ bankSize)
    (hb : n.mg.recoverBank = some b) (ht : { n with mg.ops := n.mg.ops ++ [FlashOp.write path tag b off bytes] } = t) :
    recoverData path tag off bytes s = t.flashBusy.emit (.flash 1 b) := by
  subst ht
  rw [recoverData, sized_of_fits tag _ s hl, recoveryRequest_of_recovery tag _ h, if_neg (Nat.not_lt.mpr ho), hb]

theorem recoverBoot_boots {bank : Nat} (hb : bank ≤ 1) (ht : n.respond path tag msOk = t) :
    recoverBoot path tag bank s = (t.writeBootRec { t.flash.bootRec.setBank bank 2 with
      active := bank, trialValid := false }).doResetM 3 true := by
  subst ht
  rw [recoverBoot, recoveryRequest_of_recovery tag _ h, if_neg (Nat.not_lt.mpr hb)]

end

end
end Sys2Proof.Machine

open Sys2Proof Sys2Proof.Machine

/-- Settles O54: a request by the core's mode and its own authority; the five recovery requests as they are served. -/
theorem requestsAreDeniedOrServedInRecovery : Obligations.RequestsAreDeniedOrServedInRecovery := by
  refine ⟨⟨?managers, ?running⟩, ?recovery⟩
  case managers =>
    intro s n path tag k v b i hu ha hn hb hl hi
    exact ⟨fun hr => exec_managerRequest hu hb hl (fun mem f => mgmtRequest_recovering f ha hn hr) hi,
      fun hr hf => exec_managerRequest hu hb hl (fun mem f => mgmtRequest_denied f ha hn hr hf) hi⟩
  case running =>
    intro s n path tag k v b i hu ha hn hb hl hr hi
    exact exec_recoveryRequest hu hb hl (fun f => recoveryRequest_running f ha hn hr) hi
  case recovery =>
    intro s n path tag hu h
    have run {f : State → State} {t : State} (i : Instr) (hf : f s = t) : actLight true s.up (inTurn i path f) s = .next t.calm :=
      actLight_inTurn i f hu (recovery_idle h) hf
    refine ⟨fun bank len t hb hl ht => run _ (recoverBegin_begins h hb hl ht), fun off bytes b t hl ho hb ht => run _ (recoverData_stores h hl ho hb ht),
      fun bank t hb ht => run _ (recoverBoot_boots h hb ht), ?_, run _ (recoveryRequest_of_recovery tag _ h)⟩
    rintro t rfl
    exact run _ (recoveryRequest_of_recovery tag _ h)
end

section
/-! PROOF. Firmware staged, activated and confirmed (18 R544, R549, R551, R552). -/

namespace Sys2Proof.Machine

section
variable {s t u n : State} {path : ReqPath} {tag bank : Nat}

theorem up_iff : s.up = true ↔ s.off = false ∧ s.inReset = false := by
  simp [State.up]

theorem fwRuns_of (hu : s.up = true) (hr : s.recovering = false) : s.fwRuns = true := by
  obtain ⟨ho, hi⟩ := up_iff.mp hu
  rw [State.fwRuns, ho, hi, show s.on F.MGT_BOOT_STAT_RECOVERY = false from hr]
  rfl

/-! ## The header of a staging (R549) -/

section
variable {hdr : List Byte} (h : s.served true true path n)
include h

theorem stageBegin_late (hb : n.mg.staging.isSome = true ∨ n.on F.MGT_ACT_CTL_ARMED = true) :
    stageBegin path tag bank hdr s = n.respond path tag msBadState := by
  rw [stageBegin, mgmtRequest_of_served tag _ h, if_pos (by simpa using hb)]

section
variable (hs : n.mg.staging = none) (ha : n.on F.MGT_ACT_CTL_ARMED = false)
include hs ha

theorem stageBegin_running (hb : bank = n.rd F.MGT_BOOT_STAT_BANK) : stageBegin path tag bank hdr s = n.respond path tag msBadRequest := by
  rw [stageBegin, mgmtRequest_of_served tag _ h, if_neg (by simp [hs, ha]), if_pos (by simp [hb])]

/-- What a staging begins with, for an image without a base. -/
def stagingOf (bank : Nat) (hdr : List Byte) : Staging :=
  { bank := bank, targetLen := hdrAt hdr 4 4, hasBase := false, ctrIv := (hdr.drop 56).take 16 }

theorem stageBegin_begins (hb : bank ≤ 1) (hr : bank ≠ n.rd F.MGT_BOOT_STAT_BANK) (hl : hdr.length = 128) (hv : hdrAt hdr 0 2 = 1)
    (hz : hdrAt hdr 4 4 ≤ bankSize) (h0 : (hdr.drop 72).any (· != 0) = false) (hB : ((hdr.drop 8).take 48).all (· == 0) = true)
    (ht : { n with mg.staging := some (stagingOf bank hdr), flash.banks := Tbl.set n.flash.banks bank [] } = t)
    (hu : (t.writeBootRec (t.flash.bootRec.setBank bank 1)).wr F.MGT_BANK_STAT_PRELOAD_VALID 0 = u) :
    stageBegin path tag bank hdr s = ((((u.wr F.MGT_STAGE_STAT_STATE 1).wr F.MGT_STAGE_STAT_BANK bank).wr F.MGT_STAGE_STAT_BYTES 0).emit
      (.flash 0 bank)).respond path tag msOk := by
  subst hu ht
  have wellFormed : ¬(decide (1 < bank) || decide (bank = n.rd F.MGT_BOOT_STAT_BANK) || decide (hdr.length ≠ 128) || decide (hdrAt hdr 0 2 ≠ 1) ||
      decide (bankSize < hdrAt hdr 4 4) || (hdr.drop 72).any (· != 0)) = true := by
    simp only [h0, hr, hl, hv, Nat.not_lt.mpr hb, Nat.not_lt.mpr hz]
    decide
  rw [stageBegin, mgmtRequest_of_served tag _ h, if_neg (by simp [hs, ha]), if_neg wellFormed, if_neg (by rw [hB]; simp)]
  simp only [hB, Bool.not_true]
  rfl

end

/-! ## Data, end and abort (R549) -/

section
variable {off : Nat} {b : List Byte} {g : Staging} (hs : n.mg.staging = some g) (h1 : n.rd F.MGT_STAGE_STAT_STATE = 1)
include hs h1

section
variable (hl : 4 + b.length ≤ pathLimit path)
include hl

theorem stageData_gap (ho : off ≠ g.nextOff) : stageData path tag off b s = n.respond path tag msBadRequest := by
  rw [stageData, sized_of_fits tag _ s hl, mgmtRequest_of_served tag _ h, hs]
  simp only [h1, ho, ne_eq, not_true_eq_false, not_false_eq_true, if_false, if_true]

variable {g1 g2 : Staging} (ho : off = g.nextOff)
  (hg : g1 = { g with nextOff := off + b.length, rest := g.rest ++ crypt n.fuses.fuseRev g.ctrIv (off - 128) b })
include ho hg

theorem stageData_more (ha : n.applyOps (g1.rest.length + 1) g1 = .more g2) : stageData path tag off b s =
    (({ n with mg.staging := some g2 } : State).wr F.MGT_STAGE_STAT_BYTES g2.made.length).respond path tag msOk := by
  subst hg ho
  dsimp only at ha
  rw [stageData, sized_of_fits tag _ s hl, mgmtRequest_of_served tag _ h, hs]
  simp only [h1, ha, ne_eq, not_true_eq_false, if_false]

theorem stageData_bad (ha : n.applyOps (g1.rest.length + 1) g1 = .bad) :
    stageData path tag off b s = n.endStaging.respond path tag msBadRequest := by
  subst hg ho
  dsimp only at ha
  rw [stageData, sized_of_fits tag _ s hl, mgmtRequest_of_served tag _ h, hs]
  simp only [h1, ha, ne_eq, not_true_eq_false, if_false]

end

theorem stageEnd_programs (he : g.ended = true) (ht : { n with mg.ops := n.mg.ops ++ [FlashOp.program path tag] } = t) :
    stageEnd path tag s = ((t.wr F.MGT_FLASH_STAT_BUSY 1).wr F.MGT_STAGE_STAT_STATE 2).emit (.flash 1 g.bank) := by
  have busy : t.flashBusy = t.wr F.MGT_FLASH_STAT_BUSY 1 := by
    subst ht
    simp [State.flashBusy, b2n]
  rw [← busy, stageEnd, mgmtRequest_of_served tag _ h, hs]
  simp only [he, h1, ht, Bool.not_true, ne_eq, not_true_eq_false, decide_false, Bool.or_self, Bool.false_eq_true, if_false]

omit h1

theorem stageAbort_idle (ho : n.mg.ops = []) : stageAbort path tag s =
    (({ n with mg.staging := none }.wr F.MGT_FLASH_STAT_BUSY 0).wr F.MGT_STAGE_STAT_STATE 0).respond path tag msOk := by
  have same : ({ n with mg.ops := n.mg.ops.filter fun o => o.staging.isNone } : State) = n := by rw [ho, List.filter_nil, ← ho]
  have idle : n.flashBusy = n.wr F.MGT_FLASH_STAT_BUSY 0 := by simp [State.flashBusy, ho, b2n]
  rw [stageAbort, mgmtRequest_of_served tag _ h, if_neg (by simp [hs]), same, ho, List.filterMap_nil]
  show n.flashBusy.endStaging.respond path tag msOk = _
  rw [idle]
  rfl

end
end

/-! ## Activation (R551) -/

section
variable {time : Nat} (h : s.served true false path n)
include h

section
variable (hb : bank ≤ 1) (h2 : n.flash.bootRec.bank bank = 2) (hp : n.on F.MGT_BANK_STAT_PRELOAD_VALID = true)
  (hm : n.on F.DEV_STRAPS_BOOT_MODE = false) (hk : n.timeLocked = true)
include hb h2 hp hm hk

/-- A staged bank, preloaded, is armed for a time from 100 ms to 30 days from now. -/
theorem activate_staged : activate path tag bank time s =
    if time < n.now + 100000000 || n.now + 2592000000000000 < time then n.respond path tag msBadRequest
    else (((n.wr F.MGT_ACT_CTL_ARMED 1).wr F.MGT_ACT_CTL_BANK bank).wr F.MGT_ACT_TIME_TIME time).respond path tag msOk := by
  rw [activate, mgmtRequest_of_served tag _ h, if_neg (Nat.not_lt.mpr hb), if_neg (by simp [h2, hp]), if_neg (by simp [hm]), if_neg (by simp [hk])]
  rfl

theorem activate_arms (hl : n.now + 100000000 ≤ time) (hh : time ≤ n.now + 2592000000000000) : activate path tag bank time s =
    (((n.wr F.MGT_ACT_CTL_ARMED 1).wr F.MGT_ACT_CTL_BANK bank).wr F.MGT_ACT_TIME_TIME time).respond path tag msOk := by
  rw [activate_staged h hb h2 hp hm hk, if_neg (by simp [Nat.not_lt.mpr hl, Nat.not_lt.mpr hh])]

theorem activate_early (hl : time < n.now + 100000000) : activate path tag bank time s = n.respond path tag msBadRequest := by
  rw [activate_staged h hb h2 hp hm hk, if_pos (by simp [hl])]

end

theorem activateCancel_armed (ha : n.on F.MGT_ACT_CTL_ARMED = true) : activateCancel path tag s =
    if n.rd F.MGT_ACT_TIME_TIME < n.now + 1000000 then n.respond path tag msTooLate else (n.wr F.MGT_ACT_CTL_ARMED 0).respond path tag msOk := by
  rw [activateCancel, mgmtRequest_of_served tag _ h, if_neg (by simp [ha])]
  rfl

end

theorem activationTime_armed (hu : s.up = true) (ha : s.on F.MGT_ACT_CTL_ARMED = true) :
    activationTime s = (s.reach (s.rd F.MGT_ACT_TIME_TIME)).startResetM 5 := by
  obtain ⟨ho, hi⟩ := up_iff.mp hu
  rw [activationTime, if_neg (by simp [ho, hi, ha])]

/-! ## A trial confirmed (R544) -/

theorem trialConfirm_runs (hu : s.up = true) (hr : s.recovering = false) (hb : s.rd F.MGT_BOOT_STAT_RESULT = brTrial)
    (hv : s.flash.bootRec.trialValid = true) (ha : s.on F.FCL_ALIVE_STOPPED = false) :
    trialConfirm s = ((s.reach (s.mg.bootAt + 1000000000)).writeBootRec { s.flash.bootRec.setBank s.flash.bootRec.trial 3 with
      active := s.flash.bootRec.trial, trialValid := false }).fwEvent 7 := by
  rw [trialConfirm, if_neg (by simp [fwRuns_of hu hr, hb, hv, ha])]
  rfl

end
end Sys2Proof.Machine

open Sys2Proof Sys2Proof.Machine

/-- Settles O56: each request served is its effect on the staging in hand, or on what is armed; the times act by themselves. -/
theorem stagingAndActivationFollowTheirOrder : Obligations.StagingAndActivationFollowTheirOrder := by
  refine ⟨?begins, ?staged, ?armed, ?fires, ?confirms⟩
  case begins =>
    intro s n path tag bank hdr hu h
    have run {t : State} : stageBegin path tag bank hdr s = t → exec (.stageBegin path tag bank hdr) s = .next t.calm :=
      actLight_inTurn _ _ hu (served_idle h)
    refine ⟨fun hb => run (stageBegin_late h hb), fun hs ha => ⟨fun hb => run (stageBegin_running h hs ha hb), ?_⟩⟩
    rintro hb hr hl hv hz h0 hB t u st (rfl : st = stagingOf bank hdr) ht hu
    exact run (stageBegin_begins h hs ha hb hr hl hv hz h0 hB ht hu)
  case staged =>
    intro s n path tag off b g hu h hs h1
    have run {i : Instr} {f : State → State} {t : State} : f s = t → actLight true s.up (inTurn i path f) s = .next t.calm :=
      actLight_inTurn _ f hu (served_idle h)
    exact ⟨fun hl ho => run (stageData_gap h hs h1 hl ho),
      fun hl ho g1 g2 hg => ⟨fun ha => run (stageData_more h hs h1 hl ho hg ha), fun ha => run (stageData_bad h hs h1 hl ho hg ha)⟩,
      fun he t ht => run (stageEnd_programs h hs h1 he ht), fun ho => run (stageAbort_idle h hs ho)⟩
  case armed =>
    intro s n path tag bank time hu h
    have run {i : Instr} {f : State → State} {t : State} : f s = t → actLight true s.up (inTurn i path f) s = .next t.calm :=
      actLight_inTurn _ f hu (served_idle h)
    refine ⟨fun hb h2 hp hm hk => ⟨fun hl hh => run (activate_arms h hb h2 hp hm hk hl hh), fun hl => run (activate_early h hb h2 hp hm hk hl)⟩,
      fun ha ht => run ((activateCancel_armed h ha).trans (if_neg (Nat.not_lt.mpr ht))), fun ha ht => run ((activateCancel_armed h ha).trans (if_pos ht))⟩
  case fires =>
    intro s hu ha
    exact actLight_effect activationTime rfl hu (activationTime_armed hu ha)
  case confirms =>
    rintro s r hu rfl hr hb hv ha
    exact actLight_effect trialConfirm rfl hu (trialConfirm_runs hu hr hb hv ha)
end

section
/-! PROOF. Settings, the event log and the flash (18 R546, R549, R553, R556, R559; log entry 17). -/

namespace Sys2Proof.Machine

section
variable {s t n u : State} {path : ReqPath} {tag : Nat}

/-! ## Settings (R553) -/

/-- What is made of a written record of a known type that fits its path, by its type and what is there. -/
def State.takeRecord (s : State) (path : ReqPath) (tag type : Nat) (b : List Byte) : State :=
  if ownType type then s.respond path tag msDenied
  else if (Tbl.get s.flash.settings type).any fun r => r.valid && Setting.newer type r then s.respond path tag msVersionNewer
  else (s.writeSetting type typeVersion b).respond path tag msOk

section
variable {type : Nat} {b : List Byte} (h : s.served true false path n) (hk : knownType type = true)
include h hk

theorem settingsErase_own (ho : ownType type = true) : settingsErase path tag type s = n.respond path tag msDenied := by
  rw [settingsErase, mgmtRequest_of_served tag _ h, if_neg (by simp [hk]), if_pos ho]

theorem settingsErase_erases (ho : ownType type = false) (ht : ({ n with flash.settings := Tbl.del n.flash.settings type } : State) = t) :
    settingsErase path tag type s = t.settingsShow.respond path tag msOk := by
  rw [settingsErase, mgmtRequest_of_served tag _ h, if_neg (by simp [hk]), if_neg (by simp [ho]), ht]

variable (hl : 4 + b.length ≤ pathLimit path)
include hl

theorem settingsWrite_known : settingsWrite path tag type typeVersion b s = n.takeRecord path tag type b := by
  have limit : pathLimit path ≤ 61440 := by cases path <;> simp [pathLimit]
  have fits : ¬ 65536 < b.length := by omega
  rw [settingsWrite, sized_of_fits tag _ s hl, mgmtRequest_of_served tag _ h, if_neg (by simp [hk, fits])]
  rfl

end

/-! ## The floor and the log (R546, R556, R559) -/

theorem svnAdvance_raises (h : s.served true false path n) (hv : n.rd F.MGT_FW_SVN_SVN ≤ 64)
    (ht : { n with fuses := { n.fuses with svnFloor := max n.fuses.svnFloor (n.rd F.MGT_FW_SVN_SVN) } } = t) :
    svnAdvance path tag s = t.respond path tag msOk := by
  rw [svnAdvance, mgmtRequest_of_served tag _ h]
  exact (if_neg (Nat.not_lt.mpr hv)).trans (by rw [ht])

theorem mgmtRegWrite_register {a v : Nat} (h : s.served true false path n) (h8 : a % 8 = 0) (hl : a < 0x4000000) :
    mgmtRegWrite path tag a v s = regWriteRow 4 a 8 v (n.respond path tag msOk) := by
  rw [mgmtRegWrite, mgmtRequest_of_served tag _ h, if_neg (by simp [h8, Nat.not_le.mpr hl])]

theorem eventRead_logged {index : Nat} {e : LogEntry} (h : s.served true true path n) (he : Tbl.get n.mg.log index = some e) :
    eventRead path tag index s = n.respond path tag msOk (leBytes 4 e.srcDid ++ leBytes 2 e.cls ++ leBytes 2 e.code ++ e.body) := by
  rw [eventRead, mgmtRequest_of_served tag _ h, he]

theorem mgmtEvent_logged {src cls code : Nat} {b : List Byte} (hu : s.up = true) (hr : s.recovering = false) (ha : s.arrives (.inband false) = true)
    (ht : { s with mg.log := Tbl.set s.mg.log s.mg.logNext { srcDid := src, cls := cls, code := code, body := b }
                   mg.logNext := (s.mg.logNext + 1) % 65536 } = t) :
    mgmtEvent src cls code b s = if isFn (t.rd F.DEV_FM_ROLE_HOLDER) then t.asyncEvent (t.rd F.DEV_FM_ROLE_HOLDER)
      { type := 0x40, subtype := cls, value := src, offset := s.mg.logNext, data := code } else t := by
  subst ht
  rw [mgmtEvent, if_neg (by simp [ha, fwRuns_of hu hr])]

section
variable {e : FabEvent} {rest : List FabEvent} (hu : s.up = true) (hr : s.recovering = false) (he : s.events = e :: rest)
  (hd : s.on F.MGT_EVT_DEST_EN = false) (ht : { s with events := rest } = t)
include hu hr he hd ht

theorem fabricEventSend_host : fabricEventSend true s = t.emit (.event 0x3FFFF true e.cls e.code) := by
  simp only [fabricEventSend, he, hd, fwRuns_of hu hr, ht, Bool.false_and, Bool.not_true, Bool.false_eq_true, if_false]

theorem fabricEventSend_lost : fabricEventSend false s = (t.bump F.MGT_EVT_STAT_LOST).err 4 9 := by
  simp only [fabricEventSend, he, hd, fwRuns_of hu hr, ht, berr_mgt, Bool.false_and, Bool.not_true, Bool.not_false, Bool.false_eq_true, if_false,
    if_true]

end

/-! ## Flash operations (R549, R558) -/

section
variable {rest : List FlashOp} {b off : Nat} {bytes : List Byte} {g : Staging}
  (ht : ({ s with mg.ops := rest } : State).wr F.MGT_FLASH_STAT_BUSY (b2n (rest != [])) = t)
include ht

/-- The flash no longer busy with the operation that ended. -/
theorem flashBusy_rest : ({ s with mg.ops := rest } : State).flashBusy = t := ht

theorem flashWrite_done (ho : s.mg.ops = .write path tag b off bytes :: rest) : flashOperationDone true s =
    (({ t with flash.banks := Tbl.set t.flash.banks b (overlay (Tbl.getD t.flash.banks b []) off bytes) } : State).tally .mgt 3
      bytes.length).respond path tag msOk := by
  simp only [flashOperationDone, ho, flashBusy_rest ht, Bool.not_true, Bool.false_eq_true, if_false]

theorem flashErase_done (ho : s.mg.ops = .erase path tag b :: rest) :
    flashOperationDone true s = ({ t with flash.banks := Tbl.set t.flash.banks b [] } : State).respond path tag msOk := by
  simp only [flashOperationDone, ho, flashBusy_rest ht, Bool.not_true, Bool.false_eq_true, if_false]

theorem flashProgram_done {img : List Byte} (ho : s.mg.ops = .program path tag :: rest) (hs : t.mg.staging = some g) (hi : t.bankImage g.made = img)
    (hu : { t with flash.banks := Tbl.set t.flash.banks g.bank img, mg.ops := FlashOp.readBack path tag :: t.mg.ops } = u) :
    flashOperationDone true s =
      (((u.wr F.MGT_FLASH_STAT_BUSY 1).tally .mgt 3 img.length).wr F.MGT_STAGE_STAT_STATE 3).emit (.flash 2 g.bank) := by
  subst hi hu
  simp only [flashOperationDone, ho, flashBusy_rest ht, hs, Bool.not_true, Bool.false_eq_true, if_false]
  rfl

theorem flashReadBack_done (ho : s.mg.ops = .readBack path tag :: rest) (hs : t.mg.staging = some g)
    (hu : (t.memWrite .mgt preloadAt (t.bankBytes g.bank g.targetLen)).tally .mgt 3 g.targetLen = u) : flashOperationDone true s =
      (((u.writeBootRec (u.flash.bootRec.setBank g.bank 2)).wr F.MGT_BANK_STAT_PRELOAD_VALID 1).endStaging).respond path tag msOk := by
  simp only [flashOperationDone, ho, flashBusy_rest ht, hs, hu, Bool.not_true, Bool.false_eq_true, if_false]

/-- An operation of the staging that fails ends the staging. -/
theorem flashStaging_failed {op : FlashOp} (ho : s.mg.ops = op :: rest) (hop : op = .program path tag ∨ op = .readBack path tag) :
    flashOperationDone false s = (((t.bump F.MGT_FLASH_STAT_ERRORS).err 4 3 {}).fwReport 3).endStaging.respond path tag msFlashFailed := by
  obtain rfl | rfl := hop <;>
    simp only [flashOperationDone, ho, flashBusy_rest ht, State.flashFailed, berr_mgt, Bool.not_false, if_true]

theorem flashErase_failed (ho : s.mg.ops = .erase path tag b :: rest) :
    flashOperationDone false s = (((t.bump F.MGT_FLASH_STAT_ERRORS).err 4 3 {}).fwReport 3).respond path tag msFlashFailed := by
  simp only [flashOperationDone, ho, flashBusy_rest ht, State.flashFailed, berr_mgt, Bool.not_false, if_true]

end

end
end Sys2Proof.Machine

open Sys2Proof Sys2Proof.Machine

/-- Settles O57: each request served by its case, the event that came and the one that leaves, and the flash by the operation that ends. -/
theorem settingsEventsAndFlashAreServed : Obligations.SettingsEventsAndFlashAreServed := by
  refine ⟨?settings, ?floor, ?register, ?read, ?event, ?send, ?flash⟩
  case settings =>
    intro s n path tag type b hu h hk
    have run {i : Instr} {f : State → State} {t : State} : f s = t → actLight true s.up (inTurn i path f) s = .next t.calm :=
      actLight_inTurn _ f hu (served_idle h)
    have write {t : State} (hl : 4 + b.length ≤ pathLimit path) (ht : n.takeRecord path tag type b = t) :
        exec (.settingsWrite path tag type typeVersion b) s = .next t.calm := run ((settingsWrite_known h hk hl).trans ht)
    refine ⟨fun ho => run (settingsErase_own h hk ho), fun ho t ht => run (settingsErase_erases h hk ho ht), fun hl ho => write hl (if_pos ho),
      fun hl ho hg => write hl ?_, fun r hl ho hg hv hw => write hl ?_⟩
    · rw [State.takeRecord, if_neg (by simp [ho]), if_neg (by simp [hg])]
      rfl
    · rw [State.takeRecord, if_neg (by simp [ho]), if_pos (by simp [hg, hv, hw])]
      rfl
  case floor =>
    intro s n path tag hu h hv t ht
    exact actLight_inTurn _ (svnAdvance path tag) hu (served_idle h) (svnAdvance_raises h hv ht)
  case register =>
    intro s n path tag a v hu h h8 hl
    exact actLight_inTurn _ (mgmtRegWrite path tag a v) hu (served_idle h) (mgmtRegWrite_register h h8 hl)
  case read =>
    intro s n path tag index e hu h he
    exact actLight_inTurn _ (eventRead path tag index) hu (served_idle h) (eventRead_logged h he)
  case event =>
    rintro s t src cls code h b e hu ha hr rfl ht rfl
    exact actLight_effect (mgmtEvent src cls code b) rfl hu (mgmtEvent_logged hu hr ha ht)
  case send =>
    intro s t e rest hu hr he hd ht
    exact ⟨actLight_effect (fabricEventSend true) rfl hu (fabricEventSend_host hu hr he hd ht),
      actLight_effect (fabricEventSend false) rfl hu (fabricEventSend_lost hu hr he hd ht)⟩
  case flash =>
    intro s t op rest p tag b hu ho ht
    have run {ok : Bool} {u : State} (hd : flashOperationDone ok s = u) : exec (.flashOperationDone ok) s = .next u.serveQueue.calm :=
      actLight_effect (fun s => (flashOperationDone ok s).serveQueue) rfl hu (congrArg State.serveQueue hd)
    refine ⟨?_, ?_, ?_, fun hop => run (flashStaging_failed ht ho hop), ?_⟩
    · rintro off bytes rfl
      exact run (flashWrite_done ht ho)
    · rintro g img u rfl hs hi hu
      exact run (flashProgram_done ht ho hs hi hu)
    · rintro g u rfl hs hu
      exact run (flashReadBack_done ht ho hs hu)
    · rintro rfl
      exact ⟨run (flashErase_done ht ho), run (flashErase_failed ht ho)⟩
end

section
/-! PROOF. Power states and their triggers (19 R562, R564, R567 to R572, R587). -/

namespace Sys2Proof.Machine

section
variable {s t n : State} {m v cause d : Nat}

theorem berr_crp {i : Nat} {e : ErrAt} : s.berr .crp i e = s.err 2 i e := rfl

/-! ## A target written (R562, R568, R572) -/

theorem pwrReqWrite_requests (hw : n.mayWrite m = true) (ht : n.wr F.CRP_PWR_REQ_TARGET v = t) : pwrReqWrite m v n = t.request v := by
  rw [pwrReqWrite, if_neg (by simp [hw]), ht]

/-- The entry of a low-power state begun, with the state to go back to. -/
def State.enters (s : State) (back entry : Nat) : State := ({ s with pw.at_ := s.now, pw.wakeFrom := back } : State).setPower entry

theorem request_full (hp : s.power = psFull) (hv : v < 3) : s.request v = if v = 0 then s else s.enter v := by
  simp only [State.request, hp, show v ≠ 3 by omega, if_true, if_false]

theorem request_entersLayby (hp : s.power = psFull) : s.request 1 = s.enters psFull psEnterLayby := by
  rw [request_full hp (by decide), if_neg one_ne_zero, ← hp]
  rfl

theorem request_wakesLayby (hp : s.power = psLayby) : s.request 0 = s.beginWake 1 0 := by
  simp [State.request, hp, psLayby, psFull]

theorem request_waits (hv : v < 3) (h0 : s.power ≠ psFull) (h1 : s.power ≠ psLayby) (h2 : s.power ≠ psParked) :
    s.request v = { s with pw.next := some v } := by
  simp only [State.request, show v ≠ 3 by omega, h0, h1, h2, if_false]

theorem enter_refused (hr : s.parkRefusal ≠ 0) : s.enter 2 = s.wr F.CRP_PWR_STAT_LAST_REFUSAL s.parkRefusal := by
  simp [State.enter, hr]

/-! ## Entry, and its timeout (R562, R568, R569) -/

theorem laybyQuiet_enters (hq : s.quietNow = true) (hp : s.power = psEnterLayby) :
    laybyQuiet s = ((s.dropCaches.gateLayby.setPower psLayby).tally .crp 2).settled := by
  rw [laybyQuiet, if_neg (by simp [hq, hp])]

theorem parkedQuiet_enters (hq : s.quietNow = true) (hp : s.power = psEnterParked)
    (ht : ({ s with pw.ports := (List.range 128).filter fun p => s.on F.LNK_CTL_EN p } : State).dropPorts = t) :
    parkedQuiet s = (t.parkErase.dropCaches.gateParked.setPower psParked).settled := by
  subst ht
  rw [parkedQuiet, if_neg (by simp [hq, hp])]

theorem autoLaybyIdle_enters (hq : s.quietNow = true) (hp : s.power = psFull) (ha : s.on F.CRP_PWR_CTL_AUTO_LAYBY = true)
    (ht : s.reach (s.pw.hostAt + 1000 * orWhenZero (s.rd F.CRP_PWR_CTL_IDLE_US) 1) = t) : autoLaybyIdle s = t.enters t.power psEnterLayby := by
  rw [autoLaybyIdle, if_neg (by simp [hq, hp, ha]), us_eq, ht]
  rfl

section
variable (hq : s.quietNow = false) (ht : s.reach (s.pw.at_ + 1000 * orWhenZero (s.rd F.CRP_PWR_CTL_ENTRY_TMO_US) 1) = t)
include hq ht

theorem entryTimeout_ends (hp : s.power = psEnterLayby ∨ s.power = psEnterParked) : entryTimeout s =
    ((t.setPower (if t.power = psEnterParked then t.pw.wakeFrom else psFull)).wr F.CRP_PWR_STAT_LAST_REFUSAL 1).settled := by
  rw [entryTimeout, if_neg (by simpa [hq, or_iff_not_imp_left] using hp), us_eq, ht]

theorem entryTimeout_layby (hp : s.power = psEnterLayby) (hp' : t.power = psEnterLayby) :
    entryTimeout s = ((t.setPower psFull).wr F.CRP_PWR_STAT_LAST_REFUSAL 1).settled := by
  rw [entryTimeout_ends hq ht (.inl hp), hp', if_neg (by decide)]

theorem entryTimeout_parked (hp : s.power = psEnterParked) (hp' : t.power = psEnterParked) :
    entryTimeout s = ((t.setPower t.pw.wakeFrom).wr F.CRP_PWR_STAT_LAST_REFUSAL 1).settled := by
  rw [entryTimeout_ends hq ht (.inr hp), if_pos hp']

end

/-! ## Wakes (R564, R567, R571) -/

theorem wake_layby (hp : s.power = psLayby) : s.wake cause = s.beginWake cause 0 := by
  rw [State.wake, if_pos (by simp [hp])]

theorem wake_parked (hp : s.power = psParked) (hc : [1, 5, 6, 7, 8].contains cause = true) : s.wake cause = s.beginWake cause 0 := by
  rw [State.wake, if_pos (by rw [hp, hc]; decide)]

theorem parkedWake_wakes (hp : s.power = psParked) :
    parkedWake cause s = s.beginWake cause (if cause = 1 ∧ s.rd F.CRP_PWR_REQ_TARGET = 1 then 1 else 0) := by
  simp only [parkedWake, hp, if_true, Bool.and_eq_true, decide_eq_true_eq]
  rfl

theorem wakeTime_wakes (hp : s.power = psLayby ∨ s.power = psParked) (h0 : s.rd F.CRP_WAKE_TIME_TIME ≠ 0) (hn : s.now ≤ s.rd F.CRP_WAKE_TIME_TIME)
    (ht : s.reach (s.rd F.CRP_WAKE_TIME_TIME) = t) (hp' : t.power = s.power) : wakeTime s = t.beginWake 5 0 := by
  have due : wakeTime s = t.wake 5 := by
    rw [← ht]
    exact if_neg (by simpa [h0, Nat.not_lt.mpr hn, or_iff_not_imp_left] using hp)
  rw [due]
  obtain h1 | h2 := hp
  · exact wake_layby (hp'.trans h1)
  · exact wake_parked (hp'.trans h2) rfl

/-! ## A domain that does not power (R587) -/

theorem domainFault_fences (ht : (domPages d).foldl (fun s p => if s.fenced p then s else (s.wr F.BLK_CTL_FENCE 1 p).later (.fence p))
    (s.err 2 4 { access := accInternal, addr := d }) = t) (h1 : t.wakingFrom psLayby = false) (h2 : t.wakingFrom psParked = false) :
    domainFault d s = t := by
  simp only [domainFault, berr_crp, ht, h1, h2, Bool.false_eq_true, if_false]

end
end Sys2Proof.Machine

open Sys2Proof Sys2Proof.Machine

/-- Settles O58: a target by the state in which it is written; entries, wakes and their ends each by the state that they belong to. -/
theorem powerStatesChangeOnTheirTriggers : Obligations.PowerStatesChangeOnTheirTriggers := by
  refine ⟨?target, ?quiet, ?late, ?wakes, ?awake, ?fault⟩
  case target =>
    intro s n t m v hm hv ha hw ht
    have run {u : State} (hu : t.request v = u) : exec (.pwrReqWrite m v) s = .next u.calm :=
      actLight_access_effect (.pwrReqWrite m v) (pwrReqWrite m v) ha hm ((pwrReqWrite_requests hw ht).trans hu)
    refine ⟨?_, ?_, ?_, ?_, fun h0 h1 h2 => run (request_waits hv h0 h1 h2)⟩
    · rintro hp rfl
      exact run (request_full hp hv)
    · rintro hp rfl
      exact run (request_entersLayby hp)
    · rintro hp rfl hr
      exact run ((request_full hp hv).trans (enter_refused hr))
    · rintro hp rfl
      exact run (request_wakesLayby hp)
  case quiet =>
    intro s hr hq
    exact ⟨fun hp => actLight_effect laybyQuiet rfl hr (laybyQuiet_enters hq hp),
      fun hp t ht => actLight_effect parkedQuiet rfl hr (parkedQuiet_enters hq hp ht),
      fun hp ha t ht => actLight_effect autoLaybyIdle rfl hr (autoLaybyIdle_enters hq hp ha ht)⟩
  case late =>
    intro s t hr hq ht
    exact ⟨fun hp hp' => actLight_effect entryTimeout rfl hr (entryTimeout_layby hq ht hp hp'),
      fun hp hp' => actLight_effect entryTimeout rfl hr (entryTimeout_parked hq ht hp hp')⟩
  case wakes =>
    intro s cause hr
    exact ⟨fun hp => actLight_effect (laybyWake cause) rfl hr ((if_pos hp).trans (wake_layby hp)),
      fun hp => actLight_effect (parkedWake cause) rfl hr (parkedWake_wakes hp),
      fun hp t h0 hn ht hp' => actLight_effect wakeTime rfl hr (wakeTime_wakes hp h0 hn ht hp')⟩
  case awake =>
    intro s hr
    exact ⟨fun hw => act_effect laybyWakeRow rfl hr (if_pos hw), fun hw => act_effect parkedWakeDone rfl hr (if_pos hw)⟩
  case fault =>
    intro s t d hd hu ht h1 h2
    refine act_effect (replayAfter (domainFault d)) (decide_eq_true hd) hu ?_
    rw [replayAfter, domainFault_fences ht h1 h2]
end

section
/-! PROOF. Device time, the pulse, heat, clocks and the core voltage (19 R579, R582, R584, R585, R587; 20 R599, R607). -/

namespace Sys2Proof.Machine

section
variable {s t u n : State} {m v : Nat}

theorem berr_tim {i : Nat} {e : ErrAt} : s.berr .tim i e = s.err 3 i e := rfl

theorem ms_eq (k : Nat) : ms k = 1000000 * k := Nat.mul_comm k 1000000

/-! ## Elections and holdover (R579, R582) -/

theorem masterLoss_lost {p at' : Nat} {x : TimeNb} (hf : (s.nb p).fresh = some at') (hu : s.reach (at' + s.lossNs) = u)
    (hx : x = { u.nb p with fresh := none }) : masterLoss p s = ({ u with nbs := Tbl.set u.nbs p x } : State).elect := by
  subst hx hu
  simp only [masterLoss, hf]

theorem holdoverExpire_unlocks (hs : s.timState = tsHoldover) (hl : s.rd F.TIM_HOLD_HOLD_ERR_NS < s.holdErr)
    (ht : s.reach (s.holdAt + (s.rd F.TIM_HOLD_HOLD_ERR_NS - s.holdErr) * 1000000000 / max (s.rd F.TIM_HOLD_HOLD_PPB) 1) = t) :
    holdoverExpire s = (t.setTimState tsUnlocked t.estErr).err 3 0 := by
  subst ht
  rw [holdoverExpire, if_neg (by simp [hs, Nat.not_le.mpr hl]), berr_tim]

/-! ## The pulse (R584, R585) -/

section
variable (ht : (s.wr F.TIM_PPS_IN_TIME s.now).tally .tim 3 = t)
include ht

theorem ppsInEdge_captured (h : t.timState ≠ tsMaster ∨ t.on F.TIM_CTL_PPS_IN_EN = false) : ppsInEdge s = t := by
  subst ht
  rw [ppsInEdge]
  exact if_pos (by simpa using h)

/-- An edge in the first half of a second steers the master back to its beginning. -/
def State.steeredBack (t : State) : State := { t with slew := -((t.now % 1000000000 : Nat) : Int) * (2 ^ 32 : Nat), ppsRef := true }

theorem ppsInEdge_steers (hm : t.timState = tsMaster) (he : t.on F.TIM_CTL_PPS_IN_EN = true) (hl : t.now % 1000000000 < 500000000) :
    ppsInEdge s = if t.rd F.TIM_SERVO_LOCK_NS < t.now % 1000000000 then t.steeredBack.err 3 4 else t.steeredBack := by
  have master : ¬(t.timState ≠ tsMaster || !t.on F.TIM_CTL_PPS_IN_EN) = true := by simp [hm, he]
  have abs : (-((t.now % 1000000000 : Nat) : Int)).natAbs = t.now % 1000000000 := by omega
  subst ht
  rw [ppsInEdge]
  refine (if_neg master).trans ?_
  simp only [hl, if_true, abs, berr_tim]
  rfl

end

theorem ppsMissing_recorded (he : s.on F.TIM_CTL_PPS_IN_EN = true) (ht : s.reach (s.rd F.TIM_PPS_IN_TIME + 2000000000) = t) :
    ppsMissing s = ({ t with ppsRef := false, slew := 0 } : State).err 3 3 := by
  rw [ppsMissing, if_neg (by simp [he]), ht, berr_tim]

theorem ppsOutSecond_rises (he : s.on F.TIM_CTL_PPS_OUT_EN = true) (hs : s.timState ≠ tsUnlocked)
    (ht : s.reach ((s.now / 1000000000 + 1) * 1000000000) = t) : ppsOutSecond s =
      { t.emit (.pin .ppsOut true) with ppsLowAt := some (t.now + 1000 * orWhenZero (t.rd F.TIM_PPS_CTL_OUT_WIDTH_US) 1) } := by
  rw [← us_eq, ppsOutSecond, if_neg (by simp [he, hs]), ht]

/-! ## The master's time stepped (R582) -/

theorem timSet_forward (hw : n.mayWrite m = true) (hm : n.timState = tsMaster) (hv : n.now < v) :
    timSet m v n = (n.reach v).bump F.TIM_CNT_STEPS_FWD := by
  simp only [timSet, hw, hm, Nat.not_le.mpr hv, State.stepTime, hv, Bool.not_true, ne_eq, not_true_eq_false, decide_false, Bool.or_self,
    Bool.false_eq_true, if_false, if_true]

theorem timSet_refused (hw : n.mayWrite m = true) (h : n.timState ≠ tsMaster ∨ v ≤ n.now) :
    timSet m v n = n.refuse m 3 (F.TIM_SET_TIME.addr 0 0) true := by
  simp only [timSet, hw, Bool.not_true, Bool.false_eq_true, if_false]
  exact if_pos (by simpa using h)

/-! ## Heat (R607) -/

section
variable {temp : Nat} (ht : (s.wr F.CRP_THERM_TEMP_C temp).high F.CRP_THERM_PEAK_C (temp % 256) = t)
include ht

theorem thermalLevel_below (hw : temp < s.rd F.CRP_THERM_WARN_C) (hc : temp < min 115 (s.rd F.CRP_THERM_CRIT_C)) : thermalLevel temp s = t := by
  simp only [thermalLevel, ht, decide_eq_false (Nat.not_le.mpr hw), decide_eq_false (Nat.not_le.mpr hc), Bool.and_false, Bool.false_eq_true, if_false]

theorem thermalLevel_warns (ho : s.rd F.CRP_THERM_TEMP_C < s.rd F.CRP_THERM_WARN_C) (hw : s.rd F.CRP_THERM_WARN_C ≤ temp)
    (hc : temp < min 115 (s.rd F.CRP_THERM_CRIT_C)) : thermalLevel temp s = t.err 2 2 := by
  simp only [thermalLevel, ht, decide_eq_true ho, decide_eq_true hw, decide_eq_false (Nat.not_le.mpr hc), berr_crp, Bool.and_self, Bool.and_false,
    Bool.false_eq_true, if_false, if_true]

theorem thermalLevel_critical (hw : s.rd F.CRP_THERM_WARN_C ≤ s.rd F.CRP_THERM_TEMP_C)
    (ho : s.rd F.CRP_THERM_TEMP_C < min 115 (s.rd F.CRP_THERM_CRIT_C)) (hc : min 115 (s.rd F.CRP_THERM_CRIT_C) ≤ temp) :
    thermalLevel temp s = t.err 2 3 := by
  simp only [thermalLevel, ht, decide_eq_true ho, decide_eq_true hc, decide_eq_false (Nat.not_lt.mpr hw), berr_crp, Bool.and_self, Bool.false_and,
    Bool.false_eq_true, if_false, if_true]

end

/-! ## The core voltage (R599) -/

/-- A voltage within its bounds moves towards its target by at most 10 mV. -/
theorem clampTo_step {target cur : Nat} (hl : 650 ≤ cur) (hh : cur ≤ 850) :
    clampTo 650 850 (clampTo ((cur : Int) - 10) ((cur : Int) + 10) (clampTo 650 850 ((target : Int) + toSigned 8 0))) =
      max (cur - 10) (min (cur + 10) (max 650 (min 850 target))) := by
  simp only [clampTo, toSigned]
  omega

section
variable {target read : Nat} (hu : s.up = true)
include hu

theorem avsStep_unanswered : avsStep target read false s = (s.wr F.CRP_AVS_AVS_OK 0).err 2 1 := by
  obtain ⟨ho, hi⟩ := up_iff.mp hu
  simp only [avsStep, ho, hi, berr_crp, Bool.or_self, Bool.not_false, Bool.false_eq_true, if_false, if_true]

theorem avsStep_moves (ha : s.pw.avsAt = none) (h0 : s.rd F.CRP_AVS_OFFSET_MV = 0) (hl : 650 ≤ s.rd F.CRP_AVS_VOUT_MV)
    (hh : s.rd F.CRP_AVS_VOUT_MV ≤ 850)
    (hv : v = max (s.rd F.CRP_AVS_VOUT_MV - 10) (min (s.rd F.CRP_AVS_VOUT_MV + 10) (max 650 (min 850 target))))
    (ht : ((s.wr F.CRP_AVS_VOUT_MV v).wr F.CRP_AVS_READ_MV read).wr F.CRP_AVS_AVS_OK 1 = t) :
    avsStep target read true s = (({ t with pw.avsAt := some t.now } : State).tally .crp 1).emit (.avs v) := by
  obtain ⟨ho, hi⟩ := up_iff.mp hu
  subst ht hv
  simp only [avsStep, ho, hi, ha, h0, clampTo_step hl hh, Bool.or_self, Bool.not_true, Bool.false_eq_true, if_false]

end

end
end Sys2Proof.Machine

open Sys2Proof Sys2Proof.Machine

/-- Settles O60: each event by what it finds of the time state, the pulse, the levels of heat and the voltage. -/
theorem timeClocksAndHeatAreFollowed : Obligations.TimeClocksAndHeatAreFollowed := by
  refine ⟨?claim, ?loss, ?holdover, ?edge, ?missing, ?second, ?set, ?heat, ?clock, ?silent, ?voltage⟩
  case claim =>
    intro s hu
    exact actLight_effect claimWaitExpire rfl hu (by rw [claimWaitExpire, ms_eq])
  case loss =>
    intro s u p at' x hp hu hf hr hx
    exact actLight_effect (masterLoss p) (isPort_of_lt hp) hu (masterLoss_lost hf hr hx)
  case holdover =>
    intro s t hu hs hl ht
    exact actLight_effect holdoverExpire rfl hu (holdoverExpire_unlocks hs hl ht)
  case edge =>
    intro s t hu ht
    refine ⟨fun h => actLight_effect ppsInEdge rfl hu (ppsInEdge_captured ht h), ?_⟩
    rintro hm he hl u (rfl : t.steeredBack = u)
    exact actLight_effect ppsInEdge rfl hu (ppsInEdge_steers ht hm he hl)
  case missing =>
    intro s hu he t ht
    exact actLight_effect ppsMissing rfl hu (ppsMissing_recorded he ht)
  case second =>
    intro s t hu he hs ht
    exact actLight_effect ppsOutSecond rfl hu (ppsOutSecond_rises he hs ht)
  case set =>
    intro s n m v hm ha hw
    have run {u : State} : timSet m v n = u → exec (.timSet m v) s = .next u.calm := actLight_access_effect (.timSet m v) (timSet m v) ha hm
    exact ⟨fun hs hv => run (timSet_forward hw hs hv), fun h => run (timSet_refused hw h)⟩
  case heat =>
    intro s t temp hu ht
    have run {u : State} : thermalLevel temp s = u → exec (.thermalLevel temp) s = .next u.calm := actLight_effect (thermalLevel temp) rfl hu
    exact ⟨fun hw hc => run (thermalLevel_below ht hw hc), fun ho hw hc => run (thermalLevel_warns ht ho hw hc),
      fun hw ho hc => run (thermalLevel_critical ht hw ho hc)⟩
  case clock =>
    intro s i hi hu
    exact actLight_effect (islandClockUnlock i) (decide_eq_true hi) hu rfl
  case silent =>
    intro s target read hu
    exact actLight_effect (avsStep target read false) rfl hu (avsStep_unanswered hu)
  case voltage =>
    intro s target read v hu ha h0 hl hh hv t ht
    exact actLight_effect (avsStep target read true) rfl hu (avsStep_moves hu ha h0 hl hh hv ht)
end
